-- ==== Sys2Proof/Word.lean ====
section
/-! DEFINITION. The word types of the NH8640: registers are 32 bits wide (spec/00_scope.md, Notation), memory is
addressed in bytes. -/

namespace Sys2Proof

/-- A 32-bit register word. -/
abbrev Word := BitVec 32

/-- A byte of memory. -/
abbrev Byte := BitVec 8

end Sys2Proof
end

