-- ==== Sys2Proof/Syntax.lean ====
section
/-! DEFINITION. The commands of the NH8640: one constructor per row of spec/opcode_table.json, with the row's operands.
Every command carries `dt`, the time since the command before it in LSB of the TDC (15.625 ps). An operand named after
something outside the part (a pin level, a measured code, a temperature) is what the part takes in with that step. -/

namespace Sys2Proof

/-- How a vector is unmasked (R395): by its table entry, or by a write of the MSI-X message control with MSI-X Enable
and Function Mask as given. -/
inductive Unmask where
  | entry (v : Fin 512)
  | control (enable funcMask : Bool)
  deriving DecidableEq, Repr

/-- What a TRAIN pick holds beside PLANE, STEP and DONE (R439): the transmit preset requested of its receiver, the sender's last figure of
merit and the low half of its UNIT_ID. -/
structure TrainRest where
  preset : Fin 16
  fom : Fin 256
  uid : BitVec 32
  deriving DecidableEq, Repr

/-- The three host resets of R377. -/
inductive HostReset where
  | perst | hotReset | flr
  deriving DecidableEq, Repr


/-- A sample of the walking test (R195): the output stepped, whether in step B, the ball sampled (2 × output for FIRE_P, 1 more for
FIRE_N), and the level read on it. -/
structure WalkSample where
  stepped : Fin 96
  stepB : Bool
  ball : Fin 192
  high : Bool
  deriving DecidableEq, Repr

/-- The level on ISENSE[g] in mV for a part of the ISENSE window of a shot, in ps (R197). -/
structure IsensePart where
  ps : Nat
  mv : Nat
  deriving DecidableEq, Repr

/-- What a supervisory converter takes in one integration period (R471, R473): the bits in order that its modulator gives of the inputs
that the front end puts through sub-slot by sub-slot (R468 to R470), and
the sub-samples, numbered 5 × (round × entries + entry) + position, in whose kept part BLANK_IN was high, and was low. -/
structure SupPeriod where
  bits : List Bool
  binHigh : List Nat
  binLow : List Nat
  deriving DecidableEq, Repr

/-- The balls that Loupe samples (R496): OSSD_FB[3:0], EDM[1:0], SAFE_IN[3:0], RESTART_N, TEACH_N and FSEL[7:0]. -/
structure LoupePins where
  ossdFb : Fin 16
  edm : Fin 4
  safeIn : Fin 16
  restart : Bool
  teach : Bool
  fsel : Fin 256
  deriving DecidableEq, Repr

/-- How an attempt to read the plug ends (R521): with the data, with a NAK, or with SDA low for 1 ms, after which so many clocks on SCL
release the bus. -/
inductive PlugEnd where
  | data | nak | sdaLow (clocks : Fin 10)
  deriving DecidableEq, Repr

/-- What the plug answers to PLUG_WRITE (R522): whether it acknowledges each page within 10 ms, and the 16 words that it gives at the
read-back. -/
structure PlugReply where
  acks : List Bool
  back : List Nat
  deriving DecidableEq, Repr

/-- The instructions of the test port (R375). -/
inductive TapInstr where
  | bypass | idcode | samplePreload | extest | extestPulse | extestTrain | clamp | highz | debug
  deriving DecidableEq, Repr

/-- The commands, in the order of spec/opcode_table.json. An operand `late` or `lost` is what the sender expects of the command, and is
not read: the block works out the hand-over window (R28) and the order of a port (R420) itself; the `late` of ALIGN is a lane mask, and is read. -/
inductive Instr where
  /-- RAIL_GOOD (R71): rail `rail` (numbered as in PWR_RST_CAUSE.BROWNOUT, 9 for VDD_AON) has become good; `porst` and `bootSrc` are the levels of PORST_N and BOOT_SRC. -/
  | railGood (dt : Nat) (rail : Fin 10) (porst : Bool) (bootSrc : Fin 4)
  /-- RESET_RELEASE (R71): the 1.0 ms release timer expires. -/
  | resetRelease (dt : Nat)
  /-- BOOT_ENTRY (R364): every domain has woken; `sealSw` is the level of SEAL_SW. -/
  | bootEntry (dt : Nat) (sealSw : Fin 16)
  /-- PORST_N_ASSERT (R71): a low pulse of `lowNs` ns on PORST_N ends; `bootSrc` is the level of BOOT_SRC at its rising edge. -/
  | porstNAssert (dt : Nat) (lowNs : Nat) (bootSrc : Fin 4)
  /-- WARM_RESET (R75): RESET_N has gone low and stays low for `lowNs` ns. -/
  | warmReset (dt : Nat) (lowNs : Nat)
  /-- BROWNOUT (R74): rail `rail` stays below its brownout threshold for `lowNs` ns. -/
  | brownout (dt : Nat) (rail : Fin 10) (lowNs : Nat)
  /-- POWER_DOMAIN_REQUEST (R80): a write of PWR_DOM_CTL. -/
  | powerDomainRequest (dt : Nat) (id : Fin 256) (on : Bool) (force : Bool)
  /-- DOMAIN_DRAIN_DONE (R82): the transfers of a domain being switched off have drained. -/
  | domainDrainDone (dt : Nat) (id : Fin 136)
  /-- DRAIN_TIMEOUT (R83): the 100 µs drain timer of a domain expires. -/
  | drainTimeout (dt : Nat) (id : Fin 136)
  /-- DOM_READY (R86): a waking domain reports ready, and its loader group closes. -/
  | domReady (dt : Nat) (id : Fin 136) (late : Bool)
  /-- STANDBY (R89): the ring entry at HEAD is STANDBY. -/
  | standby (dt : Nat)
  /-- STANDBY_ENTRY_DONE (R90): entry to STANDBY ends. -/
  | standbyEntryDone (dt : Nat)
  /-- WAKE (R90): the ring entry at HEAD is WAKE. -/
  | wake (dt : Nat)
  /-- PLL_T_LOCK (R94): PLL-T locks, and TCLK, FCLK and SCLK run from its VCO. -/
  | pllTLock (dt : Nat)
  /-- PLL_T_LOCK_TIMEOUT (R94): PLL-T has not locked 2 ms after entry to BOOT. -/
  | pllTLockTimeout (dt : Nat)
  /-- PLL_F_LOCK_ATTEMPT (R100): a lock attempt ends; `tableOk`: lock and check succeed on the band that the table gives; `search`: automatic search, if it is run, locks on `band`. -/
  | pllFLockAttempt (dt : Nat) (tableOk : Bool) (search : Bool) (band : Fin 64)
  /-- PLL_F_BYPASS (R106): PLL-F loses lock, or its selected reference is lost. -/
  | pllFBypass (dt : Nat)
  /-- PLL_F_RETRY (R106): the 1 ms retry timer of the bypass expires. -/
  | pllFRetry (dt : Nat)
  /-- CLK_T_FAIL (R107): PLL-T loses lock, or REFCLK_T is lost. -/
  | clkTFail (dt : Nat)
  /-- REFCLK_LOSS (R105): REFCLK_F or REFCLK_T is lost. -/
  | refclkLoss (dt : Nat) (refF : Bool)
  /-- CLOCK_MONITOR_FAULT (R108): TCLK, FCLK, SCLK or FRCLK (0 to 3) deviates by more than 2 % for 5 µs. -/
  | clockMonitorFault (dt : Nat) (clk : Fin 4)
  /-- SYNC_IN_EDGE (R112): SYNC_IN changes to a level that holds for `heldNs` ns. -/
  | syncInEdge (dt : Nat) (falling : Bool) (heldNs : Nat)
  /-- SYNC_LOST (R114): the window of the fourth reference period in a row without an edge ends. -/
  | syncLost (dt : Nat)
  /-- FRAME_TICK (R27): a tick; `fsel` is the taken level of the FSEL balls. -/
  | frameTick (dt : Nat) (fsel : Fin 256)
  /-- VIEW_SWITCH (R37): the published view switches. -/
  | viewSwitch (dt : Nat)
  /-- ACQ_WINDOW_CLOSE (R20): the acquisition window closes. -/
  | acqWindowClose (dt : Nat)
  /-- DECISION_DEADLINE (R20): 20 µs before the tick. -/
  | decisionDeadline (dt : Nat)
  /-- FRAME_DECISION (R300): the frame decision; `safeIn` and `edm` are the taken levels of SAFE_IN and EDM, `crcDone`: the CRC check of the active set is complete. -/
  | frameDecision (dt : Nat) (safeIn : Fin 16) (edm : Fin 4) (crcDone : Bool)
  /-- SAFETY_MESSAGE_SEND (R319): the message of the frame decision is built and sent. -/
  | safetyMessageSend (dt : Nat)
  /-- FRAME_CLOSE_RECORD (R263): the record is written, after the decision and before the hand-over window. -/
  | frameCloseRecord (dt : Nat)
  /-- DEG_TIMER_EXPIRY (R340): the degraded timer reaches T_deg. -/
  | degTimerExpiry (dt : Nat)
  /-- FLOW_FAULT (R335): a program-flow or sequence monitor finds a fault. -/
  | flowFault (dt : Nat)
  /-- ECC_ERROR (R336): an SRAM error of the safety core or of Selvedge, corrected or not. -/
  | eccError (dt : Nat) (corrected : Bool) (selvedge : Bool)
  /-- GLB_SHADOW_OPEN (R29): a write of GLB_SHADOW_OPEN with this tag. -/
  | glbShadowOpen (dt : Nat) (tag : Fin 256)
  /-- GLB_SHADOW_CLOSE (R29): a write of 1 to GLB_SHADOW_CLOSE. -/
  | glbShadowClose (dt : Nat) (late : Bool)
  /-- GLB_SHADOW_ABORT (R33): a write of 1 to GLB_SHADOW_ABORT. -/
  | glbShadowAbort (dt : Nat)
  /-- RWS_WRITE (R31): a host write of a DWORD to a register with RWS fields. -/
  | rwsWrite (dt : Nat) (addr : Nat) (data : Word) (late : Bool)
  /-- REGISTER_WRITE (R8): a host write of a DWORD with byte enables `be`. -/
  | registerWrite (dt : Nat) (addr : Nat) (data : Word) (be : Fin 16) (late : Bool) (ext : Bool)
  /-- SNAP (R391): a write of CLP_CMD with SNAP 1 and RELEASE as given. -/
  | snap (dt : Nat) (andRelease : Bool)
  /-- RELEASE (R392): a write of CLP_CMD with RELEASE 1 and SNAP 0. -/
  | clpRelease (dt : Nat)
  /-- CLASP_TIMEOUT (R392): a hold has lasted CLP_CFG.TIMEOUT ms. -/
  | claspTimeout (dt : Nat)
  /-- NOP (R385): The NOP command completes at once. -/
  | nop (dt : Nat)
  /-- RUN (R327): The RUN command is judged at the next frame decision against SAF_RUN_BLOCK. -/
  | runCmd (dt : Nat)
  /-- STOP (R385): The STOP command moves the device from RUN or DEGRADED to SAFE_STOP with cause STOP_CMD. -/
  | stop (dt : Nat)
  /-- MAINT (R385): The MAINT command enters MAINTENANCE at the next tick. -/
  | maint (dt : Nat)
  /-- LEAVE_MAINT (R385): The LEAVE_MAINT command enters CONFIGURED at the next tick. -/
  | leaveMaint (dt : Nat)
  /-- IMG_LOAD (R361): The IMG_LOAD command loads an image from the chosen source into the idle slot and checks it. -/
  | imgLoad (dt : Nat)
  /-- IMG_SWAP (R370): The IMG_SWAP command prepares a hitless swap to the idle image of the same structure. -/
  | imgSwap (dt : Nat)
  /-- IMG_APPLY (R371): The IMG_APPLY command installs an image of a different structure in MAINTENANCE. -/
  | imgApply (dt : Nat)
  /-- IMG_ABORT (R369): The IMG_ABORT command ends a running load or swap preparation. -/
  | imgAbort (dt : Nat)
  /-- PLUG_WRITE (R522): the ring entry at HEAD is PLUG_WRITE; `part`: what the plug answers to the write. -/
  | plugWrite (dt : Nat) (part : PlugReply)
  /-- CPL_HEAD_ADVANCE (R388): a write of GLB_CPL_PTR.HEAD. -/
  | cplHeadAdvance (dt : Nat) (head : Fin 64)
  /-- MAILBOX_POST (R390): a write of GLB_MBX_RX_CTL.POST. -/
  | mailboxPost (dt : Nat)
  /-- HOLDOFF_EXPIRY (R395): the holdoff of a vector ends. -/
  | holdoffExpiry (dt : Nat) (vec : Fin 512)
  /-- MSIX_UNMASK (R395): a vector, or the function, is unmasked. -/
  | msixUnmask (dt : Nat) (what : Unmask)
  /-- LOG_DRAIN (R398): One FIFO record is written into the DRAM log ring at HEAD when the ring has room. -/
  | logDrain (dt : Nat)
  /-- LOG_COALESCE (R400): A FIFO place frees after losses, so coalescing records are enqueued and the table is emptied. -/
  | logCoalesce (dt : Nat)
  /-- LOG_ENABLE (R398): a write of EVT_LOG_CTL with EN 1 and this SIZE_LOG2. -/
  | logEnable (dt : Nat) (sizeLog2 : Fin 32)
  /-- HOST_RESET (R377): PERST_N low, a hot reset or a function level reset. -/
  | hostReset (dt : Nat) (how : HostReset)
  /-- HOST_POWER_STATE (R378): the function enters (D3hot) or leaves it, with PME_En as given. -/
  | hostPowerState (dt : Nat) (d3hot : Bool) (pmeEn : Bool)
  /-- BAR4_ACCESS (R382): an access of a DWORD at this offset of BAR4, a write of the word or a read; `bad` symbols of its codeword prove wrong. -/
  | bar4Access (dt : Nat) (off : Nat) (wr : Option Word) (bad : Nat)
  /-- BAR2_ACCESS (R421): an access of a DWORD at this offset of BAR2. -/
  | bar2Access (dt : Nat) (off : Nat) (wr : Option Word) (be : Fin 16) (lost : Bool)
  /-- BIAS_MEASUREMENT (R121): a tile measures its reference SPAD: `hits` avalanches from the 16 triggers, with a mean swing of `vex` in 10 mV. -/
  | biasMeasurement (dt : Nat) (tile : Fin 96) (hits : Fin 17) (vex : Nat)
  /-- HV_OV (R124): HV_FB has exceeded 1.420 V for 1 µs. -/
  | hvOv (dt : Nat)
  /-- AVALANCHE (R134): light, a dark count or an afterpulse fires a SPAD; `code` is what the line or ramp of the serving slice gives for that instant, `code8` that of the spare. -/
  | avalanche (dt : Nat) (tile : Fin 96) (ch : Fin 8) (spad : Fin 24) (code : Nat) (code8 : Nat)
  /-- POINT_INTERVAL_END (R220): the last event of a tile's interval has been added to its banks. -/
  | pointIntervalEnd (dt : Nat) (tile : Fin 96)
  /-- SEEDING (R227): the seeding instant of a tile's interval comes. -/
  | seeding (dt : Nat) (tile : Fin 96)
  /-- EXTRACT_HALF (R240): the engine of a tile extracts the next filled half, which is one of this channel. -/
  | extractHalf (dt : Nat) (tile : Fin 96) (ch : Fin 8)
  /-- EXPORT_DRAIN (R236): the oldest record leaves a tile's export buffer. -/
  | exportDrain (dt : Nat) (tile : Fin 96)
  /-- DLL_UNLOCK (R150): the phase error of a DLL has exceeded 2 LSB for 16 cycles. -/
  | dllUnlock (dt : Nat) (tile : Fin 96) (slice : Fin 9)
  /-- DLL_LOCK (R150): a DLL locks. -/
  | dllLock (dt : Nat) (tile : Fin 96) (slice : Fin 9)
  /-- SLICE_MARK_TIMEOUT (R151): the unlocked time of a slice is judged. -/
  | sliceMarkTimeout (dt : Nat) (tile : Fin 96) (slice : Fin 9)
  /-- AUDIT_VERDICT (R170): the verdict of a tile's audit phase is made; `hist` are the hits by code of a density phase. -/
  | auditVerdict (dt : Nat) (tile : Fin 96) (hist : List Nat)
  /-- MARK (R171): a write of T_TDC_CMD with MARK 1 and UNMARK as given. -/
  | sliceMark (dt : Nat) (tile : Fin 96) (slice : Fin 16) (unmark : Bool) (late : Bool)
  /-- UNMARK (R172): a write of T_TDC_CMD with UNMARK 1 and MARK 0. -/
  | sliceUnmark (dt : Nat) (tile : Fin 96) (slice : Fin 16)
  /-- LIST_WRAP_FILL (R162): COARSE[23] rises. -/
  | listWrapFill (dt : Nat)
  /-- LIST_PORT_DRAIN (R164): an FCLK cycle of a tile's list port. -/
  | listPortDrain (dt : Nat) (tile : Fin 96)
  /-- SHOT_SLOT_COMMIT (R183): the TCLK edge at which the next slot of a TRAIN entry starts. -/
  | shotSlotCommit (dt : Nat) (entry : Fin 512)
  /-- MPD_INTEGRATION_END (R207): the MPD integration of the oldest pending shot of an output ends with code `q`; `isense`: the level of ISENSE in its window, part after part. -/
  | mpdIntegrationEnd (dt : Nat) (out : Fin 96) (q : Fin 65536) (isense : List IsensePart)
  /-- GOV_BUCKET_ROLL (R205): a bucket period of a window (3 is window C) ends. -/
  | govBucketRoll (dt : Nat) (win : Fin 4)
  /-- PROOF_TRIGGER (R140): the TCLK edge at which the next trigger of a PROOF_LED entry starts. -/
  | proofTrigger (dt : Nat) (entry : Fin 512)
  /-- DIAG_SLOT (R194): the TCLK edge T_D at which the diagnostic slot starts, or, once it has, the commit of its proof shots, with the samples that the walking test has taken; a ball of which there is none has read the level that the device gives it. -/
  | diagSlot (dt : Nat) (walk : List WalkSample)
  /-- DRIVER_TRIP (R201): the detector of a driver trips. -/
  | driverTrip (dt : Nat) (out : Fin 96)
  /-- EMD_STUCK_ON (R202): ISENSE has detected current for 2.0 ns with no output of its group in the fire state. -/
  | emdStuckOn (dt : Nat)
  /-- CLEAR_OUTPUT_MARKS (R203): a write of EMD_CMD with ACTION 1; `quiet`: the detector of the output has been inactive for 10 ms. -/
  | clearOutputMarks (dt : Nat) (index : Fin 128) (quiet : Bool)
  /-- CLEAR_MPD_FAULT (R203): a write of EMD_CMD with ACTION 2. -/
  | clearMpdFault (dt : Nat) (index : Fin 128)
  /-- CLEAR_STUCK_ON (R202): a write of EMD_CMD with ACTION 3. -/
  | clearStuckOn (dt : Nat)
  /-- THROTTLE_PAUSE_START (R192): the slot boundary after a requested pause comes. -/
  | throttlePauseStart (dt : Nat)
  /-- THERMAL_MEASUREMENT (R487): the 100 µs measurement: the oscillator counts of the sensors of the 96 tiles, and of sensors 96 to 103, in order. -/
  | thermalMeasurement (dt : Nat) (tiles : List Nat) (others : List Nat)
  /-- TREADLE_SAMPLE (R273): a slot samples its sense input and updates its output; `uv` is the voltage on its SNS or HV_FB ball in µV. -/
  | treadleSample (dt : Nat) (slot : Fin 8) (uv : Int)
  /-- TRD_START (R278): START_TO passes and the check of a slot has not armed. -/
  | trdStart (dt : Nat) (slot : Fin 8)
  /-- ENCODER_EDGE (R280): the Treadle decoder of encoder `who`, or the decoder of axis `who` − 8, sees levels of A, B and Z that have held for `held` SCLK samples. -/
  | encoderEdge (dt : Nat) (who : Fin 16) (a : Bool) (b : Bool) (z : Bool) (held : Nat)
  /-- CLR_FE (R290): a write of TRD_CMD with ACTION CLR_FE. -/
  | clrFe (dt : Nat) (slot : Fin 8)
  /-- RST_I (R290): a write of TRD_CMD with ACTION RST_I. -/
  | rstI (dt : Nat) (slot : Fin 8)
  /-- CLR_HV_OV (R288): a write of TRD_CMD with ACTION CLR_HV_OV; `low`: HV_FB has read 1.360 V or less for the last 1 ms. -/
  | clrHvOv (dt : Nat) (low : Bool)
  /-- CLR_ENC (R290): a write of TRD_CMD with ACTION CLR_ENC. -/
  | clrEnc (dt : Nat) (enc : Fin 8)
  /-- AXIS_SPEED_EVAL (R310): the 10 µs evaluation of an axis. -/
  | axisSpeedEval (dt : Nat) (axis : Fin 8)
  /-- SAFE_IN_LOW (R315): SAFE_IN[`pin`] has been low for 1 µs. -/
  | safeInLow (dt : Nat) (pin : Fin 4)
  /-- OSSD_TEST_PULSE (R316): the slot of an OSSD ball in TP_PER comes. -/
  | ossdTestPulse (dt : Nat) (ball : Fin 4)
  /-- OSSD_READBACK_SAMPLE (R316): the 1 µs sample of OSSD_FB[3:0]. -/
  | ossdReadbackSample (dt : Nat) (fb : Fin 16)
  /-- EDM_TIMEOUT (R317): EDM_T passes after a pair turned on or off; the levels of EDM and of the second EDM input. -/
  | edmTimeout (dt : Nat) (pair : Fin 2) (edm : Bool) (second : Bool)
  /-- SS1_STOP_DONE (R315): a STOPPING pair stands still or its TDEC has elapsed. -/
  | ss1StopDone (dt : Nat) (pair : Fin 2)
  /-- BUTTON (R520): RESTART_N or TEACH_N is taken high. -/
  | button (dt : Nat) (teach : Bool)
  /-- BUTTON_STUCK (R520): a press reaches MAX_PRESS. -/
  | buttonStuck (dt : Nat) (teach : Bool)
  /-- SEAL_CHANGE (R348): the taken levels of SEAL_SW[3:1] change to this site code. -/
  | sealChange (dt : Nat) (site : Fin 8)
  /-- PLUG_CHANGE (R521): the taken level of PLUG_DET_N changes. -/
  | plugChange (dt : Nat) (present : Bool)
  /-- PLUG_READ_ATTEMPT (R521): an attempt to read the 16 words of the plug record ends. -/
  | plugReadAttempt (dt : Nat) (ending : PlugEnd) (words : List Nat)
  /-- FIELD_SET_LOAD_DONE (R306): the pending set has been read from DRAM; `bad`: wrong symbols in its worst codeword. -/
  | fieldSetLoadDone (dt : Nat) (late : Bool) (bad : Nat)
  /-- TEACH_START (R318): a write of SEL_TEACH_CTL with START 1 and this FRAMES. -/
  | teachStart (dt : Nat) (frames : Fin 256)
  /-- TEACH_ABORT (R318): A write of SEL_TEACH_CTL.ABORT aborts a running teach. -/
  | teachAbort (dt : Nat)
  /-- TEACH_DONE (R318): After FRAMES frames, the teach result is written to the teach area. -/
  | teachDone (dt : Nat)
  /-- SAFETY_MESSAGE_RECEIVE (R320): 16 words of a safety message arrive over HRL. -/
  | safetyMessageReceive (dt : Nat) (words : List Nat)
  /-- IMG_FEED (R363): a word is written to IMG_FEED, after the loader has taken `drained` words from the feed buffer; `memOk`: DRAM initialises, should those words complete MEMCFG. -/
  | imgFeed (dt : Nat) (word : Word) (drained : Nat) (memOk : Bool)
  /-- IMG_STREAM_TIMEOUT (R361): the stream of a load has delivered no byte for 100 ms. -/
  | imgStreamTimeout (dt : Nat)
  /-- IMG_VERIFY_DONE (R361): the stream has ended and the trailer checks are complete; `stream`: what the flash delivered of a QSPI load until the loader stopped; `memOk` as above. -/
  | imgVerifyDone (dt : Nat) (stream : List Byte) (memOk : Bool)
  /-- SWAP_PREPARED (R370): preparation of a swap ends. -/
  | swapPrepared (dt : Nat) (late : Bool)
  /-- APPLY_DONE (R371): the apply finishes. -/
  | applyDone (dt : Nat)
  /-- BURN (R374): a write of BEZ_PROG_CMD with ACTION 1. -/
  | burn (dt : Nat) (key : Fin 65536)
  /-- REVOKE (R374): a write of BEZ_PROG_CMD with ACTION 2. -/
  | revoke (dt : Nat) (key : Fin 65536)
  /-- RAISE_SVN (R374): a write of BEZ_PROG_CMD with ACTION 3. -/
  | raiseSvn (dt : Nat) (key : Fin 65536)
  /-- BURN_DONE (R374): the burn ends; the bits that each copy holds at the read-back. -/
  | burnDone (dt : Nat) (copyA : Nat) (copyB : Nat)
  /-- TAP_INSTRUCTION (R375): an instruction is shifted into the test port. -/
  | tapInstruction (dt : Nat) (tap : TapInstr)
  /-- INTEGRATION_BOUNDARY (R472): an integration period ends; `refOk`: VREF_EXT lies from 1.188 V to 1.313 V. -/
  | integrationBoundary (dt : Nat) (conv0 : SupPeriod) (conv1 : SupPeriod) (refOk : Bool)
  /-- SUP_ACC_CLR (R479): a write of SUP_ACC_CLR. -/
  | supAccClr (dt : Nat) (clr : Word)
  /-- LOUPE_SAMPLE (R495): a µs boundary of the time counter. -/
  | loupeSample (dt : Nat) (pins : LoupePins)
  /-- LOUPE_RECORD_WRITE (R504): the oldest queued record is written to the DRAM ring, or dropped. -/
  | loupeRecordWrite (dt : Nat)
  /-- CLEAR (R506): a write of 1 to LPE_CTL.CLEAR. -/
  | lpeClear (dt : Nat)
  /-- RETAIN_EXPIRY (R506): RETAIN_H hours have passed with no capture. -/
  | retainExpiry (dt : Nat)
  /-- LPE_CLEARED (R506): a clear has written its zeros. -/
  | lpeCleared (dt : Nat)
  /-- CHAIN_FRAME (R511): a chain frame is sent; `ret`: the bits that BEAD_RET delivers before its latch. -/
  | chainFrame (dt : Nat) (ret : List Bool)
  /-- LED_PWM_PERIOD (R516): a PWM period of the local sinks; `vpin`: the voltages on the LED pins in the test window, in steps of 25 mV. -/
  | ledPwmPeriod (dt : Nat) (vpin : List Nat)
  /-- LED_THERMAL_TRIP (R518): the thermal detector of a sink trips. -/
  | ledThermalTrip (dt : Nat) (sink : Fin 12)
  /-- LED_CLEAR (R518): a write of IND_LED_CMD with ACTION 1; `quiet`: the detector of the sink has been inactive for 10 ms. -/
  | ledClear (dt : Nat) (index : Fin 16) (quiet : Bool)
  /-- DESCRIPTOR_TAKE (R407): `host`: the 16 words at HEAD of a ring in host memory; `issued`: requests the channel has in flight once it starts. -/
  | descriptorTake (dt : Nat) (ch : Fin 64) (host : List Nat) (issued : Nat)
  /-- DESCRIPTOR_COMPLETE (R411): A descriptor ends, its writeback is made and HEAD advances. -/
  | descriptorComplete (dt : Nat) (ch : Fin 64)
  /-- PAUSE (R413): a write of SHU_CTL.PAUSE; `issued`: requests in flight after a resume. -/
  | shuPause (dt : Nat) (ch : Fin 64) (pause : Bool) (issued : Nat)
  /-- ABORT (R414): a write of 1 to SHU_CTL.ABORT. -/
  | shuAbort (dt : Nat) (ch : Fin 64)
  /-- STREAM_RECORD_STAGE (R416): the oldest record handed over by acquisition reaches staging. -/
  | streamRecordStage (dt : Nat)
  /-- STREAM_FLUSH_TIMEOUT (R417): FLUSH_US µs pass since a buffer's first record, and its descriptor completes. -/
  | streamFlushTimeout (dt : Nat) (ch : Fin 64)
  /-- ATOMIC_ADD (R422): SPD_ATOM_CMD OP ADD adds OPND to a scratchpad word atomically. -/
  | atomicAdd (dt : Nat)
  /-- ATOMIC_CAS (R422): SPD_ATOM_CMD OP CAS stores OPND when the word equals EXP. -/
  | atomicCas (dt : Nat)
  /-- SCRUB_STEP (R429): scrub reads the next codeword of a channel; `bad` of its symbols prove wrong. -/
  | scrubStep (dt : Nat) (ch : Fin 8) (bad : Nat)
  /-- MEM_SPARED (R430): A weak stripe is copied to a spare stripe and remapped. -/
  | memSpared (dt : Nat) (ch : Fin 8) (stripe : Nat)
  /-- LANE_DETECT_PROBE (R440): a probe of a lane in DETECT; `found`: the far-end termination. -/
  | laneDetectProbe (dt : Nat) (lane : Fin 16) (found : Bool)
  /-- BLOCK_LOCK (R441): a lane gains or loses block lock; `inverted`: it receives TRAIN picks inverted; `bad`: invalid sync headers and unknown control types since the last. -/
  | blockLock (dt : Nat) (lane : Fin 16) (gained : Bool) (inverted : Bool) (bad : Nat)
  /-- ADAPT_PRESET_STEP (R442): a preset hold in ADAPT ends with this figure of merit. -/
  | adaptPresetStep (dt : Nat) (lane : Fin 16) (fom : Fin 256)
  /-- TRAIN_STEP_TIMEOUT (R443): the step timer of a lane expires. -/
  | trainStepTimeout (dt : Nat) (lane : Fin 16)
  /-- TRAIN_TO (R443): 24 ms have passed since a lane left DETECT or ACTIVE. -/
  | trainTo (dt : Nat) (lane : Fin 16)
  /-- BACKOFF_EXPIRY (R443): BACKOFF of a lane ends. -/
  | backoffExpiry (dt : Nat) (lane : Fin 16)
  /-- RETRAIN (R444): a write of 1 to LNK_LANE_CTL.RETRAIN. -/
  | retrain (dt : Nat) (lane : Fin 16)
  /-- SREF_CHANGE (R437): the reference of a quad is lost or returns. -/
  | srefChange (dt : Nat) (quad : Fin 4) (ok : Bool)
  /-- TRAIN (R444): a TRAIN pick with PLANE, STEP and DONE, and the rest of it, is received. -/
  | train (dt : Nat) (lane : Fin 16) (plane : Fin 16) (step : Fin 16) (done : Bool) (rest : TrainRest)
  /-- ALIGN (R447): an align column with this ACTIVE mask, MEMBER and CELL is received; `late`: the lanes whose pick comes more than 32 picks after the earliest. -/
  | align (dt : Nat) (port : Fin 16) (active : Fin 65536) (member : Fin 16) (cell : Bool) (late : Fin 65536)
  /-- PORT_UP (R448): a lane of a port that is DOWN has become ACTIVE. -/
  | portUp (dt : Nat) (port : Fin 16)
  /-- PORT_DOWN (R448): the last active lane of a port has left ACTIVE. -/
  | portDown (dt : Nat) (port : Fin 16)
  /-- FLIT (R455): a flit is received: the payloads of its picks; `memOk`: DRAM initialises, should it complete the MEMCFG record of a load. -/
  | flit (dt : Nat) (port : Fin 16) (header : Nat) (data : List Nat) (trailer : Nat) (memOk : Bool)
  /-- BOBBIN (R454): a BOBBIN pick is received. -/
  | bobbin (dt : Nat) (port : Fin 16) (cls : Fin 4) (init : Bool) (count : Fin 65536) (ackV : Bool) (nak : Bool) (ackSeq : Fin 4096)
  /-- FLIT_SEND (R452): a flit starts on a port; `chan`: the stream that is served among those of one class. -/
  | flitSend (dt : Nat) (port : Fin 16) (chan : Fin 64)
  /-- DOZE (R460): a DOZE column is received. -/
  | doze (dt : Nat) (port : Fin 16) (ack : Bool)
  /-- DOZE_IDLE_TIMEOUT (R460): DOZE_IDLE µs have passed with nothing pending at either end of a port. -/
  | dozeIdleTimeout (dt : Nat) (port : Fin 16)
  /-- DEEP_IDLE_TIMEOUT (R461): a port has been in Doze for DEEP_IDLE ms. -/
  | deepIdleTimeout (dt : Nat) (port : Fin 16)
  /-- RESET_N_RELEASE (R61): RESET_N rises. -/
  | resetNRelease (dt : Nat) (bootSrc : Fin 4)
  /-- VDD_AON_GOOD (R70): VDD_AON becomes good; `porst` and `bootSrc` are the levels of PORST_N and BOOT_SRC. -/
  | vddAonGood (dt : Nat) (porst : Bool) (bootSrc : Fin 4)
  /-- REFCLK_RETURN (R105): REFCLK_F or REFCLK_T is present and in tolerance. -/
  | refclkReturn (dt : Nat) (refF : Bool)
  /-- SLICE_SETTLE_DONE (R159): the slices of a tile have settled. -/
  | sliceSettleDone (dt : Nat) (tile : Fin 96)
  /-- THROTTLE_PAUSE_END (R192): the length of the running pause has passed. -/
  | throttlePauseEnd (dt : Nat)
  /-- ENCODER_SHORT_PULSE (R280): the same decoder sees on A, B or Z a level that holds for `held` samples. -/
  | encoderShortPulse (dt : Nat) (who : Fin 16) (input : Fin 3) (held : Nat)
  /-- CONFIG_UNLOCK_CHANGE (R348): the taken level of SEAL_SW[0] changes. -/
  | configUnlockChange (dt : Nat) (unlock : Bool)
  /-- SHUTTLE_REQUEST_DONE (R410): a request of `len` bytes completes and `left` remain in flight; `host`: bytes read from host memory; `hostErr`: it ended in an error; `bad` symbols of its first codeword prove wrong. -/
  | shuttleRequestDone (dt : Nat) (ch : Fin 64) (len : Nat) (left : Nat) (host : List Byte) (hostErr : Bool) (lost : Bool) (bad : Nat)
  /-- BAD_COMMAND (R384): The command ring takes an entry whose CRC, opcode, reserved words or ARG0 fail, and it completes the entry with BAD_CRC or BAD_COMMAND. -/
  | badCommand (dt : Nat)
  /-- REGISTER_READ (R528): a host read of a DWORD of BAR0. -/
  | registerRead (dt : Nat) (addr : Nat)
  /-- ALIGN_COLUMN_MISSING (R444): two align columns in a row are missing on a lane. -/
  | alignColumnMissing (dt : Nat) (lane : Fin 16)
  /-- DOZE_EXIT (R460): traffic is pending on a port in Doze. -/
  | dozeExit (dt : Nat) (port : Fin 16)
  /-- DEEP_EXIT (R461): a flit is pending on a port in Deep. -/
  | deepExit (dt : Nat) (port : Fin 16)
  /-- CONTROL_COLUMN_SEND (R449): a float or an align column is due on a port. -/
  | controlColumnSend (dt : Nat) (port : Fin 16) (align : Bool)
  /-- BOBBIN_RETURN (R455): a BOBBIN pick of a class is sent. -/
  | bobbinReturn (dt : Nat) (port : Fin 16) (cls : Fin 4)
  /-- WAKE_DONE (R90): the woken domains are back. -/
  | wakeDone (dt : Nat)
  /-- BUTTON_PRESS (R520): RESTART_N or TEACH_N is taken low. -/
  | buttonPress (dt : Nat) (teach : Bool)
  deriving DecidableEq, Repr

end Sys2Proof
end

