-- ==== Sys2Proof/Machine/Bits.lean ====
section
/-! DEFINITION. Bit fields, two's complement, saturation, little-endian byte order and the sparse tables that hold
registers and memories. -/

namespace Sys2Proof.Machine

/-- A register field, named by the BAR0 address of its register and its bits (spec/00_scope.md, Notation). -/
structure Fld where
  addr : Nat
  hi : Nat
  lo : Nat
  deriving DecidableEq, Repr

/-- Bits `hi` to `lo` of a number. -/
def bitsOf (w hi lo : Nat) : Nat := w / 2 ^ lo % 2 ^ (hi + 1 - lo)

/-- Bits `hi` to `lo` of a register word. -/
def wordBits (w : Word) (hi lo : Nat) : Nat := bitsOf w.toNat hi lo

/-- The mask with ones in bits `hi` to `lo`. -/
def fieldMask (hi lo : Nat) : Word := BitVec.ofNat 32 ((2 ^ (hi + 1 - lo) - 1) * 2 ^ lo)

/-- The register word with bits `hi` to `lo` replaced by the low bits of `v`. -/
def setWordBits (w : Word) (hi lo v : Nat) : Word :=
  (w &&& ~~~ fieldMask hi lo) ||| BitVec.ofNat 32 (v % 2 ^ (hi + 1 - lo) * 2 ^ lo)

/-- Bit `i` of a number. -/
def bit (w i : Nat) : Bool := w / 2 ^ i % 2 == 1

/-- A Boolean as a one-bit number. -/
def b2n (b : Bool) : Nat := if b then 1 else 0

/-- The two's complement value of the low `n` bits of `v`. -/
def signed (n v : Nat) : Int :=
  let u := v % 2 ^ n
  if u < 2 ^ (n - 1) then (u : Int) else (u : Int) - 2 ^ n

/-- The low `n` bits of an integer in two's complement. -/
def unsigned (n : Nat) (i : Int) : Nat := (i % (2 ^ n : Int)).toNat

/-- Saturation at the largest `n`-bit unsigned number. -/
def satU (n v : Nat) : Nat := min v (2 ^ n - 1)

/-- Saturation to the range of an `n`-bit two's complement number. -/
def satS (n : Nat) (i : Int) : Int := max (-(2 ^ (n - 1) : Int)) (min ((2 ^ (n - 1) : Int) - 1) i)

/-- Saturation of an integer to the range `lo` to `hi`. -/
def clampI (lo hi i : Int) : Int := max lo (min hi i)

/-- Saturation of a natural number to the range `lo` to `hi`. -/
def clampN (lo hi n : Nat) : Nat := max lo (min hi n)

/-- Quotient rounded to the nearest integer, ties toward plus infinity. -/
def roundDivI (a : Int) (b : Nat) : Int := Int.fdiv (2 * a + b) (2 * b)

/-- Quotient of natural numbers rounded to nearest, ties up. -/
def roundDivN (a b : Nat) : Nat := (2 * a + b) / (2 * b)

/-- Quotient of natural numbers rounded up. -/
def ceilDiv (a b : Nat) : Nat := (a + b - 1) / b

/-- Number of one bits among bits 0 to `n - 1`. -/
def popBits (n w : Nat) : Nat := ((List.range n).filter (fun i => bit w i)).length

/-- The number with bit `i` set to `b`. -/
def setBit (w i : Nat) (b : Bool) : Nat :=
  if bit w i == b then w else if b then w + 2 ^ i else w - 2 ^ i

/-- The number whose bit `i` is `f i` for every i below `n`. -/
def maskOf (n : Nat) (f : Nat → Bool) : Nat :=
  (List.range n).foldl (fun a i => if f i then a + 2 ^ i else a) 0

/-- Bitwise or of two numbers. -/
def orN (a b : Nat) : Nat := a ||| b

/-- Bitwise and of two numbers. -/
def andN (a b : Nat) : Nat := a &&& b

/-- `a` with the bits of `b` cleared, on `n` bits. -/
def andNotN (n a b : Nat) : Nat := a &&& ((2 ^ n - 1) ^^^ (b % 2 ^ n))

/-- The indices below `n` whose bit is set in `w`, in ascending order. -/
def bitList (n w : Nat) : List Nat := (List.range n).filter (fun i => bit w i)

/-- The bytes of a number, least significant first (registers and memory words are little-endian). -/
def bytesLE : Nat → Nat → List Byte
  | 0, _ => []
  | k + 1, v => BitVec.ofNat 8 v :: bytesLE k (v / 256)

/-- The number whose little-endian bytes are given. -/
def natOfBytes : List Byte → Nat
  | [] => 0
  | b :: r => b.toNat + 256 * natOfBytes r

/-- The 32-bit little-endian words of a byte list; a last partial word is filled with zeros. -/
def wordsOfBytes : Nat → List Byte → List Nat
  | 0, _ => []
  | k + 1, b => natOfBytes (b.take 4) :: wordsOfBytes k (b.drop 4)

/-- The bytes of a list of 32-bit words, each little-endian. -/
def bytesOfWords (ws : List Nat) : List Byte := ws.flatMap (bytesLE 4)

/-! ### Sparse tables -/

/-- A sparse table: the entries that differ from the table's default, by rising key. -/
abbrev Tab (α : Type) := List (Nat × α)

/-- The entry at a key, or the default. -/
def tabGet {α : Type} (d : Nat → α) (t : Tab α) (k : Nat) : α :=
  match t.find? (fun p => p.1 == k) with
  | some p => p.2
  | none => d k

/-- Insertion of an entry before the first larger key. -/
def tabIns {α : Type} (k : Nat) (v : α) : Tab α → Tab α
  | [] => [(k, v)]
  | p :: r => if k < p.1 then (k, v) :: p :: r else p :: tabIns k v r

/-- The table with the entry at a key replaced; an entry equal to the default is not listed. -/
def tabSet {α : Type} [DecidableEq α] (d : Nat → α) (t : Tab α) (k : Nat) (v : α) : Tab α :=
  let r := t.filter (fun p => p.1 != k)
  if v = d k then r else tabIns k v r

/-- The table with the entry at a key modified. -/
def tabMod {α : Type} [DecidableEq α] (d : Nat → α) (t : Tab α) (k : Nat) (f : α → α) : Tab α :=
  tabSet d t k (f (tabGet d t k))

/-- Keys strictly rising, starting at or above `lo`. -/
def tabRising {α : Type} : Nat → Tab α → Bool
  | _, [] => true
  | lo, p :: r => lo ≤ p.1 && tabRising (p.1 + 1) r

/-- The canonical form: keys strictly rising and no entry equal to the default. -/
def tabWf {α : Type} [DecidableEq α] (d : Nat → α) (t : Tab α) : Bool :=
  tabRising 0 t && t.all (fun p => p.2 != d p.1)

/-- The element of a list at an index, or a default. -/
def nth {α : Type} (l : List α) (i : Nat) (d : α) : α := (l[i]?).getD d

/-- The list with the element at an index replaced (unchanged where the index is out of range). -/
def setNth {α : Type} (l : List α) (i : Nat) (v : α) : List α := l.set i v

/-- The list with the element at an index modified. -/
def modNth {α : Type} (l : List α) (i : Nat) (f : α → α) : List α :=
  match l[i]? with
  | some a => l.set i (f a)
  | none => l

/-- Insertion before the first element that it precedes. -/
def insertBy {α : Type} (before : α → α → Bool) (a : α) : List α → List α
  | [] => [a]
  | b :: r => if before a b then a :: b :: r else b :: insertBy before a r

/-- A list in the order that `before` gives, elements that neither precedes the other in the order of the list. -/
def sortBy {α : Type} (before : α → α → Bool) (l : List α) : List α := l.foldl (fun r a => insertBy before a r) []

/-- Keep the last `n` elements of a list. -/
def keepLast {α : Type} (n : Nat) (l : List α) : List α := l.drop (l.length - n)

end Sys2Proof.Machine
end

