-- ==== Sys2Proof/Machine/Crc.lean ====
section
/-! DEFINITION. The CRC-32 of R43. -/

namespace Sys2Proof.Machine

/-- Eight shifts of the reflected CRC register with the reflected polynomial of 0x04C1_1DB7 (R43). -/
def crcShift : Nat → BitVec 32 → BitVec 32
  | 0, c => c
  | n + 1, c => crcShift n (if c.getLsbD 0 then (c >>> 1) ^^^ 0xEDB8_8320#32 else c >>> 1)

/-- The CRC register after a list of bytes. -/
def crcBytes (c : BitVec 32) : List Byte → BitVec 32
  | [] => c
  | b :: r => crcBytes (crcShift 8 (c ^^^ b.setWidth 32)) r

/-- CRC-32 of R43 over bytes. -/
def crc32 (l : List Byte) : Nat := (crcBytes 0xFFFF_FFFF#32 l ^^^ 0xFFFF_FFFF#32).toNat

/-- CRC-32 of R43 over 32-bit little-endian words. -/
def crcWords (ws : List Nat) : Nat := crc32 (bytesOfWords ws)

end Sys2Proof.Machine
end

