-- ==== Sys2Proof/Config.lean ====
section
/-! DEFINITION. The free values: what the spec leaves open in a value. Each is an opaque constant with no body, so that a
claim about it holds whatever it is; it is applied to plain data of the state or of the command. -/

namespace Sys2Proof

/-- The content of a byte of memory that the spec leaves undefined: by the number of the event that left it so and the
address (R75, R84, R417; log entry 7). -/
opaque Config.freeByte : Nat → Nat → BitVec 8

/-- Whether a low pulse of 100 ns to 10 µs on PORST_N or RESET_N is taken as a reset (R73; log entry 8). -/
opaque Config.takesPulse : Nat → Bool

/-- Whether a quotient that is not whole is rounded up where the spec names a unit and no rounding (log entry 20). -/
opaque Config.roundsUp : Nat → Nat → Bool

/-- The dither seed that Bezel derives from the unit's identity and the output number (R188, log entry 21); its low 16 bits
modulo 65,535, plus 1, are taken, since it is never 0. -/
opaque Config.ditherSeed : Nat → Nat → Nat

/-- What the 20-bit RANGE of a proof record holds for a range that does not fit it (R260, R559; log entry 22). -/
opaque Config.farProofRange : Nat → Nat

/-- How far above the per-shot ceiling, and 1 more, the energy of a shot of a group is taken whose integrator code is 0xFFFF (R200, log
entry 86). -/
opaque Config.overEnergy : Nat → Nat

/-- The offset s in 0.001 ppm that the alignment loop chooses at a reference edge, by the number of that choice (R113, log
entry 23). -/
opaque Config.alignSteer : Nat → Int

/-- The value of a supervisory output for which there is none: a median or a delayed output that reaches back before the first
result, or NO_DATA (R473, R474, log entry 24). -/
opaque Config.supOpen : Nat → Int

/-- What IMG_ERR_INFO names as the failing record where the settings of several records together break a rule (R361, log
entry 33). -/
opaque Config.failRecord : Nat → Nat

/-- The temperature in 2⁻¹⁰ °C that a sensor with a fused trim gives for an oscillator count (R487, log entry 97). -/
opaque Config.sensorTemp : Nat → Nat → Int

/-- The picks that a port has sent since its last ones, up to an instant (R449, log entry 99). -/
opaque Config.idlePicks : Nat → Nat → Nat

/-- The 58 bits that a lane has sent last before an instant (R438, log entry 99). -/
opaque Config.lineBits : Nat → Nat → BitVec 58

end Sys2Proof
end

