-- ==== Sys2Proof/Machine/RegMap.lean ====
section
/-! DEFINITION. The register map of BAR0: for every block of R525 and every tile sub-block of R526, the
registers that the owning chapter gives, each with its offset, stride, number of instances, and its fields (bits,
access type of R8, reset value). Written from the register tables of the chapters. -/

namespace Sys2Proof.Machine

/-- Access types of register fields (R8); `rsv` is a field the table marks reserved (R9). -/
inductive Access where
  | ro | rw | rws | w1c | w1s | wo | rc | roe | rsv
  deriving DecidableEq, Repr

/-- One row of a register table: bits `hi` to `lo`, the access type and the reset value of the field. -/
structure FieldRow where
  hi : Nat
  lo : Nat
  acc : Access
  reset : Nat
  deriving DecidableEq, Repr

/-- One register, or an array of registers (R530): offset in its block, stride, number of instances, fields. -/
structure RegRow where
  off : Nat
  stride : Nat
  count : Nat
  fields : List FieldRow
  deriving DecidableEq, Repr

/-- Registers of block GLB (spec/01_architecture.md, spec/14_host_interface_and_events.md). -/
def regsGLB : List RegRow := [
  ⟨0x0100, 0x0, 1, [⟨31, 0, .ro, 0x0⟩]⟩,
  ⟨0x0110, 0x0, 1, [⟨31, 8, .rsv, 0x0⟩, ⟨7, 0, .wo, 0x0⟩]⟩,
  ⟨0x0114, 0x0, 1, [⟨31, 1, .rsv, 0x0⟩, ⟨0, 0, .wo, 0x0⟩]⟩,
  ⟨0x0118, 0x0, 1, [⟨31, 1, .rsv, 0x0⟩, ⟨0, 0, .wo, 0x0⟩]⟩,
  ⟨0x011C, 0x0, 1, [⟨31, 31, .ro, 0x0⟩, ⟨30, 30, .ro, 0x0⟩, ⟨29, 29, .w1c, 0x0⟩, ⟨28, 28, .w1c, 0x0⟩, ⟨27, 27, .w1c, 0x0⟩, ⟨26, 19, .ro, 0x0⟩, ⟨18, 11, .ro, 0x0⟩, ⟨10, 0, .rsv, 0x0⟩]⟩,
  ⟨0x0120, 0x0, 1, [⟨31, 0, .ro, 0x0⟩]⟩,
  ⟨0x0124, 0x0, 1, [⟨31, 13, .rsv, 0x0⟩, ⟨12, 0, .ro, 0x0⟩]⟩,
  ⟨0x0130, 0x0, 1, [⟨31, 0, .roe, 0x0⟩]⟩,
  ⟨0x0134, 0x0, 1, [⟨31, 6, .rsv, 0x0⟩, ⟨5, 5, .roe, 0x0⟩, ⟨4, 4, .roe, 0x0⟩, ⟨3, 3, .roe, 0x0⟩, ⟨2, 2, .roe, 0x0⟩, ⟨1, 1, .roe, 0x0⟩, ⟨0, 0, .roe, 0x0⟩]⟩,
  ⟨0x0138, 0x0, 1, [⟨31, 16, .rc, 0x0⟩, ⟨15, 0, .rc, 0x0⟩]⟩,
  ⟨0x0000, 0x0, 1, [⟨31, 16, .ro, 0x8640⟩, ⟨15, 8, .ro, 0xb1⟩, ⟨7, 0, .rsv, 0x0⟩]⟩,
  ⟨0x0010, 0x0, 1, [⟨31, 22, .rsv, 0x0⟩, ⟨21, 16, .ro, 0x0⟩, ⟨15, 6, .rsv, 0x0⟩, ⟨5, 0, .rw, 0x0⟩]⟩,
  ⟨0x0014, 0x0, 1, [⟨31, 22, .rsv, 0x0⟩, ⟨21, 16, .ro, 0x0⟩, ⟨15, 6, .rsv, 0x0⟩, ⟨5, 0, .rw, 0x0⟩]⟩,
  ⟨0x0018, 0x0, 1, [⟨31, 31, .ro, 0x0⟩, ⟨30, 24, .rsv, 0x0⟩, ⟨23, 12, .rc, 0x0⟩, ⟨11, 0, .rc, 0x0⟩]⟩,
  ⟨0x0020, 0x0, 1, [⟨31, 28, .ro, 0x0⟩, ⟨27, 16, .rsv, 0x0⟩, ⟨15, 0, .rc, 0x0⟩]⟩,
  ⟨0x0030, 0x0, 1, [⟨31, 8, .rsv, 0x0⟩, ⟨7, 0, .rw, 0x0⟩]⟩,
  ⟨0x0200, 0x4, 16, [⟨31, 0, .roe, 0x0⟩]⟩,
  ⟨0x0240, 0x4, 16, [⟨31, 0, .rw, 0x0⟩]⟩,
  ⟨0x0280, 0x0, 1, [⟨31, 31, .wo, 0x0⟩, ⟨30, 0, .rsv, 0x0⟩]⟩,
  ⟨0x0284, 0x0, 1, [⟨31, 31, .ro, 0x0⟩, ⟨30, 16, .rsv, 0x0⟩, ⟨15, 0, .rc, 0x0⟩]⟩,
  ⟨0x1000, 0x4, 512, [⟨31, 0, .rw, 0x0⟩]⟩,
  ⟨0x1800, 0x4, 256, [⟨31, 0, .ro, 0x0⟩]⟩]

/-- Registers of block PWR (spec/03_power.md). -/
def regsPWR : List RegRow := [
  ⟨0x0000, 0x0, 1, [⟨31, 10, .rsv, 0x0⟩, ⟨9, 9, .wo, 0x0⟩, ⟨8, 8, .wo, 0x0⟩, ⟨7, 0, .wo, 0x0⟩]⟩,
  ⟨0x0004, 0x0, 1, [⟨31, 31, .ro, 0x0⟩, ⟨30, 20, .rsv, 0x0⟩, ⟨19, 16, .ro, 0x0⟩, ⟨15, 8, .ro, 0x0⟩, ⟨7, 0, .rsv, 0x0⟩]⟩,
  ⟨0x0010, 0x4, 5, [⟨31, 0, .ro, 0xffffffff⟩]⟩,
  ⟨0x0030, 0x4, 5, [⟨31, 0, .ro, 0x0⟩]⟩,
  ⟨0x0050, 0x0, 1, [⟨31, 14, .rsv, 0x0⟩, ⟨13, 13, .w1c, 0x0⟩, ⟨12, 12, .w1c, 0x0⟩, ⟨11, 11, .w1c, 0x0⟩, ⟨10, 10, .w1c, 0x0⟩, ⟨9, 0, .w1c, 0x0⟩]⟩,
  ⟨0x0060, 0x0, 1, [⟨31, 0, .rc, 0x0⟩]⟩,
  ⟨0x0064, 0x0, 1, [⟨31, 0, .rc, 0x0⟩]⟩,
  ⟨0x0070, 0x0, 1, [⟨31, 2, .rsv, 0x0⟩, ⟨1, 0, .ro, 0x0⟩]⟩]

/-- Registers of block CLK (spec/04_clocks_and_sync.md). -/
def regsCLK : List RegRow := [
  ⟨0x0000, 0x0, 1, [⟨31, 31, .ro, 0x0⟩, ⟨30, 30, .ro, 0x0⟩, ⟨29, 29, .ro, 0x0⟩, ⟨28, 28, .ro, 0x0⟩, ⟨27, 27, .ro, 0x0⟩, ⟨26, 26, .ro, 0x0⟩, ⟨25, 25, .ro, 0x0⟩, ⟨24, 24, .ro, 0x0⟩, ⟨23, 18, .ro, 0x0⟩, ⟨17, 17, .w1c, 0x0⟩, ⟨16, 16, .w1c, 0x0⟩, ⟨15, 0, .rsv, 0x0⟩]⟩,
  ⟨0x0010, 0x0, 1, [⟨31, 11, .rsv, 0x0⟩, ⟨10, 0, .rws, 0xfa⟩]⟩,
  ⟨0x0014, 0x0, 1, [⟨31, 31, .rws, 0x0⟩, ⟨30, 30, .rws, 0x0⟩, ⟨29, 18, .rsv, 0x0⟩, ⟨17, 0, .rws, 0x186a0⟩]⟩,
  ⟨0x0020, 0x4, 8, [⟨31, 31, .rw, 0x0⟩, ⟨30, 30, .rsv, 0x0⟩, ⟨29, 24, .rw, 0x0⟩, ⟨23, 12, .rw, 0x0⟩, ⟨11, 0, .rw, 0x0⟩]⟩,
  ⟨0x0040, 0x0, 1, [⟨31, 21, .rsv, 0x0⟩, ⟨20, 0, .rws, 0x0⟩]⟩,
  ⟨0x0044, 0x0, 1, [⟨31, 26, .rsv, 0x0⟩, ⟨25, 16, .rws, 0xc8⟩, ⟨15, 11, .rsv, 0x0⟩, ⟨10, 0, .rws, 0x64⟩]⟩,
  ⟨0x0048, 0x0, 1, [⟨31, 21, .rsv, 0x0⟩, ⟨20, 0, .roe, 0x0⟩]⟩,
  ⟨0x0050, 0x0, 1, [⟨31, 30, .rws, 0x0⟩, ⟨29, 29, .rws, 0x0⟩, ⟨28, 26, .rsv, 0x0⟩, ⟨25, 18, .rws, 0x0⟩, ⟨17, 8, .rws, 0x0⟩, ⟨7, 0, .rsv, 0x0⟩]⟩,
  ⟨0x0054, 0x0, 1, [⟨31, 24, .rsv, 0x0⟩, ⟨23, 0, .rws, 0x0⟩]⟩,
  ⟨0x0058, 0x0, 1, [⟨31, 30, .roe, 0x0⟩, ⟨29, 24, .rsv, 0x0⟩, ⟨23, 0, .roe, 0x0⟩]⟩,
  ⟨0x005C, 0x0, 1, [⟨31, 16, .rc, 0x0⟩, ⟨15, 0, .rc, 0x0⟩]⟩,
  ⟨0x0060, 0x0, 1, [⟨31, 30, .rw, 0x0⟩, ⟨29, 8, .rsv, 0x0⟩, ⟨7, 0, .rw, 0xa⟩]⟩,
  ⟨0x0070, 0x4, 2, [⟨31, 31, .rw, 0x0⟩, ⟨30, 28, .rw, 0x0⟩, ⟨27, 26, .rsv, 0x0⟩, ⟨25, 16, .rw, 0x0⟩, ⟨15, 8, .rw, 0x0⟩, ⟨7, 4, .rsv, 0x0⟩, ⟨3, 0, .rw, 0x0⟩]⟩]

/-- Registers of block RX (spec/05_receiver_array.md). -/
def regsRX : List RegRow := [
  ⟨0x0000, 0x0, 1, [⟨31, 31, .rws, 0x0⟩, ⟨30, 24, .rsv, 0x0⟩, ⟨23, 16, .rws, 0x0⟩, ⟨15, 2, .rsv, 0x0⟩, ⟨1, 1, .rws, 0x0⟩, ⟨0, 0, .rsv, 0x0⟩]⟩,
  ⟨0x0004, 0x0, 1, [⟨31, 24, .roe, 0x0⟩, ⟨23, 23, .roe, 0x0⟩, ⟨22, 22, .roe, 0x0⟩, ⟨21, 0, .rsv, 0x0⟩]⟩,
  ⟨0x0010, 0x4, 3, [⟨31, 0, .ro, 0x0⟩]⟩,
  ⟨0x0020, 0x4, 3, [⟨31, 0, .rws, 0xffffffff⟩]⟩,
  ⟨0x0030, 0x0, 1, [⟨31, 27, .rsv, 0x0⟩, ⟨26, 16, .rws, 0xff⟩, ⟨15, 11, .rsv, 0x0⟩, ⟨10, 0, .rws, 0x8⟩]⟩,
  ⟨0x0034, 0x0, 1, [⟨31, 28, .rsv, 0x0⟩, ⟨27, 16, .rws, 0x0⟩, ⟨15, 11, .rsv, 0x0⟩, ⟨10, 0, .rws, 0x0⟩]⟩,
  ⟨0x0038, 0x0, 1, [⟨31, 16, .rsv, 0x0⟩, ⟨15, 8, .rws, 0xc⟩, ⟨7, 0, .rws, 0x4⟩]⟩,
  ⟨0x0040, 0x0, 1, [⟨31, 21, .rsv, 0x0⟩, ⟨20, 16, .rws, 0x6⟩, ⟨15, 0, .rsv, 0x0⟩]⟩,
  ⟨0x0050, 0x4, 8, [⟨31, 29, .rsv, 0x0⟩, ⟨28, 24, .ro, 0x0⟩, ⟨23, 0, .rws, 0xffffff⟩]⟩,
  ⟨0x0080, 0x0, 1, [⟨31, 31, .rws, 0x1⟩, ⟨30, 30, .rws, 0x0⟩, ⟨29, 6, .rsv, 0x0⟩, ⟨5, 0, .rws, 0x0⟩]⟩,
  ⟨0x0084, 0x0, 1, [⟨31, 20, .roe, 0x0⟩, ⟨19, 10, .roe, 0x0⟩, ⟨9, 4, .roe, 0x0⟩, ⟨3, 3, .roe, 0x0⟩, ⟨2, 2, .roe, 0x0⟩, ⟨1, 1, .roe, 0x0⟩, ⟨0, 0, .roe, 0x0⟩]⟩,
  ⟨0x0090, 0x0, 1, [⟨31, 31, .rws, 0x0⟩, ⟨30, 28, .rsv, 0x0⟩, ⟨27, 24, .rws, 0x2⟩, ⟨23, 22, .rsv, 0x0⟩, ⟨21, 16, .rws, 0x8⟩, ⟨15, 14, .rsv, 0x0⟩, ⟨13, 8, .rws, 0x14⟩, ⟨7, 4, .rsv, 0x0⟩, ⟨3, 0, .rws, 0x0⟩]⟩,
  ⟨0x0094, 0x0, 1, [⟨31, 16, .rws, 0xffff⟩, ⟨15, 12, .rws, 0x0⟩, ⟨11, 11, .rsv, 0x0⟩, ⟨10, 0, .rws, 0x0⟩]⟩,
  ⟨0x00A0, 0x4, 16, [⟨31, 16, .rws, 0x0⟩, ⟨15, 12, .rsv, 0x0⟩, ⟨11, 8, .rws, 0x2⟩, ⟨7, 6, .rsv, 0x0⟩, ⟨5, 0, .rws, 0x8⟩]⟩,
  ⟨0x00E0, 0x4, 8, [⟨31, 16, .roe, 0x0⟩, ⟨15, 12, .roe, 0x0⟩, ⟨11, 8, .roe, 0x0⟩, ⟨7, 7, .roe, 0x0⟩, ⟨6, 6, .roe, 0x0⟩, ⟨5, 0, .roe, 0x0⟩]⟩,
  ⟨0x0100, 0x0, 1, [⟨31, 27, .rsv, 0x0⟩, ⟨26, 16, .rws, 0x64⟩, ⟨15, 12, .rsv, 0x0⟩, ⟨11, 8, .rws, 0x2⟩, ⟨7, 4, .rsv, 0x0⟩, ⟨3, 0, .rws, 0x8⟩]⟩,
  ⟨0x0104, 0x0, 1, [⟨31, 20, .rws, 0x10⟩, ⟨19, 8, .rws, 0xfff⟩, ⟨7, 0, .rws, 0x10⟩]⟩,
  ⟨0x0108, 0x0, 1, [⟨31, 24, .roe, 0x0⟩, ⟨23, 16, .roe, 0x0⟩, ⟨15, 8, .roe, 0x0⟩, ⟨7, 0, .roe, 0x0⟩]⟩,
  ⟨0x0110, 0x0, 1, [⟨31, 31, .rws, 0x0⟩, ⟨30, 27, .rsv, 0x0⟩, ⟨26, 24, .rws, 0x0⟩, ⟨23, 0, .rsv, 0x0⟩]⟩,
  ⟨0x0120, 0x0, 1, [⟨31, 0, .rc, 0x0⟩]⟩]

/-- Registers of block TDC (spec/06_time_to_digital.md). -/
def regsTDC : List RegRow := [
  ⟨0x0000, 0x0, 1, [⟨31, 31, .rws, 0x0⟩, ⟨30, 30, .rws, 0x0⟩, ⟨29, 24, .rsv, 0x0⟩, ⟨23, 16, .rws, 0x0⟩, ⟨15, 1, .rsv, 0x0⟩, ⟨0, 0, .rws, 0x1⟩]⟩,
  ⟨0x0004, 0x0, 1, [⟨31, 23, .roe, 0x0⟩, ⟨22, 22, .roe, 0x0⟩, ⟨21, 21, .roe, 0x0⟩, ⟨20, 9, .rsv, 0x0⟩, ⟨8, 0, .roe, 0x0⟩]⟩,
  ⟨0x0010, 0x0, 1, [⟨31, 28, .rws, 0x4⟩, ⟨27, 24, .rws, 0x4⟩, ⟨23, 20, .rws, 0x6⟩, ⟨19, 16, .rsv, 0x0⟩, ⟨15, 8, .rws, 0x20⟩, ⟨7, 0, .rws, 0x1a⟩]⟩,
  ⟨0x0014, 0x0, 1, [⟨31, 28, .roe, 0xf⟩, ⟨27, 27, .roe, 0x0⟩, ⟨26, 16, .rsv, 0x0⟩, ⟨15, 0, .roe, 0x0⟩]⟩,
  ⟨0x0020, 0x0, 1, [⟨31, 24, .roe, 0x0⟩, ⟨23, 18, .roe, 0x0⟩, ⟨17, 16, .rsv, 0x0⟩, ⟨15, 8, .roe, 0x0⟩, ⟨7, 2, .roe, 0x0⟩, ⟨1, 0, .roe, 0x0⟩]⟩,
  ⟨0x0024, 0x0, 1, [⟨31, 0, .roe, 0x0⟩]⟩,
  ⟨0x0030, 0x4, 8, [⟨31, 24, .roe, 0x0⟩, ⟨23, 16, .roe, 0x0⟩, ⟨15, 12, .roe, 0x0⟩, ⟨11, 2, .roe, 0x0⟩, ⟨1, 0, .roe, 0x0⟩]⟩,
  ⟨0x0060, 0x0, 1, [⟨31, 10, .rsv, 0x0⟩, ⟨9, 9, .wo, 0x0⟩, ⟨8, 8, .wo, 0x0⟩, ⟨7, 4, .rsv, 0x0⟩, ⟨3, 0, .wo, 0x0⟩]⟩,
  ⟨0x0064, 0x0, 1, [⟨31, 1, .rsv, 0x0⟩, ⟨0, 0, .w1c, 0x0⟩]⟩,
  ⟨0x0070, 0x0, 1, [⟨31, 16, .rc, 0x0⟩, ⟨15, 0, .rc, 0x0⟩]⟩,
  ⟨0x0074, 0x0, 1, [⟨31, 0, .rc, 0x0⟩]⟩,
  ⟨0x0080, 0x0, 1, [⟨31, 24, .rsv, 0x0⟩, ⟨23, 0, .ro, 0x0⟩]⟩,
  ⟨0x0090, 0x0, 1, [⟨31, 12, .rsv, 0x0⟩, ⟨11, 8, .rw, 0x0⟩, ⟨7, 7, .rsv, 0x0⟩, ⟨6, 0, .rw, 0x0⟩]⟩,
  ⟨0x0094, 0x0, 1, [⟨31, 8, .rsv, 0x0⟩, ⟨7, 0, .ro, 0x0⟩]⟩]

/-- Registers of block HED (spec/07_firing_and_emitter_safety.md). -/
def regsHED : List RegRow := [
  ⟨0x0000, 0x0, 1, [⟨31, 31, .rws, 0x0⟩, ⟨30, 0, .rsv, 0x0⟩]⟩,
  ⟨0x0004, 0x0, 1, [⟨31, 31, .roe, 0x0⟩, ⟨30, 30, .roe, 0x0⟩, ⟨29, 29, .roe, 0x0⟩, ⟨28, 10, .rsv, 0x0⟩, ⟨9, 0, .roe, 0x0⟩]⟩,
  ⟨0x0008, 0x0, 1, [⟨31, 28, .rws, 0x0⟩, ⟨27, 24, .rsv, 0x0⟩, ⟨23, 0, .rws, 0x0⟩]⟩,
  ⟨0x0010, 0x0, 1, [⟨31, 0, .roe, 0x0⟩]⟩,
  ⟨0x0014, 0x0, 1, [⟨31, 16, .roe, 0x0⟩, ⟨15, 0, .roe, 0x0⟩]⟩,
  ⟨0x0018, 0x0, 1, [⟨31, 0, .roe, 0x0⟩]⟩,
  ⟨0x001C, 0x0, 1, [⟨31, 0, .roe, 0x0⟩]⟩,
  ⟨0x0020, 0x0, 1, [⟨31, 14, .rsv, 0x0⟩, ⟨13, 12, .rw, 0x0⟩, ⟨11, 9, .rsv, 0x0⟩, ⟨8, 0, .rw, 0x0⟩]⟩,
  ⟨0x0024, 0x0, 1, [⟨31, 0, .ro, 0x0⟩]⟩,
  ⟨0x1000, 0x10, 96, [⟨31, 30, .rws, 0x0⟩, ⟨29, 26, .rws, 0x0⟩, ⟨25, 18, .rws, 0x40⟩, ⟨17, 9, .rsv, 0x0⟩, ⟨8, 0, .rws, 0x0⟩]⟩,
  ⟨0x1004, 0x10, 96, [⟨31, 25, .rsv, 0x0⟩, ⟨24, 16, .rws, 0x0⟩, ⟨15, 9, .rsv, 0x0⟩, ⟨8, 0, .rws, 0x0⟩]⟩,
  ⟨0x1008, 0x10, 96, [⟨31, 31, .rws, 0x0⟩, ⟨30, 26, .rsv, 0x0⟩, ⟨25, 16, .rws, 0x0⟩, ⟨15, 0, .rws, 0x0⟩]⟩]

/-- Registers of block EMD (spec/07_firing_and_emitter_safety.md). -/
def regsEMD : List RegRow := [
  ⟨0x0000, 0x0, 1, [⟨31, 12, .rsv, 0x0⟩, ⟨11, 8, .rws, 0x4⟩, ⟨7, 0, .rsv, 0x0⟩]⟩,
  ⟨0x0004, 0x0, 1, [⟨31, 31, .roe, 0x1⟩, ⟨30, 30, .roe, 0x0⟩, ⟨29, 29, .roe, 0x0⟩, ⟨28, 24, .rsv, 0x0⟩, ⟨23, 0, .roe, 0x0⟩]⟩,
  ⟨0x0010, 0x4, 3, [⟨31, 0, .roe, 0x0⟩]⟩,
  ⟨0x0020, 0x4, 3, [⟨31, 0, .roe, 0x0⟩]⟩,
  ⟨0x0030, 0x4, 3, [⟨31, 0, .roe, 0x0⟩]⟩,
  ⟨0x0040, 0x4, 3, [⟨31, 0, .roe, 0x0⟩]⟩,
  ⟨0x0050, 0x0, 1, [⟨31, 30, .wo, 0x0⟩, ⟨29, 7, .rsv, 0x0⟩, ⟨6, 0, .wo, 0x0⟩]⟩,
  ⟨0x0054, 0x0, 1, [⟨31, 1, .rsv, 0x0⟩, ⟨0, 0, .w1c, 0x0⟩]⟩,
  ⟨0x0060, 0x0, 1, [⟨31, 10, .rsv, 0x0⟩, ⟨9, 8, .rw, 0x0⟩, ⟨7, 5, .rsv, 0x0⟩, ⟨4, 0, .rw, 0x0⟩]⟩,
  ⟨0x0064, 0x0, 1, [⟨31, 0, .roe, 0x0⟩]⟩,
  ⟨0x0068, 0x0, 1, [⟨31, 0, .roe, 0x0⟩]⟩,
  ⟨0x006C, 0x0, 1, [⟨31, 0, .roe, 0x0⟩]⟩,
  ⟨0x0100, 0x10, 3, [⟨31, 31, .rws, 0x0⟩, ⟨30, 21, .rsv, 0x0⟩, ⟨20, 0, .rws, 0x0⟩]⟩,
  ⟨0x0104, 0x10, 3, [⟨31, 0, .rws, 0x0⟩]⟩,
  ⟨0x0108, 0x10, 3, [⟨31, 16, .rsv, 0x0⟩, ⟨15, 0, .rws, 0x0⟩]⟩,
  ⟨0x0140, 0x0, 1, [⟨31, 21, .rsv, 0x0⟩, ⟨20, 0, .ro, 0x0⟩]⟩,
  ⟨0x0144, 0x0, 1, [⟨31, 0, .ro, 0x0⟩]⟩,
  ⟨0x0148, 0x0, 1, [⟨31, 16, .rsv, 0x0⟩, ⟨15, 0, .ro, 0x0⟩]⟩,
  ⟨0x014C, 0x0, 1, [⟨31, 16, .rsv, 0x0⟩, ⟨15, 0, .ro, 0x0⟩]⟩,
  ⟨0x1000, 0x4, 96, [⟨31, 16, .rws, 0x0⟩, ⟨15, 0, .rws, 0x0⟩]⟩,
  ⟨0x1200, 0x4, 24, [⟨31, 8, .rsv, 0x0⟩, ⟨7, 0, .rws, 0x14⟩]⟩,
  ⟨0x1300, 0x4, 24, [⟨31, 16, .rsv, 0x0⟩, ⟨15, 0, .ro, 0x0⟩]⟩]

/-- Registers of block REED (spec/08_histogram_engine.md). -/
def regsREED : List RegRow := [
  ⟨0x0000, 0x0, 1, [⟨31, 31, .rws, 0x1⟩, ⟨30, 30, .rsv, 0x0⟩, ⟨29, 22, .rws, 0x0⟩, ⟨21, 18, .rws, 0x4⟩, ⟨17, 10, .rws, 0x2⟩, ⟨9, 0, .rws, 0x8⟩]⟩,
  ⟨0x0004, 0x0, 1, [⟨31, 28, .rsv, 0x0⟩, ⟨27, 16, .rws, 0x0⟩, ⟨15, 11, .rsv, 0x0⟩, ⟨10, 0, .rws, 0x0⟩]⟩,
  ⟨0x0008, 0x0, 1, [⟨31, 24, .rws, 0x0⟩, ⟨23, 16, .rws, 0x0⟩, ⟨15, 15, .rws, 0x0⟩, ⟨14, 8, .rsv, 0x0⟩, ⟨7, 0, .rws, 0x0⟩]⟩,
  ⟨0x0010, 0x0, 1, [⟨31, 24, .roe, 0x0⟩, ⟨23, 16, .roe, 0x0⟩, ⟨15, 8, .roe, 0x0⟩, ⟨7, 0, .rsv, 0x0⟩]⟩,
  ⟨0x0014, 0x0, 1, [⟨31, 16, .roe, 0x0⟩, ⟨15, 0, .roe, 0x0⟩]⟩,
  ⟨0x0020, 0x4, 8, [⟨31, 30, .roe, 0x0⟩, ⟨29, 17, .rsv, 0x0⟩, ⟨16, 0, .roe, 0x0⟩]⟩,
  ⟨0x0040, 0x0, 1, [⟨31, 16, .rc, 0x0⟩, ⟨15, 0, .rc, 0x0⟩]⟩,
  ⟨0x0044, 0x0, 1, [⟨31, 0, .rc, 0x0⟩]⟩,
  ⟨0x0048, 0x0, 1, [⟨31, 0, .rc, 0x0⟩]⟩]

/-- Registers of block RET (spec/09_returns_and_point_records.md). -/
def regsRET : List RegRow := [
  ⟨0x0000, 0x0, 1, [⟨31, 31, .rws, 0x0⟩, ⟨30, 30, .rws, 0x1⟩, ⟨29, 24, .rsv, 0x0⟩, ⟨23, 20, .rws, 0x3⟩, ⟨19, 12, .rws, 0x14⟩, ⟨11, 0, .rws, 0x4⟩]⟩,
  ⟨0x0004, 0x0, 1, [⟨31, 28, .rws, 0xc⟩, ⟨27, 24, .rws, 0xe⟩, ⟨23, 20, .rws, 0x6⟩, ⟨19, 16, .rws, 0x2⟩, ⟨15, 12, .rws, 0x4⟩, ⟨11, 8, .rsv, 0x0⟩, ⟨7, 0, .rws, 0x10⟩]⟩,
  ⟨0x0008, 0x0, 1, [⟨31, 16, .rsv, 0x0⟩, ⟨15, 0, .rws, 0x0⟩]⟩,
  ⟨0x000C, 0x4, 2, [⟨31, 24, .rws, 0x0⟩, ⟨23, 16, .rws, 0x0⟩, ⟨15, 8, .rws, 0x0⟩, ⟨7, 0, .rws, 0x0⟩]⟩,
  ⟨0x0014, 0x0, 1, [⟨31, 5, .rsv, 0x0⟩, ⟨4, 0, .rws, 0x0⟩]⟩,
  ⟨0x0020, 0x0, 1, [⟨31, 24, .roe, 0x0⟩, ⟨23, 16, .roe, 0x0⟩, ⟨15, 8, .roe, 0x0⟩, ⟨7, 0, .roe, 0x0⟩]⟩,
  ⟨0x0024, 0x0, 1, [⟨31, 16, .roe, 0x0⟩, ⟨15, 0, .roe, 0x0⟩]⟩,
  ⟨0x0028, 0x0, 1, [⟨31, 16, .rc, 0x0⟩, ⟨15, 0, .rc, 0x0⟩]⟩,
  ⟨0x002C, 0x0, 1, [⟨31, 16, .rc, 0x0⟩, ⟨15, 0, .rc, 0x0⟩]⟩,
  ⟨0x0030, 0x4, 8, [⟨31, 12, .roe, 0x0⟩, ⟨11, 9, .roe, 0x0⟩, ⟨8, 8, .roe, 0x0⟩, ⟨7, 0, .rsv, 0x0⟩]⟩,
  ⟨0x0050, 0x0, 1, [⟨31, 16, .rsv, 0x0⟩, ⟨15, 0, .ro, 0x0⟩]⟩]

/-- Registers of block TRD (spec/10_steering_control.md). -/
def regsTRD : List RegRow := [
  ⟨0x0000, 0x0, 1, [⟨31, 31, .rws, 0x0⟩, ⟨30, 28, .rws, 0x0⟩, ⟨27, 27, .rws, 0x0⟩, ⟨26, 24, .rws, 0x0⟩, ⟨23, 0, .rsv, 0x0⟩]⟩,
  ⟨0x0004, 0x0, 1, [⟨31, 0, .ro, 0x0⟩]⟩,
  ⟨0x0008, 0x0, 1, [⟨31, 0, .rws, 0x0⟩]⟩,
  ⟨0x000C, 0x0, 1, [⟨31, 0, .rws, 0x0⟩]⟩,
  ⟨0x0010, 0x0, 1, [⟨31, 24, .rsv, 0x0⟩, ⟨23, 0, .rws, 0x0⟩]⟩,
  ⟨0x0014, 0x0, 1, [⟨31, 0, .rws, 0x0⟩]⟩,
  ⟨0x0018, 0x0, 1, [⟨31, 14, .rsv, 0x0⟩, ⟨13, 0, .rws, 0xfa0⟩]⟩,
  ⟨0x0020, 0x0, 1, [⟨31, 28, .wo, 0x0⟩, ⟨27, 3, .rsv, 0x0⟩, ⟨2, 0, .wo, 0x0⟩]⟩,
  ⟨0x0024, 0x0, 1, [⟨31, 2, .rsv, 0x0⟩, ⟨1, 1, .w1c, 0x0⟩, ⟨0, 0, .w1c, 0x0⟩]⟩,
  ⟨0x0030, 0x0, 1, [⟨31, 26, .rws, 0xa⟩, ⟨25, 25, .rsv, 0x0⟩, ⟨24, 16, .rws, 0xfa⟩, ⟨15, 10, .rsv, 0x0⟩, ⟨9, 0, .rws, 0x15e⟩]⟩,
  ⟨0x0034, 0x0, 1, [⟨31, 20, .roe, 0x0⟩, ⟨19, 8, .roe, 0x0⟩, ⟨7, 7, .roe, 0x0⟩, ⟨6, 6, .roe, 0x0⟩, ⟨5, 5, .roe, 0x0⟩, ⟨4, 4, .roe, 0x0⟩, ⟨3, 0, .rsv, 0x0⟩]⟩,
  ⟨0x0040, 0x4, 8, [⟨31, 31, .rws, 0x0⟩, ⟨30, 30, .rws, 0x0⟩, ⟨29, 28, .rsv, 0x0⟩, ⟨27, 24, .rws, 0x3⟩, ⟨23, 20, .rsv, 0x0⟩, ⟨19, 0, .rws, 0x0⟩]⟩,
  ⟨0x0060, 0x4, 8, [⟨31, 0, .ro, 0x0⟩]⟩,
  ⟨0x0080, 0x0, 1, [⟨31, 24, .roe, 0x0⟩, ⟨23, 16, .roe, 0x0⟩, ⟨15, 8, .roe, 0x0⟩, ⟨7, 0, .rsv, 0x0⟩]⟩,
  ⟨0x0100, 0x80, 8, [⟨31, 31, .rws, 0x0⟩, ⟨30, 30, .rws, 0x0⟩, ⟨29, 29, .rws, 0x0⟩, ⟨28, 28, .ro, 0x0⟩, ⟨27, 24, .ro, 0x0⟩, ⟨23, 21, .rsv, 0x0⟩, ⟨20, 16, .ro, 0x0⟩, ⟨15, 8, .rws, 0x0⟩, ⟨7, 3, .rsv, 0x0⟩, ⟨2, 0, .ro, 0x0⟩]⟩,
  ⟨0x0104, 0x80, 8, [⟨31, 26, .rsv, 0x0⟩, ⟨25, 16, .rws, 0xc7⟩, ⟨15, 8, .rsv, 0x0⟩, ⟨7, 0, .rws, 0x0⟩]⟩,
  ⟨0x0108, 0x80, 8, [⟨31, 0, .rws, 0x0⟩]⟩,
  ⟨0x010C, 0x80, 8, [⟨31, 24, .rws, 0x10⟩, ⟨23, 0, .rws, 0x0⟩]⟩,
  ⟨0x0110, 0x80, 8, [⟨31, 31, .roe, 0x0⟩, ⟨30, 30, .roe, 0x0⟩, ⟨29, 29, .roe, 0x0⟩, ⟨28, 28, .roe, 0x0⟩, ⟨27, 27, .roe, 0x0⟩, ⟨26, 26, .roe, 0x0⟩, ⟨25, 25, .roe, 0x0⟩, ⟨24, 24, .roe, 0x0⟩, ⟨23, 16, .rsv, 0x0⟩, ⟨15, 0, .roe, 0x0⟩]⟩,
  ⟨0x0114, 0x80, 8, [⟨31, 0, .ro, 0x0⟩]⟩,
  ⟨0x0118, 0x80, 8, [⟨31, 16, .rsv, 0x0⟩, ⟨15, 0, .ro, 0x0⟩]⟩,
  ⟨0x0120, 0x80, 8, [⟨31, 24, .rsv, 0x0⟩, ⟨23, 0, .rw, 0x0⟩]⟩,
  ⟨0x0124, 0x80, 8, [⟨31, 24, .rsv, 0x0⟩, ⟨23, 0, .rw, 0x0⟩]⟩,
  ⟨0x0128, 0x80, 8, [⟨31, 24, .rsv, 0x0⟩, ⟨23, 0, .rw, 0x0⟩]⟩,
  ⟨0x012C, 0x80, 8, [⟨31, 24, .rsv, 0x0⟩, ⟨23, 0, .rw, 0x0⟩]⟩,
  ⟨0x0140, 0x80, 8, [⟨31, 24, .rsv, 0x0⟩, ⟨23, 0, .rw, 0x0⟩]⟩,
  ⟨0x0144, 0x80, 8, [⟨31, 24, .rsv, 0x0⟩, ⟨23, 0, .rw, 0x0⟩]⟩,
  ⟨0x0148, 0x80, 8, [⟨31, 24, .rsv, 0x0⟩, ⟨23, 0, .rw, 0x0⟩]⟩,
  ⟨0x014C, 0x80, 8, [⟨31, 24, .rsv, 0x0⟩, ⟨23, 0, .rw, 0x0⟩]⟩,
  ⟨0x0130, 0x80, 8, [⟨31, 16, .rw, 0xffff⟩, ⟨15, 0, .rw, 0x0⟩]⟩,
  ⟨0x0150, 0x80, 8, [⟨31, 16, .rw, 0xffff⟩, ⟨15, 0, .rw, 0x0⟩]⟩,
  ⟨0x0134, 0x80, 8, [⟨31, 21, .rsv, 0x0⟩, ⟨20, 16, .rw, 0x0⟩, ⟨15, 0, .rw, 0x0⟩]⟩,
  ⟨0x0154, 0x80, 8, [⟨31, 21, .rsv, 0x0⟩, ⟨20, 16, .rw, 0x0⟩, ⟨15, 0, .rw, 0x0⟩]⟩]

/-- Registers of block SEL (spec/11_fields_and_speed_monitoring.md). -/
def regsSEL : List RegRow := [
  ⟨0x0000, 0x0, 1, [⟨31, 30, .rsv, 0x0⟩, ⟨29, 28, .rws, 0x1⟩, ⟨27, 20, .rws, 0x4⟩, ⟨19, 0, .rsv, 0x0⟩]⟩,
  ⟨0x0004, 0x0, 1, [⟨31, 26, .roe, 0x0⟩, ⟨25, 20, .roe, 0x0⟩, ⟨19, 18, .roe, 0x0⟩, ⟨17, 17, .roe, 0x0⟩, ⟨16, 16, .roe, 0x0⟩, ⟨15, 8, .roe, 0x0⟩, ⟨7, 0, .rsv, 0x0⟩]⟩,
  ⟨0x0010, 0x0, 1, [⟨31, 0, .roe, 0x0⟩]⟩,
  ⟨0x0014, 0x0, 1, [⟨31, 0, .roe, 0x0⟩]⟩,
  ⟨0x0018, 0x0, 1, [⟨31, 0, .roe, 0x0⟩]⟩,
  ⟨0x001C, 0x0, 1, [⟨31, 0, .roe, 0x0⟩]⟩,
  ⟨0x0020, 0x0, 1, [⟨31, 0, .roe, 0x0⟩]⟩,
  ⟨0x0024, 0x0, 1, [⟨31, 0, .roe, 0x0⟩]⟩,
  ⟨0x0030, 0x0, 1, [⟨31, 15, .roe, 0x0⟩, ⟨14, 14, .roe, 0x0⟩, ⟨13, 13, .roe, 0x0⟩, ⟨12, 0, .rsv, 0x0⟩]⟩,
  ⟨0x0034, 0x0, 1, [⟨31, 16, .roe, 0x0⟩, ⟨15, 0, .roe, 0x0⟩]⟩,
  ⟨0x0040, 0x0, 1, [⟨31, 6, .rsv, 0x0⟩, ⟨5, 0, .rw, 0x0⟩]⟩,
  ⟨0x0044, 0x0, 1, [⟨31, 16, .roe, 0xffff⟩, ⟨15, 13, .roe, 0x0⟩, ⟨12, 12, .roe, 0x0⟩, ⟨11, 11, .roe, 0x0⟩, ⟨10, 10, .roe, 0x0⟩, ⟨9, 0, .rsv, 0x0⟩]⟩,
  ⟨0x0050, 0x4, 4, [⟨31, 16, .ro, 0x0⟩, ⟨15, 0, .ro, 0x0⟩]⟩,
  ⟨0x0060, 0x0, 1, [⟨31, 0, .ro, 0x0⟩]⟩,
  ⟨0x0064, 0x0, 1, [⟨31, 0, .ro, 0x0⟩]⟩,
  ⟨0x0070, 0x0, 1, [⟨31, 16, .rc, 0x0⟩, ⟨15, 0, .rc, 0x0⟩]⟩,
  ⟨0x0080, 0x0, 1, [⟨31, 31, .wo, 0x0⟩, ⟨30, 30, .wo, 0x0⟩, ⟨29, 8, .rsv, 0x0⟩, ⟨7, 0, .wo, 0x0⟩]⟩,
  ⟨0x0084, 0x0, 1, [⟨31, 30, .ro, 0x0⟩, ⟨29, 8, .rsv, 0x0⟩, ⟨7, 0, .ro, 0x0⟩]⟩]

/-- Registers of block SAF (spec/11_fields_and_speed_monitoring.md, spec/12_safety_integrity.md). -/
def regsSAF : List RegRow := [
  ⟨0x0400, 0x0, 1, [⟨31, 31, .rws, 0x0⟩, ⟨30, 30, .rws, 0x0⟩, ⟨29, 29, .rws, 0x1⟩, ⟨28, 28, .rws, 0x0⟩, ⟨27, 27, .rws, 0x1⟩, ⟨26, 24, .rsv, 0x0⟩, ⟨23, 16, .rws, 0x0⟩, ⟨15, 15, .rws, 0x0⟩, ⟨14, 14, .rws, 0x0⟩, ⟨13, 13, .rws, 0x1⟩, ⟨12, 12, .rws, 0x0⟩, ⟨11, 11, .rws, 0x1⟩, ⟨10, 8, .rsv, 0x0⟩, ⟨7, 0, .rws, 0x0⟩]⟩,
  ⟨0x0404, 0x0, 1, [⟨31, 24, .rws, 0xa⟩, ⟨23, 16, .rws, 0x1e⟩, ⟨15, 8, .rws, 0x32⟩, ⟨7, 0, .rsv, 0x0⟩]⟩,
  ⟨0x0408, 0x0, 1, [⟨31, 16, .rws, 0x64⟩, ⟨15, 6, .rsv, 0x0⟩, ⟨5, 0, .rws, 0xa⟩]⟩,
  ⟨0x0410, 0x0, 1, [⟨31, 29, .roe, 0x0⟩, ⟨28, 26, .roe, 0x0⟩, ⟨25, 22, .roe, 0x0⟩, ⟨21, 20, .roe, 0x0⟩, ⟨19, 16, .rsv, 0x0⟩, ⟨15, 12, .roe, 0x0⟩, ⟨11, 8, .roe, 0x0⟩, ⟨7, 0, .rsv, 0x0⟩]⟩,
  ⟨0x0440, 0x10, 8, [⟨31, 31, .rws, 0x0⟩, ⟨30, 30, .rws, 0x0⟩, ⟨29, 29, .rws, 0x0⟩, ⟨28, 25, .rws, 0x3⟩, ⟨24, 22, .rws, 0x0⟩, ⟨21, 14, .rws, 0xa⟩, ⟨13, 0, .rsv, 0x0⟩]⟩,
  ⟨0x0444, 0x10, 8, [⟨31, 20, .rws, 0x10⟩, ⟨19, 0, .rws, 0x0⟩]⟩,
  ⟨0x0448, 0x10, 8, [⟨31, 0, .rws, 0x0⟩]⟩,
  ⟨0x044C, 0x10, 8, [⟨31, 29, .roe, 0x0⟩, ⟨28, 28, .roe, 0x0⟩, ⟨27, 27, .roe, 0x0⟩, ⟨26, 26, .roe, 0x0⟩, ⟨25, 25, .roe, 0x0⟩, ⟨24, 24, .roe, 0x0⟩, ⟨23, 23, .roe, 0x0⟩, ⟨22, 0, .rsv, 0x0⟩]⟩,
  ⟨0x04C0, 0x8, 8, [⟨31, 0, .ro, 0x0⟩]⟩,
  ⟨0x04C4, 0x8, 8, [⟨31, 0, .ro, 0x0⟩]⟩,
  ⟨0x0000, 0x0, 1, [⟨31, 28, .ro, 0x1⟩, ⟨27, 24, .ro, 0x0⟩, ⟨23, 16, .ro, 0x0⟩, ⟨15, 0, .rsv, 0x0⟩]⟩,
  ⟨0x0004, 0x0, 1, [⟨31, 28, .roe, 0x0⟩, ⟨27, 27, .roe, 0x0⟩, ⟨26, 26, .roe, 0x0⟩, ⟨25, 14, .rsv, 0x0⟩, ⟨13, 0, .roe, 0x0⟩]⟩,
  ⟨0x0010, 0x0, 1, [⟨31, 31, .rws, 0x0⟩, ⟨30, 0, .rsv, 0x0⟩]⟩,
  ⟨0x0014, 0x0, 1, [⟨31, 16, .ro, 0x0⟩, ⟨15, 0, .ro, 0x0⟩]⟩,
  ⟨0x0020, 0x0, 1, [⟨31, 13, .rsv, 0x0⟩, ⟨12, 12, .w1c, 0x0⟩, ⟨11, 11, .w1c, 0x0⟩, ⟨10, 10, .w1c, 0x0⟩, ⟨9, 9, .w1c, 0x0⟩, ⟨8, 8, .w1c, 0x0⟩, ⟨7, 7, .w1c, 0x0⟩, ⟨6, 6, .w1c, 0x0⟩, ⟨5, 5, .w1c, 0x0⟩, ⟨4, 4, .w1c, 0x0⟩, ⟨3, 3, .w1c, 0x0⟩, ⟨2, 2, .w1c, 0x0⟩, ⟨1, 1, .w1c, 0x0⟩, ⟨0, 0, .w1c, 0x0⟩]⟩,
  ⟨0x0024, 0x0, 1, [⟨31, 12, .rsv, 0x0⟩, ⟨11, 11, .ro, 0x1⟩, ⟨10, 10, .ro, 0x1⟩, ⟨9, 9, .ro, 0x1⟩, ⟨8, 8, .ro, 0x0⟩, ⟨7, 7, .ro, 0x0⟩, ⟨6, 6, .ro, 0x0⟩, ⟨5, 5, .ro, 0x0⟩, ⟨4, 4, .ro, 0x1⟩, ⟨3, 3, .ro, 0x1⟩, ⟨2, 2, .ro, 0x1⟩, ⟨1, 1, .ro, 0x1⟩, ⟨0, 0, .ro, 0x0⟩]⟩,
  ⟨0x0030, 0x4, 3, [⟨31, 0, .roe, 0x0⟩]⟩,
  ⟨0x0040, 0x0, 1, [⟨31, 0, .roe, 0x0⟩]⟩,
  ⟨0x0044, 0x0, 1, [⟨31, 0, .roe, 0x0⟩]⟩,
  ⟨0x0050, 0x0, 1, [⟨31, 28, .ro, 0x0⟩, ⟨27, 24, .ro, 0x0⟩, ⟨23, 16, .rsv, 0x0⟩, ⟨15, 0, .ro, 0x0⟩]⟩,
  ⟨0x0054, 0x0, 1, [⟨31, 16, .roe, 0x0⟩, ⟨15, 0, .roe, 0x0⟩]⟩,
  ⟨0x0060, 0x0, 1, [⟨31, 10, .rsv, 0x0⟩, ⟨9, 9, .ro, 0x0⟩, ⟨8, 8, .ro, 0x0⟩, ⟨7, 4, .ro, 0x0⟩, ⟨3, 0, .ro, 0x0⟩]⟩,
  ⟨0x0064, 0x0, 1, [⟨31, 31, .ro, 0x0⟩, ⟨30, 30, .ro, 0x0⟩, ⟨29, 29, .ro, 0x0⟩, ⟨28, 28, .ro, 0x0⟩, ⟨27, 8, .rsv, 0x0⟩, ⟨7, 0, .ro, 0x0⟩]⟩,
  ⟨0x0070, 0x0, 1, [⟨31, 16, .rc, 0x0⟩, ⟨15, 0, .rc, 0x0⟩]⟩]

/-- Registers of block IMG (spec/13_loom_image_and_bezel.md). -/
def regsIMG : List RegRow := [
  ⟨0x0000, 0x0, 1, [⟨31, 31, .roe, 0x0⟩, ⟨30, 30, .ro, 0x0⟩, ⟨29, 29, .ro, 0x0⟩, ⟨28, 28, .ro, 0x0⟩, ⟨27, 24, .ro, 0x0⟩, ⟨23, 8, .rsv, 0x0⟩, ⟨7, 0, .ro, 0x0⟩]⟩,
  ⟨0x0004, 0x0, 1, [⟨31, 16, .ro, 0x0⟩, ⟨15, 8, .rsv, 0x0⟩, ⟨7, 0, .ro, 0x0⟩]⟩,
  ⟨0x0010, 0x4, 4, [⟨31, 0, .roe, 0x0⟩]⟩,
  ⟨0x0020, 0x0, 1, [⟨31, 8, .rsv, 0x0⟩, ⟨7, 0, .roe, 0x0⟩]⟩,
  ⟨0x0040, 0x4, 12, [⟨31, 0, .roe, 0x0⟩]⟩,
  ⟨0x0080, 0x4, 4, [⟨31, 0, .ro, 0x0⟩]⟩,
  ⟨0x00A0, 0x0, 1, [⟨31, 0, .ro, 0x0⟩]⟩,
  ⟨0x00A4, 0x0, 1, [⟨31, 30, .ro, 0x0⟩, ⟨29, 29, .ro, 0x0⟩, ⟨28, 16, .rsv, 0x0⟩, ⟨15, 0, .ro, 0x0⟩]⟩,
  ⟨0x00B0, 0x0, 1, [⟨31, 31, .ro, 0x0⟩, ⟨30, 30, .w1c, 0x0⟩, ⟨29, 14, .rsv, 0x0⟩, ⟨13, 0, .ro, 0x2000⟩]⟩,
  ⟨0x00B4, 0x0, 1, [⟨31, 0, .rc, 0x0⟩]⟩,
  ⟨0x00C0, 0x0, 1, [⟨31, 6, .rsv, 0x0⟩, ⟨5, 0, .rw, 0x0⟩]⟩,
  ⟨0x00C4, 0x0, 1, [⟨31, 0, .ro, 0x0⟩]⟩,
  ⟨0x00C8, 0x0, 1, [⟨31, 16, .rc, 0x0⟩, ⟨15, 10, .rsv, 0x0⟩, ⟨9, 0, .ro, 0x0⟩]⟩,
  ⟨0x8000, 0x4, 8192, [⟨31, 0, .wo, 0x0⟩]⟩]

/-- Registers of block BEZ (spec/13_loom_image_and_bezel.md). -/
def regsBEZ : List RegRow := [
  ⟨0x0000, 0x0, 1, [⟨31, 31, .ro, 0x0⟩, ⟨30, 29, .ro, 0x0⟩, ⟨28, 28, .ro, 0x0⟩, ⟨27, 24, .ro, 0x0⟩, ⟨23, 20, .ro, 0x0⟩, ⟨19, 19, .ro, 0x0⟩, ⟨18, 18, .w1c, 0x0⟩, ⟨17, 0, .rsv, 0x0⟩]⟩,
  ⟨0x0008, 0x0, 1, [⟨31, 0, .ro, 0x0⟩]⟩,
  ⟨0x000C, 0x0, 1, [⟨31, 0, .ro, 0x0⟩]⟩,
  ⟨0x0010, 0x0, 1, [⟨31, 6, .rsv, 0x0⟩, ⟨5, 5, .ro, 0x0⟩, ⟨4, 4, .ro, 0x0⟩, ⟨3, 3, .ro, 0x0⟩, ⟨2, 2, .ro, 0x0⟩, ⟨1, 1, .ro, 0x0⟩, ⟨0, 0, .ro, 0x0⟩]⟩,
  ⟨0x0014, 0x0, 1, [⟨31, 21, .ro, 0x0⟩, ⟨20, 18, .ro, 0x0⟩, ⟨17, 10, .rsv, 0x0⟩, ⟨9, 0, .ro, 0x0⟩]⟩,
  ⟨0x0018, 0x0, 1, [⟨31, 7, .rsv, 0x0⟩, ⟨6, 0, .ro, 0x0⟩]⟩,
  ⟨0x0020, 0x0, 1, [⟨31, 6, .rsv, 0x0⟩, ⟨5, 4, .rw, 0x0⟩, ⟨3, 0, .rw, 0x0⟩]⟩,
  ⟨0x0024, 0x0, 1, [⟨31, 0, .ro, 0x0⟩]⟩,
  ⟨0x0040, 0x0, 1, [⟨31, 16, .rsv, 0x0⟩, ⟨15, 8, .rw, 0x0⟩, ⟨7, 4, .rsv, 0x0⟩, ⟨3, 0, .rw, 0x0⟩]⟩,
  ⟨0x0044, 0x0, 1, [⟨31, 0, .rw, 0x0⟩]⟩,
  ⟨0x0048, 0x0, 1, [⟨31, 16, .wo, 0x0⟩, ⟨15, 2, .rsv, 0x0⟩, ⟨1, 0, .wo, 0x0⟩]⟩,
  ⟨0x004C, 0x0, 1, [⟨31, 31, .ro, 0x0⟩, ⟨30, 4, .rsv, 0x0⟩, ⟨3, 0, .ro, 0x0⟩]⟩]

/-- Registers of block CLP (spec/14_host_interface_and_events.md). -/
def regsCLP : List RegRow := [
  ⟨0x0000, 0x0, 1, [⟨31, 2, .rsv, 0x0⟩, ⟨1, 1, .wo, 0x0⟩, ⟨0, 0, .wo, 0x0⟩]⟩,
  ⟨0x0004, 0x0, 1, [⟨31, 16, .rsv, 0x0⟩, ⟨15, 0, .rw, 0x0⟩]⟩,
  ⟨0x0008, 0x0, 1, [⟨31, 31, .ro, 0x0⟩, ⟨30, 30, .w1c, 0x0⟩, ⟨29, 29, .w1c, 0x0⟩, ⟨28, 16, .rsv, 0x0⟩, ⟨15, 0, .ro, 0x0⟩]⟩]

/-- Registers of block EVT (spec/14_host_interface_and_events.md). -/
def regsEVT : List RegRow := [
  ⟨0x0000, 0x4, 640, [⟨31, 31, .rw, 0x1⟩, ⟨30, 30, .ro, 0x0⟩, ⟨29, 25, .rsv, 0x0⟩, ⟨24, 16, .rw, 0x0⟩, ⟨15, 0, .rsv, 0x0⟩]⟩,
  ⟨0x0C00, 0x4, 20, [⟨31, 0, .w1c, 0x0⟩]⟩,
  ⟨0x1000, 0x4, 640, [⟨31, 16, .rsv, 0x0⟩, ⟨15, 0, .rc, 0x0⟩]⟩,
  ⟨0x2000, 0x8, 5, [⟨31, 31, .w1c, 0x0⟩, ⟨30, 26, .rsv, 0x0⟩, ⟨25, 16, .ro, 0x0⟩, ⟨15, 8, .ro, 0x0⟩, ⟨7, 0, .rsv, 0x0⟩]⟩,
  ⟨0x2004, 0x8, 5, [⟨31, 0, .ro, 0x0⟩]⟩,
  ⟨0x2100, 0x0, 1, [⟨31, 12, .rw, 0x0⟩, ⟨11, 0, .rsv, 0x0⟩]⟩,
  ⟨0x2104, 0x0, 1, [⟨31, 0, .rw, 0x0⟩]⟩,
  ⟨0x2108, 0x0, 1, [⟨31, 31, .rw, 0x0⟩, ⟨30, 5, .rsv, 0x0⟩, ⟨4, 0, .rw, 0x8⟩]⟩,
  ⟨0x210C, 0x0, 1, [⟨31, 20, .rsv, 0x0⟩, ⟨19, 0, .ro, 0x0⟩]⟩,
  ⟨0x2110, 0x0, 1, [⟨31, 20, .rsv, 0x0⟩, ⟨19, 0, .rw, 0x0⟩]⟩,
  ⟨0x2114, 0x0, 1, [⟨31, 31, .ro, 0x0⟩, ⟨30, 30, .ro, 0x0⟩, ⟨29, 24, .ro, 0x0⟩, ⟨23, 9, .rsv, 0x0⟩, ⟨8, 0, .ro, 0x0⟩]⟩,
  ⟨0x2118, 0x0, 1, [⟨31, 0, .rc, 0x0⟩]⟩,
  ⟨0x211C, 0x0, 1, [⟨31, 31, .rw, 0x0⟩, ⟨30, 16, .rsv, 0x0⟩, ⟨15, 0, .rw, 0x0⟩]⟩,
  ⟨0x8000, 0x4, 2048, [⟨31, 0, .rw, 0x0⟩]⟩,
  ⟨0xA000, 0x4, 16, [⟨31, 0, .ro, 0x0⟩]⟩]

/-- Registers of block SHU (spec/15_shuttle_and_memory.md). -/
def regsSHU : List RegRow := [
  ⟨0x0000, 0x0, 1, [⟨31, 31, .rsv, 0x0⟩, ⟨30, 16, .ro, 0x0⟩, ⟨15, 0, .ro, 0x0⟩]⟩,
  ⟨0x1000, 0x40, 64, [⟨31, 31, .rws, 0x0⟩, ⟨30, 29, .ro, 0x0⟩, ⟨28, 27, .rws, 0x2⟩, ⟨26, 25, .rws, 0x0⟩, ⟨24, 21, .rsv, 0x0⟩, ⟨20, 16, .rws, 0x4⟩, ⟨15, 10, .rsv, 0x0⟩, ⟨9, 0, .rws, 0x0⟩]⟩,
  ⟨0x1004, 0x40, 64, [⟨31, 26, .rsv, 0x0⟩, ⟨25, 16, .rws, 0x3f⟩, ⟨15, 0, .rws, 0x0⟩]⟩,
  ⟨0x1008, 0x40, 64, [⟨31, 0, .rws, 0x0⟩]⟩,
  ⟨0x100C, 0x40, 64, [⟨31, 0, .rws, 0x0⟩]⟩,
  ⟨0x1010, 0x40, 64, [⟨31, 16, .ro, 0x0⟩, ⟨15, 0, .rw, 0x0⟩]⟩,
  ⟨0x1014, 0x40, 64, [⟨31, 2, .rsv, 0x0⟩, ⟨1, 1, .w1s, 0x0⟩, ⟨0, 0, .rw, 0x0⟩]⟩,
  ⟨0x1018, 0x40, 64, [⟨31, 31, .ro, 0x0⟩, ⟨30, 30, .ro, 0x0⟩, ⟨29, 29, .ro, 0x0⟩, ⟨28, 28, .ro, 0x1⟩, ⟨27, 24, .rsv, 0x0⟩, ⟨23, 16, .ro, 0x0⟩, ⟨15, 0, .rsv, 0x0⟩]⟩,
  ⟨0x101C, 0x40, 64, [⟨31, 0, .ro, 0x0⟩]⟩,
  ⟨0x1020, 0x40, 64, [⟨31, 0, .ro, 0x0⟩]⟩,
  ⟨0x1024, 0x40, 64, [⟨31, 16, .ro, 0x0⟩, ⟨15, 0, .ro, 0x0⟩]⟩,
  ⟨0x1028, 0x40, 64, [⟨31, 16, .rc, 0x0⟩, ⟨15, 0, .rc, 0x0⟩]⟩,
  ⟨0x102C, 0x40, 64, [⟨31, 0, .rc, 0x0⟩]⟩]

/-- Registers of block SPD (spec/15_shuttle_and_memory.md). -/
def regsSPD : List RegRow := [
  ⟨0x0000, 0x0, 1, [⟨31, 22, .rsv, 0x0⟩, ⟨21, 2, .rw, 0x0⟩, ⟨1, 0, .rsv, 0x0⟩]⟩,
  ⟨0x0004, 0x0, 1, [⟨31, 0, .rw, 0x0⟩]⟩,
  ⟨0x0008, 0x0, 1, [⟨31, 0, .rw, 0x0⟩]⟩,
  ⟨0x000C, 0x0, 1, [⟨31, 2, .rsv, 0x0⟩, ⟨1, 0, .wo, 0x0⟩]⟩,
  ⟨0x0010, 0x0, 1, [⟨31, 0, .ro, 0x0⟩]⟩,
  ⟨0x0014, 0x0, 1, [⟨31, 31, .ro, 0x0⟩, ⟨30, 30, .ro, 0x0⟩, ⟨29, 29, .ro, 0x0⟩, ⟨28, 0, .rsv, 0x0⟩]⟩,
  ⟨0x0018, 0x0, 1, [⟨31, 31, .w1c, 0x0⟩, ⟨30, 22, .rsv, 0x0⟩, ⟨21, 2, .ro, 0x0⟩, ⟨1, 0, .rsv, 0x0⟩]⟩,
  ⟨0x001C, 0x0, 1, [⟨31, 16, .rc, 0x0⟩, ⟨15, 0, .rc, 0x0⟩]⟩]

/-- Registers of block MEM (spec/15_shuttle_and_memory.md). -/
def regsMEM : List RegRow := [
  ⟨0x0000, 0x0, 1, [⟨31, 31, .ro, 0x0⟩, ⟨30, 24, .rsv, 0x0⟩, ⟨23, 16, .ro, 0x0⟩, ⟨15, 12, .ro, 0x0⟩, ⟨11, 8, .rsv, 0x0⟩, ⟨7, 0, .ro, 0x0⟩]⟩,
  ⟨0x0004, 0x0, 1, [⟨31, 0, .ro, 0x0⟩]⟩,
  ⟨0x0008, 0x0, 1, [⟨31, 16, .rsv, 0x0⟩, ⟨15, 8, .rws, 0x4⟩, ⟨7, 0, .rws, 0x18⟩]⟩,
  ⟨0x000C, 0x0, 1, [⟨31, 16, .roe, 0x0⟩, ⟨15, 7, .rsv, 0x0⟩, ⟨6, 0, .roe, 0x0⟩]⟩,
  ⟨0x0020, 0x4, 8, [⟨31, 0, .rc, 0x0⟩]⟩,
  ⟨0x0040, 0x0, 1, [⟨31, 0, .rc, 0x0⟩]⟩,
  ⟨0x0044, 0x0, 1, [⟨31, 6, .ro, 0x0⟩, ⟨5, 0, .rsv, 0x0⟩]⟩,
  ⟨0x0048, 0x0, 1, [⟨31, 0, .ro, 0x0⟩]⟩,
  ⟨0x0060, 0x4, 8, [⟨31, 29, .rsv, 0x0⟩, ⟨28, 16, .ro, 0x0⟩, ⟨15, 13, .rsv, 0x0⟩, ⟨12, 0, .ro, 0x1e00⟩]⟩]

/-- Registers of block LNK (spec/16_lanes_and_huaroten_link.md). -/
def regsLNK : List RegRow := [
  ⟨0x0000, 0x0, 1, [⟨31, 8, .rsv, 0x0⟩, ⟨7, 0, .rws, 0x40⟩]⟩,
  ⟨0x0010, 0x4, 4, [⟨31, 30, .ro, 0x1⟩, ⟨29, 28, .ro, 0x0⟩, ⟨27, 27, .ro, 0x0⟩, ⟨26, 26, .ro, 0x0⟩, ⟨25, 0, .rsv, 0x0⟩]⟩,
  ⟨0x0020, 0x0, 1, [⟨31, 16, .rc, 0x0⟩, ⟨15, 0, .rc, 0x0⟩]⟩,
  ⟨0x0100, 0x20, 16, [⟨31, 31, .rw, 0x0⟩, ⟨30, 30, .w1s, 0x0⟩, ⟨29, 0, .rsv, 0x0⟩]⟩,
  ⟨0x0104, 0x20, 16, [⟨31, 28, .ro, 0x0⟩, ⟨27, 27, .ro, 0x0⟩, ⟨26, 23, .ro, 0x0⟩, ⟨22, 19, .ro, 0x0⟩, ⟨18, 11, .ro, 0x0⟩, ⟨10, 7, .ro, 0x0⟩, ⟨6, 4, .ro, 0x0⟩, ⟨3, 0, .ro, 0x0⟩]⟩,
  ⟨0x0108, 0x20, 16, [⟨31, 16, .rc, 0x0⟩, ⟨15, 8, .rc, 0x0⟩, ⟨7, 0, .rc, 0x0⟩]⟩,
  ⟨0x0400, 0x20, 16, [⟨31, 31, .ro, 0x0⟩, ⟨30, 30, .ro, 0x0⟩, ⟨29, 28, .ro, 0x0⟩, ⟨27, 27, .ro, 0x0⟩, ⟨26, 23, .ro, 0x0⟩, ⟨22, 18, .ro, 0x0⟩, ⟨17, 16, .rsv, 0x0⟩, ⟨15, 0, .ro, 0x0⟩]⟩,
  ⟨0x0404, 0x20, 16, [⟨31, 0, .ro, 0x0⟩]⟩,
  ⟨0x0408, 0x20, 16, [⟨31, 16, .rws, 0x64⟩, ⟨15, 0, .rws, 0x3e8⟩]⟩,
  ⟨0x040C, 0x20, 16, [⟨31, 16, .ro, 0x0⟩, ⟨15, 0, .ro, 0x0⟩]⟩,
  ⟨0x0410, 0x20, 16, [⟨31, 16, .ro, 0x0⟩, ⟨15, 0, .ro, 0x0⟩]⟩,
  ⟨0x0414, 0x20, 16, [⟨31, 16, .rc, 0x0⟩, ⟨15, 0, .rc, 0x0⟩]⟩,
  ⟨0x0418, 0x20, 16, [⟨31, 16, .rc, 0x0⟩, ⟨15, 0, .rc, 0x0⟩]⟩]

/-- Registers of block SUP (spec/17_supervisory_measurement_and_thermal.md). -/
def regsSUP : List RegRow := [
  ⟨0x0000, 0x0, 1, [⟨31, 31, .rws, 0x0⟩, ⟨30, 17, .rsv, 0x0⟩, ⟨16, 0, .rws, 0x4e20⟩]⟩,
  ⟨0x0004, 0x0, 1, [⟨31, 31, .roe, 0x0⟩, ⟨30, 30, .roe, 0x0⟩, ⟨29, 16, .rsv, 0x0⟩, ⟨15, 0, .roe, 0x0⟩]⟩,
  ⟨0x0008, 0x0, 1, [⟨31, 0, .ro, 0x0⟩]⟩,
  ⟨0x0010, 0x0, 1, [⟨31, 31, .rws, 0x0⟩, ⟨30, 30, .rws, 0x0⟩, ⟨29, 15, .rws, 0x0⟩, ⟨14, 0, .rws, 0x0⟩]⟩,
  ⟨0x0020, 0x4, 4, [⟨31, 31, .rws, 0x0⟩, ⟨30, 7, .rsv, 0x0⟩, ⟨6, 0, .rws, 0x1⟩]⟩,
  ⟨0x0030, 0x0, 1, [⟨31, 0, .w1s, 0x0⟩]⟩,
  ⟨0x0100, 0x4, 32, [⟨31, 31, .rws, 0x0⟩, ⟨30, 30, .rws, 0x0⟩, ⟨29, 27, .rws, 0x0⟩, ⟨26, 26, .rws, 0x0⟩, ⟨25, 24, .rws, 0x0⟩, ⟨23, 21, .rws, 0x0⟩, ⟨20, 20, .rws, 0x0⟩, ⟨19, 17, .rws, 0x0⟩, ⟨16, 8, .rsv, 0x0⟩, ⟨7, 0, .rws, 0x40⟩]⟩,
  ⟨0x0200, 0x4, 32, [⟨31, 8, .roe, 0x0⟩, ⟨7, 7, .roe, 0x0⟩, ⟨6, 6, .roe, 0x0⟩, ⟨5, 5, .roe, 0x0⟩, ⟨4, 4, .roe, 0x0⟩, ⟨3, 0, .rsv, 0x0⟩]⟩,
  ⟨0x0280, 0x4, 32, [⟨31, 24, .rsv, 0x0⟩, ⟨23, 0, .ro, 0x0⟩]⟩,
  ⟨0x0300, 0x4, 32, [⟨31, 8, .roe, 0x7fffff⟩, ⟨7, 0, .rsv, 0x0⟩]⟩,
  ⟨0x0380, 0x4, 32, [⟨31, 8, .roe, 0x800000⟩, ⟨7, 0, .rsv, 0x0⟩]⟩,
  ⟨0x0400, 0x8, 32, [⟨31, 0, .roe, 0x0⟩]⟩,
  ⟨0x0404, 0x8, 32, [⟨31, 0, .roe, 0x0⟩]⟩,
  ⟨0x0500, 0x4, 32, [⟨31, 0, .roe, 0x0⟩]⟩,
  ⟨0x0600, 0x10, 16, [⟨31, 31, .rws, 0x0⟩, ⟨30, 30, .rws, 0x0⟩, ⟨29, 29, .rws, 0x0⟩, ⟨28, 24, .rws, 0x0⟩, ⟨23, 19, .rws, 0x0⟩, ⟨18, 18, .rws, 0x0⟩, ⟨17, 12, .rws, 0x1⟩, ⟨11, 0, .rws, 0x0⟩]⟩,
  ⟨0x0604, 0x10, 16, [⟨31, 8, .rws, 0x800000⟩, ⟨7, 0, .rsv, 0x0⟩]⟩,
  ⟨0x0608, 0x10, 16, [⟨31, 8, .rws, 0x7fffff⟩, ⟨7, 0, .rsv, 0x0⟩]⟩,
  ⟨0x0700, 0x0, 1, [⟨31, 16, .rc, 0x0⟩, ⟨15, 0, .rc, 0x0⟩]⟩,
  ⟨0x0800, 0x8, 4, [⟨31, 31, .rws, 0x0⟩, ⟨30, 26, .rws, 0x0⟩, ⟨25, 16, .rsv, 0x0⟩, ⟨15, 0, .rws, 0x0⟩]⟩,
  ⟨0x0804, 0x8, 4, [⟨31, 16, .rws, 0x0⟩, ⟨15, 0, .rws, 0x0⟩]⟩]

/-- Registers of block THM (spec/17_supervisory_measurement_and_thermal.md). -/
def regsTHM : List RegRow := [
  ⟨0x0000, 0x0, 1, [⟨31, 24, .rws, 0xff⟩, ⟨23, 16, .rws, 0xff⟩, ⟨15, 8, .rws, 0xf⟩, ⟨7, 0, .rsv, 0x0⟩]⟩,
  ⟨0x0004, 0x0, 1, [⟨31, 24, .ro, 0x0⟩, ⟨23, 16, .ro, 0x0⟩, ⟨15, 8, .ro, 0x0⟩, ⟨7, 0, .ro, 0x0⟩]⟩,
  ⟨0x0008, 0x0, 1, [⟨31, 20, .roe, 0x0⟩, ⟨19, 13, .roe, 0x0⟩, ⟨12, 10, .roe, 0x0⟩, ⟨9, 9, .roe, 0x0⟩, ⟨8, 7, .rsv, 0x0⟩, ⟨6, 0, .roe, 0x0⟩]⟩,
  ⟨0x0100, 0x4, 104, [⟨31, 20, .roe, 0x0⟩, ⟨19, 19, .roe, 0x0⟩, ⟨18, 16, .rsv, 0x0⟩, ⟨15, 0, .roe, 0x0⟩]⟩,
  ⟨0x0300, 0x0, 1, [⟨31, 0, .rc, 0x0⟩]⟩,
  ⟨0x0304, 0x0, 1, [⟨31, 31, .ro, 0x0⟩, ⟨30, 20, .rsv, 0x0⟩, ⟨19, 13, .ro, 0x0⟩, ⟨12, 12, .rsv, 0x0⟩, ⟨11, 0, .ro, 0x0⟩]⟩]

/-- Registers of block LPE (spec/18_loupe_recorder.md). -/
def regsLPE : List RegRow := [
  ⟨0x0000, 0x0, 1, [⟨31, 31, .rws, 0x0⟩, ⟨30, 30, .w1s, 0x0⟩, ⟨29, 16, .rsv, 0x0⟩, ⟨15, 8, .rws, 0x0⟩, ⟨7, 0, .rsv, 0x0⟩]⟩,
  ⟨0x0004, 0x0, 1, [⟨31, 30, .ro, 0x0⟩, ⟨29, 27, .ro, 0x0⟩, ⟨26, 16, .rsv, 0x0⟩, ⟨15, 0, .ro, 0x0⟩]⟩,
  ⟨0x0010, 0x0, 1, [⟨31, 12, .rw, 0x0⟩, ⟨11, 0, .rsv, 0x0⟩]⟩,
  ⟨0x0014, 0x0, 1, [⟨31, 0, .rw, 0x0⟩]⟩,
  ⟨0x0018, 0x0, 1, [⟨31, 5, .rsv, 0x0⟩, ⟨4, 0, .rw, 0xc⟩]⟩,
  ⟨0x001C, 0x0, 1, [⟨31, 24, .rsv, 0x0⟩, ⟨23, 0, .ro, 0x0⟩]⟩,
  ⟨0x0020, 0x0, 1, [⟨31, 24, .rsv, 0x0⟩, ⟨23, 0, .rw, 0x0⟩]⟩,
  ⟨0x0030, 0x0, 1, [⟨31, 16, .rws, 0x9⟩, ⟨15, 8, .rws, 0x0⟩, ⟨7, 0, .rsv, 0x0⟩]⟩,
  ⟨0x0034, 0x0, 1, [⟨31, 16, .rws, 0x40⟩, ⟨15, 11, .rsv, 0x0⟩, ⟨10, 0, .rws, 0x10⟩]⟩,
  ⟨0x0040, 0x0, 1, [⟨31, 0, .rws, 0xffffffff⟩]⟩,
  ⟨0x0044, 0x0, 1, [⟨31, 0, .rws, 0xffffffff⟩]⟩,
  ⟨0x0050, 0x4, 8, [⟨31, 31, .rws, 0x0⟩, ⟨30, 8, .rsv, 0x0⟩, ⟨7, 0, .rws, 0x0⟩]⟩,
  ⟨0x0100, 0x20, 4, [⟨31, 31, .rws, 0x0⟩, ⟨30, 30, .rws, 0x0⟩, ⟨29, 3, .rsv, 0x0⟩, ⟨2, 0, .rws, 0x0⟩]⟩,
  ⟨0x0104, 0x20, 4, [⟨31, 0, .rws, 0x0⟩]⟩,
  ⟨0x0108, 0x20, 4, [⟨31, 0, .rws, 0x0⟩]⟩,
  ⟨0x010C, 0x20, 4, [⟨31, 0, .rws, 0x0⟩]⟩,
  ⟨0x0110, 0x20, 4, [⟨31, 0, .rws, 0x0⟩]⟩,
  ⟨0x0200, 0x10, 4, [⟨31, 31, .rws, 0x0⟩, ⟨30, 29, .rws, 0x1⟩, ⟨28, 11, .rsv, 0x0⟩, ⟨10, 8, .rws, 0x0⟩, ⟨7, 3, .rsv, 0x0⟩, ⟨2, 0, .rws, 0x0⟩]⟩,
  ⟨0x0204, 0x10, 4, [⟨31, 0, .rws, 0x0⟩]⟩,
  ⟨0x0208, 0x10, 4, [⟨31, 0, .rws, 0x0⟩]⟩,
  ⟨0x0300, 0x0, 1, [⟨31, 16, .rc, 0x0⟩, ⟨15, 0, .rc, 0x0⟩]⟩,
  ⟨0x0304, 0x0, 1, [⟨31, 0, .rc, 0x0⟩]⟩]

/-- Registers of block IND (spec/19_operator_interface.md). -/
def regsIND : List RegRow := [
  ⟨0x0000, 0x0, 1, [⟨31, 31, .rws, 0x0⟩, ⟨30, 23, .rsv, 0x0⟩, ⟨22, 16, .rws, 0x0⟩, ⟨15, 8, .rsv, 0x0⟩, ⟨7, 0, .rws, 0x14⟩]⟩,
  ⟨0x0004, 0x0, 1, [⟨31, 31, .roe, 0x0⟩, ⟨30, 8, .rsv, 0x0⟩, ⟨7, 0, .roe, 0x0⟩]⟩,
  ⟨0x0008, 0x0, 1, [⟨31, 0, .rc, 0x0⟩]⟩,
  ⟨0x0100, 0x4, 64, [⟨31, 24, .rws, 0x0⟩, ⟨23, 16, .rws, 0x0⟩, ⟨15, 8, .rws, 0x0⟩, ⟨7, 0, .rws, 0x0⟩]⟩,
  ⟨0x0200, 0x8, 12, [⟨31, 31, .rws, 0x0⟩, ⟨30, 30, .rws, 0x0⟩, ⟨29, 22, .rsv, 0x0⟩, ⟨21, 16, .rws, 0x0⟩, ⟨15, 8, .rws, 0x0⟩, ⟨7, 0, .rws, 0x0⟩]⟩,
  ⟨0x0204, 0x8, 12, [⟨31, 24, .rws, 0xc⟩, ⟨23, 16, .rws, 0xdc⟩, ⟨15, 8, .rsv, 0x0⟩, ⟨7, 0, .ro, 0x0⟩]⟩,
  ⟨0x0300, 0x0, 1, [⟨31, 24, .rsv, 0x0⟩, ⟨23, 12, .roe, 0x0⟩, ⟨11, 0, .roe, 0x0⟩]⟩,
  ⟨0x0304, 0x0, 1, [⟨31, 24, .rsv, 0x0⟩, ⟨23, 12, .roe, 0x0⟩, ⟨11, 0, .roe, 0x0⟩]⟩,
  ⟨0x0340, 0x0, 1, [⟨31, 30, .wo, 0x0⟩, ⟨29, 4, .rsv, 0x0⟩, ⟨3, 0, .wo, 0x0⟩]⟩,
  ⟨0x0344, 0x0, 1, [⟨31, 1, .rsv, 0x0⟩, ⟨0, 0, .w1c, 0x0⟩]⟩,
  ⟨0x0400, 0x0, 1, [⟨31, 24, .rws, 0xa⟩, ⟨23, 16, .rws, 0x5⟩, ⟨15, 0, .rsv, 0x0⟩]⟩,
  ⟨0x0404, 0x0, 1, [⟨31, 31, .ro, 0x0⟩, ⟨30, 30, .ro, 0x0⟩, ⟨29, 29, .ro, 0x0⟩, ⟨28, 16, .rsv, 0x0⟩, ⟨15, 0, .rc, 0x0⟩]⟩,
  ⟨0x0410, 0x0, 1, [⟨31, 31, .rw, 0x0⟩, ⟨30, 0, .rsv, 0x0⟩]⟩]

end Sys2Proof.Machine
end

