-- ==== Sys2Proof/Machine/FieldsCtl.lean ====
section
/-! DEFINITION. Field handles of the blocks HED, EMD, SEL, SAF and TRD. A handle names a field by
its BAR0 address and its bits; `X.addr` is the address of register X. -/

namespace Sys2Proof.Machine

/-- Address of HED_CTL (spec/07_firing_and_emitter_safety.md). -/
def HED_CTL.addr : Nat := 0x80000
def HED_CTL.FIRE_EN : Fld := ⟨HED_CTL.addr, 31, 31⟩
/-- Address of HED_STAT (spec/07_firing_and_emitter_safety.md). -/
def HED_STAT.addr : Nat := 0x80004
def HED_STAT.TABLE_VALID : Fld := ⟨HED_STAT.addr, 31, 31⟩
def HED_STAT.DIAG_EN : Fld := ⟨HED_STAT.addr, 30, 30⟩
def HED_STAT.RUNNING : Fld := ⟨HED_STAT.addr, 29, 29⟩
def HED_STAT.ENTRIES : Fld := ⟨HED_STAT.addr, 9, 0⟩
/-- Address of HED_CELL_CTL (spec/07_firing_and_emitter_safety.md). -/
def HED_CELL_CTL.addr : Nat := 0x80008
def HED_CELL_CTL.MEMBER : Fld := ⟨HED_CELL_CTL.addr, 31, 28⟩
def HED_CELL_CTL.SLOT : Fld := ⟨HED_CELL_CTL.addr, 23, 0⟩
/-- Address of HED_SHOTS (spec/07_firing_and_emitter_safety.md). -/
def HED_SHOTS.addr : Nat := 0x80010
def HED_SHOTS.EMITTED : Fld := ⟨HED_SHOTS.addr, 31, 0⟩
/-- Address of HED_SUPP (spec/07_firing_and_emitter_safety.md). -/
def HED_SUPP.addr : Nat := 0x80014
def HED_SUPP.GOV : Fld := ⟨HED_SUPP.addr, 31, 16⟩
def HED_SUPP.OTHER : Fld := ⟨HED_SUPP.addr, 15, 0⟩
/-- Address of HED_LISTEN (spec/07_firing_and_emitter_safety.md). -/
def HED_LISTEN.addr : Nat := 0x80018
def HED_LISTEN.COUNT : Fld := ⟨HED_LISTEN.addr, 31, 0⟩
/-- Address of HED_PAUSE (spec/07_firing_and_emitter_safety.md). -/
def HED_PAUSE.addr : Nat := 0x8001C
def HED_PAUSE.TCLK : Fld := ⟨HED_PAUSE.addr, 31, 0⟩
/-- Address of HED_TAB_SEL (spec/07_firing_and_emitter_safety.md). -/
def HED_TAB_SEL.addr : Nat := 0x80020
def HED_TAB_SEL.WORD : Fld := ⟨HED_TAB_SEL.addr, 13, 12⟩
def HED_TAB_SEL.ENTRY : Fld := ⟨HED_TAB_SEL.addr, 8, 0⟩
/-- Address of HED_TAB_DATA (spec/07_firing_and_emitter_safety.md). -/
def HED_TAB_DATA.addr : Nat := 0x80024
def HED_TAB_DATA.DATA : Fld := ⟨HED_TAB_DATA.addr, 31, 0⟩
/-- Address of HED_CODE_A (spec/07_firing_and_emitter_safety.md). -/
def HED_CODE_A.addr (i : Nat) : Nat := 0x81000 + 0x10 * i
def HED_CODE_A.NSUB_M1 (i : Nat) : Fld := ⟨HED_CODE_A.addr i, 31, 30⟩
def HED_CODE_A.FINE (i : Nat) : Fld := ⟨HED_CODE_A.addr i, 29, 26⟩
def HED_CODE_A.WIDTH (i : Nat) : Fld := ⟨HED_CODE_A.addr i, 25, 18⟩
def HED_CODE_A.OFS1 (i : Nat) : Fld := ⟨HED_CODE_A.addr i, 8, 0⟩
/-- Address of HED_CODE_B (spec/07_firing_and_emitter_safety.md). -/
def HED_CODE_B.addr (i : Nat) : Nat := 0x81004 + 0x10 * i
def HED_CODE_B.OFS3 (i : Nat) : Fld := ⟨HED_CODE_B.addr i, 24, 16⟩
def HED_CODE_B.OFS2 (i : Nat) : Fld := ⟨HED_CODE_B.addr i, 8, 0⟩
/-- Address of HED_DITH (spec/07_firing_and_emitter_safety.md). -/
def HED_DITH.addr (i : Nat) : Nat := 0x81008 + 0x10 * i
def HED_DITH.EN (i : Nat) : Fld := ⟨HED_DITH.addr i, 31, 31⟩
def HED_DITH.DMAX (i : Nat) : Fld := ⟨HED_DITH.addr i, 25, 16⟩
def HED_DITH.SEED (i : Nat) : Fld := ⟨HED_DITH.addr i, 15, 0⟩
/-- Address of EMD_CTL (spec/07_firing_and_emitter_safety.md). -/
def EMD_CTL.addr : Nat := 0x90000
def EMD_CTL.OPEN_N : Fld := ⟨EMD_CTL.addr, 11, 8⟩
/-- Address of EMD_STAT (spec/07_firing_and_emitter_safety.md). -/
def EMD_STAT.addr : Nat := 0x90004
def EMD_STAT.CEIL_UNSET : Fld := ⟨EMD_STAT.addr, 31, 31⟩
def EMD_STAT.GOV_RAMP : Fld := ⟨EMD_STAT.addr, 30, 30⟩
def EMD_STAT.STUCK_ON : Fld := ⟨EMD_STAT.addr, 29, 29⟩
def EMD_STAT.MPD_FAULT : Fld := ⟨EMD_STAT.addr, 23, 0⟩
/-- Address of EMD_OPEN (spec/07_firing_and_emitter_safety.md). -/
def EMD_OPEN.addr (i : Nat) : Nat := 0x90010 + 0x4 * i
def EMD_OPEN.OPEN (i : Nat) : Fld := ⟨EMD_OPEN.addr i, 31, 0⟩
/-- Address of EMD_SHORT (spec/07_firing_and_emitter_safety.md). -/
def EMD_SHORT.addr (i : Nat) : Nat := 0x90020 + 0x4 * i
def EMD_SHORT.SHORT (i : Nat) : Fld := ⟨EMD_SHORT.addr i, 31, 0⟩
/-- Address of EMD_SHUT (spec/07_firing_and_emitter_safety.md). -/
def EMD_SHUT.addr (i : Nat) : Nat := 0x90030 + 0x4 * i
def EMD_SHUT.SHUT (i : Nat) : Fld := ⟨EMD_SHUT.addr i, 31, 0⟩
/-- Address of EMD_OVER (spec/07_firing_and_emitter_safety.md). -/
def EMD_OVER.addr (i : Nat) : Nat := 0x90040 + 0x4 * i
def EMD_OVER.OVER (i : Nat) : Fld := ⟨EMD_OVER.addr i, 31, 0⟩
/-- Address of EMD_CMD (spec/07_firing_and_emitter_safety.md). -/
def EMD_CMD.addr : Nat := 0x90050
def EMD_CMD.ACTION : Fld := ⟨EMD_CMD.addr, 31, 30⟩
def EMD_CMD.INDEX : Fld := ⟨EMD_CMD.addr, 6, 0⟩
/-- Address of EMD_ERR (spec/07_firing_and_emitter_safety.md). -/
def EMD_ERR.addr : Nat := 0x90054
def EMD_ERR.CMD_ERR : Fld := ⟨EMD_ERR.addr, 0, 0⟩
/-- Address of EMD_GRP_SEL (spec/07_firing_and_emitter_safety.md). -/
def EMD_GRP_SEL.addr : Nat := 0x90060
def EMD_GRP_SEL.WIN : Fld := ⟨EMD_GRP_SEL.addr, 9, 8⟩
def EMD_GRP_SEL.GROUP : Fld := ⟨EMD_GRP_SEL.addr, 4, 0⟩
/-- Address of EMD_GRP_SUM_LO (spec/07_firing_and_emitter_safety.md). -/
def EMD_GRP_SUM_LO.addr : Nat := 0x90064
def EMD_GRP_SUM_LO.SUM : Fld := ⟨EMD_GRP_SUM_LO.addr, 31, 0⟩
/-- Address of EMD_GRP_SUM_HI (spec/07_firing_and_emitter_safety.md). -/
def EMD_GRP_SUM_HI.addr : Nat := 0x90068
def EMD_GRP_SUM_HI.SUM : Fld := ⟨EMD_GRP_SUM_HI.addr, 31, 0⟩
/-- Address of EMD_GRP_SUPP (spec/07_firing_and_emitter_safety.md). -/
def EMD_GRP_SUPP.addr : Nat := 0x9006C
def EMD_GRP_SUPP.COUNT : Fld := ⟨EMD_GRP_SUPP.addr, 31, 0⟩
/-- Address of EMD_WIN_CFG (spec/07_firing_and_emitter_safety.md). -/
def EMD_WIN_CFG.addr (i : Nat) : Nat := 0x90100 + 0x10 * i
def EMD_WIN_CFG.EN (i : Nat) : Fld := ⟨EMD_WIN_CFG.addr i, 31, 31⟩
def EMD_WIN_CFG.BKT (i : Nat) : Fld := ⟨EMD_WIN_CFG.addr i, 20, 0⟩
/-- Address of EMD_WIN_LIM_LO (spec/07_firing_and_emitter_safety.md). -/
def EMD_WIN_LIM_LO.addr (i : Nat) : Nat := 0x90104 + 0x10 * i
def EMD_WIN_LIM_LO.LIM (i : Nat) : Fld := ⟨EMD_WIN_LIM_LO.addr i, 31, 0⟩
/-- Address of EMD_WIN_LIM_HI (spec/07_firing_and_emitter_safety.md). -/
def EMD_WIN_LIM_HI.addr (i : Nat) : Nat := 0x90108 + 0x10 * i
def EMD_WIN_LIM_HI.LIM (i : Nat) : Fld := ⟨EMD_WIN_LIM_HI.addr i, 15, 0⟩
/-- Address of EMD_CEIL_CFG (spec/07_firing_and_emitter_safety.md). -/
def EMD_CEIL_CFG.addr : Nat := 0x90140
def EMD_CEIL_CFG.BKT : Fld := ⟨EMD_CEIL_CFG.addr, 20, 0⟩
/-- Address of EMD_CEIL_LIM_LO (spec/07_firing_and_emitter_safety.md). -/
def EMD_CEIL_LIM_LO.addr : Nat := 0x90144
def EMD_CEIL_LIM_LO.LIM : Fld := ⟨EMD_CEIL_LIM_LO.addr, 31, 0⟩
/-- Address of EMD_CEIL_LIM_HI (spec/07_firing_and_emitter_safety.md). -/
def EMD_CEIL_LIM_HI.addr : Nat := 0x90148
def EMD_CEIL_LIM_HI.LIM : Fld := ⟨EMD_CEIL_LIM_HI.addr, 15, 0⟩
/-- Address of EMD_CEIL_SHOT (spec/07_firing_and_emitter_safety.md). -/
def EMD_CEIL_SHOT.addr : Nat := 0x9014C
def EMD_CEIL_SHOT.E_CEIL : Fld := ⟨EMD_CEIL_SHOT.addr, 15, 0⟩
/-- Address of EMD_OUT_E (spec/07_firing_and_emitter_safety.md). -/
def EMD_OUT_E.addr (i : Nat) : Nat := 0x91000 + 0x4 * i
def EMD_OUT_E.E_DECL (i : Nat) : Fld := ⟨EMD_OUT_E.addr i, 31, 16⟩
def EMD_OUT_E.E_LOW (i : Nat) : Fld := ⟨EMD_OUT_E.addr i, 15, 0⟩
/-- Address of EMD_ISN_THR (spec/07_firing_and_emitter_safety.md). -/
def EMD_ISN_THR.addr (i : Nat) : Nat := 0x91200 + 0x4 * i
def EMD_ISN_THR.ISN_THR (i : Nat) : Fld := ⟨EMD_ISN_THR.addr i, 7, 0⟩
/-- Address of EMD_MPD_GAIN (spec/07_firing_and_emitter_safety.md). -/
def EMD_MPD_GAIN.addr (i : Nat) : Nat := 0x91300 + 0x4 * i
def EMD_MPD_GAIN.GAIN (i : Nat) : Fld := ⟨EMD_MPD_GAIN.addr i, 15, 0⟩
/-- Address of SEL_CTL (spec/11_fields_and_speed_monitoring.md). -/
def SEL_CTL.addr : Nat := 0xA0000
def SEL_CTL.M_M1 : Fld := ⟨SEL_CTL.addr, 29, 28⟩
def SEL_CTL.FSEL_TO : Fld := ⟨SEL_CTL.addr, 27, 20⟩
/-- Address of SEL_FSET_STAT (spec/11_fields_and_speed_monitoring.md). -/
def SEL_FSET_STAT.addr : Nat := 0xA0004
def SEL_FSET_STAT.ACTIVE : Fld := ⟨SEL_FSET_STAT.addr, 31, 26⟩
def SEL_FSET_STAT.PENDING : Fld := ⟨SEL_FSET_STAT.addr, 25, 20⟩
def SEL_FSET_STAT.LOAD : Fld := ⟨SEL_FSET_STAT.addr, 19, 18⟩
def SEL_FSET_STAT.SRC : Fld := ⟨SEL_FSET_STAT.addr, 17, 17⟩
def SEL_FSET_STAT.ILLEGAL : Fld := ⟨SEL_FSET_STAT.addr, 16, 16⟩
def SEL_FSET_STAT.CODE : Fld := ⟨SEL_FSET_STAT.addr, 15, 8⟩
/-- Address of SEL_PF_LO (spec/11_fields_and_speed_monitoring.md). -/
def SEL_PF_LO.addr : Nat := 0xA0010
def SEL_PF_LO.ZONES : Fld := ⟨SEL_PF_LO.addr, 31, 0⟩
/-- Address of SEL_PF_HI (spec/11_fields_and_speed_monitoring.md). -/
def SEL_PF_HI.addr : Nat := 0xA0014
def SEL_PF_HI.ZONES : Fld := ⟨SEL_PF_HI.addr, 31, 0⟩
/-- Address of SEL_WF1_LO (spec/11_fields_and_speed_monitoring.md). -/
def SEL_WF1_LO.addr : Nat := 0xA0018
def SEL_WF1_LO.ZONES : Fld := ⟨SEL_WF1_LO.addr, 31, 0⟩
/-- Address of SEL_WF1_HI (spec/11_fields_and_speed_monitoring.md). -/
def SEL_WF1_HI.addr : Nat := 0xA001C
def SEL_WF1_HI.ZONES : Fld := ⟨SEL_WF1_HI.addr, 31, 0⟩
/-- Address of SEL_WF2_LO (spec/11_fields_and_speed_monitoring.md). -/
def SEL_WF2_LO.addr : Nat := 0xA0020
def SEL_WF2_LO.ZONES : Fld := ⟨SEL_WF2_LO.addr, 31, 0⟩
/-- Address of SEL_WF2_HI (spec/11_fields_and_speed_monitoring.md). -/
def SEL_WF2_HI.addr : Nat := 0xA0024
def SEL_WF2_HI.ZONES : Fld := ⟨SEL_WF2_HI.addr, 31, 0⟩
/-- Address of SEL_FRAME (spec/11_fields_and_speed_monitoring.md). -/
def SEL_FRAME.addr : Nat := 0xA0030
def SEL_FRAME.UNSEEN : Fld := ⟨SEL_FRAME.addr, 31, 15⟩
def SEL_FRAME.CRC_FAIL : Fld := ⟨SEL_FRAME.addr, 14, 14⟩
def SEL_FRAME.FORCED : Fld := ⟨SEL_FRAME.addr, 13, 13⟩
/-- Address of SEL_RET_CNT (spec/11_fields_and_speed_monitoring.md). -/
def SEL_RET_CNT.addr : Nat := 0xA0034
def SEL_RET_CNT.SHADOW : Fld := ⟨SEL_RET_CNT.addr, 31, 16⟩
def SEL_RET_CNT.IGNORED : Fld := ⟨SEL_RET_CNT.addr, 15, 0⟩
/-- Address of SEL_ZONE_SEL (spec/11_fields_and_speed_monitoring.md). -/
def SEL_ZONE_SEL.addr : Nat := 0xA0040
def SEL_ZONE_SEL.ZONE : Fld := ⟨SEL_ZONE_SEL.addr, 5, 0⟩
/-- Address of SEL_ZONE_DATA (spec/11_fields_and_speed_monitoring.md). -/
def SEL_ZONE_DATA.addr : Nat := 0xA0044
def SEL_ZONE_DATA.DMIN : Fld := ⟨SEL_ZONE_DATA.addr, 31, 16⟩
def SEL_ZONE_DATA.CLASS : Fld := ⟨SEL_ZONE_DATA.addr, 15, 13⟩
def SEL_ZONE_DATA.PF : Fld := ⟨SEL_ZONE_DATA.addr, 12, 12⟩
def SEL_ZONE_DATA.WF1 : Fld := ⟨SEL_ZONE_DATA.addr, 11, 11⟩
def SEL_ZONE_DATA.WF2 : Fld := ⟨SEL_ZONE_DATA.addr, 10, 10⟩
/-- Address of SEL_CHAZ (spec/11_fields_and_speed_monitoring.md). -/
def SEL_CHAZ.addr (i : Nat) : Nat := 0xA0050 + 0x4 * i
def SEL_CHAZ.AZOFS_ODD (i : Nat) : Fld := ⟨SEL_CHAZ.addr i, 31, 16⟩
def SEL_CHAZ.AZOFS_EVEN (i : Nat) : Fld := ⟨SEL_CHAZ.addr i, 15, 0⟩
/-- Address of SEL_FS_BASE_LO (spec/11_fields_and_speed_monitoring.md). -/
def SEL_FS_BASE_LO.addr : Nat := 0xA0060
def SEL_FS_BASE_LO.BASE : Fld := ⟨SEL_FS_BASE_LO.addr, 31, 0⟩
/-- Address of SEL_FS_BASE_HI (spec/11_fields_and_speed_monitoring.md). -/
def SEL_FS_BASE_HI.addr : Nat := 0xA0064
def SEL_FS_BASE_HI.BASE : Fld := ⟨SEL_FS_BASE_HI.addr, 31, 0⟩
/-- Address of SEL_CNT (spec/11_fields_and_speed_monitoring.md). -/
def SEL_CNT.addr : Nat := 0xA0070
def SEL_CNT.ILLEGAL : Fld := ⟨SEL_CNT.addr, 31, 16⟩
def SEL_CNT.LOAD_ABORT : Fld := ⟨SEL_CNT.addr, 15, 0⟩
/-- Address of SEL_TEACH_CTL (spec/11_fields_and_speed_monitoring.md). -/
def SEL_TEACH_CTL.addr : Nat := 0xA0080
def SEL_TEACH_CTL.START : Fld := ⟨SEL_TEACH_CTL.addr, 31, 31⟩
def SEL_TEACH_CTL.ABORT : Fld := ⟨SEL_TEACH_CTL.addr, 30, 30⟩
def SEL_TEACH_CTL.FRAMES : Fld := ⟨SEL_TEACH_CTL.addr, 7, 0⟩
/-- Address of SEL_TEACH_STAT (spec/11_fields_and_speed_monitoring.md). -/
def SEL_TEACH_STAT.addr : Nat := 0xA0084
def SEL_TEACH_STAT.STATE : Fld := ⟨SEL_TEACH_STAT.addr, 31, 30⟩
def SEL_TEACH_STAT.DONE : Fld := ⟨SEL_TEACH_STAT.addr, 7, 0⟩
/-- Address of SAF_OSSD_CFG (spec/11_fields_and_speed_monitoring.md). -/
def SAF_OSSD_CFG.addr : Nat := 0xB0400
def SAF_OSSD_CFG.EN (p : Nat) : Fld := ⟨SAF_OSSD_CFG.addr, 15 + 16 * p, 15 + 16 * p⟩
def SAF_OSSD_CFG.SS1 (p : Nat) : Fld := ⟨SAF_OSSD_CFG.addr, 14 + 16 * p, 14 + 16 * p⟩
def SAF_OSSD_CFG.RESTART (p : Nat) : Fld := ⟨SAF_OSSD_CFG.addr, 13 + 16 * p, 13 + 16 * p⟩
def SAF_OSSD_CFG.EDM_EN (p : Nat) : Fld := ⟨SAF_OSSD_CFG.addr, 12 + 16 * p, 12 + 16 * p⟩
def SAF_OSSD_CFG.TP_EN (p : Nat) : Fld := ⟨SAF_OSSD_CFG.addr, 11 + 16 * p, 11 + 16 * p⟩
def SAF_OSSD_CFG.RESTART_DLY (p : Nat) : Fld := ⟨SAF_OSSD_CFG.addr, 7 + 16 * p, 0 + 16 * p⟩
/-- Address of SAF_OSSD_TIM (spec/11_fields_and_speed_monitoring.md). -/
def SAF_OSSD_TIM.addr : Nat := 0xB0404
def SAF_OSSD_TIM.OFF_MIN : Fld := ⟨SAF_OSSD_TIM.addr, 31, 24⟩
def SAF_OSSD_TIM.EDM_T : Fld := ⟨SAF_OSSD_TIM.addr, 23, 16⟩
def SAF_OSSD_TIM.FB_T : Fld := ⟨SAF_OSSD_TIM.addr, 15, 8⟩
/-- Address of SAF_OSSD_TP (spec/11_fields_and_speed_monitoring.md). -/
def SAF_OSSD_TP.addr : Nat := 0xB0408
def SAF_OSSD_TP.TP_PER : Fld := ⟨SAF_OSSD_TP.addr, 31, 16⟩
def SAF_OSSD_TP.TP_W : Fld := ⟨SAF_OSSD_TP.addr, 5, 0⟩
/-- Address of SAF_OSSD_STAT (spec/11_fields_and_speed_monitoring.md). -/
def SAF_OSSD_STAT.addr : Nat := 0xB0410
def SAF_OSSD_STAT.STATE1 : Fld := ⟨SAF_OSSD_STAT.addr, 31, 29⟩
def SAF_OSSD_STAT.STATE2 : Fld := ⟨SAF_OSSD_STAT.addr, 28, 26⟩
def SAF_OSSD_STAT.FB : Fld := ⟨SAF_OSSD_STAT.addr, 25, 22⟩
def SAF_OSSD_STAT.EDM : Fld := ⟨SAF_OSSD_STAT.addr, 21, 20⟩
def SAF_OSSD_STAT.CAUSE1 : Fld := ⟨SAF_OSSD_STAT.addr, 15, 12⟩
def SAF_OSSD_STAT.CAUSE2 : Fld := ⟨SAF_OSSD_STAT.addr, 11, 8⟩
/-- Address of SAF_AXIS_CFG (spec/11_fields_and_speed_monitoring.md). -/
def SAF_AXIS_CFG.addr (i : Nat) : Nat := 0xB0440 + 0x10 * i
def SAF_AXIS_CFG.EN (i : Nat) : Fld := ⟨SAF_AXIS_CFG.addr i, 31, 31⟩
def SAF_AXIS_CFG.ZEN (i : Nat) : Fld := ⟨SAF_AXIS_CFG.addr i, 30, 30⟩
def SAF_AXIS_CFG.INV (i : Nat) : Fld := ⟨SAF_AXIS_CFG.addr i, 29, 29⟩
def SAF_AXIS_CFG.FILT (i : Nat) : Fld := ⟨SAF_AXIS_CFG.addr i, 28, 25⟩
def SAF_AXIS_CFG.ENC (i : Nat) : Fld := ⟨SAF_AXIS_CFG.addr i, 24, 22⟩
def SAF_AXIS_CFG.T_W (i : Nat) : Fld := ⟨SAF_AXIS_CFG.addr i, 21, 14⟩
/-- Address of SAF_AXIS_LIM (spec/11_fields_and_speed_monitoring.md). -/
def SAF_AXIS_LIM.addr (i : Nat) : Nat := 0xB0444 + 0x10 * i
def SAF_AXIS_LIM.SDI_TOL (i : Nat) : Fld := ⟨SAF_AXIS_LIM.addr i, 31, 20⟩
def SAF_AXIS_LIM.CPR (i : Nat) : Fld := ⟨SAF_AXIS_LIM.addr i, 19, 0⟩
/-- Address of SAF_AXIS_VSS (spec/11_fields_and_speed_monitoring.md). -/
def SAF_AXIS_VSS.addr (i : Nat) : Nat := 0xB0448 + 0x10 * i
def SAF_AXIS_VSS.VSS (i : Nat) : Fld := ⟨SAF_AXIS_VSS.addr i, 31, 0⟩
/-- Address of SAF_AXIS_STAT (spec/11_fields_and_speed_monitoring.md). -/
def SAF_AXIS_STAT.addr (i : Nat) : Nat := 0xB044C + 0x10 * i
def SAF_AXIS_STAT.CLASS (i : Nat) : Fld := ⟨SAF_AXIS_STAT.addr i, 31, 29⟩
def SAF_AXIS_STAT.SLS (i : Nat) : Fld := ⟨SAF_AXIS_STAT.addr i, 28, 28⟩
def SAF_AXIS_STAT.SLP (i : Nat) : Fld := ⟨SAF_AXIS_STAT.addr i, 27, 27⟩
def SAF_AXIS_STAT.SDI (i : Nat) : Fld := ⟨SAF_AXIS_STAT.addr i, 26, 26⟩
def SAF_AXIS_STAT.FAULT (i : Nat) : Fld := ⟨SAF_AXIS_STAT.addr i, 25, 25⟩
def SAF_AXIS_STAT.INDEXED (i : Nat) : Fld := ⟨SAF_AXIS_STAT.addr i, 24, 24⟩
def SAF_AXIS_STAT.RAMP (i : Nat) : Fld := ⟨SAF_AXIS_STAT.addr i, 23, 23⟩
/-- Address of SAF_AXIS_POS (spec/11_fields_and_speed_monitoring.md). -/
def SAF_AXIS_POS.addr (i : Nat) : Nat := 0xB04C0 + 0x8 * i
def SAF_AXIS_POS.POS (i : Nat) : Fld := ⟨SAF_AXIS_POS.addr i, 31, 0⟩
/-- Address of SAF_AXIS_VEL (spec/11_fields_and_speed_monitoring.md). -/
def SAF_AXIS_VEL.addr (i : Nat) : Nat := 0xB04C4 + 0x8 * i
def SAF_AXIS_VEL.VEL (i : Nat) : Fld := ⟨SAF_AXIS_VEL.addr i, 31, 0⟩
/-- Address of SAF_STATE (spec/12_safety_integrity.md). -/
def SAF_STATE.addr : Nat := 0xB0000
def SAF_STATE.STATE : Fld := ⟨SAF_STATE.addr, 31, 28⟩
def SAF_STATE.PREV : Fld := ⟨SAF_STATE.addr, 27, 24⟩
def SAF_STATE.CAUSE : Fld := ⟨SAF_STATE.addr, 23, 16⟩
/-- Address of SAF_STAT (spec/12_safety_integrity.md). -/
def SAF_STAT.addr : Nat := 0xB0004
def SAF_STAT.STATE : Fld := ⟨SAF_STAT.addr, 31, 28⟩
def SAF_STAT.DEG : Fld := ⟨SAF_STAT.addr, 27, 27⟩
def SAF_STAT.LOST : Fld := ⟨SAF_STAT.addr, 26, 26⟩
def SAF_STAT.DEG_TMR : Fld := ⟨SAF_STAT.addr, 13, 0⟩
/-- Address of SAF_CTL (spec/12_safety_integrity.md). -/
def SAF_CTL.addr : Nat := 0xB0010
def SAF_CTL.OP_RESUME : Fld := ⟨SAF_CTL.addr, 31, 31⟩
/-- Address of SAF_DEG_CFG (spec/12_safety_integrity.md). -/
def SAF_DEG_CFG.addr : Nat := 0xB0014
def SAF_DEG_CFG.CAP : Fld := ⟨SAF_DEG_CFG.addr, 31, 16⟩
def SAF_DEG_CFG.T_DEG : Fld := ⟨SAF_DEG_CFG.addr, 15, 0⟩
/-- Address of SAF_CAUSE (spec/12_safety_integrity.md). -/
def SAF_CAUSE.addr : Nat := 0xB0020
def SAF_CAUSE.STOP_CMD : Fld := ⟨SAF_CAUSE.addr, 12, 12⟩
def SAF_CAUSE.DEG_EXPIRED : Fld := ⟨SAF_CAUSE.addr, 11, 11⟩
def SAF_CAUSE.DIAG_OVR : Fld := ⟨SAF_CAUSE.addr, 10, 10⟩
def SAF_CAUSE.MEM : Fld := ⟨SAF_CAUSE.addr, 9, 9⟩
def SAF_CAUSE.SEAL : Fld := ⟨SAF_CAUSE.addr, 8, 8⟩
def SAF_CAUSE.ANGLE : Fld := ⟨SAF_CAUSE.addr, 7, 7⟩
def SAF_CAUSE.THERMAL : Fld := ⟨SAF_CAUSE.addr, 6, 6⟩
def SAF_CAUSE.SUPPLY : Fld := ⟨SAF_CAUSE.addr, 5, 5⟩
def SAF_CAUSE.CLOCK : Fld := ⟨SAF_CAUSE.addr, 4, 4⟩
def SAF_CAUSE.FLOW : Fld := ⟨SAF_CAUSE.addr, 3, 3⟩
def SAF_CAUSE.FS_CRC : Fld := ⟨SAF_CAUSE.addr, 2, 2⟩
def SAF_CAUSE.STUCK_ON : Fld := ⟨SAF_CAUSE.addr, 1, 1⟩
def SAF_CAUSE.READBACK : Fld := ⟨SAF_CAUSE.addr, 0, 0⟩
/-- Address of SAF_RUN_BLOCK (spec/12_safety_integrity.md). -/
def SAF_RUN_BLOCK.addr : Nat := 0xB0024
def SAF_RUN_BLOCK.LOST : Fld := ⟨SAF_RUN_BLOCK.addr, 11, 11⟩
def SAF_RUN_BLOCK.FIRE : Fld := ⟨SAF_RUN_BLOCK.addr, 10, 10⟩
def SAF_RUN_BLOCK.FSET : Fld := ⟨SAF_RUN_BLOCK.addr, 9, 9⟩
def SAF_RUN_BLOCK.MEMBER : Fld := ⟨SAF_RUN_BLOCK.addr, 8, 8⟩
def SAF_RUN_BLOCK.PLUG : Fld := ⟨SAF_RUN_BLOCK.addr, 7, 7⟩
def SAF_RUN_BLOCK.EDM : Fld := ⟨SAF_RUN_BLOCK.addr, 6, 6⟩
def SAF_RUN_BLOCK.OSSD_FB : Fld := ⟨SAF_RUN_BLOCK.addr, 5, 5⟩
def SAF_RUN_BLOCK.BIAS : Fld := ⟨SAF_RUN_BLOCK.addr, 4, 4⟩
def SAF_RUN_BLOCK.TABLE : Fld := ⟨SAF_RUN_BLOCK.addr, 3, 3⟩
def SAF_RUN_BLOCK.DIAG : Fld := ⟨SAF_RUN_BLOCK.addr, 2, 2⟩
def SAF_RUN_BLOCK.PROOF : Fld := ⟨SAF_RUN_BLOCK.addr, 1, 1⟩
def SAF_RUN_BLOCK.CAUSE : Fld := ⟨SAF_RUN_BLOCK.addr, 0, 0⟩
/-- Address of SAF_LOST_TILE (spec/12_safety_integrity.md). -/
def SAF_LOST_TILE.addr (i : Nat) : Nat := 0xB0030 + 0x4 * i
def SAF_LOST_TILE.TILE (i : Nat) : Fld := ⟨SAF_LOST_TILE.addr i, 31, 0⟩
/-- Address of SAF_LOST_ZONE_LO (spec/12_safety_integrity.md). -/
def SAF_LOST_ZONE_LO.addr : Nat := 0xB0040
def SAF_LOST_ZONE_LO.ZONES : Fld := ⟨SAF_LOST_ZONE_LO.addr, 31, 0⟩
/-- Address of SAF_LOST_ZONE_HI (spec/12_safety_integrity.md). -/
def SAF_LOST_ZONE_HI.addr : Nat := 0xB0044
def SAF_LOST_ZONE_HI.ZONES : Fld := ⟨SAF_LOST_ZONE_HI.addr, 31, 0⟩
/-- Address of SAF_CELL (spec/12_safety_integrity.md). -/
def SAF_CELL.addr : Nat := 0xB0050
def SAF_CELL.MEMBER : Fld := ⟨SAF_CELL.addr, 31, 28⟩
def SAF_CELL.SOURCE : Fld := ⟨SAF_CELL.addr, 27, 24⟩
def SAF_CELL.PRESENT : Fld := ⟨SAF_CELL.addr, 15, 0⟩
/-- Address of SAF_MEMBER_STAT (spec/12_safety_integrity.md). -/
def SAF_MEMBER_STAT.addr : Nat := 0xB0054
def SAF_MEMBER_STAT.LOST : Fld := ⟨SAF_MEMBER_STAT.addr, 31, 16⟩
def SAF_MEMBER_STAT.SEEN : Fld := ⟨SAF_MEMBER_STAT.addr, 15, 0⟩
/-- Address of SAF_SEAL (spec/12_safety_integrity.md). -/
def SAF_SEAL.addr : Nat := 0xB0060
def SAF_SEAL.CHANGED : Fld := ⟨SAF_SEAL.addr, 9, 9⟩
def SAF_SEAL.UNLOCK : Fld := ⟨SAF_SEAL.addr, 8, 8⟩
def SAF_SEAL.NOW : Fld := ⟨SAF_SEAL.addr, 7, 4⟩
def SAF_SEAL.BOOT : Fld := ⟨SAF_SEAL.addr, 3, 0⟩
/-- Address of SAF_PLUG (spec/12_safety_integrity.md). -/
def SAF_PLUG.addr : Nat := 0xB0064
def SAF_PLUG.PRESENT : Fld := ⟨SAF_PLUG.addr, 31, 31⟩
def SAF_PLUG.VALID : Fld := ⟨SAF_PLUG.addr, 30, 30⟩
def SAF_PLUG.MATCH : Fld := ⟨SAF_PLUG.addr, 29, 29⟩
def SAF_PLUG.REQ : Fld := ⟨SAF_PLUG.addr, 28, 28⟩
def SAF_PLUG.READ_ERR : Fld := ⟨SAF_PLUG.addr, 7, 0⟩
/-- Address of SAF_DIAG_CNT (spec/12_safety_integrity.md). -/
def SAF_DIAG_CNT.addr : Nat := 0xB0070
def SAF_DIAG_CNT.ECC_CORR : Fld := ⟨SAF_DIAG_CNT.addr, 31, 16⟩
def SAF_DIAG_CNT.PROOF_FR : Fld := ⟨SAF_DIAG_CNT.addr, 15, 0⟩
/-- Address of TRD_ANG_CTL (spec/10_steering_control.md). -/
def TRD_ANG_CTL.addr : Nat := 0xC0000
def TRD_ANG_CTL.AZ_EN : Fld := ⟨TRD_ANG_CTL.addr, 31, 31⟩
def TRD_ANG_CTL.AZ_SRC : Fld := ⟨TRD_ANG_CTL.addr, 30, 28⟩
def TRD_ANG_CTL.EL_EN : Fld := ⟨TRD_ANG_CTL.addr, 27, 27⟩
def TRD_ANG_CTL.EL_SRC : Fld := ⟨TRD_ANG_CTL.addr, 26, 24⟩
/-- Address of TRD_ANG_STAT (spec/10_steering_control.md). -/
def TRD_ANG_STAT.addr : Nat := 0xC0004
def TRD_ANG_STAT.ANGLE : Fld := ⟨TRD_ANG_STAT.addr, 31, 0⟩
/-- Address of TRD_AZ_SCALE (spec/10_steering_control.md). -/
def TRD_AZ_SCALE.addr : Nat := 0xC0008
def TRD_AZ_SCALE.SCALE : Fld := ⟨TRD_AZ_SCALE.addr, 31, 0⟩
/-- Address of TRD_AZ_OFS (spec/10_steering_control.md). -/
def TRD_AZ_OFS.addr : Nat := 0xC000C
def TRD_AZ_OFS.OFS : Fld := ⟨TRD_AZ_OFS.addr, 31, 0⟩
/-- Address of TRD_EL_SCALE (spec/10_steering_control.md). -/
def TRD_EL_SCALE.addr : Nat := 0xC0010
def TRD_EL_SCALE.SCALE : Fld := ⟨TRD_EL_SCALE.addr, 23, 0⟩
/-- Address of TRD_EL_OFS (spec/10_steering_control.md). -/
def TRD_EL_OFS.addr : Nat := 0xC0014
def TRD_EL_OFS.OFS : Fld := ⟨TRD_EL_OFS.addr, 31, 0⟩
/-- Address of TRD_PWM_CTL (spec/10_steering_control.md). -/
def TRD_PWM_CTL.addr : Nat := 0xC0018
def TRD_PWM_CTL.PER : Fld := ⟨TRD_PWM_CTL.addr, 13, 0⟩
/-- Address of TRD_CMD (spec/10_steering_control.md). -/
def TRD_CMD.addr : Nat := 0xC0020
def TRD_CMD.ACTION : Fld := ⟨TRD_CMD.addr, 31, 28⟩
def TRD_CMD.INDEX : Fld := ⟨TRD_CMD.addr, 2, 0⟩
/-- Address of TRD_ERR (spec/10_steering_control.md). -/
def TRD_ERR.addr : Nat := 0xC0024
def TRD_ERR.BANK_ERR : Fld := ⟨TRD_ERR.addr, 1, 1⟩
def TRD_ERR.CMD_ERR : Fld := ⟨TRD_ERR.addr, 0, 0⟩
/-- Address of TRD_BIAS_CTL (spec/10_steering_control.md). -/
def TRD_BIAS_CTL.addr : Nat := 0xC0030
def TRD_BIAS_CTL.SLEW : Fld := ⟨TRD_BIAS_CTL.addr, 31, 26⟩
def TRD_BIAS_CTL.INIT : Fld := ⟨TRD_BIAS_CTL.addr, 24, 16⟩
def TRD_BIAS_CTL.VEX_TGT : Fld := ⟨TRD_BIAS_CTL.addr, 9, 0⟩
/-- Address of TRD_BIAS_STAT (spec/10_steering_control.md). -/
def TRD_BIAS_STAT.addr : Nat := 0xC0034
def TRD_BIAS_STAT.REF : Fld := ⟨TRD_BIAS_STAT.addr, 31, 20⟩
def TRD_BIAS_STAT.VSPAD : Fld := ⟨TRD_BIAS_STAT.addr, 19, 8⟩
def TRD_BIAS_STAT.SETTLED : Fld := ⟨TRD_BIAS_STAT.addr, 7, 7⟩
def TRD_BIAS_STAT.HV_OV : Fld := ⟨TRD_BIAS_STAT.addr, 6, 6⟩
def TRD_BIAS_STAT.SOURCE : Fld := ⟨TRD_BIAS_STAT.addr, 5, 5⟩
def TRD_BIAS_STAT.HV_OV_LOCK : Fld := ⟨TRD_BIAS_STAT.addr, 4, 4⟩
/-- Address of TRD_ENC_CFG (spec/10_steering_control.md). -/
def TRD_ENC_CFG.addr (i : Nat) : Nat := 0xC0040 + 0x4 * i
def TRD_ENC_CFG.ZEN (i : Nat) : Fld := ⟨TRD_ENC_CFG.addr i, 31, 31⟩
def TRD_ENC_CFG.INV (i : Nat) : Fld := ⟨TRD_ENC_CFG.addr i, 30, 30⟩
def TRD_ENC_CFG.FILT (i : Nat) : Fld := ⟨TRD_ENC_CFG.addr i, 27, 24⟩
def TRD_ENC_CFG.CPR (i : Nat) : Fld := ⟨TRD_ENC_CFG.addr i, 19, 0⟩
/-- Address of TRD_ENC_POS (spec/10_steering_control.md). -/
def TRD_ENC_POS.addr (i : Nat) : Nat := 0xC0060 + 0x4 * i
def TRD_ENC_POS.POS (i : Nat) : Fld := ⟨TRD_ENC_POS.addr i, 31, 0⟩
/-- Address of TRD_ENC_STAT (spec/10_steering_control.md). -/
def TRD_ENC_STAT.addr : Nat := 0xC0080
def TRD_ENC_STAT.ENC_ERR : Fld := ⟨TRD_ENC_STAT.addr, 31, 24⟩
def TRD_ENC_STAT.IDX_ERR : Fld := ⟨TRD_ENC_STAT.addr, 23, 16⟩
def TRD_ENC_STAT.INDEXED : Fld := ⟨TRD_ENC_STAT.addr, 15, 8⟩
/-- Address of TRD_CTL (spec/10_steering_control.md). -/
def TRD_CTL.addr (i : Nat) : Nat := 0xC0100 + 0x80 * i
def TRD_CTL.EN (i : Nat) : Fld := ⟨TRD_CTL.addr i, 31, 31⟩
def TRD_CTL.BANK (i : Nat) : Fld := ⟨TRD_CTL.addr i, 30, 30⟩
def TRD_CTL.FE_ACT (i : Nat) : Fld := ⟨TRD_CTL.addr i, 29, 29⟩
def TRD_CTL.GUARD (i : Nat) : Fld := ⟨TRD_CTL.addr i, 28, 28⟩
def TRD_CTL.TYPE (i : Nat) : Fld := ⟨TRD_CTL.addr i, 27, 24⟩
def TRD_CTL.SEN_SEL (i : Nat) : Fld := ⟨TRD_CTL.addr i, 20, 16⟩
def TRD_CTL.START_TO (i : Nat) : Fld := ⟨TRD_CTL.addr i, 15, 8⟩
def TRD_CTL.OUT_SEL (i : Nat) : Fld := ⟨TRD_CTL.addr i, 2, 0⟩
/-- Address of TRD_TIM (spec/10_steering_control.md). -/
def TRD_TIM.addr (i : Nat) : Nat := 0xC0104 + 0x80 * i
def TRD_TIM.DIV (i : Nat) : Fld := ⟨TRD_TIM.addr i, 25, 16⟩
def TRD_TIM.PHASE (i : Nat) : Fld := ⟨TRD_TIM.addr i, 7, 0⟩
/-- Address of TRD_REF (spec/10_steering_control.md). -/
def TRD_REF.addr (i : Nat) : Nat := 0xC0108 + 0x80 * i
def TRD_REF.REF (i : Nat) : Fld := ⟨TRD_REF.addr i, 31, 0⟩
/-- Address of TRD_FE (spec/10_steering_control.md). -/
def TRD_FE.addr (i : Nat) : Nat := 0xC010C + 0x80 * i
def TRD_FE.FE_N (i : Nat) : Fld := ⟨TRD_FE.addr i, 31, 24⟩
def TRD_FE.FE_LIM (i : Nat) : Fld := ⟨TRD_FE.addr i, 23, 0⟩
/-- Address of TRD_STAT (spec/10_steering_control.md). -/
def TRD_STAT.addr (i : Nat) : Nat := 0xC0110 + 0x80 * i
def TRD_STAT.RUNNING (i : Nat) : Fld := ⟨TRD_STAT.addr i, 31, 31⟩
def TRD_STAT.ARMED (i : Nat) : Fld := ⟨TRD_STAT.addr i, 30, 30⟩
def TRD_STAT.FE (i : Nat) : Fld := ⟨TRD_STAT.addr i, 29, 29⟩
def TRD_STAT.START_FAIL (i : Nat) : Fld := ⟨TRD_STAT.addr i, 28, 28⟩
def TRD_STAT.SAT (i : Nat) : Fld := ⟨TRD_STAT.addr i, 27, 27⟩
def TRD_STAT.SWAPPED (i : Nat) : Fld := ⟨TRD_STAT.addr i, 26, 26⟩
def TRD_STAT.BANK_ACT (i : Nat) : Fld := ⟨TRD_STAT.addr i, 25, 25⟩
def TRD_STAT.HOLD (i : Nat) : Fld := ⟨TRD_STAT.addr i, 24, 24⟩
def TRD_STAT.SAMPLES (i : Nat) : Fld := ⟨TRD_STAT.addr i, 15, 0⟩
/-- Address of TRD_Y (spec/10_steering_control.md). -/
def TRD_Y.addr (i : Nat) : Nat := 0xC0114 + 0x80 * i
def TRD_Y.Y (i : Nat) : Fld := ⟨TRD_Y.addr i, 31, 0⟩
/-- Address of TRD_U (spec/10_steering_control.md). -/
def TRD_U.addr (i : Nat) : Nat := 0xC0118 + 0x80 * i
def TRD_U.U (i : Nat) : Fld := ⟨TRD_U.addr i, 15, 0⟩
/-- Address of TRD_KP_A (spec/10_steering_control.md). -/
def TRD_KP_A.addr (i : Nat) : Nat := 0xC0120 + 0x80 * i
def TRD_KP_A.GAIN (i : Nat) : Fld := ⟨TRD_KP_A.addr i, 23, 0⟩
/-- Address of TRD_KI_A (spec/10_steering_control.md). -/
def TRD_KI_A.addr (i : Nat) : Nat := 0xC0124 + 0x80 * i
def TRD_KI_A.GAIN (i : Nat) : Fld := ⟨TRD_KI_A.addr i, 23, 0⟩
/-- Address of TRD_KD_A (spec/10_steering_control.md). -/
def TRD_KD_A.addr (i : Nat) : Nat := 0xC0128 + 0x80 * i
def TRD_KD_A.GAIN (i : Nat) : Fld := ⟨TRD_KD_A.addr i, 23, 0⟩
/-- Address of TRD_KF_A (spec/10_steering_control.md). -/
def TRD_KF_A.addr (i : Nat) : Nat := 0xC012C + 0x80 * i
def TRD_KF_A.GAIN (i : Nat) : Fld := ⟨TRD_KF_A.addr i, 23, 0⟩
/-- Address of TRD_KP_B (spec/10_steering_control.md). -/
def TRD_KP_B.addr (i : Nat) : Nat := 0xC0140 + 0x80 * i
def TRD_KP_B.GAIN (i : Nat) : Fld := ⟨TRD_KP_B.addr i, 23, 0⟩
/-- Address of TRD_KI_B (spec/10_steering_control.md). -/
def TRD_KI_B.addr (i : Nat) : Nat := 0xC0144 + 0x80 * i
def TRD_KI_B.GAIN (i : Nat) : Fld := ⟨TRD_KI_B.addr i, 23, 0⟩
/-- Address of TRD_KD_B (spec/10_steering_control.md). -/
def TRD_KD_B.addr (i : Nat) : Nat := 0xC0148 + 0x80 * i
def TRD_KD_B.GAIN (i : Nat) : Fld := ⟨TRD_KD_B.addr i, 23, 0⟩
/-- Address of TRD_KF_B (spec/10_steering_control.md). -/
def TRD_KF_B.addr (i : Nat) : Nat := 0xC014C + 0x80 * i
def TRD_KF_B.GAIN (i : Nat) : Fld := ⟨TRD_KF_B.addr i, 23, 0⟩
/-- Address of TRD_LIM_A (spec/10_steering_control.md). -/
def TRD_LIM_A.addr (i : Nat) : Nat := 0xC0130 + 0x80 * i
def TRD_LIM_A.UMAX (i : Nat) : Fld := ⟨TRD_LIM_A.addr i, 31, 16⟩
def TRD_LIM_A.UMIN (i : Nat) : Fld := ⟨TRD_LIM_A.addr i, 15, 0⟩
/-- Address of TRD_LIM_B (spec/10_steering_control.md). -/
def TRD_LIM_B.addr (i : Nat) : Nat := 0xC0150 + 0x80 * i
def TRD_LIM_B.UMAX (i : Nat) : Fld := ⟨TRD_LIM_B.addr i, 31, 16⟩
def TRD_LIM_B.UMIN (i : Nat) : Fld := ⟨TRD_LIM_B.addr i, 15, 0⟩
/-- Address of TRD_OUT_A (spec/10_steering_control.md). -/
def TRD_OUT_A.addr (i : Nat) : Nat := 0xC0134 + 0x80 * i
def TRD_OUT_A.SHIFT (i : Nat) : Fld := ⟨TRD_OUT_A.addr i, 20, 16⟩
def TRD_OUT_A.U0 (i : Nat) : Fld := ⟨TRD_OUT_A.addr i, 15, 0⟩
/-- Address of TRD_OUT_B (spec/10_steering_control.md). -/
def TRD_OUT_B.addr (i : Nat) : Nat := 0xC0154 + 0x80 * i
def TRD_OUT_B.SHIFT (i : Nat) : Fld := ⟨TRD_OUT_B.addr i, 20, 16⟩
def TRD_OUT_B.U0 (i : Nat) : Fld := ⟨TRD_OUT_B.addr i, 15, 0⟩

end Sys2Proof.Machine
end

