-- ==== Sys2Proof/Machine/FieldsIo.lean ====
section
/-! DEFINITION. Field handles of the blocks SUP, THM, LPE, IND, SHU, MEM, SPD and LNK. A handle names a field by
its BAR0 address and its bits; `X.addr` is the address of register X. -/

namespace Sys2Proof.Machine

/-- Address of SUP_CTL (spec/17_supervisory_measurement_and_thermal.md). -/
def SUP_CTL.addr : Nat := 0xD0000
def SUP_CTL.EN : Fld := ⟨SUP_CTL.addr, 31, 31⟩
def SUP_CTL.TI : Fld := ⟨SUP_CTL.addr, 16, 0⟩
/-- Address of SUP_STAT (spec/17_supervisory_measurement_and_thermal.md). -/
def SUP_STAT.addr : Nat := 0xD0004
def SUP_STAT.RUN : Fld := ⟨SUP_STAT.addr, 31, 31⟩
def SUP_STAT.REF_OK : Fld := ⟨SUP_STAT.addr, 30, 30⟩
def SUP_STAT.TRIPPED : Fld := ⟨SUP_STAT.addr, 15, 0⟩
/-- Address of SUP_SWAP_EPOCH (spec/17_supervisory_measurement_and_thermal.md). -/
def SUP_SWAP_EPOCH.addr : Nat := 0xD0008
def SUP_SWAP_EPOCH.EPOCH : Fld := ⟨SUP_SWAP_EPOCH.addr, 31, 0⟩
/-- Address of SUP_BLANK (spec/17_supervisory_measurement_and_thermal.md). -/
def SUP_BLANK.addr : Nat := 0xD0010
def SUP_BLANK.BIN_EN : Fld := ⟨SUP_BLANK.addr, 31, 31⟩
def SUP_BLANK.BIN_POL : Fld := ⟨SUP_BLANK.addr, 30, 30⟩
def SUP_BLANK.BW_START : Fld := ⟨SUP_BLANK.addr, 29, 15⟩
def SUP_BLANK.BW_LEN : Fld := ⟨SUP_BLANK.addr, 14, 0⟩
/-- Address of SUP_EXC (spec/17_supervisory_measurement_and_thermal.md). -/
def SUP_EXC.addr (i : Nat) : Nat := 0xD0020 + 0x4 * i
def SUP_EXC.EN (i : Nat) : Fld := ⟨SUP_EXC.addr i, 31, 31⟩
def SUP_EXC.ISET (i : Nat) : Fld := ⟨SUP_EXC.addr i, 6, 0⟩
/-- Address of SUP_ACC_CLR (spec/17_supervisory_measurement_and_thermal.md). -/
def SUP_ACC_CLR.addr : Nat := 0xD0030
def SUP_ACC_CLR.CLR : Fld := ⟨SUP_ACC_CLR.addr, 31, 0⟩
/-- Address of SUP_ENT (spec/17_supervisory_measurement_and_thermal.md). -/
def SUP_ENT.addr (i : Nat) : Nat := 0xD0100 + 0x4 * i
def SUP_ENT.EN (i : Nat) : Fld := ⟨SUP_ENT.addr i, 31, 31⟩
def SUP_ENT.REF (i : Nat) : Fld := ⟨SUP_ENT.addr i, 30, 30⟩
def SUP_ENT.GAIN (i : Nat) : Fld := ⟨SUP_ENT.addr i, 29, 27⟩
def SUP_ENT.MODE (i : Nat) : Fld := ⟨SUP_ENT.addr i, 26, 26⟩
def SUP_ENT.MED (i : Nat) : Fld := ⟨SUP_ENT.addr i, 25, 24⟩
def SUP_ENT.ALIGN (i : Nat) : Fld := ⟨SUP_ENT.addr i, 23, 21⟩
def SUP_ENT.INCL_UNS (i : Nat) : Fld := ⟨SUP_ENT.addr i, 20, 20⟩
def SUP_ENT.EXC (i : Nat) : Fld := ⟨SUP_ENT.addr i, 19, 17⟩
def SUP_ENT.SEL (i : Nat) : Fld := ⟨SUP_ENT.addr i, 7, 0⟩
/-- Address of SUP_RES (spec/17_supervisory_measurement_and_thermal.md). -/
def SUP_RES.addr (i : Nat) : Nat := 0xD0200 + 0x4 * i
def SUP_RES.VALUE (i : Nat) : Fld := ⟨SUP_RES.addr i, 31, 8⟩
def SUP_RES.UNSETTLED (i : Nat) : Fld := ⟨SUP_RES.addr i, 7, 7⟩
def SUP_RES.NO_DATA (i : Nat) : Fld := ⟨SUP_RES.addr i, 6, 6⟩
def SUP_RES.GAIN_CHG (i : Nat) : Fld := ⟨SUP_RES.addr i, 5, 5⟩
def SUP_RES.PART_BLANK (i : Nat) : Fld := ⟨SUP_RES.addr i, 4, 4⟩
/-- Address of SUP_PHASE (spec/17_supervisory_measurement_and_thermal.md). -/
def SUP_PHASE.addr (i : Nat) : Nat := 0xD0280 + 0x4 * i
def SUP_PHASE.PHASE (i : Nat) : Fld := ⟨SUP_PHASE.addr i, 23, 0⟩
/-- Address of SUP_MIN (spec/17_supervisory_measurement_and_thermal.md). -/
def SUP_MIN.addr (i : Nat) : Nat := 0xD0300 + 0x4 * i
def SUP_MIN.VALUE (i : Nat) : Fld := ⟨SUP_MIN.addr i, 31, 8⟩
/-- Address of SUP_MAX (spec/17_supervisory_measurement_and_thermal.md). -/
def SUP_MAX.addr (i : Nat) : Nat := 0xD0380 + 0x4 * i
def SUP_MAX.VALUE (i : Nat) : Fld := ⟨SUP_MAX.addr i, 31, 8⟩
/-- Address of SUP_ACC_LO (spec/17_supervisory_measurement_and_thermal.md). -/
def SUP_ACC_LO.addr (i : Nat) : Nat := 0xD0400 + 0x8 * i
def SUP_ACC_LO.SUM (i : Nat) : Fld := ⟨SUP_ACC_LO.addr i, 31, 0⟩
/-- Address of SUP_ACC_HI (spec/17_supervisory_measurement_and_thermal.md). -/
def SUP_ACC_HI.addr (i : Nat) : Nat := 0xD0404 + 0x8 * i
def SUP_ACC_HI.SUM (i : Nat) : Fld := ⟨SUP_ACC_HI.addr i, 31, 0⟩
/-- Address of SUP_ACC_CNT (spec/17_supervisory_measurement_and_thermal.md). -/
def SUP_ACC_CNT.addr (i : Nat) : Nat := 0xD0500 + 0x4 * i
def SUP_ACC_CNT.COUNT (i : Nat) : Fld := ⟨SUP_ACC_CNT.addr i, 31, 0⟩
/-- Address of SUP_WIN_CFG (spec/17_supervisory_measurement_and_thermal.md). -/
def SUP_WIN_CFG.addr (i : Nat) : Nat := 0xD0600 + 0x10 * i
def SUP_WIN_CFG.EN (i : Nat) : Fld := ⟨SUP_WIN_CFG.addr i, 31, 31⟩
def SUP_WIN_CFG.SAFE (i : Nat) : Fld := ⟨SUP_WIN_CFG.addr i, 30, 30⟩
def SUP_WIN_CFG.MODE (i : Nat) : Fld := ⟨SUP_WIN_CFG.addr i, 29, 29⟩
def SUP_WIN_CFG.SRC_A (i : Nat) : Fld := ⟨SUP_WIN_CFG.addr i, 28, 24⟩
def SUP_WIN_CFG.SRC_B (i : Nat) : Fld := ⟨SUP_WIN_CFG.addr i, 23, 19⟩
def SUP_WIN_CFG.IGN_UNS (i : Nat) : Fld := ⟨SUP_WIN_CFG.addr i, 18, 18⟩
def SUP_WIN_CFG.N (i : Nat) : Fld := ⟨SUP_WIN_CFG.addr i, 17, 12⟩
def SUP_WIN_CFG.HYST (i : Nat) : Fld := ⟨SUP_WIN_CFG.addr i, 11, 0⟩
/-- Address of SUP_WIN_LO (spec/17_supervisory_measurement_and_thermal.md). -/
def SUP_WIN_LO.addr (i : Nat) : Nat := 0xD0604 + 0x10 * i
def SUP_WIN_LO.LIMIT (i : Nat) : Fld := ⟨SUP_WIN_LO.addr i, 31, 8⟩
/-- Address of SUP_WIN_HI (spec/17_supervisory_measurement_and_thermal.md). -/
def SUP_WIN_HI.addr (i : Nat) : Nat := 0xD0608 + 0x10 * i
def SUP_WIN_HI.LIMIT (i : Nat) : Fld := ⟨SUP_WIN_HI.addr i, 31, 8⟩
/-- Address of SUP_WIN_CNT (spec/17_supervisory_measurement_and_thermal.md). -/
def SUP_WIN_CNT.addr : Nat := 0xD0700
def SUP_WIN_CNT.SAFE_TRIPS : Fld := ⟨SUP_WIN_CNT.addr, 31, 16⟩
def SUP_WIN_CNT.TRIPS : Fld := ⟨SUP_WIN_CNT.addr, 15, 0⟩
/-- Address of SUP_AOUT_CTL (spec/17_supervisory_measurement_and_thermal.md). -/
def SUP_AOUT_CTL.addr (i : Nat) : Nat := 0xD0800 + 0x8 * i
def SUP_AOUT_CTL.MAP (i : Nat) : Fld := ⟨SUP_AOUT_CTL.addr i, 31, 31⟩
def SUP_AOUT_CTL.SLOT (i : Nat) : Fld := ⟨SUP_AOUT_CTL.addr i, 30, 26⟩
def SUP_AOUT_CTL.CODE (i : Nat) : Fld := ⟨SUP_AOUT_CTL.addr i, 15, 0⟩
/-- Address of SUP_AOUT_MAP (spec/17_supervisory_measurement_and_thermal.md). -/
def SUP_AOUT_MAP.addr (i : Nat) : Nat := 0xD0804 + 0x8 * i
def SUP_AOUT_MAP.SCALE (i : Nat) : Fld := ⟨SUP_AOUT_MAP.addr i, 31, 16⟩
def SUP_AOUT_MAP.OFS (i : Nat) : Fld := ⟨SUP_AOUT_MAP.addr i, 15, 0⟩
/-- Address of THM_CTL (spec/17_supervisory_measurement_and_thermal.md). -/
def THM_CTL.addr : Nat := 0xE0000
def THM_CTL.WARN : Fld := ⟨THM_CTL.addr, 31, 24⟩
def THM_CTL.THR : Fld := ⟨THM_CTL.addr, 23, 16⟩
def THM_CTL.XCHK : Fld := ⟨THM_CTL.addr, 15, 8⟩
/-- Address of THM_FUSE (spec/17_supervisory_measurement_and_thermal.md). -/
def THM_FUSE.addr : Nat := 0xE0004
def THM_FUSE.T_SHUT : Fld := ⟨THM_FUSE.addr, 31, 24⟩
def THM_FUSE.T_THR : Fld := ⟨THM_FUSE.addr, 23, 16⟩
def THM_FUSE.T_WARN : Fld := ⟨THM_FUSE.addr, 15, 8⟩
def THM_FUSE.HYST : Fld := ⟨THM_FUSE.addr, 7, 0⟩
/-- Address of THM_STAT (spec/17_supervisory_measurement_and_thermal.md). -/
def THM_STAT.addr : Nat := 0xE0008
def THM_STAT.TMAX : Fld := ⟨THM_STAT.addr, 31, 20⟩
def THM_STAT.MAX_ID : Fld := ⟨THM_STAT.addr, 19, 13⟩
def THM_STAT.LEVEL : Fld := ⟨THM_STAT.addr, 12, 10⟩
def THM_STAT.WARN : Fld := ⟨THM_STAT.addr, 9, 9⟩
def THM_STAT.NIMPL : Fld := ⟨THM_STAT.addr, 6, 0⟩
/-- Address of THM_T (spec/17_supervisory_measurement_and_thermal.md). -/
def THM_T.addr (i : Nat) : Nat := 0xE0100 + 0x4 * i
def THM_T.T (i : Nat) : Fld := ⟨THM_T.addr i, 31, 20⟩
def THM_T.IMPL (i : Nat) : Fld := ⟨THM_T.addr i, 19, 19⟩
def THM_T.COUNT (i : Nat) : Fld := ⟨THM_T.addr i, 15, 0⟩
/-- Address of THM_PAUSE_CNT (spec/17_supervisory_measurement_and_thermal.md). -/
def THM_PAUSE_CNT.addr : Nat := 0xE0300
def THM_PAUSE_CNT.US : Fld := ⟨THM_PAUSE_CNT.addr, 31, 0⟩
/-- Address of THM_SHUT_INFO (spec/17_supervisory_measurement_and_thermal.md). -/
def THM_SHUT_INFO.addr : Nat := 0xE0304
def THM_SHUT_INFO.SHUT : Fld := ⟨THM_SHUT_INFO.addr, 31, 31⟩
def THM_SHUT_INFO.SENSOR : Fld := ⟨THM_SHUT_INFO.addr, 19, 13⟩
def THM_SHUT_INFO.T : Fld := ⟨THM_SHUT_INFO.addr, 11, 0⟩
/-- Address of LPE_CTL (spec/18_loupe_recorder.md). -/
def LPE_CTL.addr : Nat := 0xF0000
def LPE_CTL.EN : Fld := ⟨LPE_CTL.addr, 31, 31⟩
def LPE_CTL.CLEAR : Fld := ⟨LPE_CTL.addr, 30, 30⟩
def LPE_CTL.RETAIN_H : Fld := ⟨LPE_CTL.addr, 15, 8⟩
/-- Address of LPE_STAT (spec/18_loupe_recorder.md). -/
def LPE_STAT.addr : Nat := 0xF0004
def LPE_STAT.STATE : Fld := ⟨LPE_STAT.addr, 31, 30⟩
def LPE_STAT.TRIG : Fld := ⟨LPE_STAT.addr, 29, 27⟩
def LPE_STAT.SEQ : Fld := ⟨LPE_STAT.addr, 15, 0⟩
/-- Address of LPE_RING_BASE_LO (spec/18_loupe_recorder.md). -/
def LPE_RING_BASE_LO.addr : Nat := 0xF0010
def LPE_RING_BASE_LO.BASE : Fld := ⟨LPE_RING_BASE_LO.addr, 31, 12⟩
/-- Address of LPE_RING_BASE_HI (spec/18_loupe_recorder.md). -/
def LPE_RING_BASE_HI.addr : Nat := 0xF0014
def LPE_RING_BASE_HI.BASE : Fld := ⟨LPE_RING_BASE_HI.addr, 31, 0⟩
/-- Address of LPE_RING_CTL (spec/18_loupe_recorder.md). -/
def LPE_RING_CTL.addr : Nat := 0xF0018
def LPE_RING_CTL.SIZE_LOG2 : Fld := ⟨LPE_RING_CTL.addr, 4, 0⟩
/-- Address of LPE_RING_HEAD (spec/18_loupe_recorder.md). -/
def LPE_RING_HEAD.addr : Nat := 0xF001C
def LPE_RING_HEAD.INDEX : Fld := ⟨LPE_RING_HEAD.addr, 23, 0⟩
/-- Address of LPE_RING_TAIL (spec/18_loupe_recorder.md). -/
def LPE_RING_TAIL.addr : Nat := 0xF0020
def LPE_RING_TAIL.INDEX : Fld := ⟨LPE_RING_TAIL.addr, 23, 0⟩
/-- Address of LPE_SAMP (spec/18_loupe_recorder.md). -/
def LPE_SAMP.addr : Nat := 0xF0030
def LPE_SAMP.DIV : Fld := ⟨LPE_SAMP.addr, 31, 16⟩
def LPE_SAMP.RED_M1 : Fld := ⟨LPE_SAMP.addr, 15, 8⟩
/-- Address of LPE_DEPTH (spec/18_loupe_recorder.md). -/
def LPE_DEPTH.addr : Nat := 0xF0034
def LPE_DEPTH.POST : Fld := ⟨LPE_DEPTH.addr, 31, 16⟩
def LPE_DEPTH.PRE : Fld := ⟨LPE_DEPTH.addr, 10, 0⟩
/-- Address of LPE_SGRP_LO (spec/18_loupe_recorder.md). -/
def LPE_SGRP_LO.addr : Nat := 0xF0040
def LPE_SGRP_LO.SRC : Fld := ⟨LPE_SGRP_LO.addr, 31, 0⟩
/-- Address of LPE_SGRP_HI (spec/18_loupe_recorder.md). -/
def LPE_SGRP_HI.addr : Nat := 0xF0044
def LPE_SGRP_HI.SRC : Fld := ⟨LPE_SGRP_HI.addr, 31, 0⟩
/-- Address of LPE_TRACE (spec/18_loupe_recorder.md). -/
def LPE_TRACE.addr (i : Nat) : Nat := 0xF0050 + 0x4 * i
def LPE_TRACE.EN (i : Nat) : Fld := ⟨LPE_TRACE.addr i, 31, 31⟩
def LPE_TRACE.SRC (i : Nat) : Fld := ⟨LPE_TRACE.addr i, 7, 0⟩
/-- Address of LPE_PAT_CTL (spec/18_loupe_recorder.md). -/
def LPE_PAT_CTL.addr (i : Nat) : Nat := 0xF0100 + 0x20 * i
def LPE_PAT_CTL.EN (i : Nat) : Fld := ⟨LPE_PAT_CTL.addr i, 31, 31⟩
def LPE_PAT_CTL.EDGE (i : Nat) : Fld := ⟨LPE_PAT_CTL.addr i, 30, 30⟩
def LPE_PAT_CTL.OUT (i : Nat) : Fld := ⟨LPE_PAT_CTL.addr i, 2, 0⟩
/-- Address of LPE_PAT_MASK_LO (spec/18_loupe_recorder.md). -/
def LPE_PAT_MASK_LO.addr (i : Nat) : Nat := 0xF0104 + 0x20 * i
def LPE_PAT_MASK_LO.BITS (i : Nat) : Fld := ⟨LPE_PAT_MASK_LO.addr i, 31, 0⟩
/-- Address of LPE_PAT_MASK_HI (spec/18_loupe_recorder.md). -/
def LPE_PAT_MASK_HI.addr (i : Nat) : Nat := 0xF0108 + 0x20 * i
def LPE_PAT_MASK_HI.BITS (i : Nat) : Fld := ⟨LPE_PAT_MASK_HI.addr i, 31, 0⟩
/-- Address of LPE_PAT_VAL_LO (spec/18_loupe_recorder.md). -/
def LPE_PAT_VAL_LO.addr (i : Nat) : Nat := 0xF010C + 0x20 * i
def LPE_PAT_VAL_LO.BITS (i : Nat) : Fld := ⟨LPE_PAT_VAL_LO.addr i, 31, 0⟩
/-- Address of LPE_PAT_VAL_HI (spec/18_loupe_recorder.md). -/
def LPE_PAT_VAL_HI.addr (i : Nat) : Nat := 0xF0110 + 0x20 * i
def LPE_PAT_VAL_HI.BITS (i : Nat) : Fld := ⟨LPE_PAT_VAL_HI.addr i, 31, 0⟩
/-- Address of LPE_XING_CTL (spec/18_loupe_recorder.md). -/
def LPE_XING_CTL.addr (i : Nat) : Nat := 0xF0200 + 0x10 * i
def LPE_XING_CTL.EN (i : Nat) : Fld := ⟨LPE_XING_CTL.addr i, 31, 31⟩
def LPE_XING_CTL.DIR (i : Nat) : Fld := ⟨LPE_XING_CTL.addr i, 30, 29⟩
def LPE_XING_CTL.TRACE (i : Nat) : Fld := ⟨LPE_XING_CTL.addr i, 10, 8⟩
def LPE_XING_CTL.OUT (i : Nat) : Fld := ⟨LPE_XING_CTL.addr i, 2, 0⟩
/-- Address of LPE_XING_LVL (spec/18_loupe_recorder.md). -/
def LPE_XING_LVL.addr (i : Nat) : Nat := 0xF0204 + 0x10 * i
def LPE_XING_LVL.VALUE (i : Nat) : Fld := ⟨LPE_XING_LVL.addr i, 31, 0⟩
/-- Address of LPE_XING_HYS (spec/18_loupe_recorder.md). -/
def LPE_XING_HYS.addr (i : Nat) : Nat := 0xF0208 + 0x10 * i
def LPE_XING_HYS.VALUE (i : Nat) : Fld := ⟨LPE_XING_HYS.addr i, 31, 0⟩
/-- Address of LPE_CNT (spec/18_loupe_recorder.md). -/
def LPE_CNT.addr : Nat := 0xF0300
def LPE_CNT.MISSED : Fld := ⟨LPE_CNT.addr, 31, 16⟩
def LPE_CNT.CAPTURES : Fld := ⟨LPE_CNT.addr, 15, 0⟩
/-- Address of LPE_DROP_CNT (spec/18_loupe_recorder.md). -/
def LPE_DROP_CNT.addr : Nat := 0xF0304
def LPE_DROP_CNT.COUNT : Fld := ⟨LPE_DROP_CNT.addr, 31, 0⟩
/-- Address of IND_BEAD_CTL (spec/19_operator_interface.md). -/
def IND_BEAD_CTL.addr : Nat := 0x100000
def IND_BEAD_CTL.EN : Fld := ⟨IND_BEAD_CTL.addr, 31, 31⟩
def IND_BEAD_CTL.NODES : Fld := ⟨IND_BEAD_CTL.addr, 22, 16⟩
def IND_BEAD_CTL.PER : Fld := ⟨IND_BEAD_CTL.addr, 7, 0⟩
/-- Address of IND_BEAD_STAT (spec/19_operator_interface.md). -/
def IND_BEAD_STAT.addr : Nat := 0x100004
def IND_BEAD_STAT.FAULT : Fld := ⟨IND_BEAD_STAT.addr, 31, 31⟩
def IND_BEAD_STAT.RET_BITS : Fld := ⟨IND_BEAD_STAT.addr, 7, 0⟩
/-- Address of IND_BEAD_CNT (spec/19_operator_interface.md). -/
def IND_BEAD_CNT.addr : Nat := 0x100008
def IND_BEAD_CNT.FAILED : Fld := ⟨IND_BEAD_CNT.addr, 31, 0⟩
/-- Address of IND_BEAD_COL (spec/19_operator_interface.md). -/
def IND_BEAD_COL.addr (i : Nat) : Nat := 0x100100 + 0x4 * i
def IND_BEAD_COL.RED (i : Nat) : Fld := ⟨IND_BEAD_COL.addr i, 31, 24⟩
def IND_BEAD_COL.GREEN (i : Nat) : Fld := ⟨IND_BEAD_COL.addr i, 23, 16⟩
def IND_BEAD_COL.BLUE (i : Nat) : Fld := ⟨IND_BEAD_COL.addr i, 15, 8⟩
def IND_BEAD_COL.FADE (i : Nat) : Fld := ⟨IND_BEAD_COL.addr i, 7, 0⟩
/-- Address of IND_LED_CTL (spec/19_operator_interface.md). -/
def IND_LED_CTL.addr (i : Nat) : Nat := 0x100200 + 0x8 * i
def IND_LED_CTL.EN (i : Nat) : Fld := ⟨IND_LED_CTL.addr i, 31, 31⟩
def IND_LED_CTL.TEST_DARK (i : Nat) : Fld := ⟨IND_LED_CTL.addr i, 30, 30⟩
def IND_LED_CTL.ISET (i : Nat) : Fld := ⟨IND_LED_CTL.addr i, 21, 16⟩
def IND_LED_CTL.LEVEL (i : Nat) : Fld := ⟨IND_LED_CTL.addr i, 15, 8⟩
def IND_LED_CTL.FADE (i : Nat) : Fld := ⟨IND_LED_CTL.addr i, 7, 0⟩
/-- Address of IND_LED_PIN (spec/19_operator_interface.md). -/
def IND_LED_PIN.addr (i : Nat) : Nat := 0x100204 + 0x8 * i
def IND_LED_PIN.PIN_LO (i : Nat) : Fld := ⟨IND_LED_PIN.addr i, 31, 24⟩
def IND_LED_PIN.PIN_HI (i : Nat) : Fld := ⟨IND_LED_PIN.addr i, 23, 16⟩
def IND_LED_PIN.VPIN (i : Nat) : Fld := ⟨IND_LED_PIN.addr i, 7, 0⟩
/-- Address of IND_LED_STAT0 (spec/19_operator_interface.md). -/
def IND_LED_STAT0.addr : Nat := 0x100300
def IND_LED_STAT0.OPEN : Fld := ⟨IND_LED_STAT0.addr, 23, 12⟩
def IND_LED_STAT0.OUTWIN : Fld := ⟨IND_LED_STAT0.addr, 11, 0⟩
/-- Address of IND_LED_STAT1 (spec/19_operator_interface.md). -/
def IND_LED_STAT1.addr : Nat := 0x100304
def IND_LED_STAT1.NSHORT : Fld := ⟨IND_LED_STAT1.addr, 23, 12⟩
def IND_LED_STAT1.SHUT : Fld := ⟨IND_LED_STAT1.addr, 11, 0⟩
/-- Address of IND_LED_CMD (spec/19_operator_interface.md). -/
def IND_LED_CMD.addr : Nat := 0x100340
def IND_LED_CMD.ACTION : Fld := ⟨IND_LED_CMD.addr, 31, 30⟩
def IND_LED_CMD.INDEX : Fld := ⟨IND_LED_CMD.addr, 3, 0⟩
/-- Address of IND_ERR (spec/19_operator_interface.md). -/
def IND_ERR.addr : Nat := 0x100344
def IND_ERR.CMD_ERR : Fld := ⟨IND_ERR.addr, 0, 0⟩
/-- Address of IND_BTN_CFG (spec/19_operator_interface.md). -/
def IND_BTN_CFG.addr : Nat := 0x100400
def IND_BTN_CFG.MIN_PRESS : Fld := ⟨IND_BTN_CFG.addr, 31, 24⟩
def IND_BTN_CFG.MAX_PRESS : Fld := ⟨IND_BTN_CFG.addr, 23, 16⟩
/-- Address of IND_BTN_STAT (spec/19_operator_interface.md). -/
def IND_BTN_STAT.addr : Nat := 0x100404
def IND_BTN_STAT.RESTART : Fld := ⟨IND_BTN_STAT.addr, 31, 31⟩
def IND_BTN_STAT.TEACH : Fld := ⟨IND_BTN_STAT.addr, 30, 30⟩
def IND_BTN_STAT.STUCK : Fld := ⟨IND_BTN_STAT.addr, 29, 29⟩
def IND_BTN_STAT.QUAL : Fld := ⟨IND_BTN_STAT.addr, 15, 0⟩
/-- Address of IND_PLUG_CFG (spec/19_operator_interface.md). -/
def IND_PLUG_CFG.addr : Nat := 0x100410
def IND_PLUG_CFG.FAST : Fld := ⟨IND_PLUG_CFG.addr, 31, 31⟩
/-- Address of SHU_STAT (spec/15_shuttle_and_memory.md). -/
def SHU_STAT.addr : Nat := 0x110000
def SHU_STAT.TAGS : Fld := ⟨SHU_STAT.addr, 30, 16⟩
def SHU_STAT.INFLIGHT : Fld := ⟨SHU_STAT.addr, 15, 0⟩
/-- Address of SHU_CFG (spec/15_shuttle_and_memory.md). -/
def SHU_CFG.addr (i : Nat) : Nat := 0x111000 + 0x40 * i
def SHU_CFG.EN (i : Nat) : Fld := ⟨SHU_CFG.addr i, 31, 31⟩
def SHU_CFG.MODE (i : Nat) : Fld := ⟨SHU_CFG.addr i, 30, 29⟩
def SHU_CFG.TC (i : Nat) : Fld := ⟨SHU_CFG.addr i, 28, 27⟩
def SHU_CFG.RING_KIND (i : Nat) : Fld := ⟨SHU_CFG.addr i, 26, 25⟩
def SHU_CFG.SIZE_LOG2 (i : Nat) : Fld := ⟨SHU_CFG.addr i, 20, 16⟩
def SHU_CFG.STAGE (i : Nat) : Fld := ⟨SHU_CFG.addr i, 9, 0⟩
/-- Address of SHU_LIM (spec/15_shuttle_and_memory.md). -/
def SHU_LIM.addr (i : Nat) : Nat := 0x111004 + 0x40 * i
def SHU_LIM.OUT_M1 (i : Nat) : Fld := ⟨SHU_LIM.addr i, 25, 16⟩
def SHU_LIM.FLUSH_US (i : Nat) : Fld := ⟨SHU_LIM.addr i, 15, 0⟩
/-- Address of SHU_RING_LO (spec/15_shuttle_and_memory.md). -/
def SHU_RING_LO.addr (i : Nat) : Nat := 0x111008 + 0x40 * i
def SHU_RING_LO.RING (i : Nat) : Fld := ⟨SHU_RING_LO.addr i, 31, 0⟩
/-- Address of SHU_RING_HI (spec/15_shuttle_and_memory.md). -/
def SHU_RING_HI.addr (i : Nat) : Nat := 0x11100C + 0x40 * i
def SHU_RING_HI.RING (i : Nat) : Fld := ⟨SHU_RING_HI.addr i, 31, 0⟩
/-- Address of SHU_PTR (spec/15_shuttle_and_memory.md). -/
def SHU_PTR.addr (i : Nat) : Nat := 0x111010 + 0x40 * i
def SHU_PTR.HEAD (i : Nat) : Fld := ⟨SHU_PTR.addr i, 31, 16⟩
def SHU_PTR.TAIL (i : Nat) : Fld := ⟨SHU_PTR.addr i, 15, 0⟩
/-- Address of SHU_CTL (spec/15_shuttle_and_memory.md). -/
def SHU_CTL.addr (i : Nat) : Nat := 0x111014 + 0x40 * i
def SHU_CTL.ABORT (i : Nat) : Fld := ⟨SHU_CTL.addr i, 1, 1⟩
def SHU_CTL.PAUSE (i : Nat) : Fld := ⟨SHU_CTL.addr i, 0, 0⟩
/-- Address of SHU_CHSTAT (spec/15_shuttle_and_memory.md). -/
def SHU_CHSTAT.addr (i : Nat) : Nat := 0x111018 + 0x40 * i
def SHU_CHSTAT.ACTIVE (i : Nat) : Fld := ⟨SHU_CHSTAT.addr i, 31, 31⟩
def SHU_CHSTAT.PAUSED (i : Nat) : Fld := ⟨SHU_CHSTAT.addr i, 30, 30⟩
def SHU_CHSTAT.STALL (i : Nat) : Fld := ⟨SHU_CHSTAT.addr i, 29, 29⟩
def SHU_CHSTAT.NONE (i : Nat) : Fld := ⟨SHU_CHSTAT.addr i, 28, 28⟩
def SHU_CHSTAT.LAST_STATUS (i : Nat) : Fld := ⟨SHU_CHSTAT.addr i, 23, 16⟩
/-- Address of SHU_LAST_LO (spec/15_shuttle_and_memory.md). -/
def SHU_LAST_LO.addr (i : Nat) : Nat := 0x11101C + 0x40 * i
def SHU_LAST_LO.ADDR (i : Nat) : Fld := ⟨SHU_LAST_LO.addr i, 31, 0⟩
/-- Address of SHU_LAST_HI (spec/15_shuttle_and_memory.md). -/
def SHU_LAST_HI.addr (i : Nat) : Nat := 0x111020 + 0x40 * i
def SHU_LAST_HI.ADDR (i : Nat) : Fld := ⟨SHU_LAST_HI.addr i, 31, 0⟩
/-- Address of SHU_IDX (spec/15_shuttle_and_memory.md). -/
def SHU_IDX.addr (i : Nat) : Nat := 0x111024 + 0x40 * i
def SHU_IDX.I2 (i : Nat) : Fld := ⟨SHU_IDX.addr i, 31, 16⟩
def SHU_IDX.I1 (i : Nat) : Fld := ⟨SHU_IDX.addr i, 15, 0⟩
/-- Address of SHU_DONE (spec/15_shuttle_and_memory.md). -/
def SHU_DONE.addr (i : Nat) : Nat := 0x111028 + 0x40 * i
def SHU_DONE.ERRORS (i : Nat) : Fld := ⟨SHU_DONE.addr i, 31, 16⟩
def SHU_DONE.DONE (i : Nat) : Fld := ⟨SHU_DONE.addr i, 15, 0⟩
/-- Address of SHU_DROP (spec/15_shuttle_and_memory.md). -/
def SHU_DROP.addr (i : Nat) : Nat := 0x11102C + 0x40 * i
def SHU_DROP.COUNT (i : Nat) : Fld := ⟨SHU_DROP.addr i, 31, 0⟩
/-- Address of MEM_CFG (spec/15_shuttle_and_memory.md). -/
def MEM_CFG.addr : Nat := 0x120000
def MEM_CFG.INIT_OK : Fld := ⟨MEM_CFG.addr, 31, 31⟩
def MEM_CFG.RAW_GB : Fld := ⟨MEM_CFG.addr, 23, 16⟩
def MEM_CFG.RATE : Fld := ⟨MEM_CFG.addr, 15, 12⟩
def MEM_CFG.CH_EN : Fld := ⟨MEM_CFG.addr, 7, 0⟩
/-- Address of MEM_CAP (spec/15_shuttle_and_memory.md). -/
def MEM_CAP.addr : Nat := 0x120004
def MEM_CAP.PAGES : Fld := ⟨MEM_CAP.addr, 31, 0⟩
/-- Address of MEM_SCRUB (spec/15_shuttle_and_memory.md). -/
def MEM_SCRUB.addr : Nat := 0x120008
def MEM_SCRUB.SPARE_THR : Fld := ⟨MEM_SCRUB.addr, 15, 8⟩
def MEM_SCRUB.SCRUB_H : Fld := ⟨MEM_SCRUB.addr, 7, 0⟩
/-- Address of MEM_SCRUB_STAT (spec/15_shuttle_and_memory.md). -/
def MEM_SCRUB_STAT.addr : Nat := 0x12000C
def MEM_SCRUB_STAT.PASSES : Fld := ⟨MEM_SCRUB_STAT.addr, 31, 16⟩
def MEM_SCRUB_STAT.PERCENT : Fld := ⟨MEM_SCRUB_STAT.addr, 6, 0⟩
/-- Address of MEM_CE_CNT (spec/15_shuttle_and_memory.md). -/
def MEM_CE_CNT.addr (i : Nat) : Nat := 0x120020 + 0x4 * i
def MEM_CE_CNT.COUNT (i : Nat) : Fld := ⟨MEM_CE_CNT.addr i, 31, 0⟩
/-- Address of MEM_UE_CNT (spec/15_shuttle_and_memory.md). -/
def MEM_UE_CNT.addr : Nat := 0x120040
def MEM_UE_CNT.COUNT : Fld := ⟨MEM_UE_CNT.addr, 31, 0⟩
/-- Address of MEM_UE_ADDR_LO (spec/15_shuttle_and_memory.md). -/
def MEM_UE_ADDR_LO.addr : Nat := 0x120044
def MEM_UE_ADDR_LO.ADDR : Fld := ⟨MEM_UE_ADDR_LO.addr, 31, 6⟩
/-- Address of MEM_UE_ADDR_HI (spec/15_shuttle_and_memory.md). -/
def MEM_UE_ADDR_HI.addr : Nat := 0x120048
def MEM_UE_ADDR_HI.ADDR : Fld := ⟨MEM_UE_ADDR_HI.addr, 31, 0⟩
/-- Address of MEM_SPARE (spec/15_shuttle_and_memory.md). -/
def MEM_SPARE.addr (i : Nat) : Nat := 0x120060 + 0x4 * i
def MEM_SPARE.USED (i : Nat) : Fld := ⟨MEM_SPARE.addr i, 28, 16⟩
def MEM_SPARE.FREE (i : Nat) : Fld := ⟨MEM_SPARE.addr i, 12, 0⟩
/-- Address of SPD_ATOM_ADDR (spec/15_shuttle_and_memory.md). -/
def SPD_ATOM_ADDR.addr : Nat := 0x130000
def SPD_ATOM_ADDR.ADDR : Fld := ⟨SPD_ATOM_ADDR.addr, 21, 2⟩
/-- Address of SPD_ATOM_OPND (spec/15_shuttle_and_memory.md). -/
def SPD_ATOM_OPND.addr : Nat := 0x130004
def SPD_ATOM_OPND.VALUE : Fld := ⟨SPD_ATOM_OPND.addr, 31, 0⟩
/-- Address of SPD_ATOM_EXP (spec/15_shuttle_and_memory.md). -/
def SPD_ATOM_EXP.addr : Nat := 0x130008
def SPD_ATOM_EXP.VALUE : Fld := ⟨SPD_ATOM_EXP.addr, 31, 0⟩
/-- Address of SPD_ATOM_CMD (spec/15_shuttle_and_memory.md). -/
def SPD_ATOM_CMD.addr : Nat := 0x13000C
def SPD_ATOM_CMD.OP : Fld := ⟨SPD_ATOM_CMD.addr, 1, 0⟩
/-- Address of SPD_ATOM_RES (spec/15_shuttle_and_memory.md). -/
def SPD_ATOM_RES.addr : Nat := 0x130010
def SPD_ATOM_RES.OLD : Fld := ⟨SPD_ATOM_RES.addr, 31, 0⟩
/-- Address of SPD_ATOM_STAT (spec/15_shuttle_and_memory.md). -/
def SPD_ATOM_STAT.addr : Nat := 0x130014
def SPD_ATOM_STAT.BUSY : Fld := ⟨SPD_ATOM_STAT.addr, 31, 31⟩
def SPD_ATOM_STAT.SUCCESS : Fld := ⟨SPD_ATOM_STAT.addr, 30, 30⟩
def SPD_ATOM_STAT.DENIED : Fld := ⟨SPD_ATOM_STAT.addr, 29, 29⟩
/-- Address of SPD_LOSS (spec/15_shuttle_and_memory.md). -/
def SPD_LOSS.addr : Nat := 0x130018
def SPD_LOSS.VALID : Fld := ⟨SPD_LOSS.addr, 31, 31⟩
def SPD_LOSS.ADDR : Fld := ⟨SPD_LOSS.addr, 21, 2⟩
/-- Address of SPD_CNT (spec/15_shuttle_and_memory.md). -/
def SPD_CNT.addr : Nat := 0x13001C
def SPD_CNT.LOST : Fld := ⟨SPD_CNT.addr, 31, 16⟩
def SPD_CNT.PROT : Fld := ⟨SPD_CNT.addr, 15, 0⟩
/-- Address of LNK_CFG (spec/16_lanes_and_huaroten_link.md). -/
def LNK_CFG.addr : Nat := 0x140000
def LNK_CFG.FOM_MIN : Fld := ⟨LNK_CFG.addr, 7, 0⟩
/-- Address of LNK_QUAD (spec/16_lanes_and_huaroten_link.md). -/
def LNK_QUAD.addr (i : Nat) : Nat := 0x140010 + 0x4 * i
def LNK_QUAD.MODE (i : Nat) : Fld := ⟨LNK_QUAD.addr i, 31, 30⟩
def LNK_QUAD.RATE (i : Nat) : Fld := ⟨LNK_QUAD.addr i, 29, 28⟩
def LNK_QUAD.REF_OK (i : Nat) : Fld := ⟨LNK_QUAD.addr i, 27, 27⟩
def LNK_QUAD.PLL_LOCK (i : Nat) : Fld := ⟨LNK_QUAD.addr i, 26, 26⟩
/-- Address of LNK_FWD_CNT (spec/16_lanes_and_huaroten_link.md). -/
def LNK_FWD_CNT.addr : Nat := 0x140020
def LNK_FWD_CNT.FWD : Fld := ⟨LNK_FWD_CNT.addr, 31, 16⟩
def LNK_FWD_CNT.DUP : Fld := ⟨LNK_FWD_CNT.addr, 15, 0⟩
/-- Address of LNK_LANE_CTL (spec/16_lanes_and_huaroten_link.md). -/
def LNK_LANE_CTL.addr (i : Nat) : Nat := 0x140100 + 0x20 * i
def LNK_LANE_CTL.DISABLE (i : Nat) : Fld := ⟨LNK_LANE_CTL.addr i, 31, 31⟩
def LNK_LANE_CTL.RETRAIN (i : Nat) : Fld := ⟨LNK_LANE_CTL.addr i, 30, 30⟩
/-- Address of LNK_LANE_STAT (spec/16_lanes_and_huaroten_link.md). -/
def LNK_LANE_STAT.addr (i : Nat) : Nat := 0x140104 + 0x20 * i
def LNK_LANE_STAT.STATE (i : Nat) : Fld := ⟨LNK_LANE_STAT.addr i, 31, 28⟩
def LNK_LANE_STAT.POL_INV (i : Nat) : Fld := ⟨LNK_LANE_STAT.addr i, 27, 27⟩
def LNK_LANE_STAT.LLANE (i : Nat) : Fld := ⟨LNK_LANE_STAT.addr i, 26, 23⟩
def LNK_LANE_STAT.PRESET (i : Nat) : Fld := ⟨LNK_LANE_STAT.addr i, 22, 19⟩
def LNK_LANE_STAT.FOM (i : Nat) : Fld := ⟨LNK_LANE_STAT.addr i, 18, 11⟩
def LNK_LANE_STAT.PORT (i : Nat) : Fld := ⟨LNK_LANE_STAT.addr i, 10, 7⟩
def LNK_LANE_STAT.FAILS (i : Nat) : Fld := ⟨LNK_LANE_STAT.addr i, 6, 4⟩
def LNK_LANE_STAT.PPLANE (i : Nat) : Fld := ⟨LNK_LANE_STAT.addr i, 3, 0⟩
/-- Address of LNK_LANE_CNT (spec/16_lanes_and_huaroten_link.md). -/
def LNK_LANE_CNT.addr (i : Nat) : Nat := 0x140108 + 0x20 * i
def LNK_LANE_CNT.SH_ERR (i : Nat) : Fld := ⟨LNK_LANE_CNT.addr i, 31, 16⟩
def LNK_LANE_CNT.LOCK_LOSS (i : Nat) : Fld := ⟨LNK_LANE_CNT.addr i, 15, 8⟩
def LNK_LANE_CNT.TRAIN_FAIL (i : Nat) : Fld := ⟨LNK_LANE_CNT.addr i, 7, 0⟩
/-- Address of LNK_PORT_STAT (spec/16_lanes_and_huaroten_link.md). -/
def LNK_PORT_STAT.addr (i : Nat) : Nat := 0x140400 + 0x20 * i
def LNK_PORT_STAT.UP (i : Nat) : Fld := ⟨LNK_PORT_STAT.addr i, 31, 31⟩
def LNK_PORT_STAT.REV (i : Nat) : Fld := ⟨LNK_PORT_STAT.addr i, 30, 30⟩
def LNK_PORT_STAT.PWR (i : Nat) : Fld := ⟨LNK_PORT_STAT.addr i, 29, 28⟩
def LNK_PORT_STAT.PEER_ERR (i : Nat) : Fld := ⟨LNK_PORT_STAT.addr i, 27, 27⟩
def LNK_PORT_STAT.PEER (i : Nat) : Fld := ⟨LNK_PORT_STAT.addr i, 26, 23⟩
def LNK_PORT_STAT.WIDTH (i : Nat) : Fld := ⟨LNK_PORT_STAT.addr i, 22, 18⟩
def LNK_PORT_STAT.ACTIVE (i : Nat) : Fld := ⟨LNK_PORT_STAT.addr i, 15, 0⟩
/-- Address of LNK_PORT_UNIT (spec/16_lanes_and_huaroten_link.md). -/
def LNK_PORT_UNIT.addr (i : Nat) : Nat := 0x140404 + 0x20 * i
def LNK_PORT_UNIT.UNIT (i : Nat) : Fld := ⟨LNK_PORT_UNIT.addr i, 31, 0⟩
/-- Address of LNK_PORT_CTL (spec/16_lanes_and_huaroten_link.md). -/
def LNK_PORT_CTL.addr (i : Nat) : Nat := 0x140408 + 0x20 * i
def LNK_PORT_CTL.DOZE_IDLE (i : Nat) : Fld := ⟨LNK_PORT_CTL.addr i, 31, 16⟩
def LNK_PORT_CTL.DEEP_IDLE (i : Nat) : Fld := ⟨LNK_PORT_CTL.addr i, 15, 0⟩
/-- Address of LNK_PORT_BOB0 (spec/16_lanes_and_huaroten_link.md). -/
def LNK_PORT_BOB0.addr (i : Nat) : Nat := 0x14040C + 0x20 * i
def LNK_PORT_BOB0.C1 (i : Nat) : Fld := ⟨LNK_PORT_BOB0.addr i, 31, 16⟩
def LNK_PORT_BOB0.C0 (i : Nat) : Fld := ⟨LNK_PORT_BOB0.addr i, 15, 0⟩
/-- Address of LNK_PORT_BOB1 (spec/16_lanes_and_huaroten_link.md). -/
def LNK_PORT_BOB1.addr (i : Nat) : Nat := 0x140410 + 0x20 * i
def LNK_PORT_BOB1.C3 (i : Nat) : Fld := ⟨LNK_PORT_BOB1.addr i, 31, 16⟩
def LNK_PORT_BOB1.C2 (i : Nat) : Fld := ⟨LNK_PORT_BOB1.addr i, 15, 0⟩
/-- Address of LNK_PORT_CNT (spec/16_lanes_and_huaroten_link.md). -/
def LNK_PORT_CNT.addr (i : Nat) : Nat := 0x140414 + 0x20 * i
def LNK_PORT_CNT.CRC_ERR (i : Nat) : Fld := ⟨LNK_PORT_CNT.addr i, 31, 16⟩
def LNK_PORT_CNT.REPLAY (i : Nat) : Fld := ⟨LNK_PORT_CNT.addr i, 15, 0⟩
/-- Address of LNK_PORT_CNT2 (spec/16_lanes_and_huaroten_link.md). -/
def LNK_PORT_CNT2.addr (i : Nat) : Nat := 0x140418 + 0x20 * i
def LNK_PORT_CNT2.DISCARD (i : Nat) : Fld := ⟨LNK_PORT_CNT2.addr i, 31, 16⟩
def LNK_PORT_CNT2.LOST (i : Nat) : Fld := ⟨LNK_PORT_CNT2.addr i, 15, 0⟩

end Sys2Proof.Machine
end

