-- ==== Sys2Proof/Machine/FieldsSys.lean ====
section
/-! DEFINITION. Field handles of the system blocks GLB, CLP, EVT, PWR, CLK, BEZ and IMG. A handle names a field by
its BAR0 address and its bits; `X.addr` is the address of register X. -/

namespace Sys2Proof.Machine

/-- Address of GLB_EPOCH (spec/01_architecture.md). -/
def GLB_EPOCH.addr : Nat := 0x100
def GLB_EPOCH.EPOCH : Fld := ⟨GLB_EPOCH.addr, 31, 0⟩
/-- Address of GLB_SHADOW_OPEN (spec/01_architecture.md). -/
def GLB_SHADOW_OPEN.addr : Nat := 0x110
def GLB_SHADOW_OPEN.TAG : Fld := ⟨GLB_SHADOW_OPEN.addr, 7, 0⟩
/-- Address of GLB_SHADOW_CLOSE (spec/01_architecture.md). -/
def GLB_SHADOW_CLOSE.addr : Nat := 0x114
def GLB_SHADOW_CLOSE.CLOSE : Fld := ⟨GLB_SHADOW_CLOSE.addr, 0, 0⟩
/-- Address of GLB_SHADOW_ABORT (spec/01_architecture.md). -/
def GLB_SHADOW_ABORT.addr : Nat := 0x118
def GLB_SHADOW_ABORT.ABORT : Fld := ⟨GLB_SHADOW_ABORT.addr, 0, 0⟩
/-- Address of GLB_SHADOW_STAT (spec/01_architecture.md). -/
def GLB_SHADOW_STAT.addr : Nat := 0x11C
def GLB_SHADOW_STAT.OPEN : Fld := ⟨GLB_SHADOW_STAT.addr, 31, 31⟩
def GLB_SHADOW_STAT.PEND : Fld := ⟨GLB_SHADOW_STAT.addr, 30, 30⟩
def GLB_SHADOW_STAT.OVF : Fld := ⟨GLB_SHADOW_STAT.addr, 29, 29⟩
def GLB_SHADOW_STAT.NEST : Fld := ⟨GLB_SHADOW_STAT.addr, 28, 28⟩
def GLB_SHADOW_STAT.REJ : Fld := ⟨GLB_SHADOW_STAT.addr, 27, 27⟩
def GLB_SHADOW_STAT.REJ_CODE : Fld := ⟨GLB_SHADOW_STAT.addr, 26, 19⟩
def GLB_SHADOW_STAT.LAND_TAG : Fld := ⟨GLB_SHADOW_STAT.addr, 18, 11⟩
/-- Address of GLB_CFG_LAND_EPOCH (spec/01_architecture.md). -/
def GLB_CFG_LAND_EPOCH.addr : Nat := 0x120
def GLB_CFG_LAND_EPOCH.EPOCH : Fld := ⟨GLB_CFG_LAND_EPOCH.addr, 31, 0⟩
/-- Address of GLB_SHADOW_CNT (spec/01_architecture.md). -/
def GLB_SHADOW_CNT.addr : Nat := 0x124
def GLB_SHADOW_CNT.COUNT : Fld := ⟨GLB_SHADOW_CNT.addr, 12, 0⟩
/-- Address of GLB_VIEW_EPOCH (spec/01_architecture.md). -/
def GLB_VIEW_EPOCH.addr : Nat := 0x130
def GLB_VIEW_EPOCH.EPOCH : Fld := ⟨GLB_VIEW_EPOCH.addr, 31, 0⟩
/-- Address of GLB_FRAME_STAT (spec/01_architecture.md). -/
def GLB_FRAME_STAT.addr : Nat := 0x134
def GLB_FRAME_STAT.INCOMPLETE : Fld := ⟨GLB_FRAME_STAT.addr, 5, 5⟩
def GLB_FRAME_STAT.DATA_OVR : Fld := ⟨GLB_FRAME_STAT.addr, 4, 4⟩
def GLB_FRAME_STAT.DIAG_OVR : Fld := ⟨GLB_FRAME_STAT.addr, 3, 3⟩
def GLB_FRAME_STAT.SEL_OVR : Fld := ⟨GLB_FRAME_STAT.addr, 2, 2⟩
def GLB_FRAME_STAT.EXT_OVR : Fld := ⟨GLB_FRAME_STAT.addr, 1, 1⟩
def GLB_FRAME_STAT.ACQ_OVR : Fld := ⟨GLB_FRAME_STAT.addr, 0, 0⟩
/-- Address of GLB_OVR_CNT (spec/01_architecture.md). -/
def GLB_OVR_CNT.addr : Nat := 0x138
def GLB_OVR_CNT.DATA_CNT : Fld := ⟨GLB_OVR_CNT.addr, 31, 16⟩
def GLB_OVR_CNT.INC_CNT : Fld := ⟨GLB_OVR_CNT.addr, 15, 0⟩
/-- Address of GLB_ID (spec/14_host_interface_and_events.md). -/
def GLB_ID.addr : Nat := 0x0
def GLB_ID.PART : Fld := ⟨GLB_ID.addr, 31, 16⟩
def GLB_ID.STEP : Fld := ⟨GLB_ID.addr, 15, 8⟩
/-- Address of GLB_CMD_PTR (spec/14_host_interface_and_events.md). -/
def GLB_CMD_PTR.addr : Nat := 0x10
def GLB_CMD_PTR.HEAD : Fld := ⟨GLB_CMD_PTR.addr, 21, 16⟩
def GLB_CMD_PTR.TAIL : Fld := ⟨GLB_CMD_PTR.addr, 5, 0⟩
/-- Address of GLB_CPL_PTR (spec/14_host_interface_and_events.md). -/
def GLB_CPL_PTR.addr : Nat := 0x14
def GLB_CPL_PTR.TAIL : Fld := ⟨GLB_CPL_PTR.addr, 21, 16⟩
def GLB_CPL_PTR.HEAD : Fld := ⟨GLB_CPL_PTR.addr, 5, 0⟩
/-- Address of GLB_CMD_CNT (spec/14_host_interface_and_events.md). -/
def GLB_CMD_CNT.addr : Nat := 0x18
def GLB_CMD_CNT.STALL : Fld := ⟨GLB_CMD_CNT.addr, 31, 31⟩
def GLB_CMD_CNT.BAD : Fld := ⟨GLB_CMD_CNT.addr, 23, 12⟩
def GLB_CMD_CNT.CONFLICT : Fld := ⟨GLB_CMD_CNT.addr, 11, 0⟩
/-- Address of GLB_ACC_ERR (spec/14_host_interface_and_events.md). -/
def GLB_ACC_ERR.addr : Nat := 0x20
def GLB_ACC_ERR.LAST_CAUSE : Fld := ⟨GLB_ACC_ERR.addr, 31, 28⟩
def GLB_ACC_ERR.COUNT : Fld := ⟨GLB_ACC_ERR.addr, 15, 0⟩
/-- Address of GLB_BAR4_BASE (spec/14_host_interface_and_events.md). -/
def GLB_BAR4_BASE.addr : Nat := 0x30
def GLB_BAR4_BASE.BASE : Fld := ⟨GLB_BAR4_BASE.addr, 7, 0⟩
/-- Address of GLB_MBX_TX (spec/14_host_interface_and_events.md). -/
def GLB_MBX_TX.addr (i : Nat) : Nat := 0x200 + 0x4 * i
def GLB_MBX_TX.WORD (i : Nat) : Fld := ⟨GLB_MBX_TX.addr i, 31, 0⟩
/-- Address of GLB_MBX_RX (spec/14_host_interface_and_events.md). -/
def GLB_MBX_RX.addr (i : Nat) : Nat := 0x240 + 0x4 * i
def GLB_MBX_RX.WORD (i : Nat) : Fld := ⟨GLB_MBX_RX.addr i, 31, 0⟩
/-- Address of GLB_MBX_RX_CTL (spec/14_host_interface_and_events.md). -/
def GLB_MBX_RX_CTL.addr : Nat := 0x280
def GLB_MBX_RX_CTL.POST : Fld := ⟨GLB_MBX_RX_CTL.addr, 31, 31⟩
/-- Address of GLB_MBX_RX_STAT (spec/14_host_interface_and_events.md). -/
def GLB_MBX_RX_STAT.addr : Nat := 0x284
def GLB_MBX_RX_STAT.PASS : Fld := ⟨GLB_MBX_RX_STAT.addr, 31, 31⟩
def GLB_MBX_RX_STAT.FAIL_CNT : Fld := ⟨GLB_MBX_RX_STAT.addr, 15, 0⟩
/-- Address of GLB_CMD_ENT (spec/14_host_interface_and_events.md). -/
def GLB_CMD_ENT.addr (i : Nat) : Nat := 0x1000 + 0x4 * i
def GLB_CMD_ENT.WORD (i : Nat) : Fld := ⟨GLB_CMD_ENT.addr i, 31, 0⟩
/-- Address of GLB_CPL_ENT (spec/14_host_interface_and_events.md). -/
def GLB_CPL_ENT.addr (i : Nat) : Nat := 0x1800 + 0x4 * i
def GLB_CPL_ENT.WORD (i : Nat) : Fld := ⟨GLB_CPL_ENT.addr i, 31, 0⟩
/-- Address of CLP_CMD (spec/14_host_interface_and_events.md). -/
def CLP_CMD.addr : Nat := 0x10000
def CLP_CMD.RELEASE : Fld := ⟨CLP_CMD.addr, 1, 1⟩
def CLP_CMD.SNAP : Fld := ⟨CLP_CMD.addr, 0, 0⟩
/-- Address of CLP_CFG (spec/14_host_interface_and_events.md). -/
def CLP_CFG.addr : Nat := 0x10004
def CLP_CFG.TIMEOUT : Fld := ⟨CLP_CFG.addr, 15, 0⟩
/-- Address of CLP_STAT (spec/14_host_interface_and_events.md). -/
def CLP_STAT.addr : Nat := 0x10008
def CLP_STAT.HELD : Fld := ⟨CLP_STAT.addr, 31, 31⟩
def CLP_STAT.NEST : Fld := ⟨CLP_STAT.addr, 30, 30⟩
def CLP_STAT.TIMED_OUT : Fld := ⟨CLP_STAT.addr, 29, 29⟩
def CLP_STAT.SKIPPED : Fld := ⟨CLP_STAT.addr, 15, 0⟩
/-- Address of EVT_SRC (spec/14_host_interface_and_events.md). -/
def EVT_SRC.addr (i : Nat) : Nat := 0x20000 + 0x4 * i
def EVT_SRC.MASK (i : Nat) : Fld := ⟨EVT_SRC.addr i, 31, 31⟩
def EVT_SRC.SAFETY (i : Nat) : Fld := ⟨EVT_SRC.addr i, 30, 30⟩
def EVT_SRC.VEC (i : Nat) : Fld := ⟨EVT_SRC.addr i, 24, 16⟩
/-- Address of EVT_PEND (spec/14_host_interface_and_events.md). -/
def EVT_PEND.addr (i : Nat) : Nat := 0x20C00 + 0x4 * i
def EVT_PEND.PEND (i : Nat) : Fld := ⟨EVT_PEND.addr i, 31, 0⟩
/-- Address of EVT_CNT (spec/14_host_interface_and_events.md). -/
def EVT_CNT.addr (i : Nat) : Nat := 0x21000 + 0x4 * i
def EVT_CNT.COUNT (i : Nat) : Fld := ⟨EVT_CNT.addr i, 15, 0⟩
/-- Address of EVT_FIRST_SRC (spec/14_host_interface_and_events.md). -/
def EVT_FIRST_SRC.addr (i : Nat) : Nat := 0x22000 + 0x8 * i
def EVT_FIRST_SRC.VALID (i : Nat) : Fld := ⟨EVT_FIRST_SRC.addr i, 31, 31⟩
def EVT_FIRST_SRC.SOURCE (i : Nat) : Fld := ⟨EVT_FIRST_SRC.addr i, 25, 16⟩
def EVT_FIRST_SRC.CAUSE (i : Nat) : Fld := ⟨EVT_FIRST_SRC.addr i, 15, 8⟩
/-- Address of EVT_FIRST_EP (spec/14_host_interface_and_events.md). -/
def EVT_FIRST_EP.addr (i : Nat) : Nat := 0x22004 + 0x8 * i
def EVT_FIRST_EP.EPOCH (i : Nat) : Fld := ⟨EVT_FIRST_EP.addr i, 31, 0⟩
/-- Address of EVT_LOG_BASE_LO (spec/14_host_interface_and_events.md). -/
def EVT_LOG_BASE_LO.addr : Nat := 0x22100
def EVT_LOG_BASE_LO.BASE : Fld := ⟨EVT_LOG_BASE_LO.addr, 31, 12⟩
/-- Address of EVT_LOG_BASE_HI (spec/14_host_interface_and_events.md). -/
def EVT_LOG_BASE_HI.addr : Nat := 0x22104
def EVT_LOG_BASE_HI.BASE : Fld := ⟨EVT_LOG_BASE_HI.addr, 31, 0⟩
/-- Address of EVT_LOG_CTL (spec/14_host_interface_and_events.md). -/
def EVT_LOG_CTL.addr : Nat := 0x22108
def EVT_LOG_CTL.EN : Fld := ⟨EVT_LOG_CTL.addr, 31, 31⟩
def EVT_LOG_CTL.SIZE_LOG2 : Fld := ⟨EVT_LOG_CTL.addr, 4, 0⟩
/-- Address of EVT_LOG_HEAD (spec/14_host_interface_and_events.md). -/
def EVT_LOG_HEAD.addr : Nat := 0x2210C
def EVT_LOG_HEAD.INDEX : Fld := ⟨EVT_LOG_HEAD.addr, 19, 0⟩
/-- Address of EVT_LOG_TAIL (spec/14_host_interface_and_events.md). -/
def EVT_LOG_TAIL.addr : Nat := 0x22110
def EVT_LOG_TAIL.INDEX : Fld := ⟨EVT_LOG_TAIL.addr, 19, 0⟩
/-- Address of EVT_LOG_STAT (spec/14_host_interface_and_events.md). -/
def EVT_LOG_STAT.addr : Nat := 0x22114
def EVT_LOG_STAT.COALESCING : Fld := ⟨EVT_LOG_STAT.addr, 31, 31⟩
def EVT_LOG_STAT.RING_FULL : Fld := ⟨EVT_LOG_STAT.addr, 30, 30⟩
def EVT_LOG_STAT.ENTRIES : Fld := ⟨EVT_LOG_STAT.addr, 29, 24⟩
def EVT_LOG_STAT.LEVEL : Fld := ⟨EVT_LOG_STAT.addr, 8, 0⟩
/-- Address of EVT_LOG_CNT (spec/14_host_interface_and_events.md). -/
def EVT_LOG_CNT.addr : Nat := 0x22118
def EVT_LOG_CNT.LOST : Fld := ⟨EVT_LOG_CNT.addr, 31, 0⟩
/-- Address of EVT_INT_CTL (spec/14_host_interface_and_events.md). -/
def EVT_INT_CTL.addr : Nat := 0x2211C
def EVT_INT_CTL.INT_EN : Fld := ⟨EVT_INT_CTL.addr, 31, 31⟩
def EVT_INT_CTL.HOLDOFF : Fld := ⟨EVT_INT_CTL.addr, 15, 0⟩
/-- Address of EVT_MSIX_TABLE (spec/14_host_interface_and_events.md). -/
def EVT_MSIX_TABLE.addr (i : Nat) : Nat := 0x28000 + 0x4 * i
def EVT_MSIX_TABLE.ENTRY (i : Nat) : Fld := ⟨EVT_MSIX_TABLE.addr i, 31, 0⟩
/-- Address of EVT_MSIX_PBA (spec/14_host_interface_and_events.md). -/
def EVT_MSIX_PBA.addr (i : Nat) : Nat := 0x2A000 + 0x4 * i
def EVT_MSIX_PBA.ENTRY (i : Nat) : Fld := ⟨EVT_MSIX_PBA.addr i, 31, 0⟩
/-- Address of PWR_DOM_CTL (spec/03_power.md). -/
def PWR_DOM_CTL.addr : Nat := 0x30000
def PWR_DOM_CTL.FORCE : Fld := ⟨PWR_DOM_CTL.addr, 9, 9⟩
def PWR_DOM_CTL.ON : Fld := ⟨PWR_DOM_CTL.addr, 8, 8⟩
def PWR_DOM_CTL.DOM_ID : Fld := ⟨PWR_DOM_CTL.addr, 7, 0⟩
/-- Address of PWR_DOM_STAT (spec/03_power.md). -/
def PWR_DOM_STAT.addr : Nat := 0x30004
def PWR_DOM_STAT.BUSY : Fld := ⟨PWR_DOM_STAT.addr, 31, 31⟩
def PWR_DOM_STAT.RESULT : Fld := ⟨PWR_DOM_STAT.addr, 19, 16⟩
def PWR_DOM_STAT.LAST_ID : Fld := ⟨PWR_DOM_STAT.addr, 15, 8⟩
/-- Address of PWR_DOM_ON (spec/03_power.md). -/
def PWR_DOM_ON.addr (i : Nat) : Nat := 0x30010 + 0x4 * i
def PWR_DOM_ON.ON (i : Nat) : Fld := ⟨PWR_DOM_ON.addr i, 31, 0⟩
/-- Address of PWR_DOM_REQD (spec/03_power.md). -/
def PWR_DOM_REQD.addr (i : Nat) : Nat := 0x30030 + 0x4 * i
def PWR_DOM_REQD.REQD (i : Nat) : Fld := ⟨PWR_DOM_REQD.addr i, 31, 0⟩
/-- Address of PWR_RST_CAUSE (spec/03_power.md). -/
def PWR_RST_CAUSE.addr : Nat := 0x30050
def PWR_RST_CAUSE.LOCKOUT_PREV : Fld := ⟨PWR_RST_CAUSE.addr, 13, 13⟩
def PWR_RST_CAUSE.WARM : Fld := ⟨PWR_RST_CAUSE.addr, 12, 12⟩
def PWR_RST_CAUSE.PORST : Fld := ⟨PWR_RST_CAUSE.addr, 11, 11⟩
def PWR_RST_CAUSE.AON_FIRST : Fld := ⟨PWR_RST_CAUSE.addr, 10, 10⟩
def PWR_RST_CAUSE.BROWNOUT : Fld := ⟨PWR_RST_CAUSE.addr, 9, 0⟩
/-- Address of PWR_DRAIN_LOST (spec/03_power.md). -/
def PWR_DRAIN_LOST.addr : Nat := 0x30060
def PWR_DRAIN_LOST.COUNT : Fld := ⟨PWR_DRAIN_LOST.addr, 31, 0⟩
/-- Address of PWR_OFF_ACC (spec/03_power.md). -/
def PWR_OFF_ACC.addr : Nat := 0x30064
def PWR_OFF_ACC.COUNT : Fld := ⟨PWR_OFF_ACC.addr, 31, 0⟩
/-- Address of PWR_MODE (spec/03_power.md). -/
def PWR_MODE.addr : Nat := 0x30070
def PWR_MODE.MODE : Fld := ⟨PWR_MODE.addr, 1, 0⟩
/-- Address of CLK_STAT (spec/04_clocks_and_sync.md). -/
def CLK_STAT.addr : Nat := 0x40000
def CLK_STAT.PLLT_LOCK : Fld := ⟨CLK_STAT.addr, 31, 31⟩
def CLK_STAT.PLLF_LOCK : Fld := ⟨CLK_STAT.addr, 30, 30⟩
def CLK_STAT.PLLT_BYP : Fld := ⟨CLK_STAT.addr, 29, 29⟩
def CLK_STAT.PLLF_BYP : Fld := ⟨CLK_STAT.addr, 28, 28⟩
def CLK_STAT.REFT_OK : Fld := ⟨CLK_STAT.addr, 27, 27⟩
def CLK_STAT.REFF_OK : Fld := ⟨CLK_STAT.addr, 26, 26⟩
def CLK_STAT.REFF_ACT : Fld := ⟨CLK_STAT.addr, 25, 25⟩
def CLK_STAT.BAND_AUTO : Fld := ⟨CLK_STAT.addr, 24, 24⟩
def CLK_STAT.BAND : Fld := ⟨CLK_STAT.addr, 23, 18⟩
def CLK_STAT.OUT_ERR : Fld := ⟨CLK_STAT.addr, 17, 17⟩
def CLK_STAT.MON_FAIL : Fld := ⟨CLK_STAT.addr, 16, 16⟩
/-- Address of CLK_FRAME_PER (spec/04_clocks_and_sync.md). -/
def CLK_FRAME_PER.addr : Nat := 0x40010
def CLK_FRAME_PER.PERIOD : Fld := ⟨CLK_FRAME_PER.addr, 10, 0⟩
/-- Address of CLK_PLLF_CFG (spec/04_clocks_and_sync.md). -/
def CLK_PLLF_CFG.addr : Nat := 0x40014
def CLK_PLLF_CFG.REF_SEL : Fld := ⟨CLK_PLLF_CFG.addr, 31, 31⟩
def CLK_PLLF_CFG.BAND_SRC : Fld := ⟨CLK_PLLF_CFG.addr, 30, 30⟩
def CLK_PLLF_CFG.REFF_KHZ : Fld := ⟨CLK_PLLF_CFG.addr, 17, 0⟩
/-- Address of CLK_PLLF_BTAB (spec/04_clocks_and_sync.md). -/
def CLK_PLLF_BTAB.addr (i : Nat) : Nat := 0x40020 + 0x4 * i
def CLK_PLLF_BTAB.VALID (i : Nat) : Fld := ⟨CLK_PLLF_BTAB.addr i, 31, 31⟩
def CLK_PLLF_BTAB.BAND (i : Nat) : Fld := ⟨CLK_PLLF_BTAB.addr i, 29, 24⟩
def CLK_PLLF_BTAB.VCO_LO (i : Nat) : Fld := ⟨CLK_PLLF_BTAB.addr i, 23, 12⟩
def CLK_PLLF_BTAB.VCO_HI (i : Nat) : Fld := ⟨CLK_PLLF_BTAB.addr i, 11, 0⟩
/-- Address of CLK_STEER (spec/04_clocks_and_sync.md). -/
def CLK_STEER.addr : Nat := 0x40040
def CLK_STEER.OFFSET : Fld := ⟨CLK_STEER.addr, 20, 0⟩
/-- Address of CLK_STEER_LIM (spec/04_clocks_and_sync.md). -/
def CLK_STEER_LIM.addr : Nat := 0x40044
def CLK_STEER_LIM.LIM : Fld := ⟨CLK_STEER_LIM.addr, 25, 16⟩
def CLK_STEER_LIM.STEP : Fld := ⟨CLK_STEER_LIM.addr, 10, 0⟩
/-- Address of CLK_STEER_STAT (spec/04_clocks_and_sync.md). -/
def CLK_STEER_STAT.addr : Nat := 0x40048
def CLK_STEER_STAT.EFF : Fld := ⟨CLK_STEER_STAT.addr, 20, 0⟩
/-- Address of CLK_SYNC_CTL (spec/04_clocks_and_sync.md). -/
def CLK_SYNC_CTL.addr : Nat := 0x40050
def CLK_SYNC_CTL.MODE : Fld := ⟨CLK_SYNC_CTL.addr, 31, 30⟩
def CLK_SYNC_CTL.EDGE : Fld := ⟨CLK_SYNC_CTL.addr, 29, 29⟩
def CLK_SYNC_CTL.DIV_M1 : Fld := ⟨CLK_SYNC_CTL.addr, 25, 18⟩
def CLK_SYNC_CTL.QFR_M1 : Fld := ⟨CLK_SYNC_CTL.addr, 17, 8⟩
/-- Address of CLK_SYNC_DLY (spec/04_clocks_and_sync.md). -/
def CLK_SYNC_DLY.addr : Nat := 0x40054
def CLK_SYNC_DLY.DLY : Fld := ⟨CLK_SYNC_DLY.addr, 23, 0⟩
/-- Address of CLK_SYNC_STAT (spec/04_clocks_and_sync.md). -/
def CLK_SYNC_STAT.addr : Nat := 0x40058
def CLK_SYNC_STAT.STATE : Fld := ⟨CLK_SYNC_STAT.addr, 31, 30⟩
def CLK_SYNC_STAT.PHASE_ERR : Fld := ⟨CLK_SYNC_STAT.addr, 23, 0⟩
/-- Address of CLK_SYNC_CNT (spec/04_clocks_and_sync.md). -/
def CLK_SYNC_CNT.addr : Nat := 0x4005C
def CLK_SYNC_CNT.MISSING : Fld := ⟨CLK_SYNC_CNT.addr, 31, 16⟩
def CLK_SYNC_CNT.SPURIOUS : Fld := ⟨CLK_SYNC_CNT.addr, 15, 0⟩
/-- Address of CLK_SYNC_OUT (spec/04_clocks_and_sync.md). -/
def CLK_SYNC_OUT.addr : Nat := 0x40060
def CLK_SYNC_OUT.MODE : Fld := ⟨CLK_SYNC_OUT.addr, 31, 30⟩
def CLK_SYNC_OUT.WIDTH : Fld := ⟨CLK_SYNC_OUT.addr, 7, 0⟩
/-- Address of CLK_OUT_CTL (spec/04_clocks_and_sync.md). -/
def CLK_OUT_CTL.addr (i : Nat) : Nat := 0x40070 + 0x4 * i
def CLK_OUT_CTL.EN (i : Nat) : Fld := ⟨CLK_OUT_CTL.addr i, 31, 31⟩
def CLK_OUT_CTL.SRC (i : Nat) : Fld := ⟨CLK_OUT_CTL.addr i, 30, 28⟩
def CLK_OUT_CTL.DIV_M1 (i : Nat) : Fld := ⟨CLK_OUT_CTL.addr i, 25, 16⟩
def CLK_OUT_CTL.DLY_C (i : Nat) : Fld := ⟨CLK_OUT_CTL.addr i, 15, 8⟩
def CLK_OUT_CTL.DLY_F (i : Nat) : Fld := ⟨CLK_OUT_CTL.addr i, 3, 0⟩
/-- Address of BEZ_STAT (spec/13_loom_image_and_bezel.md). -/
def BEZ_STAT.addr : Nat := 0x50000
def BEZ_STAT.FACT_OK : Fld := ⟨BEZ_STAT.addr, 31, 31⟩
def BEZ_STAT.GRADE : Fld := ⟨BEZ_STAT.addr, 30, 29⟩
def BEZ_STAT.DBG_LOCK : Fld := ⟨BEZ_STAT.addr, 28, 28⟩
def BEZ_STAT.KEY_VALID : Fld := ⟨BEZ_STAT.addr, 27, 24⟩
def BEZ_STAT.KEY_REVOKED : Fld := ⟨BEZ_STAT.addr, 23, 20⟩
def BEZ_STAT.MISMATCH : Fld := ⟨BEZ_STAT.addr, 19, 19⟩
def BEZ_STAT.TAP_REFUSED : Fld := ⟨BEZ_STAT.addr, 18, 18⟩
/-- Address of BEZ_UNIT_ID_LO (spec/13_loom_image_and_bezel.md). -/
def BEZ_UNIT_ID_LO.addr : Nat := 0x50008
def BEZ_UNIT_ID_LO.ID : Fld := ⟨BEZ_UNIT_ID_LO.addr, 31, 0⟩
/-- Address of BEZ_UNIT_ID_HI (spec/13_loom_image_and_bezel.md). -/
def BEZ_UNIT_ID_HI.addr : Nat := 0x5000C
def BEZ_UNIT_ID_HI.ID : Fld := ⟨BEZ_UNIT_ID_HI.addr, 31, 0⟩
/-- Address of BEZ_ACCESS (spec/13_loom_image_and_bezel.md). -/
def BEZ_ACCESS.addr : Nat := 0x50010
def BEZ_ACCESS.DENY_FUSE_PROG : Fld := ⟨BEZ_ACCESS.addr, 5, 5⟩
def BEZ_ACCESS.DENY_RT_LOAD : Fld := ⟨BEZ_ACCESS.addr, 4, 4⟩
def BEZ_ACCESS.DENY_SWAP_RUN : Fld := ⟨BEZ_ACCESS.addr, 3, 3⟩
def BEZ_ACCESS.DENY_HRL : Fld := ⟨BEZ_ACCESS.addr, 2, 2⟩
def BEZ_ACCESS.DENY_PCIE : Fld := ⟨BEZ_ACCESS.addr, 1, 1⟩
def BEZ_ACCESS.DENY_QSPI : Fld := ⟨BEZ_ACCESS.addr, 0, 0⟩
/-- Address of BEZ_CAPS (spec/13_loom_image_and_bezel.md). -/
def BEZ_CAPS.addr : Nat := 0x50014
def BEZ_CAPS.PERIOD_MAX : Fld := ⟨BEZ_CAPS.addr, 31, 21⟩
def BEZ_CAPS.M_MAX : Fld := ⟨BEZ_CAPS.addr, 20, 18⟩
def BEZ_CAPS.LIM_MAX : Fld := ⟨BEZ_CAPS.addr, 9, 0⟩
/-- Address of BEZ_SVN (spec/13_loom_image_and_bezel.md). -/
def BEZ_SVN.addr : Nat := 0x50018
def BEZ_SVN.FLOOR : Fld := ⟨BEZ_SVN.addr, 6, 0⟩
/-- Address of BEZ_KEY_SEL (spec/13_loom_image_and_bezel.md). -/
def BEZ_KEY_SEL.addr : Nat := 0x50020
def BEZ_KEY_SEL.KEY : Fld := ⟨BEZ_KEY_SEL.addr, 5, 4⟩
def BEZ_KEY_SEL.WORD : Fld := ⟨BEZ_KEY_SEL.addr, 3, 0⟩
/-- Address of BEZ_KEY_DATA (spec/13_loom_image_and_bezel.md). -/
def BEZ_KEY_DATA.addr : Nat := 0x50024
def BEZ_KEY_DATA.HASH : Fld := ⟨BEZ_KEY_DATA.addr, 31, 0⟩
/-- Address of BEZ_PROG_SEL (spec/13_loom_image_and_bezel.md). -/
def BEZ_PROG_SEL.addr : Nat := 0x50040
def BEZ_PROG_SEL.FIELD : Fld := ⟨BEZ_PROG_SEL.addr, 15, 8⟩
def BEZ_PROG_SEL.WORD : Fld := ⟨BEZ_PROG_SEL.addr, 3, 0⟩
/-- Address of BEZ_PROG_DATA (spec/13_loom_image_and_bezel.md). -/
def BEZ_PROG_DATA.addr : Nat := 0x50044
def BEZ_PROG_DATA.DATA : Fld := ⟨BEZ_PROG_DATA.addr, 31, 0⟩
/-- Address of BEZ_PROG_CMD (spec/13_loom_image_and_bezel.md). -/
def BEZ_PROG_CMD.addr : Nat := 0x50048
def BEZ_PROG_CMD.KEY : Fld := ⟨BEZ_PROG_CMD.addr, 31, 16⟩
def BEZ_PROG_CMD.ACTION : Fld := ⟨BEZ_PROG_CMD.addr, 1, 0⟩
/-- Address of BEZ_PROG_STAT (spec/13_loom_image_and_bezel.md). -/
def BEZ_PROG_STAT.addr : Nat := 0x5004C
def BEZ_PROG_STAT.BUSY : Fld := ⟨BEZ_PROG_STAT.addr, 31, 31⟩
def BEZ_PROG_STAT.RESULT : Fld := ⟨BEZ_PROG_STAT.addr, 3, 0⟩
/-- Address of IMG_STAT (spec/13_loom_image_and_bezel.md). -/
def IMG_STAT.addr : Nat := 0x60000
def IMG_STAT.ACTIVE : Fld := ⟨IMG_STAT.addr, 31, 31⟩
def IMG_STAT.A_VALID : Fld := ⟨IMG_STAT.addr, 30, 30⟩
def IMG_STAT.B_VALID : Fld := ⟨IMG_STAT.addr, 29, 29⟩
def IMG_STAT.SAME_STRUCT : Fld := ⟨IMG_STAT.addr, 28, 28⟩
def IMG_STAT.PHASE : Fld := ⟨IMG_STAT.addr, 27, 24⟩
def IMG_STAT.ERR : Fld := ⟨IMG_STAT.addr, 7, 0⟩
/-- Address of IMG_ERR_INFO (spec/13_loom_image_and_bezel.md). -/
def IMG_ERR_INFO.addr : Nat := 0x60004
def IMG_ERR_INFO.RECORD : Fld := ⟨IMG_ERR_INFO.addr, 31, 16⟩
def IMG_ERR_INFO.REJ_CODE : Fld := ⟨IMG_ERR_INFO.addr, 7, 0⟩
/-- Address of IMG_ACT_ID (spec/13_loom_image_and_bezel.md). -/
def IMG_ACT_ID.addr (i : Nat) : Nat := 0x60010 + 0x4 * i
def IMG_ACT_ID.ID (i : Nat) : Fld := ⟨IMG_ACT_ID.addr i, 31, 0⟩
/-- Address of IMG_ACT_SVN (spec/13_loom_image_and_bezel.md). -/
def IMG_ACT_SVN.addr : Nat := 0x60020
def IMG_ACT_SVN.SVN : Fld := ⟨IMG_ACT_SVN.addr, 7, 0⟩
/-- Address of IMG_ACT_SHASH (spec/13_loom_image_and_bezel.md). -/
def IMG_ACT_SHASH.addr (i : Nat) : Nat := 0x60040 + 0x4 * i
def IMG_ACT_SHASH.HASH (i : Nat) : Fld := ⟨IMG_ACT_SHASH.addr i, 31, 0⟩
/-- Address of IMG_IDLE_ID (spec/13_loom_image_and_bezel.md). -/
def IMG_IDLE_ID.addr (i : Nat) : Nat := 0x60080 + 0x4 * i
def IMG_IDLE_ID.ID (i : Nat) : Fld := ⟨IMG_IDLE_ID.addr i, 31, 0⟩
/-- Address of IMG_SWAP_EPOCH (spec/13_loom_image_and_bezel.md). -/
def IMG_SWAP_EPOCH.addr : Nat := 0x600A0
def IMG_SWAP_EPOCH.EPOCH : Fld := ⟨IMG_SWAP_EPOCH.addr, 31, 0⟩
/-- Address of IMG_BOOT (spec/13_loom_image_and_bezel.md). -/
def IMG_BOOT.addr : Nat := 0x600A4
def IMG_BOOT.SRC : Fld := ⟨IMG_BOOT.addr, 31, 30⟩
def IMG_BOOT.COPY : Fld := ⟨IMG_BOOT.addr, 29, 29⟩
def IMG_BOOT.TIME_MS : Fld := ⟨IMG_BOOT.addr, 15, 0⟩
/-- Address of IMG_FEED_STAT (spec/13_loom_image_and_bezel.md). -/
def IMG_FEED_STAT.addr : Nat := 0x600B0
def IMG_FEED_STAT.OPEN : Fld := ⟨IMG_FEED_STAT.addr, 31, 31⟩
def IMG_FEED_STAT.OVF : Fld := ⟨IMG_FEED_STAT.addr, 30, 30⟩
def IMG_FEED_STAT.SPACE : Fld := ⟨IMG_FEED_STAT.addr, 13, 0⟩
/-- Address of IMG_PROT_CNT (spec/13_loom_image_and_bezel.md). -/
def IMG_PROT_CNT.addr : Nat := 0x600B4
def IMG_PROT_CNT.COUNT : Fld := ⟨IMG_PROT_CNT.addr, 31, 0⟩
/-- Address of IMG_RES_SEL (spec/13_loom_image_and_bezel.md). -/
def IMG_RES_SEL.addr : Nat := 0x600C0
def IMG_RES_SEL.ENTRY : Fld := ⟨IMG_RES_SEL.addr, 5, 0⟩
/-- Address of IMG_RES_DATA (spec/13_loom_image_and_bezel.md). -/
def IMG_RES_DATA.addr : Nat := 0x600C4
def IMG_RES_DATA.ENTRY : Fld := ⟨IMG_RES_DATA.addr, 31, 0⟩
/-- Address of IMG_RES_CNT (spec/13_loom_image_and_bezel.md). -/
def IMG_RES_CNT.addr : Nat := 0x600C8
def IMG_RES_CNT.REFUSED : Fld := ⟨IMG_RES_CNT.addr, 31, 16⟩
def IMG_RES_CNT.LAST_ID : Fld := ⟨IMG_RES_CNT.addr, 9, 0⟩
/-- Address of IMG_FEED (spec/13_loom_image_and_bezel.md). -/
def IMG_FEED.addr (i : Nat) : Nat := 0x68000 + 0x4 * i
def IMG_FEED.WORD (i : Nat) : Fld := ⟨IMG_FEED.addr i, 31, 0⟩

end Sys2Proof.Machine
end

