-- ==== Sys2Proof/Machine/FieldsTile.lean ====
section
/-! DEFINITION. Field handles of the tile sub-blocks RX, TDC, REED and RET (tile t). A handle names a field by
its BAR0 address and its bits; `X.addr` is the address of register X. -/

namespace Sys2Proof.Machine

/-- Address of T_RX_CTL (spec/05_receiver_array.md). -/
def T_RX_CTL.addr (t : Nat) : Nat := 0x1000000 + 0x10000 * t
def T_RX_CTL.TILE_EN (t : Nat) : Fld := ⟨T_RX_CTL.addr t, 31, 31⟩
def T_RX_CTL.CH_EN (t : Nat) : Fld := ⟨T_RX_CTL.addr t, 23, 16⟩
def T_RX_CTL.AUTO_SUB (t : Nat) : Fld := ⟨T_RX_CTL.addr t, 1, 1⟩
/-- Address of T_RX_STAT (spec/05_receiver_array.md). -/
def T_RX_STAT.addr (t : Nat) : Nat := 0x1000004 + 0x10000 * t
def T_RX_STAT.CH_FAIL (t : Nat) : Fld := ⟨T_RX_STAT.addr t, 31, 24⟩
def T_RX_STAT.SPARE_USED (t : Nat) : Fld := ⟨T_RX_STAT.addr t, 23, 23⟩
def T_RX_STAT.SPARE_FAIL (t : Nat) : Fld := ⟨T_RX_STAT.addr t, 22, 22⟩
/-- Address of T_BIND (spec/05_receiver_array.md). -/
def T_BIND.addr (t : Nat) (i : Nat) : Nat := 0x1000010 + 0x10000 * t + 0x4 * i
def T_BIND.BIND (t : Nat) (i : Nat) : Fld := ⟨T_BIND.addr t i, 31, 0⟩
/-- Address of T_AGGR (spec/05_receiver_array.md). -/
def T_AGGR.addr (t : Nat) (i : Nat) : Nat := 0x1000020 + 0x10000 * t + 0x4 * i
def T_AGGR.AGGR (t : Nat) (i : Nat) : Fld := ⟨T_AGGR.addr t i, 31, 0⟩
/-- Address of T_GATE_CTL (spec/05_receiver_array.md). -/
def T_GATE_CTL.addr (t : Nat) : Nat := 0x1000030 + 0x10000 * t
def T_GATE_CTL.LEN_M1 (t : Nat) : Fld := ⟨T_GATE_CTL.addr t, 26, 16⟩
def T_GATE_CTL.START (t : Nat) : Fld := ⟨T_GATE_CTL.addr t, 10, 0⟩
/-- Address of T_QUIET_CTL (spec/05_receiver_array.md). -/
def T_QUIET_CTL.addr (t : Nat) : Nat := 0x1000034 + 0x10000 * t
def T_QUIET_CTL.QW_LEN (t : Nat) : Fld := ⟨T_QUIET_CTL.addr t, 27, 16⟩
def T_QUIET_CTL.QW_START (t : Nat) : Fld := ⟨T_QUIET_CTL.addr t, 10, 0⟩
/-- Address of T_BLANK_CTL (spec/05_receiver_array.md). -/
def T_BLANK_CTL.addr (t : Nat) : Nat := 0x1000038 + 0x10000 * t
def T_BLANK_CTL.POST (t : Nat) : Fld := ⟨T_BLANK_CTL.addr t, 15, 8⟩
def T_BLANK_CTL.PRE (t : Nat) : Fld := ⟨T_BLANK_CTL.addr t, 7, 0⟩
/-- Address of T_SPAD_CTL (spec/05_receiver_array.md). -/
def T_SPAD_CTL.addr (t : Nat) : Nat := 0x1000040 + 0x10000 * t
def T_SPAD_CTL.HOLD (t : Nat) : Fld := ⟨T_SPAD_CTL.addr t, 20, 16⟩
/-- Address of T_SPAD_MASK (spec/05_receiver_array.md). -/
def T_SPAD_MASK.addr (t : Nat) (i : Nat) : Nat := 0x1000050 + 0x10000 * t + 0x4 * i
def T_SPAD_MASK.NEN (t : Nat) (i : Nat) : Fld := ⟨T_SPAD_MASK.addr t i, 28, 24⟩
def T_SPAD_MASK.EN (t : Nat) (i : Nat) : Fld := ⟨T_SPAD_MASK.addr t i, 23, 0⟩
/-- Address of T_BIAS_CTL (spec/05_receiver_array.md). -/
def T_BIAS_CTL.addr (t : Nat) : Nat := 0x1000080 + 0x10000 * t
def T_BIAS_CTL.AUTO (t : Nat) : Fld := ⟨T_BIAS_CTL.addr t, 31, 31⟩
def T_BIAS_CTL.EXCL (t : Nat) : Fld := ⟨T_BIAS_CTL.addr t, 30, 30⟩
def T_BIAS_CTL.TRIM (t : Nat) : Fld := ⟨T_BIAS_CTL.addr t, 5, 0⟩
/-- Address of T_BIAS_STAT (spec/05_receiver_array.md). -/
def T_BIAS_STAT.addr (t : Nat) : Nat := 0x1000084 + 0x10000 * t
def T_BIAS_STAT.VBD (t : Nat) : Fld := ⟨T_BIAS_STAT.addr t, 31, 20⟩
def T_BIAS_STAT.VEX (t : Nat) : Fld := ⟨T_BIAS_STAT.addr t, 19, 10⟩
def T_BIAS_STAT.TRIM (t : Nat) : Fld := ⟨T_BIAS_STAT.addr t, 9, 4⟩
def T_BIAS_STAT.BIAS_RDY (t : Nat) : Fld := ⟨T_BIAS_STAT.addr t, 3, 3⟩
def T_BIAS_STAT.BIAS_FAULT (t : Nat) : Fld := ⟨T_BIAS_STAT.addr t, 2, 2⟩
def T_BIAS_STAT.REF_FAIL (t : Nat) : Fld := ⟨T_BIAS_STAT.addr t, 1, 1⟩
def T_BIAS_STAT.TRIM_SAT (t : Nat) : Fld := ⟨T_BIAS_STAT.addr t, 0, 0⟩
/-- Address of T_COINC_CTL (spec/05_receiver_array.md). -/
def T_COINC_CTL.addr (t : Nat) : Nat := 0x1000090 + 0x10000 * t
def T_COINC_CTL.ADAPT (t : Nat) : Fld := ⟨T_COINC_CTL.addr t, 31, 31⟩
def T_COINC_CTL.K_FIX (t : Nat) : Fld := ⟨T_COINC_CTL.addr t, 27, 24⟩
def T_COINC_CTL.W_FIX (t : Nat) : Fld := ⟨T_COINC_CTL.addr t, 21, 16⟩
def T_COINC_CTL.HYST (t : Nat) : Fld := ⟨T_COINC_CTL.addr t, 13, 8⟩
def T_COINC_CTL.START_BAND (t : Nat) : Fld := ⟨T_COINC_CTL.addr t, 3, 0⟩
/-- Address of T_AMB_CTL (spec/05_receiver_array.md). -/
def T_AMB_CTL.addr (t : Nat) : Nat := 0x1000094 + 0x10000 * t
def T_AMB_CTL.BLIND_THR (t : Nat) : Fld := ⟨T_AMB_CTL.addr t, 31, 16⟩
def T_AMB_CTL.NB_M1 (t : Nat) : Fld := ⟨T_AMB_CTL.addr t, 15, 12⟩
def T_AMB_CTL.AMB_START (t : Nat) : Fld := ⟨T_AMB_CTL.addr t, 10, 0⟩
/-- Address of T_AMB_TAB (spec/05_receiver_array.md). -/
def T_AMB_TAB.addr (t : Nat) (i : Nat) : Nat := 0x10000A0 + 0x10000 * t + 0x4 * i
def T_AMB_TAB.THR (t : Nat) (i : Nat) : Fld := ⟨T_AMB_TAB.addr t i, 31, 16⟩
def T_AMB_TAB.K (t : Nat) (i : Nat) : Fld := ⟨T_AMB_TAB.addr t i, 11, 8⟩
def T_AMB_TAB.W (t : Nat) (i : Nat) : Fld := ⟨T_AMB_TAB.addr t i, 5, 0⟩
/-- Address of T_AMB_STAT (spec/05_receiver_array.md). -/
def T_AMB_STAT.addr (t : Nat) (i : Nat) : Nat := 0x10000E0 + 0x10000 * t + 0x4 * i
def T_AMB_STAT.RATE (t : Nat) (i : Nat) : Fld := ⟨T_AMB_STAT.addr t i, 31, 16⟩
def T_AMB_STAT.BAND (t : Nat) (i : Nat) : Fld := ⟨T_AMB_STAT.addr t i, 15, 12⟩
def T_AMB_STAT.K (t : Nat) (i : Nat) : Fld := ⟨T_AMB_STAT.addr t i, 11, 8⟩
def T_AMB_STAT.BLIND (t : Nat) (i : Nat) : Fld := ⟨T_AMB_STAT.addr t i, 7, 7⟩
def T_AMB_STAT.K_CLAMP (t : Nat) (i : Nat) : Fld := ⟨T_AMB_STAT.addr t i, 6, 6⟩
def T_AMB_STAT.W (t : Nat) (i : Nat) : Fld := ⟨T_AMB_STAT.addr t i, 5, 0⟩
/-- Address of T_PROOF_CTL (spec/05_receiver_array.md). -/
def T_PROOF_CTL.addr (t : Nat) : Nat := 0x1000100 + 0x10000 * t
def T_PROOF_CTL.DLY (t : Nat) : Fld := ⟨T_PROOF_CTL.addr t, 26, 16⟩
def T_PROOF_CTL.WIDTH (t : Nat) : Fld := ⟨T_PROOF_CTL.addr t, 11, 8⟩
def T_PROOF_CTL.DRIVE (t : Nat) : Fld := ⟨T_PROOF_CTL.addr t, 3, 0⟩
/-- Address of T_PROOF_CHK (spec/05_receiver_array.md). -/
def T_PROOF_CHK.addr (t : Nat) : Nat := 0x1000104 + 0x10000 * t
def T_PROOF_CHK.AMP_MIN (t : Nat) : Fld := ⟨T_PROOF_CHK.addr t, 31, 20⟩
def T_PROOF_CHK.AMP_MAX (t : Nat) : Fld := ⟨T_PROOF_CHK.addr t, 19, 8⟩
def T_PROOF_CHK.POS_TOL (t : Nat) : Fld := ⟨T_PROOF_CHK.addr t, 7, 0⟩
/-- Address of T_PROOF_STAT (spec/05_receiver_array.md). -/
def T_PROOF_STAT.addr (t : Nat) : Nat := 0x1000108 + 0x10000 * t
def T_PROOF_STAT.PASS (t : Nat) : Fld := ⟨T_PROOF_STAT.addr t, 31, 24⟩
def T_PROOF_STAT.AMP_FAIL (t : Nat) : Fld := ⟨T_PROOF_STAT.addr t, 23, 16⟩
def T_PROOF_STAT.POS_FAIL (t : Nat) : Fld := ⟨T_PROOF_STAT.addr t, 15, 8⟩
def T_PROOF_STAT.MISSING (t : Nat) : Fld := ⟨T_PROOF_STAT.addr t, 7, 0⟩
/-- Address of T_SLICE_MAP (spec/05_receiver_array.md). -/
def T_SLICE_MAP.addr (t : Nat) : Nat := 0x1000110 + 0x10000 * t
def T_SLICE_MAP.SUB_EN (t : Nat) : Fld := ⟨T_SLICE_MAP.addr t, 31, 31⟩
def T_SLICE_MAP.SUB_CH (t : Nat) : Fld := ⟨T_SLICE_MAP.addr t, 26, 24⟩
/-- Address of T_RX_CNT (spec/05_receiver_array.md). -/
def T_RX_CNT.addr (t : Nat) : Nat := 0x1000120 + 0x10000 * t
def T_RX_CNT.BLANK_CNT (t : Nat) : Fld := ⟨T_RX_CNT.addr t, 31, 0⟩
/-- Address of T_TDC_CTL (spec/06_time_to_digital.md). -/
def T_TDC_CTL.addr (t : Nat) : Nat := 0x1004000 + 0x10000 * t
def T_TDC_CTL.MODE (t : Nat) : Fld := ⟨T_TDC_CTL.addr t, 31, 31⟩
def T_TDC_CTL.TAC_RAW (t : Nat) : Fld := ⟨T_TDC_CTL.addr t, 30, 30⟩
def T_TDC_CTL.LIST_EN (t : Nat) : Fld := ⟨T_TDC_CTL.addr t, 23, 16⟩
def T_TDC_CTL.AUDIT_EN (t : Nat) : Fld := ⟨T_TDC_CTL.addr t, 0, 0⟩
/-- Address of T_TDC_STAT (spec/06_time_to_digital.md). -/
def T_TDC_STAT.addr (t : Nat) : Nat := 0x1004004 + 0x10000 * t
def T_TDC_STAT.SLICE_FAIL (t : Nat) : Fld := ⟨T_TDC_STAT.addr t, 31, 23⟩
def T_TDC_STAT.SETTLING (t : Nat) : Fld := ⟨T_TDC_STAT.addr t, 22, 22⟩
def T_TDC_STAT.MODE_ACT (t : Nat) : Fld := ⟨T_TDC_STAT.addr t, 21, 21⟩
def T_TDC_STAT.DLL_LOCK (t : Nat) : Fld := ⟨T_TDC_STAT.addr t, 8, 0⟩
/-- Address of T_TDC_AUDIT_CTL (spec/06_time_to_digital.md). -/
def T_TDC_AUDIT_CTL.addr (t : Nat) : Nat := 0x1004010 + 0x10000 * t
def T_TDC_AUDIT_CTL.OFS_LIM (t : Nat) : Fld := ⟨T_TDC_AUDIT_CTL.addr t, 31, 28⟩
def T_TDC_AUDIT_CTL.CMP_MAX (t : Nat) : Fld := ⟨T_TDC_AUDIT_CTL.addr t, 27, 24⟩
def T_TDC_AUDIT_CTL.CMP_TOL (t : Nat) : Fld := ⟨T_TDC_AUDIT_CTL.addr t, 23, 20⟩
def T_TDC_AUDIT_CTL.INL_LIM (t : Nat) : Fld := ⟨T_TDC_AUDIT_CTL.addr t, 15, 8⟩
def T_TDC_AUDIT_CTL.DNL_LIM (t : Nat) : Fld := ⟨T_TDC_AUDIT_CTL.addr t, 7, 0⟩
/-- Address of T_TDC_AUDIT_STAT (spec/06_time_to_digital.md). -/
def T_TDC_AUDIT_STAT.addr (t : Nat) : Nat := 0x1004014 + 0x10000 * t
def T_TDC_AUDIT_STAT.PHASE (t : Nat) : Fld := ⟨T_TDC_AUDIT_STAT.addr t, 31, 28⟩
def T_TDC_AUDIT_STAT.REPEAT (t : Nat) : Fld := ⟨T_TDC_AUDIT_STAT.addr t, 27, 27⟩
def T_TDC_AUDIT_STAT.CYCLES (t : Nat) : Fld := ⟨T_TDC_AUDIT_STAT.addr t, 15, 0⟩
/-- Address of T_TDC_DENS (spec/06_time_to_digital.md). -/
def T_TDC_DENS.addr (t : Nat) : Nat := 0x1004020 + 0x10000 * t
def T_TDC_DENS.DNL_MAX (t : Nat) : Fld := ⟨T_TDC_DENS.addr t, 31, 24⟩
def T_TDC_DENS.DNL_CODE (t : Nat) : Fld := ⟨T_TDC_DENS.addr t, 23, 18⟩
def T_TDC_DENS.INL_MAX (t : Nat) : Fld := ⟨T_TDC_DENS.addr t, 15, 8⟩
def T_TDC_DENS.INL_CODE (t : Nat) : Fld := ⟨T_TDC_DENS.addr t, 7, 2⟩
def T_TDC_DENS.VERDICT (t : Nat) : Fld := ⟨T_TDC_DENS.addr t, 1, 0⟩
/-- Address of T_TDC_DENS_HITS (spec/06_time_to_digital.md). -/
def T_TDC_DENS_HITS.addr (t : Nat) : Nat := 0x1004024 + 0x10000 * t
def T_TDC_DENS_HITS.H (t : Nat) : Fld := ⟨T_TDC_DENS_HITS.addr t, 31, 0⟩
/-- Address of T_TDC_MIR (spec/06_time_to_digital.md). -/
def T_TDC_MIR.addr (t : Nat) (i : Nat) : Nat := 0x1004030 + 0x10000 * t + 0x4 * i
def T_TDC_MIR.OFFSET (t : Nat) (i : Nat) : Fld := ⟨T_TDC_MIR.addr t i, 31, 24⟩
def T_TDC_MIR.RMS (t : Nat) (i : Nat) : Fld := ⟨T_TDC_MIR.addr t i, 23, 16⟩
def T_TDC_MIR.MISMATCH (t : Nat) (i : Nat) : Fld := ⟨T_TDC_MIR.addr t i, 15, 12⟩
def T_TDC_MIR.COMPARED (t : Nat) (i : Nat) : Fld := ⟨T_TDC_MIR.addr t i, 11, 2⟩
def T_TDC_MIR.VERDICT (t : Nat) (i : Nat) : Fld := ⟨T_TDC_MIR.addr t i, 1, 0⟩
/-- Address of T_TDC_CMD (spec/06_time_to_digital.md). -/
def T_TDC_CMD.addr (t : Nat) : Nat := 0x1004060 + 0x10000 * t
def T_TDC_CMD.UNMARK (t : Nat) : Fld := ⟨T_TDC_CMD.addr t, 9, 9⟩
def T_TDC_CMD.MARK (t : Nat) : Fld := ⟨T_TDC_CMD.addr t, 8, 8⟩
def T_TDC_CMD.SLICE (t : Nat) : Fld := ⟨T_TDC_CMD.addr t, 3, 0⟩
/-- Address of T_TDC_ERR (spec/06_time_to_digital.md). -/
def T_TDC_ERR.addr (t : Nat) : Nat := 0x1004064 + 0x10000 * t
def T_TDC_ERR.CMD_ERR (t : Nat) : Fld := ⟨T_TDC_ERR.addr t, 0, 0⟩
/-- Address of T_TDC_CNT (spec/06_time_to_digital.md). -/
def T_TDC_CNT.addr (t : Nat) : Nat := 0x1004070 + 0x10000 * t
def T_TDC_CNT.TAC_DROP (t : Nat) : Fld := ⟨T_TDC_CNT.addr t, 31, 16⟩
def T_TDC_CNT.DLL_DROP (t : Nat) : Fld := ⟨T_TDC_CNT.addr t, 15, 0⟩
/-- Address of T_TDC_LIST_CNT (spec/06_time_to_digital.md). -/
def T_TDC_LIST_CNT.addr (t : Nat) : Nat := 0x1004074 + 0x10000 * t
def T_TDC_LIST_CNT.LIST_DROP (t : Nat) : Fld := ⟨T_TDC_LIST_CNT.addr t, 31, 0⟩
/-- Address of T_TDC_COARSE (spec/06_time_to_digital.md). -/
def T_TDC_COARSE.addr (t : Nat) : Nat := 0x1004080 + 0x10000 * t
def T_TDC_COARSE.COARSE (t : Nat) : Fld := ⟨T_TDC_COARSE.addr t, 23, 0⟩
/-- Address of T_TDC_TRIM_SEL (spec/06_time_to_digital.md). -/
def T_TDC_TRIM_SEL.addr (t : Nat) : Nat := 0x1004090 + 0x10000 * t
def T_TDC_TRIM_SEL.SLICE (t : Nat) : Fld := ⟨T_TDC_TRIM_SEL.addr t, 11, 8⟩
def T_TDC_TRIM_SEL.ENTRY (t : Nat) : Fld := ⟨T_TDC_TRIM_SEL.addr t, 6, 0⟩
/-- Address of T_TDC_TRIM_DATA (spec/06_time_to_digital.md). -/
def T_TDC_TRIM_DATA.addr (t : Nat) : Nat := 0x1004094 + 0x10000 * t
def T_TDC_TRIM_DATA.VALUE (t : Nat) : Fld := ⟨T_TDC_TRIM_DATA.addr t, 7, 0⟩
/-- Address of T_REED_CTL (spec/08_histogram_engine.md). -/
def T_REED_CTL.addr (t : Nat) : Nat := 0x1008000 + 0x10000 * t
def T_REED_CTL.FACET (t : Nat) : Fld := ⟨T_REED_CTL.addr t, 31, 31⟩
def T_REED_CTL.FOFS (t : Nat) : Fld := ⟨T_REED_CTL.addr t, 29, 22⟩
def T_REED_CTL.SEP (t : Nat) : Fld := ⟨T_REED_CTL.addr t, 21, 18⟩
def T_REED_CTL.SEED_MIN (t : Nat) : Fld := ⟨T_REED_CTL.addr t, 17, 10⟩
def T_REED_CTL.F1 (t : Nat) : Fld := ⟨T_REED_CTL.addr t, 9, 0⟩
/-- Address of T_REED_WIN (spec/08_histogram_engine.md). -/
def T_REED_WIN.addr (t : Nat) : Nat := 0x1008004 + 0x10000 * t
def T_REED_WIN.HW_LEN (t : Nat) : Fld := ⟨T_REED_WIN.addr t, 27, 16⟩
def T_REED_WIN.HW_LO (t : Nat) : Fld := ⟨T_REED_WIN.addr t, 10, 0⟩
/-- Address of T_REED_EXP (spec/08_histogram_engine.md). -/
def T_REED_EXP.addr (t : Nat) : Nat := 0x1008008 + 0x10000 * t
def T_REED_EXP.RAW_EXP (t : Nat) : Fld := ⟨T_REED_EXP.addr t, 31, 24⟩
def T_REED_EXP.FAC_EXP (t : Nat) : Fld := ⟨T_REED_EXP.addr t, 23, 16⟩
def T_REED_EXP.EXP_PROOF (t : Nat) : Fld := ⟨T_REED_EXP.addr t, 15, 15⟩
def T_REED_EXP.RAW_DIV_M1 (t : Nat) : Fld := ⟨T_REED_EXP.addr t, 7, 0⟩
/-- Address of T_REED_STAT (spec/08_histogram_engine.md). -/
def T_REED_STAT.addr (t : Nat) : Nat := 0x1008010 + 0x10000 * t
def T_REED_STAT.SAT (t : Nat) : Fld := ⟨T_REED_STAT.addr t, 31, 24⟩
def T_REED_STAT.CUT (t : Nat) : Fld := ⟨T_REED_STAT.addr t, 23, 16⟩
def T_REED_STAT.RCHG (t : Nat) : Fld := ⟨T_REED_STAT.addr t, 15, 8⟩
/-- Address of T_REED_IVL (spec/08_histogram_engine.md). -/
def T_REED_IVL.addr (t : Nat) : Nat := 0x1008014 + 0x10000 * t
def T_REED_IVL.DISCARD (t : Nat) : Fld := ⟨T_REED_IVL.addr t, 31, 16⟩
def T_REED_IVL.DONE (t : Nat) : Fld := ⟨T_REED_IVL.addr t, 15, 0⟩
/-- Address of T_REED_SEED (spec/08_histogram_engine.md). -/
def T_REED_SEED.addr (t : Nat) (i : Nat) : Nat := 0x1008020 + 0x10000 * t + 0x4 * i
def T_REED_SEED.NSEED (t : Nat) (i : Nat) : Fld := ⟨T_REED_SEED.addr t i, 31, 30⟩
def T_REED_SEED.FS0 (t : Nat) (i : Nat) : Fld := ⟨T_REED_SEED.addr t i, 16, 0⟩
/-- Address of T_REED_CNT (spec/08_histogram_engine.md). -/
def T_REED_CNT.addr (t : Nat) : Nat := 0x1008040 + 0x10000 * t
def T_REED_CNT.EXP_SKIP (t : Nat) : Fld := ⟨T_REED_CNT.addr t, 31, 16⟩
def T_REED_CNT.CUT_CNT (t : Nat) : Fld := ⟨T_REED_CNT.addr t, 15, 0⟩
/-- Address of T_REED_OUT_CNT (spec/08_histogram_engine.md). -/
def T_REED_OUT_CNT.addr (t : Nat) : Nat := 0x1008044 + 0x10000 * t
def T_REED_OUT_CNT.COUNT (t : Nat) : Fld := ⟨T_REED_OUT_CNT.addr t, 31, 0⟩
/-- Address of T_REED_FWD_CNT (spec/08_histogram_engine.md). -/
def T_REED_FWD_CNT.addr (t : Nat) : Nat := 0x1008048 + 0x10000 * t
def T_REED_FWD_CNT.COUNT (t : Nat) : Fld := ⟨T_REED_FWD_CNT.addr t, 31, 0⟩
/-- Address of T_RET_CTL (spec/09_returns_and_point_records.md). -/
def T_RET_CTL.addr (t : Nat) : Nat := 0x100C000 + 0x10000 * t
def T_RET_CTL.PROOF_REC (t : Nat) : Fld := ⟨T_RET_CTL.addr t, 31, 31⟩
def T_RET_CTL.EMPTY_REC (t : Nat) : Fld := ⟨T_RET_CTL.addr t, 30, 30⟩
def T_RET_CTL.MERGE (t : Nat) : Fld := ⟨T_RET_CTL.addr t, 23, 20⟩
def T_RET_CTL.THR_SIG (t : Nat) : Fld := ⟨T_RET_CTL.addr t, 19, 12⟩
def T_RET_CTL.THR_ABS (t : Nat) : Fld := ⟨T_RET_CTL.addr t, 11, 0⟩
/-- Address of T_RET_CLS (spec/09_returns_and_point_records.md). -/
def T_RET_CLS.addr (t : Nat) : Nat := 0x100C004 + 0x10000 * t
def T_RET_CLS.MATCH_Q (t : Nat) : Fld := ⟨T_RET_CLS.addr t, 31, 28⟩
def T_RET_CLS.SAT_FRAC (t : Nat) : Fld := ⟨T_RET_CLS.addr t, 27, 24⟩
def T_RET_CLS.BLOOM_BINS (t : Nat) : Fld := ⟨T_RET_CLS.addr t, 23, 20⟩
def T_RET_CLS.BLOOM_RATIO (t : Nat) : Fld := ⟨T_RET_CLS.addr t, 19, 16⟩
def T_RET_CLS.PART_RATIO (t : Nat) : Fld := ⟨T_RET_CLS.addr t, 15, 12⟩
def T_RET_CLS.INTF_HOLD (t : Nat) : Fld := ⟨T_RET_CLS.addr t, 7, 0⟩
/-- Address of T_RET_CAL (spec/09_returns_and_point_records.md). -/
def T_RET_CAL.addr (t : Nat) : Nat := 0x100C008 + 0x10000 * t
def T_RET_CAL.CAL (t : Nat) : Fld := ⟨T_RET_CAL.addr t, 15, 0⟩
/-- Address of T_RET_CHOFS (spec/09_returns_and_point_records.md). -/
def T_RET_CHOFS.addr (t : Nat) (i : Nat) : Nat := 0x100C00C + 0x10000 * t + 0x4 * i
def T_RET_CHOFS.CH3 (t : Nat) (i : Nat) : Fld := ⟨T_RET_CHOFS.addr t i, 31, 24⟩
def T_RET_CHOFS.CH2 (t : Nat) (i : Nat) : Fld := ⟨T_RET_CHOFS.addr t i, 23, 16⟩
def T_RET_CHOFS.CH1 (t : Nat) (i : Nat) : Fld := ⟨T_RET_CHOFS.addr t i, 15, 8⟩
def T_RET_CHOFS.CH0 (t : Nat) (i : Nat) : Fld := ⟨T_RET_CHOFS.addr t i, 7, 0⟩
/-- Address of T_RET_HOSTMASK (spec/09_returns_and_point_records.md). -/
def T_RET_HOSTMASK.addr (t : Nat) : Nat := 0x100C014 + 0x10000 * t
def T_RET_HOSTMASK.DROP (t : Nat) : Fld := ⟨T_RET_HOSTMASK.addr t, 4, 0⟩
/-- Address of T_RET_STAT (spec/09_returns_and_point_records.md). -/
def T_RET_STAT.addr (t : Nat) : Nat := 0x100C020 + 0x10000 * t
def T_RET_STAT.INTF (t : Nat) : Fld := ⟨T_RET_STAT.addr t, 31, 24⟩
def T_RET_STAT.BLIND (t : Nat) : Fld := ⟨T_RET_STAT.addr t, 23, 16⟩
def T_RET_STAT.NO_GATES (t : Nat) : Fld := ⟨T_RET_STAT.addr t, 15, 8⟩
def T_RET_STAT.FULL (t : Nat) : Fld := ⟨T_RET_STAT.addr t, 7, 0⟩
/-- Address of T_RET_PTS (spec/09_returns_and_point_records.md). -/
def T_RET_PTS.addr (t : Nat) : Nat := 0x100C024 + 0x10000 * t
def T_RET_PTS.RECORDS (t : Nat) : Fld := ⟨T_RET_PTS.addr t, 31, 16⟩
def T_RET_PTS.RETURNS (t : Nat) : Fld := ⟨T_RET_PTS.addr t, 15, 0⟩
/-- Address of T_RET_CNT (spec/09_returns_and_point_records.md). -/
def T_RET_CNT.addr (t : Nat) : Nat := 0x100C028 + 0x10000 * t
def T_RET_CNT.CAND_LOST (t : Nat) : Fld := ⟨T_RET_CNT.addr t, 31, 16⟩
def T_RET_CNT.FAR (t : Nat) : Fld := ⟨T_RET_CNT.addr t, 15, 0⟩
/-- Address of T_RET_CNT2 (spec/09_returns_and_point_records.md). -/
def T_RET_CNT2.addr (t : Nat) : Nat := 0x100C02C + 0x10000 * t
def T_RET_CNT2.NEAR_CNT (t : Nat) : Fld := ⟨T_RET_CNT2.addr t, 31, 16⟩
def T_RET_CNT2.OVL_LOSS (t : Nat) : Fld := ⟨T_RET_CNT2.addr t, 15, 0⟩
/-- Address of T_RET_LAST (spec/09_returns_and_point_records.md). -/
def T_RET_LAST.addr (t : Nat) (i : Nat) : Nat := 0x100C030 + 0x10000 * t + 0x4 * i
def T_RET_LAST.RANGE (t : Nat) (i : Nat) : Fld := ⟨T_RET_LAST.addr t i, 31, 12⟩
def T_RET_LAST.CLASS (t : Nat) (i : Nat) : Fld := ⟨T_RET_LAST.addr t i, 11, 9⟩
def T_RET_LAST.VALID (t : Nat) (i : Nat) : Fld := ⟨T_RET_LAST.addr t i, 8, 8⟩
/-- Address of T_RET_LEDDLY (spec/09_returns_and_point_records.md). -/
def T_RET_LEDDLY.addr (t : Nat) : Nat := 0x100C050 + 0x10000 * t
def T_RET_LEDDLY.LEDDLY (t : Nat) : Fld := ⟨T_RET_LEDDLY.addr t, 15, 0⟩

end Sys2Proof.Machine
end

