-- ==== Sys2Proof/Machine/State.lean ====
section
/-! DEFINITION. The state of the NH8640 as plain data: the queue of waiting commands, time, the sparse register store
(every register of BAR0, an unlisted address holding its reset value), the memories, and the hidden state of each block
that the spec names but gives no register; the reasons of a fault or a refusal; and the state after reset. -/

namespace Sys2Proof.Machine

/-- Why a step stops with a fault. Every command of the table has an effect in the spec, so no meaning of this model
raises one; the constructor stands for a command whose operands no sender could form. -/
inductive Fault where
  /-- Raised by no meaning of this model (safe: a fault stops the model where the part would go on). -/
  | impossible
  deriving DecidableEq, Repr

/-- Why a step is refused. -/
inductive Refusal where
  /-- Raised by the dispatcher for a command that has no meaning yet (safe: nothing is claimed of it). -/
  | notModelled (mnemonic : String)
  deriving DecidableEq, Repr

/-- The device states of R14. -/
inductive Dev where
  | off | reset | boot | configured | run | degraded | safeStop | maintenance | lockout
  deriving DecidableEq, Repr

/-- One staged write of one RWS field (R31): the field and the value written. -/
structure FieldWrite where
  fld : Fld
  val : Nat
  deriving DecidableEq, Repr

/-- A place of the staging store: the write, and whether it completed inside the hand-over window of the running
frame (R28). -/
structure StageItem where
  w : FieldWrite
  late : Bool
  deriving DecidableEq, Repr

/-- Which source staged a group and for what: a host group with its tag (R29), the command ring, the loader group of a
domain (R87), of a boot or apply, or of a swap (R370), and a group of field-set selection (R35). -/
inductive GroupKind where
  | host (tag : Nat)
  | ring
  | domain (d : Nat)
  | image
  | swap
  | fsel
  deriving DecidableEq, Repr

/-- A closed group (R29, R35): its source, the FCLK cycle of its close, whether it closed inside the hand-over window,
and its writes in order. -/
structure StageGroup where
  kind : GroupKind
  closed : Nat
  late : Bool
  writes : List FieldWrite
  deriving DecidableEq, Repr

/-- The open host group (R29): tag, writes, and whether a write found no place (R31). -/
structure OpenGroup where
  tag : Nat
  writes : List FieldWrite
  ovf : Bool
  deriving DecidableEq, Repr

/-- The staging store: pending ungrouped host writes, closed groups in landing order, and the open host group. -/
structure Staging where
  single : List StageItem := []
  groups : List StageGroup := []
  openGrp : Option OpenGroup := none
  deriving DecidableEq, Repr

/-- A frame decision (R300, R333): zone flags, d_min and class of each zone (0xFFFF and 7 where not
listed; before the first decision class 0, the reset value of SEL_ZONE_DATA), lost zones. -/
structure Decision where
  pf : Nat := 0
  wf1 : Nat := 0
  wf2 : Nat := 0
  dmin : Tab Nat := []
  cls : Tab Nat := (List.range 64).map (fun z => (z, 0))
  lost : Nat := 0
  deriving DecidableEq, Repr

/-- A published view (R37): its epoch and the register words at the close of that frame, the frame decision, and
the window sums of the emitter groups by window and group (R37, R205). -/
structure View where
  epoch : Nat := 0
  regs : Tab Word := []
  dec : Decision := {}
  sums : Tab Nat := []
  deriving DecidableEq, Repr

/-- What a started command waits for (R385, R386). -/
inductive CmdWait where
  | runJudge     -- RUN: the next frame decision
  | runTick      -- RUN accepted: the next tick
  | tick         -- MAINT, LEAVE_MAINT: the next tick
  | standby      -- STANDBY: the end of entry
  | wake         -- WAKE: the return to ACTIVE
  | image        -- IMG_LOAD, IMG_SWAP, IMG_APPLY: the end of the load, swap or apply
  | plug         -- PLUG_WRITE: the end of write and read-back
  deriving DecidableEq, Repr

/-- A command that has been taken and runs (R384): opcode, tag, the device state in which it was taken, what it waits
for, whether a completion is written, and whether a host reset has discarded that completion (R377, R385). -/
structure RunCmd where
  op : Nat
  tag : Nat
  dev : Dev
  wait : CmdWait
  cpl : Bool
  deriving DecidableEq, Repr

/-- A completion entry before its CRC (R387). -/
structure Completion where
  op : Nat
  status : Nat
  tag : Nat
  detail : Nat
  epoch : Nat
  deriving DecidableEq, Repr

/-- A record of the error log (R399). -/
inductive LogRec where
  | event (source cause epoch time detail : Nat)
  | coal (source epoch0 time0 count epoch1 time1 : Nat)
  deriving DecidableEq, Repr

/-- An entry of the coalescing table (R400). -/
structure CoalEntry where
  source : Nat
  epoch0 : Nat
  time0 : Nat
  count : Nat
  epoch1 : Nat
  time1 : Nat
  deriving DecidableEq, Repr

/-- Event logic beyond its registers: the log FIFO, the coalescing table in opening order and its overflow entry, the
vectors whose holdoff runs, with those triggered during it (R395, R398, R400), and of the running cycle the sources that
have raised with their cause and epoch, the classes whose first-error record it has made, and the event records that it
has put at the end of the FIFO (R393, R397). -/
structure Events where
  fifo : List LogRec := []
  coal : List CoalEntry := []
  coalOvf : Option CoalEntry := none
  holdoff : List Nat := []
  heldTrig : List Nat := []
  raised : List (Nat × Nat × Nat) := []
  firsts : Nat := 0
  recs : Nat := 0
  deriving DecidableEq, Repr

/-- A BAR pair of the endpoint (R376): its size as a power of 2, and whether it is 64-bit and prefetchable. -/
structure PcieBar where
  bits : Nat
  wide : Bool
  prefetch : Bool
  deriving DecidableEq, Repr

/-- The configuration of the endpoint that never changes (R376): vendor, device, subsystem and revision IDs, class code, interrupt pin,
the link's rates in MT/s, its widths, lane reversal and clocking, BAR0, BAR2 and BAR4, largest payload, MSI-X vectors with the offsets of
table and PBA in BAR0, functions with SR-IOV and ARI, capabilities (power management with PME from D3hot, PCI Express, MSI-X, AER, device
serial number), link power and function level reset. The serial number itself is UNIT_ID. -/
structure PcieIds where
  vendor : Nat := 0x1E7A
  device : Nat := 0x8640
  subVendor : Nat := 0x1E7A
  subsystem : Nat := 0x8640
  revision : Nat := 0xB1
  classCode : Nat := 0x11_8000
  intPin : Nat := 0
  maxPayload : Nat := 512
  rates : List Nat := [2500, 5000, 8000, 16000]
  widths : List Nat := [1, 2, 4, 8]
  laneReversal : Bool := true
  commonClock : Bool := true
  sris : Bool := true
  bars : List PcieBar := [⟨26, true, false⟩, ⟨22, true, true⟩, ⟨36, true, true⟩]
  msixVectors : Nat := 512
  msixTable : Nat := 0x2_8000
  msixPba : Nat := 0x2_A000
  functions : Nat := 1
  sriov : Bool := false
  ari : Bool := false
  msi : Bool := false
  intx : Bool := false
  powerManagement : Bool := true
  pmeD3hot : Bool := true
  pciExpress : Bool := true
  msix : Bool := true
  aer : Bool := true
  serialNumber : Bool := true
  functionReset : Bool := true
  aspmL1 : Bool := true
  aspmL0s : Bool := false
  l1Substates : Bool := false
  expansionRom : Bool := false
  deriving DecidableEq, Repr

/-- The function's configuration state that the spec refers to: what never changes, D3hot, PME_En, MSI-X Enable and Function Mask, and the
level of WAKE_N (R376, R378, R395). Where the host places the BARs is outside the model: a command names its place in one. -/
structure Pcie where
  ids : PcieIds := {}
  d3hot : Bool := false
  pmeEn : Bool := false
  msixEn : Bool := false
  funcMask : Bool := false
  wakeLow : Bool := false
  deriving DecidableEq, Repr

/-- What the request in progress in PWR_DOM_CTL does (R80): wake a domain, or switch one off with or without FORCE. -/
inductive DomReq where
  | wake (d : Nat)
  | drain (d : Nat) (force : Bool)
  deriving DecidableEq, Repr

/-- Supplies, reset and domains beyond their registers: the good rails by bit of PWR_RST_CAUSE.BROWNOUT with bit 9 for
VDD_AON (R68), the levels of PORST_N and RESET_N, whether the release timer runs (R71), whether the passage through OFF
began in LOCKOUT with VDD_AON good since (R557), the sampled BOOT_SRC (R61), the quad reads that the SFDP tables of the board's
flash declare (R363; log entry 91), whether the internal reset has been released,
the domains that have not yet reported ready (R85) or whose new transfers are barred (R82), the request in progress, the
domains that STANDBY has switched off and those that still drain for it, and whether one of them did not drain (R89). -/
structure Power where
  rails : Nat := 0x3FF
  porstHigh : Bool := true
  resetHigh : Bool := true
  timer : Bool := true
  fromLockout : Bool := false
  bootSrc : Nat := 0
  quad114 : Bool := true
  quad144 : Bool := true
  released : Bool := false
  waking : Nat := 2 ^ 136 - 1
  barred : Nat := 0
  req : Option DomReq := none
  stbyOff : Nat := 0
  stbyLeft : Nat := 0
  stbyFail : Bool := false
  deriving DecidableEq, Repr

/-- A running waveform of a clock output (R109): the word of CLK_OUT_CTL that gives it, the instant of its first rising edge or of the
last change of s, and where in its period it was then, in 10⁻⁹ of an LSB at the source's nominal rate. -/
structure ClkWave where
  ctl : Word
  rise : Nat
  acc : Nat := 0
  deriving DecidableEq, Repr

/-- A clock output (R109, R110): the waveform that it gives, none for a steady low, and the one that takes its place at the
beginning of a low phase. -/
structure ClkOut where
  cur : Option ClkWave := none
  next : Option (Nat × Option ClkWave) := none
  deriving DecidableEq, Repr

/-- The clocks beyond their registers: PLL-T has missed its lock time (R94), a retry of PLL-F has succeeded in bypass (R106), the
s that the alignment loop wants in 0.001 ppm (R113), the qualified edges since the last reference edge, its instant, the
missing periods since (R112, R114), reference edges in a row within 20 ns and beyond 200 ns (R115), the last tick, the
instant at which the next one is due (R96, R99, R113, R558), whether MODE RESET has placed that one (R335), the instant at
which TCLK stopped (R94, R107), and the outputs CLKOUT[1:0]. -/
structure Clock where
  tDead : Bool := false
  exitByp : Bool := false
  want : Int := 0
  edges : Nat := 0
  refAt : Nat := 0
  missed : Nat := 0
  okRun : Nat := 0
  farRun : Nat := 0
  tickAt : Nat := 0
  dueAt : Nat := 0
  placed : Bool := false
  tclkOff : Option Nat := none
  outs : Tab ClkOut := []
  deriving DecidableEq, Repr

/-- A range of addresses whose contents the spec leaves undefined since some instant (R75, R84, R417): a byte of it that
nothing has written since reads as the free value of that instant's number. -/
structure Undef where
  lo : Nat
  hi : Nat
  gen : Nat
  deriving DecidableEq, Repr

/-- A memory: the listed bytes by rising address, and the undefined ranges, the latest first. -/
structure Mem where
  cells : List Host.Cell := []
  undef : List Undef := []
  deriving DecidableEq, Repr

/-- A stripe that a spare has replaced (R430): channel and stripe, the spare in use among the spares of the channel, and the bursts
of the stripe that were poisoned when it was copied. -/
structure Remap where
  chan : Nat
  stripe : Nat
  spare : Nat
  bursts : List Nat
  deriving DecidableEq, Repr

/-- The DRAM controller beyond its registers: poisoned bursts by usable address divided by 64 (R428), corrected errors
of a stripe in the running scrub pass by channel and stripe (R430), stripes remapped to spares, the codewords that scrub
has done in its pass by channel (R429), the channels in
self-refresh (R89, R431), the channels whose MEM_CE was raised in the running frame (R433), and the words of MEM_CFG, MEM_CAP
and MEM_SPARE that come back when domain 131 wakes (R431). -/
structure MemCtl where
  poison : List Nat := []
  errs : Tab Nat := []
  remap : List Remap := []
  scrub : Tab Nat := []
  selfRef : Nat := 0
  ceRaised : Nat := 0
  kept : Tab Word := []
  deriving DecidableEq, Repr

/-- What an access does to a 32-bit word of a scratchpad: bytes put at their addresses (R423), a value added (R412, R422), or a value
stored where the word equals another (R422). -/
inductive PortAct where
  | put (bytes : List (Nat × Byte))
  | add (value : Nat)
  | cas (expected value : Nat)
  deriving DecidableEq, Repr

/-- An access performed at a scratchpad port: the place of its issuer in port order (R420), and its Shuttle channel if it is one's. -/
structure PortOp where
  rank : Nat
  chan : Option Nat
  act : PortAct
  deriving DecidableEq, Repr

/-- A scratchpad word written in the running cycle (R420 to R423): the bytes it held before, and what is done to it, in port order. -/
structure PortWord where
  word : Nat
  old : List Byte
  ops : List PortOp
  deriving DecidableEq, Repr

/-- Kinds of stream record (R416). -/
inductive RecKind where
  | point | hist | list | frameClose
  deriving DecidableEq, Repr

/-- A stream record: its Shuttle channel, kind, epoch (R25), the power domain of its source (R401) and its words. -/
structure StreamRec where
  chan : Nat
  kind : RecKind
  epoch : Nat
  dom : Nat
  words : List Nat
  deriving DecidableEq, Repr

/-- A Shuttle channel beyond its registers: the descriptor in progress as read (R406), whether it failed a check of R407
or stopped with which status, the bytes committed (R410), requests in flight (R403), whether a scratchpad word was
lost (R423), whether an abort drains (R414), whether BYTES counts 0, whether its next requests wait for a tag or under a bar
(R82, R403), whether a domain that it touches has been Off (R415), the records staged (R416),
the bytes written into the current stream buffer (R417), the instant of its first record, and whether the first drop
of the frame has been reported (R418). -/
structure ShuChan where
  desc : Option (List Nat) := none
  status : Nat := 0
  ended : Bool := false
  done : Nat := 0
  inflight : Nat := 0
  lost : Bool := false
  aborting : Bool := false
  zero : Bool := false
  waits : Bool := false
  cut : Bool := false
  staged : List StreamRec := []
  fill : Nat := 0
  firstAt : Option Nat := none
  dropRaised : Bool := false
  deriving DecidableEq, Repr

/-- A gate of a tile that has not closed: T_S or t_P in LSB since the first tick, the slot of the interval it belongs to, and
whether it has opened (R128, R140). -/
structure Gate where
  tS : Nat
  slot : Nat
  opened : Bool := false
  deriving DecidableEq, Repr

/-- The point or proof interval that a tile has open (R178, R179, R182): the table entry, train and point index, its slots N and
its F1 (0 without a facet phase, R225), listen and proof flags, the angle latched, shots suppressed, slots committed, gates opened in each phase (R225), the instant of
seeding (R227), and the channels for which it is the first since a change of R231. -/
structure Ivl where
  entry : Nat
  train : Nat
  point : Nat
  n : Nat
  f1 : Nat
  listen : Bool
  proof : Bool
  angle : Nat
  supp : Nat := 0
  slots : Nat := 0
  gatesC : Nat := 0
  gatesF : Nat := 0
  seedAt : Option Nat := none
  rchg : Nat := 0
  deriving DecidableEq, Repr

/-- A half of a channel's bank and facet store (R212): coarse bins, facet bins by 64 × facet + bin, the seed list (R226), the
facet starts of the used facets (R227), whether a counter has saturated (R218), and the cycle and row of the last
increments of bank and facet store (R216). -/
structure Bank where
  bins : Tab Nat := []
  fac : Tab Nat := []
  seeds : List (Nat × Nat) := []
  fs : List (Option Nat) := []
  sat : Bool := false
  lastB : Option (Nat × Nat) := none
  lastF : Option (Nat × Nat) := none
  deriving DecidableEq, Repr

/-- A filled half that awaits extraction, with its number and its descriptor (R233); whether it was cut (R221), and whether its returns come
too late for the safety path (R20). -/
structure Half where
  ch : Nat
  half : Nat
  train : Nat
  point : Nat
  listen : Bool
  proof : Bool
  angle : Nat
  supp : Nat
  wl : Nat
  we : Nat
  f1 : Nat
  gatesC : Nat
  gatesF : Nat
  fs : List (Option Nat)
  sat : Bool
  rchg : Bool
  tac : Bool
  k : Nat
  w : Nat
  band : Nat
  rate : Nat
  blind : Bool
  epoch : Nat
  bins : Tab Nat
  fac : Tab Nat
  cut : Bool := false
  late : Bool := false
  deriving DecidableEq, Repr

/-- A photon list (R160 to R163): its entries with their kind (0 ordinary, 1 gap, 2 wrap fill), entries lost since the last gap
entry, the counter wraps before the last entry written, whether the list has begun, and the wrap fills that await a place. -/
structure ListQ where
  q : List (Nat × Nat) := []
  lost : Nat := 0
  wraps : Nat := 0
  on : Bool := false
  owed : Nat := 0
  deriving DecidableEq, Repr

/-- A receive channel (R119, R134 to R138, R216, R231, R252, R259): the last avalanche of each SPAD plus 1, the avalanches since
the last event, the instant of the last event plus 1, the ambient count C, the band and the last rate, which half is active and what it holds,
whether an interval has been run and one with changed settings is due, the bins of the last interval, the bins of the
last listen point with the interference hold, and whether K_CLAMP has been reported in the frame. -/
structure RxCh where
  spad : Tab Nat := []
  aval : List Nat := []
  evtAt : Nat := 0
  c : Nat := 0
  band : Option Nat := none
  rate : Option Nat := none
  sel : Nat := 0
  half : Bank := {}
  had : Bool := false
  rchg : Bool := false
  carried : List Nat := []
  listenBins : List Nat := []
  hold : Nat := 0
  clamped : Bool := false
  deriving DecidableEq, Repr

/-- The code-density audit of a tile (R165 to R170): whether it runs, whether the phase is a density phase, the channel of the
mirror phase that runs or comes next, whether that is a repeat, the last density verdict and the run of FAIL, whether
the frame's verdict has been made, and mismatches, compared events, sum and sum of squares of d in a mirror phase. -/
structure Audit where
  run : Bool := false
  dens : Bool := true
  ch : Nat := 0
  rep : Bool := false
  pass : Bool := false
  fails : Nat := 0
  made : Bool := false
  mism : Nat := 0
  cmp : Nat := 0
  sum : Int := 0
  sq : Nat := 0
  deriving DecidableEq, Repr

/-- A tile beyond its registers: open gates and interval, the interval whose first slot has been committed before that one's end,
with its gates (R179 lets it begin only at its first t_S or t_P, after that end), channels, filled halves and export records in order, the bias
measurement (runs of R125 and R126, V_BD in mV if the last measurement gave one, and the trim of the next tick), the
DLLs by slice (instant of unlocking plus 1, unlocked time since the last close and in the span that ended with it, instant
plus 1 of the first lock since the wake, and whether a late one has been judged, R150, R151), the instant of the wake, slices marked by the device in the frame (R172) and
those marked inside its hand-over window (R144), the audit,
the start plus 1 of each slice's last conversion (R158), photon lists and the channel served last (R164), and the causes
of R239 and R266 raised in the frame (bit cause, or 8 + cause). -/
structure Tile where
  gates : List Gate := []
  ivl : Option Ivl := none
  nextIvl : Option Ivl := none
  nextGates : List Gate := []
  chans : Tab RxCh := []
  pend : List Half := []
  exp : List (List Nat) := []
  refRun : Nat := 0
  exRun : Nat := 0
  okRun : Nat := 0
  rdyRun : Nat := 0
  vbd : Option Int := none
  trimNext : Option Nat := none
  unlockAt : Tab Nat := []
  unlocked : Tab Nat := []
  unlockSpan : Tab Nat := []
  lockAt : Tab Nat := []
  lateSeen : Nat := 0
  wokeAt : Nat := 0
  markedNow : Nat := 0
  markLate : Nat := 0
  aud : Audit := {}
  conv : Tab Nat := []
  lists : Tab ListQ := []
  listTurn : Nat := 0
  raised : Nat := 0
  deriving DecidableEq, Repr

/-- The counts of a frame that its frame-close record gives (R263): point records handed to staging and dropped there, returns
delivered to Selvedge, and cut halves; and whether the record has been written. -/
structure FrameSum where
  points : Nat := 0
  dropped : Nat := 0
  returns : Nat := 0
  cut : Nat := 0
  closed : Bool := false
  deriving DecidableEq, Repr

/-- An emitted shot whose measured energy is not yet in the sums (R207): output, E_pred, whether it is a proof shot, WIDTH, and
the rise of its first sub-pulse in LSB since the first tick. -/
structure Shot where
  out : Nat
  pred : Nat
  proof : Bool
  width : Nat
  rise : Nat
  deriving DecidableEq, Repr

/-- The buckets of one window and group (R205): completed ones with the newest first, and the current one. -/
structure Buckets where
  done : List Nat := []
  cur : Nat := 0
  deriving DecidableEq, Repr

/-- Heddle beyond its registers: the active shot table and the one in the idle bank (R177), the slots or triggers of each entry
committed in the frame, the dither states (R187), the sub-pulses of committed shots as output, rise and fall in LSB since
the first tick (R184), the start and length of the pause in progress, the length of a requested one (R192), and the LSB
for which pauses ran in the frame. -/
structure Heddle where
  tab : List Nat := []
  tabNext : Option (List Nat) := none
  pos : Tab Nat := []
  dith : Tab Nat := []
  edges : List (Nat × Nat × Nat) := []
  pauseAt : Option Nat := none
  pauseLen : Nat := 0
  pauseReq : Nat := 0
  paused : Nat := 0
  deriving DecidableEq, Repr

/-- Emitter supervision beyond its registers: shots that await their MPD code, buckets by 32 × window + group (window 3 is C),
loaded buckets left by window (R208), BKT in force by window or 0 (R209), the largest energies of an output's last 16
shots (R206), runs of undetected shots (R198), sums and counts of the frame and runs of sum misses (R199), runs of
detected shots without light by group (R200), the output that a failed proof shot repeats by group plus 1 and failed
proof shots by output (R196), outputs that no slot fires until the next tick (R203) or whose SHORT mark has taken the pair to high impedance (R201), suppressions of
the frame by group, and of the diagnostic slot of the frame: its start T_D in LSB since the first tick, whether it has run, failed
a walking test, and the instant of each output's trip plus 1 (R195). -/
structure Emd where
  shots : List Shot := []
  buckets : Tab Buckets := []
  ramp : Tab Nat := []
  bkt : Tab Nat := []
  last : Tab (List Nat) := []
  miss : Tab Nat := []
  sumE : Tab Nat := []
  sumN : Tab Nat := []
  sumMiss : Tab Nat := []
  dark : Tab Nat := []
  again : Tab Nat := []
  proofFail : Tab Nat := []
  barred : Nat := 0
  shortZ : Nat := 0
  supp : Tab Nat := []
  govRaised : Bool := false
  diagAt : Option Nat := none
  diagRan : Bool := false
  walkBad : Bool := false
  shutAt : Tab Nat := []
  deriving DecidableEq, Repr

/-- The levels last taken on A, B and Z (R280). They are levels of the encoder's balls, and outlast an assignment, a clear and
a reset. -/
structure EncIn where
  a : Bool := false
  b : Bool := false
  z : Bool := false
  deriving DecidableEq, Repr

/-- A quadrature decoder (R280): the short pulses on A, B and Z since the last taken change of each. -/
structure Enc where
  sa : Nat := 0
  sb : Nat := 0
  sz : Nat := 0
  deriving DecidableEq, Repr

/-- A Treadle slot beyond its registers (R268, R273 to R279, R286, R287): running, halted by FE_ACT, the integrator, y_prev,
the reference of the last sample, the start or last disarming, consecutive samples beyond FE_LIM, CLR_FE and RST_I that
await the next sample, the epoch at which BANK last landed (R34), the counted edges of the sample period (instant of the last, sum
and number of the intervals they ended, sign of the last), for slot 7 its reference in 1/20 mV and the runs of samples of R287, and an output value on its way with the instant at which it is
driven (R272). -/
structure TrdSlot where
  run : Bool := false
  halted : Bool := false
  i : Int := 0
  yPrev : Int := 0
  refPrev : Int := 0
  since : Nat := 0
  outRun : Nat := 0
  clrFe : Bool := false
  rstI : Bool := false
  landed : Nat := 0
  lastEdge : Option Nat := none
  ivSum : Nat := 0
  ivCnt : Nat := 0
  dir : Int := 1
  r : Int := 0
  inBand : Nat := 0
  outBand : Nat := 0
  due : Option (Nat × Nat) := none
  deriving DecidableEq, Repr

/-- The carrier of a ROT_PWM ball (R269): the start of a carrier period, PER and the high SCLK cycles of the periods from there, and
the start of the period that brings other settings, with them. -/
structure Pwm where
  start : Nat := 0
  per : Nat := 4000
  high : Nat := 0
  next : Option (Nat × Nat × Nat) := none
  deriving DecidableEq, Repr

/-- Treadle beyond its registers: the slots, the decoders, the carriers of ROT_PWM[1:0], the target that the tiles give in mV (R286), and the instant of
the last accepted CLR_HV_OV (R288). -/
structure Treadle where
  slots : Tab TrdSlot := []
  encs : Tab Enc := []
  pwm : Tab Pwm := []
  target : Option Nat := none
  ovCleared : Option Nat := none
  deriving DecidableEq, Repr

/-- A field set in the Selvedge cache (R293): its number and its 32-bit words that are not 0. -/
structure FieldSet where
  num : Nat
  words : Tab Nat
  deriving DecidableEq, Repr

/-- The state of field-set selection (R305 to R307): the code or request of the last tick (none where a tick carried none,
`some none` for the request "none"), and the ticks that instability has lasted. -/
structure FselState where
  last : Option (Option Nat) := none
  unstable : Nat := 0
  deriving DecidableEq, Repr

/-- A running teach (R318): frames asked for and done, and the smallest range by cell in mm. -/
structure Teach where
  frames : Nat
  done : Nat
  vals : Tab Nat
  deriving DecidableEq, Repr

/-- Selvedge beyond its registers: the active set, the set being loaded and whether it is INIT_SET (R561), the set that is
loaded and whether its load ended inside the hand-over window (R306), whether the cached copy is corrupt (R301, R336), whether the active set has come since the tick that opened the frame (R300),
selection, the observed cells and zone results of the running frame (R296 to R299), the last decision, and a teach. -/
structure Selv where
  active : Option FieldSet := none
  loading : Option Nat := none
  initial : Bool := false
  ready : Option FieldSet := none
  readyLate : Bool := false
  midFrame : Bool := false
  corrupt : Bool := false
  fsel : FselState := {}
  seen : Tab Bool := []
  pf : Nat := 0
  wf1 : Nat := 0
  wf2 : Nat := 0
  dmin : Tab Nat := []
  ign : Tab Nat := []
  dec : Decision := {}
  teach : Option Teach := none
  deriving DecidableEq, Repr

/-- An OSSD pair beyond its registers (R302, R315, R317): runs of violated and of clear outcomes, whether confirmed clear, the
instants at which it was confirmed clear, went OFF, entered READY and entered STOPPING, whether a qualified release has
followed READY, the level that EDM must reach, whether EDM of the pair or the readback failed. -/
structure Pair where
  runV : Nat := 0
  runC : Nat := 0
  clear : Bool := false
  clearAt : Nat := 0
  offAt : Nat := 0
  readyAt : Nat := 0
  stopAt : Nat := 0
  released : Bool := false
  edmWait : Option Bool := none
  edmFail : Bool := false
  deriving DecidableEq, Repr

/-- A ramp of R311: V₀ as a fraction, its start, its end value and its length (R308). -/
structure Ramp where
  num : Int
  den : Nat
  t0 : Nat
  vEnd : Nat
  len : Nat
  deriving DecidableEq, Repr

/-- A monitored axis beyond its registers (R309 to R313): its decoder and latches, positions by instant with the newest
first, the start of its monitoring, its zone classes of the last decisions with the newest first, the ramp, the
references P_ref while a direction is forbidden, and the live violations and fault. -/
structure Axis where
  enc : Enc := {}
  encErr : Bool := false
  idxErr : Bool := false
  indexed : Bool := false
  on : Bool := false
  start : Nat := 0
  hist : List (Nat × Int) := []
  ks : List Nat := []
  cls : Nat := 0
  ramp : Option Ramp := none
  refPos : Option Int := none
  refNeg : Option Int := none
  sls : Bool := false
  slp : Bool := false
  sdi : Bool := false
  fault : Bool := false
  deriving DecidableEq, Repr

/-- What the device keeps of a sender of safety messages (R117, R320, R343, R344): whether it has a baseline and whether that was
set in the running frame, SEQ and TIME of its last message, the words of its newest message that passed, the words of
the messages received in the running frame and in the one before whose CRC matched, the runs of unseen and seen frames,
and whether it is lost. -/
structure Sender where
  base : Bool := false
  basedNow : Bool := false
  seq : Nat := 0
  time : Nat := 0
  msg : Option (List Nat) := none
  rawNow : Option (List Nat) := none
  rawLast : Option (List Nat) := none
  unseen : Nat := 0
  seen : Nat := 0
  lost : Bool := false
  deriving DecidableEq, Repr

/-- The safety core beyond its registers: pairs and axes, taken levels of SAFE_IN, unequal readback samples in a row by
ball, the instant of each pair's last change and of each ball's last test pulse plus 1, senders, SEQ of the next
message and whether that of the last decision has been built, the instant and the epoch of the last decision, the pairs, the outputs that were ON and the axes as they were before it and whether it took
every zone as violated (R21), the frames
with DIAG_OVR in a row (R334), clean decisions in a row (R341), an accepted RUN and a return to RUN that await the tick,
the channels that a proof failure lost with 1 + their frames with PASS since (R332), the channels lost at the last
decision, the request of the named sender's message that passed in the frame (R305), whether the device has joined the
cell's epoch (R117), the last plug record and the read attempts left (R349), whether the site code differed at the last tick (R347), and the instant of the first tick. -/
structure Safety where
  pairs : Tab Pair := []
  axes : Tab Axis := []
  safeIn : Nat := 0
  fbBad : Tab Nat := []
  changedAt : Tab Nat := []
  pulseAt : Tab Nat := []
  senders : Tab Sender := []
  seq : Nat := 0
  toSend : Bool := false
  decAt : Nat := 0
  decEpoch : Nat := 0
  before : Tab Pair := []
  wasOn : Nat := 0
  axesBefore : Tab Axis := []
  forced : Bool := false
  diagRun : Nat := 0
  clean : Nat := 0
  runNext : Bool := false
  backNext : Bool := false
  proofLost : Tab Nat := []
  chLost : Tab Bool := []
  selMsg : Option (Option Nat) := none
  joined : Bool := false
  plug : List Nat := []
  plugLeft : Nat := 0
  sealDiff : Bool := false
  tick0 : Option Nat := none
  deriving DecidableEq, Repr

/-- A record of an image (R355): its index in the image, TYPE, TARGET and body words. -/
structure ImgRec where
  idx : Nat
  typ : Nat
  target : Nat
  body : List Nat
  deriving DecidableEq, Repr

/-- The header fields of an image (R354). -/
structure ImgHdr where
  nrec : Nat := 0
  len : Nat := 0
  svn : Nat := 0
  key : Nat := 0
  site : Nat := 0
  deriving DecidableEq, Repr

/-- A load in progress (R361): source coded as ARG0 of IMG_LOAD (0 QSPI, 1 host, 2 HRL), QSPI copy, target slot, whether it
is the boot, the bytes taken in so far, the words waiting in the feed buffer (R363), and whether MEMCFG has been
applied (R362). -/
structure Load where
  src : Nat
  copy : Nat
  slot : Nat
  boot : Bool
  bytes : List Byte
  feed : List Nat
  memDone : Bool
  deriving DecidableEq, Repr

/-- A swap in preparation or staged (R370): whether the loader group has been closed, whether that was inside the hand-over
window, the new shot table and the new image's copy of the active set. -/
structure Swap where
  staged : Bool := false
  late : Bool := false
  tab : List Nat := []
  set : Option FieldSet := none
  deriving DecidableEq, Repr

/-- An apply in progress (R371): whether its first tick has come, the domains that still drain, and the domains that it takes through
Off. -/
structure Apply where
  started : Bool := false
  left : Nat := 0
  doms : Nat := 0
  deriving DecidableEq, Repr

/-- The configuration that the applied image gives outside registers (R357): the tiles with ZONE at 1, and the bodies of
its LINK, SAFETY, ROUTE, CELL and FSEL records; the field sets that it holds. -/
structure ImgCfg where
  zones : Nat := 0
  link : List Nat := []
  safety : List Nat := []
  route : List Nat := []
  cell : List Nat := []
  fsel : List Nat := []
  memcfg : List Nat := []
  sets : List Nat := []
  deriving DecidableEq, Repr

/-- The image loader beyond its registers: the load, swap or apply in progress, whether an image is loaded, in which slot
and with which key slot it was signed, whether a boot has failed, the instant t_B, the applied configuration, the resource table as word and present owner (R365, R366), whether the loader has lost it since (R85), the
runtime claims by resource and feature (R367), and the domains whose records wait to be staged (R87). -/
structure Imaging where
  load : Option Load := none
  swap : Option Swap := none
  apply : Option Apply := none
  loaded : Bool := false
  active : Nat := 0
  keyIdx : Nat := 0
  bootFailed : Bool := false
  bootAt : Nat := 0
  cfg : ImgCfg := {}
  res : List (Nat × Nat) := []
  resLost : Bool := false
  claims : List (Nat × Nat) := []
  deriving DecidableEq, Repr

/-- An integrator fuse field as its two copies (R372). -/
structure Fuse2 where
  a : Nat := 0
  b : Nat := 0
  deriving DecidableEq, Repr

/-- The Bezel fuses (R372): factory fields as their values with whether their CRCs pass, integrator fields as two copies,
the staging words, the value of CEIL in effect (R374), and the burn in progress as action, field and value (R374). The factory values are those of a unit
of grade LA with the thresholds of R489, UNIT_ID and trims 0 and a gain of 1 (log entry 10). -/
structure Fuses where
  factOk : Bool := true
  unitId : Nat := 0
  grade : Nat := 1
  thmTrim : Tab Nat := []
  thmWarn : Nat := 95
  thmThr : Nat := 100
  thmShut : Nat := 110
  thmHyst : Nat := 5
  thmBandLo : Nat := 1
  thmBandHi : Nat := 0xFFFE
  tdcTrim : Tab Nat := []
  spadMap : Tab Nat := []
  fireDly : Tab Nat := []
  ledDly : Tab Nat := []
  mpdGain : Tab Nat := []
  analogTrim : Nat := 0
  ceil : Fuse2 := {}
  tDegCap : Fuse2 := {}
  caps : Fuse2 := {}
  access : Fuse2 := {}
  keys : Tab Fuse2 := []
  revoke : Fuse2 := {}
  svn : Fuse2 := {}
  dbgLock : Fuse2 := {}
  stage : Tab Nat := []
  ceilEff : Nat := 0
  burn : Option (Nat × Nat × Nat) := none
  tap : Nat := 0
  deriving DecidableEq, Repr

/-- A flit that the device has sent and its partner has not acknowledged (R455): SEQ, its picks from header to trailer, and how
often it has been sent. -/
structure TxFlit where
  seq : Nat
  picks : List Nat
  sends : Nat
  deriving DecidableEq, Repr

/-- An HRL lane beyond its registers (R441 to R446): block lock, own work of the training step done, DONE of the partner
received for it, the partner's UNIT_ID, whether it is held out of bonding, the preset being measured, the best FOM and its
preset, the last FOM, whether it comes from DEEP with the settings of ADAPT kept and whether its PLL is off (R461), and of the partner's
TRAIN picks the transmit preset that they request and their last FOM (R439). -/
structure Lane where
  lock : Bool := false
  done : Bool := false
  pdone : Bool := false
  uid : Nat := 0
  held : Bool := false
  preset : Nat := 0
  best : Option (Nat × Nat) := none
  fom : Nat := 0
  kept : Bool := false
  pllOff : Bool := false
  txPreset : Nat := 0
  pfom : Nat := 0
  deriving DecidableEq, Repr

/-- An HRL port beyond its registers (R447 to R463): the mask of logical lanes last received, next SEQ to send and expected, the
unacknowledged flits and how many of the last of them await resending, class 0 messages to send with their HOPS, flits of
lower class numbers sent past a waiting class 3 flit, bobbins granted and freed by class, whether an acknowledgement or a
NAK is due and flits are discarded until the expected SEQ, a DOZE column sent, and the events of R465 raised in the frame. -/
structure LnkPort where
  rxMask : Nat := 0
  seqTx : Nat := 0
  seqRx : Nat := 0
  replay : List TxFlit := []
  resend : Nat := 0
  q0 : List (List Nat × Nat) := []
  low : Nat := 0
  granted : Tab Nat := []
  freed : Tab Nat := []
  ackDue : Bool := false
  nakDue : Bool := false
  dozeSent : Bool := false
  raised : Nat := 0
  deriving DecidableEq, Repr

/-- The lanes and HRL beyond their registers: lanes, ports, the references present by quad, and the quads for whose
lanes the want of one has been reported (R437), the last SEQ taken from each
member by class 0 flits (R458), and the image port of an open load (R463). -/
structure Link where
  lanes : Tab Lane := []
  ports : Tab LnkPort := []
  sref : Nat := 0xF
  refHeld : Nat := 0
  lastSeq : Tab (Option Nat) := []
  imgPort : Option Nat := none
  deriving DecidableEq, Repr

/-- The lines of HRL ports (R438, R447): by port the index of the next pick of its stream since its mask last changed and the instant of
its last picks, and by lane the 58 bits sent last, the latest lowest. -/
structure Wire where
  index : Tab Nat := []
  last : Tab (Option Nat) := []
  sent : Tab Nat := []
  deriving DecidableEq, Repr

/-- The registers of a CIC decimator: three integrators and the three comb delays, each 16 bits (R471). -/
structure Cic where
  i1 : Nat := 0
  i2 : Nat := 0
  i3 : Nat := 0
  c1 : Nat := 0
  c2 : Nat := 0
  c3 : Nat := 0
  deriving DecidableEq, Repr

/-- An output of the filter chain: value, NO_DATA and PART_BLANK (R472 to R474). -/
structure SupOut where
  val : Int
  noData : Bool
  part : Bool
  deriving DecidableEq, Repr

/-- A supervisory slot beyond its registers: raw results that are not NO_DATA and outputs before ALIGN, the newest first (R474), the
settle counter, and whether its gain has changed since its last output (R478). -/
structure SupSlot where
  hist : List Int := []
  outs : List SupOut := []
  settle : Nat := 0
  gainChg : Bool := false
  deriving DecidableEq, Repr

/-- Supervisory measurement beyond its registers: the active bank, the epoch at which another has landed (R477), the decimators, the
slots, the runs of the window comparators (R482), the self-check windows that have tripped by 2 × converter + test (R484), the
codes of the analog outputs (R486), and the ticks whose blanking window may still reach into a period (R473). -/
structure Sup where
  bank : Tab Word := []
  landed : Option Nat := none
  cics : Tab Cic := []
  slots : Tab SupSlot := []
  wins : Tab Nat := []
  selfTrip : Nat := 0
  aout : Tab Nat := []
  ticks : List Nat := []
  deriving DecidableEq, Repr

/-- Thermal supervision beyond its registers: runs of failed cross-checks and of passed measurements by sensor (R488), the instants plus 1
at which L last rose and fell (R491), measurements in a row at T_SHUT, whether THERM_N is latched low, and whether the temperature has stopped the boot (R492). -/
structure Thermal where
  xfail : Tab Nat := []
  pass : Tab Nat := []
  roseAt : Nat := 0
  fellAt : Nat := 0
  hot : Nat := 0
  shut : Bool := false
  bootHeld : Bool := false
  deriving DecidableEq, Repr

/-- A bucket of the continuous traces (R501, R502): EPOCH and TIME in µs of its first sample, that of its last, the samples in it,
and minimum and maximum of each enabled trace with a valid sample. -/
structure LpeBucket where
  epoch : Nat
  time : Nat
  doneAt : Nat
  count : Nat
  vals : Tab (Int × Int)
  deriving DecidableEq, Repr

/-- A change of the state vector (R502): EPOCH and TIME of the sample, the new vector and the changed bits. -/
structure LpeChange where
  epoch : Nat
  time : Nat
  vec : Nat
  diff : Nat
  deriving DecidableEq, Repr

/-- The running capture (R500 to R503): buckets still to come, buckets and changes written, records dropped, triggers missed. -/
structure LpeCapture where
  left : Nat
  buckets : Nat := 0
  changes : Nat := 0
  dropped : Nat := 0
  missed : Nat := 0
  deriving DecidableEq, Repr

/-- Lost records that a GAP record will tell of (R504): their number and the TIME of the first and the last. -/
structure LpeGap where
  lost : Nat := 0
  first : Nat := 0
  last : Nat := 0
  deriving DecidableEq, Repr

/-- Loupe beyond its registers: the settings in force and those that wait for the end of a capture with the tick at which DIV or RED
landed and whether the history is to be emptied (R505), the last vector, the history of changes and the time from which it
is whole, the history of buckets, the bucket in progress, the next instant of the grid, the last sample of each trace with
its EPOCH and TIME, the directions that have fired by 2 × trigger + direction (R499), the running capture, the end of the
one before in µs, the triggers of the sample that started the last one, the write queue, the gaps at queue and ring, and whether LPE_DROP has been raised in the frame. -/
structure Loupe where
  cfg : Tab Word := []
  waits : Bool := false
  anchor : Option Nat := none
  empty : Bool := false
  vec : Option Nat := none
  changes : List LpeChange := []
  whole : Nat := 0
  buckets : List LpeBucket := []
  cur : Option LpeBucket := none
  gridAt : Nat := 0
  last : Tab (Int × Nat × Nat) := []
  fired : Nat := 0
  cap : Option LpeCapture := none
  prevEnd : Nat := 0
  starters : Nat := 0
  queue : List (List Nat) := []
  gapQ : LpeGap := {}
  gapR : LpeGap := {}
  dropRaised : Bool := false
  deriving DecidableEq, Repr

/-- A fade (R515): the components at its start, its targets, its updates and those made, and the present values. -/
structure Fade where
  src : List Nat := []
  dst : List Nat := []
  n : Nat := 0
  j : Nat := 0
  cur : List Nat := []
  deriving DecidableEq, Repr

/-- A press of a button (R520): its beginning, whether a press of the other has overlapped it, and whether it has been stuck. -/
structure Press where
  at' : Nat
  overlap : Bool := false
  stuck : Bool := false
  deriving DecidableEq, Repr

/-- Indicators and buttons beyond their registers: fades of the nodes and of the sinks, chain frames sent and failed in a row (R512,
R513), the PWM period (R517) with ISET of each sink in force at its start and which sinks had a LEVEL or TEST_DARK then (R515, R519), the kind and number of like test results in a row by sink, and the presses of RESTART_N
and TEACH_N. -/
structure Operator where
  nodes : Tab Fade := []
  sinks : Tab Fade := []
  frames : Nat := 0
  failed : Nat := 0
  period : Nat := 0
  iset : Tab Nat := []
  lit : Nat := 0
  runs : Tab (Nat × Nat) := []
  restart : Option Press := none
  teach : Option Press := none
  deriving DecidableEq, Repr

/-- The reads of the boot flash with a quad data phase (R363). -/
inductive FlashMode where
  | r114 | r144
  deriving DecidableEq, Repr

/-- A transaction of the plug bus (R521, R522): bytes written to a 7-bit address, a read of so many bytes, and clocks on SCL alone. -/
inductive PlugOp where
  | write (dev : Nat) (data : List Byte)
  | read (dev n : Nat)
  | clocks (n : Nat)
  deriving DecidableEq, Repr

/-- What leaves the part during a command: an MSI-X message (R395), the data of a register read, the bytes of a memory
read, a poisoned read completion (R428), a posted write to host memory (R410), a test pulse of `us` µs on an OSSD ball
(R316), a pick on a lane with its sync header and its scrambled payload (R438), a pulse on SYNC_OUT or a frame strobe of
`ns` ns, after `frclk` FRCLK cycles (R111), a low pulse of `us` µs on an LED ball (R507), the words of a chain frame (R511), and a pulse of a tile's proof LED: its start in LSB since
the first tick, its width in ns and its drive level (R140), a read of the flash from an address by a read mode, with
whether its SFDP is read first (R363), the mode-register writes to every DRAM device (R425), a test pulse on an LED at ISET for `us` µs
(R517), and transactions of the plug bus at a clock in kHz (R521, R522). -/
inductive Output where
  | msi (vec : Nat) (addr : Nat) (data : Nat)
  | readData (data : Nat)
  | memData (data : List Byte)
  | poisoned
  | hostWrite (addr : Nat) (data : List Byte)
  | ossdPulse (ball us : Nat)
  | pick (lane sync payload : Nat)
  | syncPulse (ball : Nat) (frclk ns : Nat)
  | ledPulse (led us : Nat)
  | beadFrame (words : List Nat)
  | proofLed (tile start ns drive : Nat)
  | flashRead (sfdp : Bool) (mode : Option FlashMode) (addr : Nat)
  | modeRegs (l : List (Nat × Nat))
  | ledTest (led iset us : Nat)
  | plugBus (khz : Nat) (ops : List PlugOp)
  deriving DecidableEq, Repr

/-- The state of the part. Times are in LSB of the TDC (15.625 ps): one TCLK is 64, one FCLK 80, one SCLK 160, one
FRCLK 320 and one microsecond 64,000 (spec/04_clocks_and_sync.md, R92). -/
structure State where
  /-- The commands that are waiting, first in, first out. -/
  pending : List Instr := []
  /-- Instant of the last command, from an arbitrary origin. -/
  now : Nat := 0
  /-- Instant at which the internal reset was last released (the origin of TIME in R399). -/
  releasedAt : Nat := 0
  /-- The registers of BAR0 by address; an unlisted address holds its reset value. -/
  regs : Tab Word := []
  /-- What left the part during the last command, oldest first. -/
  out : List Output := []
  /-- Number of free values taken so far: the model's own counter, no state of the part. -/
  freeCount : Nat := 0
  /-- The staging store (R27 to R36). -/
  stage : Staging := {}
  /-- The acquisition window of the running frame is open (R17). -/
  acqOpen : Bool := false
  /-- The frame decision of the running frame has been issued (R300). -/
  decided : Bool := false
  /-- The running frame has been counted and reported as incomplete (R39). -/
  incRaised : Bool := false
  /-- DATA_OVR of the running frame has been counted and reported (R39). -/
  dataOvrRaised : Bool := false
  /-- The view under construction: the status at the close of the last frame (R37). -/
  closing : View := {}
  /-- The published view (R37). -/
  view : View := {}
  /-- A view has closed and awaits its switch (R37). -/
  viewDue : Bool := false
  /-- The view that Clasp holds (R38, R391). -/
  held : Option View := none
  /-- The registers as they were when the running FCLK cycle began, but for W1C flags that hardware has set in it and RC fields read in it, which are 0 (R10, R381). -/
  cyc : Tab Word := []
  /-- The hold has been placed in the running FCLK cycle (R391). -/
  snapNow : Bool := false
  /-- Commands taken and not yet completed (R384). -/
  cmds : List RunCmd := []
  /-- Completions held by a stalled ring, oldest first (R388). -/
  heldCpl : List Completion := []
  /-- Event logic, vectors and error log (R393 to R400). -/
  evt : Events := {}
  /-- Configuration state of the PCI Express function (R376 to R378). -/
  pci : Pcie := {}
  /-- HI halves latched by a LO read, by the address of the HI register (R529). -/
  hiLatch : Tab Nat := []
  /-- The device state (R14, R324). -/
  dev : Dev := .reset
  /-- Rails, reset balls, straps and domains (R68 to R90). -/
  pwr : Power := {}
  /-- Clocks and frame alignment (R94 to R117). -/
  clk : Clock := {}
  /-- Scratchpad words written in the running FCLK cycle (R420, R423). -/
  spdPort : List PortWord := []
  /-- Device DRAM by usable address (R427). -/
  dram : Mem := { undef := [⟨0, 2 ^ 40, 0⟩] }
  /-- The scratchpads by scratchpad address (R401, R421). -/
  spd : Mem := {}
  /-- The DRAM controller (R425 to R431). -/
  mem : MemCtl := {}
  /-- The Shuttle channels (R401 to R419). -/
  shu : Tab ShuChan := []
  /-- Records handed over by acquisition and not yet offered to staging, oldest first (R416). -/
  toStage : List StreamRec := []
  /-- The tiles (R118 to R266). -/
  tiles : Tab Tile := []
  /-- The counts of the running frame (R263). -/
  frm : FrameSum := {}
  /-- Heddle (R177 to R192). -/
  hed : Heddle := {}
  /-- Emitter supervision and the governor (R194 to R211). -/
  emd : Emd := {}
  /-- Levels last taken on A, B and Z, by encoder, and by 8 + axis with the axis's filter (R280, R310). -/
  encIn : Tab EncIn := []
  /-- Treadle (R267 to R290). -/
  trd : Treadle := {}
  /-- Selvedge (R292 to R307, R318). -/
  sel : Selv := {}
  /-- The safety core (R302, R309 to R320, R326 to R349). -/
  saf : Safety := {}
  /-- The degraded timer, in eighths of an LSB (R340). -/
  degAcc : Nat := 0
  /-- The image loader and the loaded image (R354 to R371). -/
  img : Imaging := {}
  /-- The Bezel fuses and the burn in progress (R372 to R374). -/
  fuse : Fuses := {}
  /-- The lines of HRL ports (R438, R447). -/
  wire : Wire := {}
  /-- Lanes and HRL (R437 to R463). -/
  lnk : Link := {}
  /-- Supervisory measurement (R467 to R486). -/
  sup : Sup := {}
  /-- Thermal supervision (R487 to R492). -/
  thm : Thermal := {}
  /-- Loupe (R495 to R508). -/
  lpe : Loupe := {}
  /-- Indicators and buttons (R511 to R520). -/
  ind : Operator := {}
  deriving DecidableEq, Repr

/-- The state right after reset: the device in RESET with every rail good, PORST_N and RESET_N high, the straps
sampled and the release timer running (R71); every register at its reset value; memories with nothing listed. -/
def State.reset : State := {}

end Sys2Proof.Machine
end

