-- ==== Sys2Proof/Machine/Ops.lean ====
section
/-! DEFINITION. The named operations over registers that every command shares: where a register lies, its reset value,
reading and writing fields, time, what leaves the part, and the free values. -/

namespace Sys2Proof.Machine

/-! ### The block map (R525, R526, R530) -/

/-- The registers of the block, or tile sub-block, that holds a BAR0 address (R525, R526). -/
def blockRegs (addr : Nat) : List RegRow :=
  if addr < 0x0100_0000 then
    match addr / 0x1_0000 with
    | 0x00 => regsGLB | 0x01 => regsCLP | 0x02 => regsEVT | 0x03 => regsPWR | 0x04 => regsCLK | 0x05 => regsBEZ
    | 0x06 => regsIMG | 0x08 => regsHED | 0x09 => regsEMD | 0x0A => regsSEL | 0x0B => regsSAF | 0x0C => regsTRD
    | 0x0D => regsSUP | 0x0E => regsTHM | 0x0F => regsLPE | 0x10 => regsIND | 0x11 => regsSHU | 0x12 => regsMEM
    | 0x13 => regsSPD | 0x14 => regsLNK | _ => []
  else if addr < 0x0160_0000 then
    match addr % 0x1_0000 / 0x4000 with
    | 0 => regsRX | 1 => regsTDC | 2 => regsREED | _ => regsRET
  else []

/-- The offset of an address in its block or tile sub-block. -/
def blockOff (addr : Nat) : Nat := if addr < 0x0100_0000 then addr % 0x1_0000 else addr % 0x4000

/-- Whether a register row, or one instance of its array, lies at this offset (R530). -/
def RegRow.covers (r : RegRow) (off : Nat) : Bool :=
  if r.count ≤ 1 then off == r.off
  else r.off ≤ off && (off - r.off) % r.stride == 0 && (off - r.off) / r.stride < r.count

/-- The register at a BAR0 address, if any. -/
def regAt (addr : Nat) : Option RegRow := (blockRegs addr).find? (fun r => r.covers (blockOff addr))

/-- The power domain of the block that holds an address (R525, R526); 255 is the always-on domain. -/
def blockDomain (addr : Nat) : Nat :=
  if addr < 0x0100_0000 then
    match addr / 0x1_0000 with
    | 0x06 => 135 | 0x08 => 120 | 0x09 => 120 | 0x0A => 121 | 0x0B => 122 | 0x0C => 123 | 0x0D => 124
    | 0x0E => 125 | 0x0F => 126 | 0x10 => if addr % 0x1_0000 < 0x400 then 127 else 122
    | 0x11 => 128 | 0x12 => 131 | 0x13 => 129 | 0x14 => 133 | _ => 255
  else if addr < 0x0160_0000 then (addr - 0x0100_0000) / 0x1_0000
  else 255

/-- The reset value that the fields of a register row give. -/
def RegRow.resetWord (r : RegRow) : Nat := r.fields.foldl (fun a f => a + f.reset * 2 ^ f.lo) 0

/-- The reset value of the register at an address. The index-dependent values are those that the Meaning columns give:
EVT_SRC resets VEC to i mod 512 with SAFETY for 448 to 479, an MSI-X entry has its vector control mask at 1, PWR_DOM_ON4
is 0x0000_00FF, PWR_DOM_REQD3 always marks domains 120, 121, 122 and 125, LNK_QUAD resets to mode 1 for quads 0 and 1
and to mode 2 with rate 1 for quads 2 and 3, and TRD_CTL7 is the guarded bias slot (spec/10). -/
def resetNat (addr : Nat) : Nat :=
  if addr = 0x3_0020 then 0xFF
  else if addr = 0x3_003C then 0x2700_0000
  else if 0x2_0000 ≤ addr ∧ addr < 0x2_0A00 then
    let i := (addr - 0x2_0000) / 4
    0x8000_0000 + (if 448 ≤ i ∧ i < 480 then 0x4000_0000 else 0) + i % 512 * 0x1_0000
  else if 0x2_8000 ≤ addr ∧ addr < 0x2_A000 then if addr % 16 = 12 then 1 else 0
  else if addr = 0xC_0480 then 0x1410_0007
  else if addr = 0x14_0018 ∨ addr = 0x14_001C then 0x9000_0000
  else
    match regAt addr with
    | some r => r.resetWord
    | none => 0

/-- The reset value of the register at an address, as a word. -/
def resetWord (addr : Nat) : Word := BitVec.ofNat 32 (resetNat addr)

/-! ### Fields -/

/-- The word of a register in a sparse register store. -/
def wordIn (t : Tab Word) (addr : Nat) : Word := tabGet resetWord t addr

/-- A field in a sparse register store. -/
def getIn (t : Tab Word) (f : Fld) : Nat := wordBits (wordIn t f.addr) f.hi f.lo

/-- A sparse register store with one field replaced. -/
def putIn (t : Tab Word) (f : Fld) (v : Nat) : Tab Word :=
  tabSet resetWord t f.addr (setWordBits (wordIn t f.addr) f.hi f.lo v)

/-- The live word of a register. -/
def State.word (s : State) (addr : Nat) : Word := wordIn s.regs addr

/-- The live word of a register replaced. -/
def State.setWord (s : State) (addr : Nat) (w : Word) : State := { s with regs := tabSet resetWord s.regs addr w }

/-- The live value of a field: for an RWS field the effective value. -/
def State.get (s : State) (f : Fld) : Nat := getIn s.regs f

/-- The live value of a field as a flag. -/
def State.flag (s : State) (f : Fld) : Bool := s.get f != 0

/-- The live value of a two's complement field. -/
def State.getI (s : State) (f : Fld) : Int := signed (f.hi + 1 - f.lo) (s.get f)

/-- The state with a field replaced by the low bits of a number. -/
def State.put (s : State) (f : Fld) (v : Nat) : State := { s with regs := putIn s.regs f v }

/-- The state with a flag field replaced. -/
def State.putB (s : State) (f : Fld) (b : Bool) : State := s.put f (b2n b)

/-- Hardware sets a flag: a clear of it in the same cycle leaves it set, were it 1 before or not (R10). -/
def State.hwUp (s : State) (f : Fld) : State := { s.putB f true with cyc := putIn s.cyc f 0 }

/-- The state with a two's complement field replaced. -/
def State.putI (s : State) (f : Fld) (v : Int) : State := s.put f (unsigned (f.hi + 1 - f.lo) v)

/-- The state with a counter field increased by `n`, saturating at its largest value. -/
def State.addSat (s : State) (f : Fld) (n : Nat) : State := s.put f (satU (f.hi + 1 - f.lo) (s.get f + n))

/-- The state with a counter field increased by 1, saturating. -/
def State.bump (s : State) (f : Fld) : State := s.addSat f 1

/-- The state with a counter field increased by 1, wrapping. -/
def State.bumpWrap (s : State) (f : Fld) : State := s.put f (s.get f + 1)

/-- A 64-bit value held in a LO and a HI register. -/
def State.get64 (s : State) (lo hi : Fld) : Nat := s.get lo * 2 ^ lo.lo + s.get hi * 2 ^ 32

/-- Fold a state change over a list. -/
def State.each {α : Type} (s : State) (l : List α) (f : State → α → State) : State := l.foldl f s

/-! ### Time, epoch, outputs, free values -/

/-- One microsecond, one FCLK and one SCLK in units of `State.now` (R92). -/
def usLsb : Nat := 64000
def fclkLsb : Nat := 80
def sclkLsb : Nat := 160

/-- The epoch of the frame in progress (R11, R24). -/
def State.epoch (s : State) : Nat := s.get GLB_EPOCH.EPOCH

/-- Microseconds since the internal reset released, wrapping (R399). -/
def State.timeUs (s : State) : Nat := (s.now - s.releasedAt) / usLsb % 2 ^ 32

/-- Something leaves the part. -/
def State.emit (s : State) (o : Output) : State := { s with out := s.out ++ [o] }

/-- The FCLK cycle in which a command of `dt` comes is that of the command before it. -/
def State.sameCycle (s : State) (dt : Nat) : Bool := (s.now + dt) / fclkLsb == s.now / fclkLsb

/-- Time passes before a command: `now` moves on, the outputs of the command before are cleared, the degraded timer of
R340 gains the time spent in DEGRADED or loses one eighth of the time spent in RUN, and with a new FCLK cycle what hardware
did in the one before is done with (R10, R393, R397). -/
def State.advance (s : State) (dt : Nat) : State :=
  { s with
    now := s.now + dt
    out := []
    cyc := if s.sameCycle dt then s.cyc else s.regs
    snapNow := s.snapNow && s.sameCycle dt
    spdPort := if s.sameCycle dt then s.spdPort else []
    evt := if s.sameCycle dt then s.evt else { s.evt with raised := [], firsts := 0, recs := 0 }
    degAcc := match s.dev with
      | .degraded => s.degAcc + 8 * dt
      | .run => s.degAcc - dt
      | _ => s.degAcc }

/-- Whether the device state is one in which ticks run (R16). -/
def Dev.ticks : Dev → Bool
  | .configured | .run | .degraded | .safeStop | .maintenance | .lockout => true
  | .off | .reset | .boot => false

/-- The hand-over window of R28: the four FCLK cycles that end at the tick, of 1.25 ns each whatever clock FCLK runs from (DESIGN CHOICE; log
entry 19). -/
def State.handingOver (s : State) : Bool := s.dev.ticks && decide (s.clk.dueAt ≤ s.now + 4 * fclkLsb)

/-- Epoch `b` is later than epoch `a` (R12). -/
def epochLater (a b : Nat) : Bool :=
  let d := (b + 2 ^ 32 - a % 2 ^ 32) % 2 ^ 32
  1 ≤ d && d ≤ 0x7FFF_FFFF

/-- RUN or DEGRADED. -/
def Dev.running : Dev → Bool
  | .run | .degraded => true
  | _ => false

/-! ### Domains -/

/-- The field of PWR_DOM_ON that holds a domain's bit. -/
def domBit (d : Nat) : Fld := ⟨PWR_DOM_ON.addr (d / 32), d % 32, d % 32⟩

/-- Whether a domain is On and has reported ready (R76, R85); the always-on domain is on outside OFF. -/
def State.domOn (s : State) (d : Nat) : Bool :=
  if d < 136 then s.flag (domBit d) && !bit s.pwr.waking d else s.dev != .off

/-- Whether a domain is required (R78). -/
def State.domReqd (s : State) (d : Nat) : Bool := s.flag ⟨PWR_DOM_REQD.addr (d / 32), d % 32, d % 32⟩

/-- The tiles whose domain is On. -/
def State.tilesOn (s : State) : List Nat := (List.range 96).filter s.domOn

/-- The epoch, registers and outputs that a reading of the published status uses: the held view, else the current one
(R37, R38). -/
def State.readView (s : State) : View := s.held.getD s.view

/-! ### Host accesses -/

/-- A host access reaches the block of an address: halves latched for a HI register of that block are given up (R529). -/
def State.touch (s : State) (addr : Nat) : State :=
  { s with hiLatch := s.hiLatch.filter (fun (p : Nat × Nat) => p.1 / 0x1_0000 != addr / 0x1_0000) }

/-- Quad 0 runs PCI Express, as it does with no LINK record; where a record takes it away, the host link is lost (R435). -/
def State.hostLink (s : State) : Bool := s.img.cfg.link.isEmpty || bitsOf (nth s.img.cfg.link 0 0) 1 0 == 1

/-- Whether the function answers BAR accesses: the host link is there, domain 132 is On, and the function is not in D3hot (R378). -/
def State.barOpen (s : State) : Bool := s.hostLink && !s.pci.d3hot && s.domOn 132

/-- A host access of a register, with the effect `f`: nothing happens while the function does not answer, and an access of a
block whose domain is Off is only counted (R81, R378). -/
def State.hostReg (s : State) (addr : Nat) (f : State → State) : State :=
  if !s.barOpen then s
  else
    let s := s.touch addr
    if s.domOn (blockDomain addr) then f s else s.bump PWR_OFF_ACC.COUNT

end Sys2Proof.Machine
end

