-- ==== Sys2Proof/Machine/Mem.lean ====
section
/-! DEFINITION. The byte memories: device DRAM behind BAR4 and Shuttle (R427), and the scratchpads (R421). A memory is a list
of cells in canonical form; an unlisted byte reads as zero, or as the free value of the undefined range that holds
it. -/

namespace Sys2Proof.Machine

/-- The undefined range that holds an address, the latest first. -/
def Mem.undefAt (m : Mem) (a : Nat) : Option Undef := m.undef.find? (fun u => u.lo ≤ a && a < u.hi)

/-- What an unlisted address reads as. -/
def Mem.blank (m : Mem) (a : Nat) : Byte :=
  match m.undefAt a with
  | some u => Config.freeByte u.gen a
  | none => 0

/-- One byte of a memory. -/
def Mem.read (m : Mem) (a : Nat) : Byte :=
  match m.cells.find? (fun c => c.1 == a) with
  | some c => c.2
  | none => m.blank a

/-- Insertion of a cell before the first larger address. -/
def cellIns (a : Nat) (b : Byte) : List Host.Cell → List Host.Cell
  | [] => [(a, b)]
  | c :: r => if a < c.1 then (a, b) :: c :: r else c :: cellIns a b r

/-- One byte written. Outside the undefined ranges, writing zero removes the cell, so that equal contents are equal
lists. -/
def Mem.write (m : Mem) (a : Nat) (b : Byte) : Mem :=
  let r := m.cells.filter (fun c => c.1 != a)
  if b = 0 ∧ (m.undefAt a).isNone then { m with cells := r } else { m with cells := cellIns a b r }

/-- Bytes written at successive addresses. -/
def Mem.writeList (m : Mem) (a : Nat) : List Byte → Mem
  | [] => m
  | b :: r => (m.write a b).writeList (a + 1) r

/-- Bytes read at successive addresses. -/
def Mem.readList (m : Mem) (a : Nat) : Nat → List Byte
  | 0 => []
  | n + 1 => m.read a :: m.readList (a + 1) n

/-- The contents of a range become undefined. -/
def Mem.forget (m : Mem) (lo hi gen : Nat) : Mem :=
  { cells := m.cells.filter (fun c => !(lo ≤ c.1 && c.1 < hi)), undef := ⟨lo, hi, gen⟩ :: m.undef }

/-- What is left of an undefined range outside a range. -/
def Undef.without (u : Undef) (lo hi : Nat) : List Undef :=
  [⟨u.lo, min u.hi lo, u.gen⟩, ⟨max u.lo hi, u.hi, u.gen⟩].filter (fun v => decide (v.lo < v.hi))

/-- Zeros written over a range. -/
def Mem.zero (m : Mem) (lo hi : Nat) : Mem :=
  { cells := m.cells.filter (fun c => !(lo ≤ c.1 && c.1 < hi)), undef := m.undef.flatMap (fun u => u.without lo hi) }

/-- Addresses strictly rising, at or above `lo`. -/
def cellsRising : Nat → List Host.Cell → Bool
  | _, [] => true
  | lo, c :: r => lo ≤ c.1 && cellsRising (c.1 + 1) r

/-- The canonical form: addresses strictly rising, and no cell outside the undefined ranges holds zero. -/
def Mem.wf (m : Mem) : Bool :=
  cellsRising 0 m.cells && m.cells.all (fun c => c.2 != 0 || (m.undefAt c.1).isSome)

/-! ### DRAM -/

/-- A field of MEM_CFG, MEM_CAP or MEM_SPARE as the DRAM controller holds it: as it was when domain 131 went Off, until the domain's
group lands again (R87, R431). -/
def State.memGet (s : State) (f : Fld) : Nat := if s.mem.kept.isEmpty then s.get f else getIn s.mem.kept f

/-- CAP of R427 in bytes. -/
def State.dramCap (s : State) : Nat := s.memGet MEM_CAP.PAGES * 4096

/-- The enabled DRAM channels in ascending order. -/
def State.dramChans (s : State) : List Nat := bitList 8 (s.memGet MEM_CFG.CH_EN)

/-- The registers of the DRAM controller whose values outlast an Off of domain 131 (R431). -/
def keptRegs : List Nat := MEM_CFG.CH_EN.addr :: MEM_CAP.PAGES.addr :: (List.range 8).map (fun c => (MEM_SPARE.FREE c).addr)

/-- Domain 131 goes Off: the controller goes by the capacity, the channels and the spares in use. -/
def State.keepMem (s : State) : State :=
  if !s.mem.kept.isEmpty then s
  else { s with mem := { s.mem with kept := keptRegs.foldl (fun t a => tabSet resetWord t a (s.word a)) [] } }

/-- The group of domain 131 has landed: MEM_CFG and MEM_CAP come from its MEMCFG record (R87), and MEM_SPARE shows the spares in use,
which hold until a reset (R430, log entry 94). -/
def State.restoreMem (s : State) : State :=
  let s' : State := { s with mem := { s.mem with kept := [] } }
  if s.mem.kept.isEmpty then s
  else s'.each (List.range 8) (fun t c =>
    let a := (MEM_SPARE.FREE c).addr
    t.setWord a (wordIn s.mem.kept a))

/-- The DRAM channel, stripe and data burst of a usable address (R427). -/
def State.dramPlace (s : State) (a : Nat) : Nat × Nat × Nat :=
  let l := s.dramChans
  let p := a / 4096
  (nth l (p % l.length) 0, p / l.length, a % 4096 / 64)

/-- Base of image slot A (0) or B (1) in DRAM (R359). -/
def slotBase (cap : Nat) (slot : Nat) : Nat := if slot = 0 then cap - 0x2000_0000 else cap - 0x1000_0000

/-- Whether a DRAM address lies in an image slot (R359). -/
def State.inSlots (s : State) (a : Nat) : Bool := s.dramCap - 0x2000_0000 ≤ a && a < s.dramCap

/-- Whether the burst of an address is poisoned (R428). -/
def State.poisoned (s : State) (a : Nat) : Bool := s.mem.poison.contains (a / 64)

/-- Bursts are written whole: they are poisoned no more (R428), and no stripe is held to have been copied with their poison (R430). -/
def MemCtl.endPoison (m : MemCtl) (whole : Nat → Bool) : MemCtl :=
  { m with
    poison := m.poison.filter (fun b => !whole b)
    remap := m.remap.map (fun r => { r with bursts := r.bursts.filter (fun b => !whole b) }) }

/-- DRAM bytes written by an agent that the slots do not bar. A write that covers a whole burst ends its poison; a partial
write to a poisoned burst is discarded (R428). -/
def State.dramWrite (s : State) (a : Nat) (l : List Byte) : State :=
  let whole := fun b => decide (a ≤ b * 64) && decide (b * 64 + 64 ≤ a + l.length)
  let pois := s.mem.poison
  let cells := (List.range l.length).foldl (fun (m : Mem) i =>
    if pois.contains ((a + i) / 64) && !whole ((a + i) / 64) then m else m.write (a + i) (nth l i 0)) s.dram
  { s with dram := cells, mem := s.mem.endPoison whole }

/-- Zeros written over a range of DRAM (R506), which end the poison of its bursts. -/
def State.dramZero (s : State) (lo hi : Nat) : State :=
  { s with
    dram := s.dram.zero lo hi
    mem := s.mem.endPoison (fun b => decide (lo ≤ b * 64) && decide (b * 64 + 64 ≤ hi)) }

/-- DRAM bytes read. -/
def State.dramRead (s : State) (a n : Nat) : List Byte := s.dram.readList a n

/-- A ring in DRAM overlaps the image slots of R359. -/
def State.overSlots (s : State) (base len : Nat) : Bool :=
  decide (base < s.dramCap) && decide (s.dramCap - 0x2000_0000 < base + len)

/-- EN at 1 is refused for a ring (R398, R504). -/
def State.ringBarred (s : State) (base len : Nat) : Bool := !s.flag MEM_CFG.INIT_OK || s.overSlots base len

/-- A fresh number for an undefined value, and the counter advanced. -/
def State.fresh (s : State) : Nat × State := (s.freeCount, { s with freeCount := s.freeCount + 1 })

end Sys2Proof.Machine
end

