-- ==== Sys2Proof/Machine/Events.lean ====
section
/-! DEFINITION. Events: what the device does when an event source raises (R393), its vectors (R395), the first-error
registers (R397), and the error log with its coalescing table (R398 to R400). -/

namespace Sys2Proof.Machine

/-! ### Vectors -/

/-- A word of the MSI-X table entry of a vector. -/
def State.msixWord (s : State) (v w : Nat) : Nat := (s.word (EVT_MSIX_TABLE.addr (4 * v + w))).toNat

/-- The vector sends its MSI-X message, and its holdoff starts (R395). -/
def State.msixSend (s : State) (v : Nat) : State :=
  let s := s.emit (.msi v (s.msixWord v 0 + s.msixWord v 1 * 2 ^ 32) (s.msixWord v 2))
  if s.get EVT_INT_CTL.HOLDOFF = 0 then s
  else { s with evt := { s.evt with holdoff := s.evt.holdoff ++ [v] } }

/-- The PBA bit of a vector. -/
def pbaBit (v : Nat) : Fld := ⟨EVT_MSIX_PBA.addr (v / 32), v % 32, v % 32⟩

/-- Whether the vector is masked, by its entry or by the function (R395). -/
def State.vecMasked (s : State) (v : Nat) : Bool := s.pci.funcMask || bit (s.msixWord v 3) 0

/-- A vector is triggered (R395): with MSI-X disabled, or the host link lost (R435), nothing is sent; a masked vector sets its PBA bit;
in a holdoff the trigger waits; otherwise the message is sent. -/
def State.vecTrigger (s : State) (v : Nat) : State :=
  if !s.pci.msixEn || !s.hostLink then s
  else if s.vecMasked v then s.putB (pbaBit v) true
  else if s.evt.holdoff.contains v then
    if s.evt.heldTrig.contains v then s
    else { s with evt := { s.evt with heldTrig := s.evt.heldTrig ++ [v] } }
  else s.msixSend v

/-! ### The error log -/

/-- Whether a log record is an event record. -/
def LogRec.isEvent : LogRec → Bool
  | .event .. => true
  | .coal .. => false

/-- Event places of the FIFO in use (R398). -/
def State.logEvents (s : State) : Nat := (s.evt.fifo.filter LogRec.isEvent).length

/-- A lost record folded into an entry of the coalescing table (R400). -/
def CoalEntry.add (c : CoalEntry) (ep t : Nat) : CoalEntry := { c with count := c.count + 1, epoch1 := ep, time1 := t }

/-- A lost event record is counted and folded into the coalescing table (R400). -/
def State.logLose (s : State) (src ep t : Nat) : State :=
  let s := s.bump EVT_LOG_CNT.LOST
  let e := s.evt
  if e.coal.any (fun c => c.source == src) then
    { s with evt := { e with coal := e.coal.map (fun c => if c.source == src then c.add ep t else c) } }
  else if e.coal.length < 31 then { s with evt := { e with coal := e.coal ++ [⟨src, ep, t, 1, ep, t⟩] } }
  else
    match e.coalOvf with
    | some c => { s with evt := { e with coalOvf := some (c.add ep t) } }
    | none => { s with evt := { e with coalOvf := some ⟨0x3FF, ep, t, 1, ep, t⟩ } }

/-- The coalescing record of a table entry (R399). -/
def CoalEntry.record (c : CoalEntry) : LogRec := .coal c.source c.epoch0 c.time0 c.count c.epoch1 c.time1

/-- The used entries of the coalescing table, in opening order with the overflow entry last (R400). -/
def Events.used (e : Events) : List CoalEntry := e.coal ++ e.coalOvf.toList

/-- Whether coalescing records are due: the table holds entries, an event place is free, and the 32 reserved places take one
record for each entry (R398, R400; log entry 80). -/
def State.coalDue (s : State) : Bool :=
  !s.evt.used.isEmpty && s.logEvents < 224 && s.evt.fifo.length - s.logEvents + s.evt.used.length ≤ 32

/-- The coalescing records enter their reserved places and the table is emptied (R400). -/
def State.coalFlush (s : State) : State :=
  { s with evt := { s.evt with fifo := s.evt.fifo ++ s.evt.used.map CoalEntry.record, coal := [], coalOvf := none, recs := 0 } }

/-- The source of a log record. -/
def LogRec.source : LogRec → Nat
  | .event src _ _ _ _ => src
  | .coal src _ _ _ _ _ => src

/-- A record takes its place among those of its cycle, which stand in ascending ID order (R393). -/
def insRec (r : LogRec) : List LogRec → List LogRec
  | [] => [r]
  | x :: l => if r.source < x.source then r :: x :: l else x :: insRec r l

/-- A record put into the FIFO, before the records of its cycle with a larger ID (R393). -/
def Events.put (e : Events) (r : LogRec) : Events :=
  let n := e.fifo.length - e.recs
  { e with fifo := e.fifo.take n ++ insRec r (e.fifo.drop n), recs := e.recs + 1 }

/-- The last record of the cycle gives its place to one with a smaller ID, which should have come before it (R393). -/
def State.logYield (s : State) (src : Nat) : Option State :=
  match s.evt.fifo.getLast? with
  | some (.event x _ ep t _) =>
    if s.evt.recs != 0 && src < x then
      some (({ s with evt := { s.evt with fifo := s.evt.fifo.dropLast, recs := s.evt.recs - 1 } } : State).logLose x ep t)
    else none
  | _ => none

/-- An event record is offered to the log: it takes a place, or is lost (R398, R400); while coalescing records wait, none goes
ahead of them. -/
def State.logOffer (s : State) (src cause detail : Nat) : State :=
  let r : LogRec := .event src cause s.epoch s.timeUs detail
  if s.logEvents < 224 && s.evt.used.isEmpty then { s with evt := s.evt.put r }
  else
    match s.logYield src with
    | some s => { s with evt := s.evt.put r }
    | none => s.logLose src s.epoch s.timeUs

/-! ### Raising -/

/-- The class of an event source (R397). -/
def evtClass (src : Nat) : Nat :=
  if src < 384 then 0 else if src < 448 then 1 else if src < 480 then 2 else if src < 512 then 3 else 4

/-- The pending bit of a source. -/
def evtPend (src : Nat) : Fld := ⟨EVT_PEND.addr (src / 32), src % 32, src % 32⟩

/-- The power domain of the unit that raises a source (R81: an Off domain raises no events). -/
def evtDomain (src : Nat) : Nat :=
  if src < 384 then src / 4
  else if src < 448 then 128
  else if src = 448 then 255 else if src = 449 then 255
  else if src = 450 then 123
  else if src < 456 then 120
  else if src < 459 then 123
  else if src < 465 then 122
  else if src < 468 then 121
  else if src < 473 then 122
  else if src = 473 then 124
  else if src = 474 then 125
  else if src < 480 then 255
  else if src < 512 then 96 + (src - 480) / 2
  else if src = 524 then 120 else if src = 525 then 123 else if src = 526 then 121
  else if src = 527 then 122 else if src = 528 then 122
  else if src = 529 then 135 else if src = 530 then 135 else if src = 531 then 135
  else if 544 ≤ src ∧ src < 550 then 131
  else if 550 ≤ src ∧ src < 560 then 129
  else if 560 ≤ src ∧ src < 576 then 133
  else 255

/-- The first-error record of a class (R397). -/
def State.putFirst (s : State) (src cause epoch : Nat) : State :=
  let k := evtClass src
  (((s.putB (EVT_FIRST_SRC.VALID k) true).put (EVT_FIRST_SRC.SOURCE k) src).put
    (EVT_FIRST_SRC.CAUSE k) cause).put (EVT_FIRST_EP.EPOCH k) epoch

/-- A raise meets the first-error record of its class: it is recorded where VALID is 0, and over a larger ID that the same cycle
recorded (R397). -/
def State.takeFirst (s : State) (src cause : Nat) : State :=
  let k := evtClass src
  if !s.flag (EVT_FIRST_SRC.VALID k) then
    { s.putFirst src cause s.epoch with evt := { s.evt with firsts := orN s.evt.firsts (2 ^ k) } }
  else if bit s.evt.firsts k && src < s.get (EVT_FIRST_SRC.SOURCE k) then s.putFirst src cause s.epoch
  else s

/-- The sources that raised in this cycle, whose pending bits a W1C write of the cycle leaves set (R10), and whose first-error record
it leaves (R397). -/
def State.noteRaise (s : State) (src cause : Nat) : State :=
  { s with evt := { s.evt with raised := s.evt.raised ++ [(src, cause, s.epoch)] } }

/-- A source raises (R393): its counter, its pending bit, the first-error record of its class, its log record, and,
where it was not pending and MASK is 0, its vector and WAKE_N. -/
def State.raiseAlways (s : State) (src cause detail : Nat) : State :=
  let s := s.bump (EVT_CNT.COUNT src)
  let was := s.flag (evtPend src)
  let s := s.putB (evtPend src) true
  let s := ((s.takeFirst src cause).noteRaise src cause).logOffer src cause detail
  if was || s.flag (EVT_SRC.MASK src) then s
  else
    let s := s.vecTrigger (s.get (EVT_SRC.VEC src))
    if s.pci.d3hot && s.pci.pmeEn then { s with pci := { s.pci with wakeLow := true } } else s

/-- Coalescing records that are due precede any new event record, and LOG_COALESCE (515) is raised after them (R400). -/
def State.coalesce (s : State) : State :=
  if s.coalDue then s.coalFlush.raiseAlways 515 0 0 else s

/-- An event source raises with a cause code and a detail, unless its domain is Off (R81, R393). -/
def State.raise (s : State) (src cause detail : Nat) : State :=
  if s.domOn (evtDomain src) then s.coalesce.raiseAlways src cause detail else s

/-- A tile event (R394): the source of tile `t` and kind `k` (0 RX, 1 SLICE, 2 REED, 3 RET), its cause code and the
channels concerned. -/
def State.raiseTile (s : State) (t k cause chans : Nat) : State := s.raise (4 * t + k) cause chans

/-! ### Reading derived fields -/

/-- INT_N is driven low (R396). -/
def State.intLow (s : State) : Bool :=
  s.flag EVT_INT_CTL.INT_EN &&
    (List.range 640).any (fun i => s.flag (evtPend i) && !s.flag (EVT_SRC.MASK i))

/-- Number of places of the DRAM log ring. -/
def State.logSize (s : State) : Nat := 2 ^ s.get EVT_LOG_CTL.SIZE_LOG2

/-- The log ring is full (R398). -/
def State.logFull (s : State) : Bool :=
  (s.get EVT_LOG_HEAD.INDEX + 1) % s.logSize == s.get EVT_LOG_TAIL.INDEX % s.logSize

/-- The eight words of a log record (R399). -/
def LogRec.words : LogRec → List Nat
  | .event src cause ep t detail => [src % 1024 * 2 ^ 16 + cause % 256 * 2 ^ 8, ep, t, detail, 0, 0, 0, 0]
  | .coal src ep0 t0 n ep1 t1 => [0x4000_0000 + src % 1024 * 2 ^ 16, ep0, t0, n, ep1, t1, 0, 0]

/-! ### Codewords that cannot be corrected (R428) -/

/-- An uncorrectable error at a usable address (R428): the burst is poisoned, the error counted, its address recorded, and
MEM_UE (545) raised. -/
def State.memUncorrectable (s : State) (a c : Nat) : State :=
  let s := if s.poisoned a then s else { s with mem := { s.mem with poison := a / 64 :: s.mem.poison } }
  let s := s.bump MEM_UE_CNT.COUNT
  let s := s.put MEM_UE_ADDR_LO.ADDR (a / 64)
  let s := s.put MEM_UE_ADDR_HI.ADDR (a / 2 ^ 32)
  s.raise 545 0 c

/-- Poisoned bursts are read: each counts as an uncorrectable error (R428). -/
def State.touchBursts (s : State) (l : List Nat) : State :=
  s.each l (fun s b => s.memUncorrectable (b * 64) (s.dramPlace (b * 64)).1)

/-- DRAM bytes written by an agent of the device. A poisoned codeword that they cover in part keeps its bytes, and is an uncorrectable
error (R428). -/
def State.dramPut (s : State) (a : Nat) (l : List Byte) : State :=
  (s.dramWrite a l).touchBursts (s.mem.poison.filter (fun b =>
    decide (a < b * 64 + 64) && decide (b * 64 < a + l.length) && !(decide (a ≤ b * 64) && decide (b * 64 + 64 ≤ a + l.length))))

/-- One FIFO record is written into the DRAM log ring at HEAD, while EN is 1 and the ring has room (R398). -/
def State.logDrain (s : State) : State :=
  if s.flag EVT_LOG_CTL.EN && !s.logFull then
    match s.evt.fifo with
    | [] => s
    | r :: rest =>
      let base := s.get64 EVT_LOG_BASE_LO.BASE EVT_LOG_BASE_HI.BASE
      let h := s.get EVT_LOG_HEAD.INDEX % s.logSize
      let s := s.dramPut (base + 32 * h) (bytesOfWords r.words)
      let s := s.put EVT_LOG_HEAD.INDEX ((h + 1) % s.logSize)
      { s with evt := { s.evt with fifo := rest } }
  else s

end Sys2Proof.Machine
end

