-- ==== Sys2Proof/Machine/Resource.lean ====
section
/-! DEFINITION. Resource ownership (R63, R365, R367): who owns a ball, channel, scratchpad or slot, and the refusal of a
claim. -/

namespace Sys2Proof.Machine

/-- The resource ID of KIND and INDEX (R365). -/
def resId (kind index : Nat) : Nat := kind * 64 + index

/-- The resource ID of a table entry word. -/
def resOfWord (w : Nat) : Nat := bitsOf w 27 18

/-- The feature that DETAIL names for a kind of resource (R365): encoders, clock outputs and LED balls have two, SNS and
DRV_DAC balls one for each Treadle slot, the others one. -/
def resFeature (w : Nat) : Nat :=
  match bitsOf w 27 24 with
  | 0 => bitsOf w 17 17
  | 1 => bitsOf w 2 0
  | 2 => bitsOf w 2 0
  | 4 => bitsOf w 0 0
  | 5 => bitsOf w 0 0
  | _ => 0

/-- The table entry that owns a resource, if any. -/
def State.resEntry (s : State) (id : Nat) : Option (Nat × Nat) :=
  s.img.res.find? (fun e => resOfWord e.1 == id && e.2 != 0xF)

/-- The owner class of a resource, 0xF where it has none. -/
def State.resOwner (s : State) (id : Nat) : Nat :=
  match s.resEntry id with
  | some e => e.2
  | none => 0xF

/-- The feature that holds a resource: by the table, or by a runtime claim (R367). -/
def State.resHolder (s : State) (id : Nat) : Option Nat :=
  match s.resEntry id with
  | some e => some (resFeature e.1)
  | none => (s.img.claims.find? (fun c => c.1 == id)).map (fun c => c.2)

/-- A claim of a resource by a feature is refused: another feature holds it (R367). -/
def State.claimRefused (s : State) (id feat : Nat) : Bool :=
  match s.resHolder id with
  | some f => f != feat
  | none => false

/-- A granted claim of a resource that has no owner (R367). -/
def State.claim (s : State) (id feat : Nat) : State :=
  match s.resHolder id with
  | some _ => s
  | none => { s with img := { s.img with claims := s.img.claims ++ [(id, feat)] } }

/-- A refused claim is counted and raises RES_CONFLICT (R367). -/
def State.refuseClaim (s : State) (id : Nat) : State :=
  ((s.bump IMG_RES_CNT.REFUSED).put IMG_RES_CNT.LAST_ID id).raise 532 0 0

/-! ### Routes (R357) -/

/-- The route of a tile's records in the ROUTE record (R357): `v` is the bit that makes it valid and `lo` its lowest bit. -/
def State.route (s : State) (t v lo : Nat) : Option Nat :=
  let w := nth s.img.cfg.route t 0
  if bit w v then some (bitsOf w (lo + 5) lo) else none

def State.pointRoute (s : State) (t : Nat) : Option Nat := s.route t 24 0
def State.exportRoute (s : State) (t : Nat) : Option Nat := s.route t 25 8
def State.listRoute (s : State) (t : Nat) : Option Nat := s.route t 26 16

end Sys2Proof.Machine
end

