-- ==== Sys2Proof/Machine/Flags.lean ====
section
/-! DEFINITION. The overrun causes of a frame and what follows from them (R20, R21, R39). -/

namespace Sys2Proof.Machine

/-- The running frame becomes incomplete (R20): INCOMPLETE is set, and at the first of its causes INC_CNT counts the frame and
FRAME_INCOMPLETE (448) is raised (R39). -/
def State.incomplete (s : State) : State :=
  let s := s.putB GLB_FRAME_STAT.INCOMPLETE true
  if s.incRaised then s
  else ({ s with incRaised := true } : State).bump GLB_OVR_CNT.INC_CNT |>.raise 448 0 0

/-- A point interval had not ended at the close of the acquisition window (R20). -/
def State.acqOverrun (s : State) : State := (s.putB GLB_FRAME_STAT.ACQ_OVR true).incomplete

/-- An extraction engine had not delivered every return in time (R20). -/
def State.extOverrun (s : State) : State := (s.putB GLB_FRAME_STAT.EXT_OVR true).incomplete

/-- Selvedge had not issued the frame decision in time (R20). -/
def State.selOverrun (s : State) : State := (s.putB GLB_FRAME_STAT.SEL_OVR true).incomplete

/-- A per-frame diagnostic has not completed within the frame (R20). After the frame's decision, SAF_RUN_BLOCK.DIAG follows (R334). -/
def State.diagOverrun (s : State) : State :=
  let s := (s.putB GLB_FRAME_STAT.DIAG_OVR true).incomplete
  if s.decided then s.putB SAF_RUN_BLOCK.DIAG true else s

/-- Records of the frame were dropped (R20): DATA_OVR is set, and at the first drop DATA_CNT counts the frame and
DATA_OVERRUN (517) is raised (R39); the frame does not become incomplete (R21). -/
def State.dataOverrun (s : State) : State :=
  let s := s.putB GLB_FRAME_STAT.DATA_OVR true
  if s.dataOvrRaised then s
  else ({ s with dataOvrRaised := true } : State).bump GLB_OVR_CNT.DATA_CNT |>.raise 517 0 0

end Sys2Proof.Machine
end

