-- ==== Sys2Proof/Machine/Ring.lean ====
section
/-! DEFINITION. The command ring and the completion ring (R383 to R388): what an entry says, which commands a state takes up, and
how a command completes. -/

namespace Sys2Proof.Machine

/-! ### Opcodes and status codes (R385, R387) -/

def opNop : Nat := 0x00
def opRun : Nat := 0x01
def opStop : Nat := 0x02
def opMaint : Nat := 0x03
def opLeaveMaint : Nat := 0x04
def opStandby : Nat := 0x05
def opWake : Nat := 0x06
def opImgLoad : Nat := 0x10
def opImgSwap : Nat := 0x11
def opImgApply : Nat := 0x12
def opImgAbort : Nat := 0x13
def opPlugWrite : Nat := 0x20

def stOk : Nat := 0
def stConflict : Nat := 1
def stNotReady : Nat := 2
def stBusy : Nat := 3
def stBadCrc : Nat := 4
def stBadCommand : Nat := 5
def stFailed : Nat := 6
def stIdle : Nat := 7

/-! ### Completions (R387, R388) -/

/-- The completion ring has one free entry left, so the ring stalls (R388). -/
def State.cplStalled (s : State) : Bool := (s.get GLB_CPL_PTR.TAIL + 1) % 64 == s.get GLB_CPL_PTR.HEAD

/-- STALL follows the completion ring. -/
def State.showStall (s : State) : State := s.putB GLB_CMD_CNT.STALL s.cplStalled

/-- A completion is written at TAIL of the completion ring. -/
def State.cplPut (s : State) (c : Completion) : State :=
  let ws := [c.op * 2 ^ 24 + c.status * 2 ^ 16 + c.tag, c.detail, c.epoch]
  let t := s.get GLB_CPL_PTR.TAIL
  let s := s.each ((ws ++ [crcWords ws]).zipIdx) (fun s p => s.put (GLB_CPL_ENT.WORD (4 * t + p.2)) p.1)
  (((s.put GLB_CPL_PTR.TAIL ((t + 1) % 64)).showStall).raise 512 0 0)

/-- A completion falls due: it is written, or held while the ring is stalled (R388). -/
def State.cplDue (s : State) (c : Completion) : State :=
  if s.cplStalled || !s.heldCpl.isEmpty then { s with heldCpl := s.heldCpl ++ [c] } else s.cplPut c

/-- Held completions are written, oldest first, while the ring has room. -/
def State.cplRelease : Nat → State → State
  | 0, s => s
  | n + 1, s =>
    match s.heldCpl with
    | [] => s
    | c :: rest => if s.cplStalled then s else State.cplRelease n (({ s with heldCpl := rest } : State).cplPut c)

/-- A started command completes. -/
def State.complete (s : State) (c : RunCmd) (status detail : Nat) : State :=
  if c.cpl then s.cplDue ⟨c.op, status, c.tag, detail, s.epoch⟩ else s

/-- The started commands that wait for something complete, and wait no longer. -/
def State.completeAll (s : State) (which : RunCmd → Bool) (status detail : Nat) : State :=
  let l := s.cmds.filter which
  let s := { s with cmds := s.cmds.filter (fun c => !which c) }
  s.each l (fun s c => s.complete c status detail)

/-! ### Entries (R383, R384) -/

/-- A word of the entry at HEAD. -/
def State.entWord (s : State) (w : Nat) : Nat := s.get (GLB_CMD_ENT.WORD (8 * s.get GLB_CMD_PTR.HEAD + w))

def State.entOp (s : State) : Nat := bitsOf (s.entWord 0) 31 24
def State.entTag (s : State) : Nat := bitsOf (s.entWord 0) 15 0
def State.entArg (s : State) : Nat := s.entWord 1

/-- The device may take the entry at HEAD: there is one, and the ring is not stalled. -/
def State.ringReady (s : State) : Bool :=
  s.get GLB_CMD_PTR.HEAD != s.get GLB_CMD_PTR.TAIL && !s.flag GLB_CMD_CNT.STALL && s.dev != .off && s.dev != .reset

/-- The CRC of the entry at HEAD. -/
def State.entCrcOk (s : State) : Bool := crcWords ((List.range 7).map s.entWord) == s.entWord 7

/-- The opcodes of R385. -/
def opcodes : List Nat :=
  [opNop, opRun, opStop, opMaint, opLeaveMaint, opStandby, opWake, opImgLoad, opImgSwap, opImgApply, opImgAbort, opPlugWrite]

/-- ARG0 fits its command. -/
def argOk (op arg : Nat) : Bool :=
  if op = opImgLoad then andNotN 32 arg 0x13 == 0 && arg % 4 != 3 else arg == 0

/-- Opcode, reserved words and ARG0 of the entry at HEAD. -/
def State.entFormOk (s : State) : Bool :=
  opcodes.contains s.entOp && bitsOf (s.entWord 0) 23 16 == 0 && [2, 3, 4, 5, 6].all (fun w => s.entWord w == 0) &&
    argOk s.entOp s.entArg

/-- The entry at HEAD is taken. -/
def State.ringTake (s : State) : State := s.put GLB_CMD_PTR.HEAD ((s.get GLB_CMD_PTR.HEAD + 1) % 64)

/-! ### The state check (R385, R386) -/

/-- The table of R385, outside STANDBY. A load in BOOT is taken up only after a failed boot. -/
def State.cmdAllowed (s : State) (op : Nat) : Bool :=
  let d := s.dev
  if op = opNop then true
  else if op = opRun || op = opMaint then d == .configured || d == .safeStop
  else if op = opStop then d.running
  else if op = opLeaveMaint || op = opImgApply || op = opPlugWrite then d == .maintenance
  else if op = opStandby then d == .configured || d == .maintenance
  else if op = opImgLoad then
    (d == .boot && s.img.bootFailed) || d == .configured || d.running || d == .safeStop || d == .maintenance
  else if op = opImgSwap then d == .configured || d.running || d == .safeStop || d == .maintenance
  else if op = opImgAbort then d == .boot || d == .configured || d.running || d == .safeStop || d == .maintenance
  else false

/-- The commands that change the state (R386). -/
def stateChanging (op : Nat) : Bool :=
  [opRun, opStop, opMaint, opLeaveMaint, opStandby, opWake, opImgApply].contains op

/-- The commands of which one at a time runs under R369. -/
def imageCmd (op : Nat) : Bool := [opImgLoad, opImgSwap, opImgApply].contains op

/-- The status that refuses a command before its own conditions; none: it is taken up. -/
def State.cmdRefused (s : State) (op : Nat) : Option Nat :=
  let mode := s.get PWR_MODE.MODE
  if op = opNop then none
  else if mode = 1 || mode = 3 then some stBusy
  else if (if mode = 2 then op != opWake else !s.cmdAllowed op) then some stConflict
  else if stateChanging op && s.cmds.any (fun c => stateChanging c.op) then some stBusy
  else if (imageCmd op || op == opStandby) && s.cmds.any (fun c => imageCmd c.op) then some stBusy
  else none

/-- A refused command is counted and reported (R385). -/
def State.cmdRefuse (s : State) (c : RunCmd) (status : Nat) : State :=
  let s := if status = stConflict then (s.bump GLB_CMD_CNT.CONFLICT).raise 513 0 c.op else s
  s.complete c status 0

/-- The command at HEAD, if it is `op`: it is taken, refused, or taken up with its argument by `f`. -/
def State.ringCmd (s : State) (op : Nat) (wait : CmdWait) (f : RunCmd → Nat → State → State) : State :=
  if !(s.ringReady && s.entCrcOk && s.entFormOk && s.entOp == op) then s
  else
    let c : RunCmd := ⟨op, s.entTag, s.dev, wait, true⟩
    let arg := s.entArg
    let s := s.ringTake
    match s.cmdRefused op with
    | some st => s.cmdRefuse c st
    | none => f c arg s

/-- A command that has been taken up and ends later. -/
def State.startCmd (s : State) (c : RunCmd) : State := { s with cmds := s.cmds ++ [c] }

/-- A command that waits for a tick or an end: the state in which it was taken has been left (R386). -/
def State.leftState (s : State) : State :=
  let s := s.completeAll (fun c => (c.wait == .tick || c.wait == .standby || c.wait == .wake || c.op == opImgApply) && c.dev != s.dev) stConflict 0
  s.completeAll (fun c => (c.wait == .runJudge || c.wait == .runTick) && c.dev != s.dev) stNotReady 0

end Sys2Proof.Machine
end

