-- ==== Sys2Proof/Machine/Dram.lean ====
section
/-! DEFINITION. The DRAM controller (R425 to R431): codeword errors, scrub and sparing, the BAR4 aperture (R382); the
scratchpads behind BAR2 (R420 to R424) and the atomic unit (R422, R527). -/

namespace Sys2Proof.Machine

/-! ### Codeword errors -/

/-- The key of a stripe in the per-stripe tables. -/
def stripeKey (c stripe : Nat) : Nat := c * 2 ^ 28 + stripe

/-- The key of a physical stripe that serves no usable address: a spare in waiting, or one that has been replaced. -/
def idleKey (c phys : Nat) : Nat := stripeKey (8 + c) phys

/-- One corrected error on a stripe of a channel, by its key (R428, R430): counted, and MEM_CE (544) raised at most once per channel
per frame (R433). -/
def State.memCorrected (s : State) (c key : Nat) : State :=
  let s := s.bump (MEM_CE_CNT.COUNT c)
  let s := { s with mem := { s.mem with errs := tabMod (fun _ => 0) s.mem.errs key (· + 1) } }
  if bit s.mem.ceRaised c then s
  else ({ s with mem := { s.mem with ceRaised := setBit s.mem.ceRaised c true } } : State).raise 544 0 c

/-- The codeword of a usable address is read, and `bad` of its symbols prove wrong: one is corrected, two or more poison it,
and a poisoned one counts as uncorrectable at each read (R428). The flag says whether it could be used. -/
def State.memTouch (s : State) (a bad : Nat) : Bool × State :=
  let (c, stripe, _) := s.dramPlace a
  if s.poisoned a || 2 ≤ bad then (false, s.memUncorrectable a c)
  else if bad = 1 then (true, s.memCorrected c (stripeKey c stripe))
  else (true, s)

/-- Number of stripes of a channel, spares included (R427). -/
def State.memStripes (s : State) : Nat := 2 ^ 30 * s.get MEM_CFG.RAW_GB / 4288

/-- The usable address of the first byte of a stripe of a channel. -/
def State.stripeAddr (s : State) (c stripe : Nat) : Nat :=
  (stripe * s.dramChans.length + (s.dramChans.takeWhile (· != c)).length) * 4096

/-- The stripe whose usable addresses a physical stripe serves: its own, or for a spare that of the stripe it replaces; none for a
stripe that has been replaced and for a free spare (R430). -/
def State.servedStripe (s : State) (c phys : Nat) : Option Nat :=
  if phys + 7680 < s.memStripes then
    (if s.mem.remap.any (fun r => r.chan == c && r.stripe == phys) then none else some phys)
  else (s.mem.remap.find? (fun r => r.chan == c && r.spare + s.memStripes == phys + 7680)).map (fun r => r.stripe)

/-- A codeword of a stripe that serves no usable address is read (R428, R429): an error of it is counted and has no usable address
to record (log entry 83). -/
def State.idleTouch (s : State) (c phys bad : Nat) : State :=
  if 2 ≤ bad then (s.bump MEM_UE_CNT.COUNT).raise 545 0 c
  else if bad = 1 then s.memCorrected c (idleKey c phys)
  else s

/-- The address of the codeword at a scrub position of a channel; none: no address reaches it, for it lies in a spare stripe in
waiting or in one remapped. -/
def State.scrubAddr (s : State) (c pos : Nat) : Option Nat :=
  (s.servedStripe c (pos / 64)).map (fun st => s.stripeAddr c st + pos % 64 * 64)

/-- Scrubbing reads the codeword at a position of a channel. -/
def State.scrubTouch (s : State) (c pos bad : Nat) : State :=
  match s.scrubAddr c pos with
  | some a => (s.memTouch a bad).2
  | none => s.idleTouch c (pos / 64) bad

/-- Scrub reads and corrects the next codeword of a channel (R429): 64 codewords in each stripe, spares included. At the
end of a pass over every enabled channel, PASSES counts, MEM_SCRUB_PASS (549) is raised and the per-pass error counts
start again. -/
def State.scrubStep (s : State) (c bad : Nat) : State :=
  if !(s.get MEM_CFG.INIT_OK == 1 && s.dramChans.contains c && s.domOn (112 + c) && s.domOn 131) then s
  else
    let total := s.memStripes * 64
    let pos := tabGet (fun _ => 0) s.mem.scrub c
    if total ≤ pos then s
    else
      let s := s.scrubTouch c pos bad
      let s := { s with mem := { s.mem with scrub := tabSet (fun _ => 0) s.mem.scrub c (pos + 1) } }
      let done := (s.dramChans.map (fun d => tabGet (fun _ => 0) s.mem.scrub d)).foldl (· + ·) 0
      let all := total * s.dramChans.length
      if done = all then
        let s := (s.bumpWrap MEM_SCRUB_STAT.PASSES).put MEM_SCRUB_STAT.PERCENT 0
        ({ s with mem := { s.mem with scrub := [], errs := [] } } : State).raise 549 0 0
      else s.put MEM_SCRUB_STAT.PERCENT (done * 100 / all)

/-- The poisoned bursts of a stripe. -/
def State.stripePoison (s : State) (c stripe : Nat) : List Nat :=
  s.mem.poison.filter (fun b => let (c', st, _) := s.dramPlace (b * 64); c' == c && st == stripe)

/-- A stripe is weak (R430): it has reached SPARE_THR corrected errors in the running pass, or holds a poisoned codeword that the
copy in use was not made with. -/
def State.stripeWeak (s : State) (c stripe : Nat) : Bool :=
  let had := match s.mem.remap.find? (fun r => r.chan == c && r.stripe == stripe) with
    | some r => r.bursts
    | none => []
  decide (s.get MEM_SCRUB.SPARE_THR ≤ tabGet (fun _ => 0) s.mem.errs (stripeKey c stripe)) ||
    (s.stripePoison c stripe).any (fun b => !had.contains b)

/-- A weak stripe is copied to a free spare stripe, the lowest-numbered one, and remapped (R430; log entry 83). -/
def State.memSpared (s : State) (c stripe : Nat) : State :=
  let free := s.get (MEM_SPARE.FREE c)
  if !(s.stripeWeak c stripe && 0 < free && s.dramChans.contains c && s.domOn 131) then s
  else
    let r : Remap := ⟨c, stripe, s.get (MEM_SPARE.USED c), s.stripePoison c stripe⟩
    let s := (s.put (MEM_SPARE.FREE c) (free - 1)).bumpWrap (MEM_SPARE.USED c)
    let s := { s with mem := { s.mem with
      remap := r :: s.mem.remap.filter (fun x => !(x.chan == c && x.stripe == stripe))
      errs := tabSet (fun _ => 0) s.mem.errs (stripeKey c stripe) 0 } }
    let s := s.raise 546 0 c
    if free - 1 = 0 then s.raise 548 0 c else if free = 768 then s.raise 547 0 c else s

/-! ### BAR4 (R382, R431) -/

/-- An access discarded by the aperture, or of a page whose channel is Off, answers zero. -/
def State.answerZero (s : State) (rd : Bool) : State := if rd then s.emit (.memData [0, 0, 0, 0]) else s

/-- A BAR0 or BAR4 access that GLB_ACC_ERR counts, with its cause; it raises ACC_ERR (516) (R379, R382). -/
def State.accError (s : State) (cause : Nat) : State :=
  ((s.bump GLB_ACC_ERR.COUNT).put GLB_ACC_ERR.LAST_CAUSE cause).raise 516 0 0

/-- A BAR4 access of one DWORD (R360, R382, R428, R431); `bad` is the number of wrong symbols in its codeword. A page of a channel that is On
in self-refresh (R89) answers as one that is Off (DESIGN CHOICE; log entry 100). -/
def State.bar4 (s : State) (off : Nat) (wr : Option Word) (bad : Nat) : State :=
  if !s.barOpen then s
  else
    let a := s.get GLB_BAR4_BASE.BASE * 2 ^ 30 + off / 4 * 4
    if s.dramCap ≤ a then (s.accError 3).answerZero wr.isNone
    else
      let (c, _, _) := s.dramPlace a
      if !(s.domOn (112 + c)) || !(s.domOn 131) || bit s.mem.selfRef c then
        (s.bump PWR_OFF_ACC.COUNT).answerZero wr.isNone
      else
        match wr with
        | some w =>
          if s.inSlots a then s.bump IMG_PROT_CNT.COUNT
          else
            let (ok, s) := s.memTouch a bad
            if ok then s.dramWrite a (bytesLE 4 w.toNat) else s
        | none =>
          let (ok, s) := s.memTouch a bad
          if ok then s.emit (.memData (s.dramRead a 4)) else s.emit .poisoned

/-! ### Scratchpads -/

/-- The domain of the scratchpad that holds an address (R401). -/
def spdDomain (a : Nat) : Nat := if a / 0x4_0000 < 8 then 129 else 130

/-- Whether the resource table gives the scratchpad of an address to a feature class (R424). -/
def State.spdOwned (s : State) (a : Nat) : Bool := s.resOwner (resId 7 (a / 0x4_0000)) != 0xF

/-- A host write that scratchpad ownership discards (R424). -/
def State.spdDeny (s : State) : State := (s.bump SPD_CNT.PROT).raise 551 0 0

/-! ### Ports (R420, R422, R423) -/

/-- Bytes written at their addresses. -/
def Mem.writeAt (m : Mem) (bs : List (Nat × Byte)) : Mem := bs.foldl (fun m b => m.write b.1 b.2) m

/-- A 32-bit word of a memory, by its number. -/
def Mem.word (m : Mem) (word : Nat) : Nat := natOfBytes (m.readList (4 * word) 4)

/-- The word that an atomic operation stores over an old one (R412, R422); none where it stores nothing. -/
def PortAct.result (act : PortAct) (old : Nat) : Option Nat :=
  match act with
  | .put _ => none
  | .add v => some ((old + v) % 2 ^ 32)
  | .cas e v => if old = e then some v else none

/-- One access performed on a word. -/
def PortAct.run (act : PortAct) (word : Nat) (m : Mem) : Mem :=
  match act with
  | .put bs => m.writeAt bs
  | _ =>
    match act.result (m.word word) with
    | some v => m.writeList (4 * word) (bytesLE 4 v)
    | none => m

/-- Accesses performed one after another on a word as it was before the cycle. -/
def PortWord.replay (e : PortWord) (ops : List PortOp) (m : Mem) : Mem :=
  ops.foldl (fun m o => o.act.run e.word m) (m.writeList (4 * e.word) e.old)

/-- An access takes its place in port order, behind those of its own issuer (R420). -/
def portIns (o : PortOp) : List PortOp → List PortOp
  | [] => [o]
  | p :: r => if o.rank < p.rank then o :: p :: r else p :: portIns o r

/-- The plain write of a word that is performed in this cycle (R423). -/
def PortWord.winner (e : PortWord) : Option PortOp :=
  e.ops.find? (fun o => match o.act with | .put _ => true | _ => false)

/-- The entry of a word in the running cycle. -/
def State.portWord (s : State) (word : Nat) : Option PortWord := s.spdPort.find? (fun e => e.word == word)

/-- A host access is the first in port order (R420). -/
def hostRank : Nat := 0

/-- The host atomic unit comes behind the host's own accesses (R420). -/
def atomRank : Nat := 1

/-- The scratchpads as the issuer with a place in port order sees them: with what those before it, and itself, do in this cycle. -/
def State.spdSee (s : State) (rank : Nat) : Mem :=
  s.spdPort.foldl (fun m e => e.replay (e.ops.filter (fun o => o.rank ≤ rank)) m) s.spd

/-- The result of the atomic unit's last operation on a word in this cycle, by its place in port order (R422). -/
def State.atomShow (s : State) (word : Nat) : State :=
  match s.portWord word with
  | none => s
  | some e =>
    let l := e.ops.filter (fun o => o.rank ≤ atomRank)
    match l.getLast? with
    | none => s
    | some o =>
      if o.rank != atomRank || s.get SPD_ATOM_ADDR.ADDR != word then s
      else
        let old := (e.replay l.dropLast s.spd).word word
        (s.put SPD_ATOM_RES.OLD old).putB SPD_ATOM_STAT.SUCCESS (o.act.result old).isSome

/-- An access to a word: what is done to the word in this cycle is done in port order (R420, R422). -/
def State.portDo (s : State) (word : Nat) (o : PortOp) : State :=
  match s.portWord word with
  | none => { s with spd := o.act.run word s.spd, spdPort := s.spdPort ++ [⟨word, s.spd.readList (4 * word) 4, [o]⟩] }
  | some e =>
    let l := portIns o e.ops
    ({ s with
      spd := e.replay l s.spd
      spdPort := s.spdPort.map (fun x => if x.word == word then { x with ops := l } else x) } : State).atomShow word

/-- The plain writes of an issuer to a word are not performed (R423). -/
def State.portDrop (s : State) (word rank : Nat) : State :=
  { s with spdPort := s.spdPort.map (fun x => if x.word == word then
      { x with ops := x.ops.filter (fun o => o.rank != rank || match o.act with | .put _ => false | _ => true) } else x) }

/-- A write of a Shuttle channel has met one that goes before it in port order: its descriptor has lost a word (R423). -/
def State.portLost (s : State) (e : PortOp) : State :=
  match e.chan with
  | none => s
  | some c =>
    { s with shu := tabMod (fun _ => {}) s.shu c (fun x =>
        { x with lost := true, status := if x.ended && x.status == 0 then 0x0B else x.status }) }

/-- A plain write to one word of a scratchpad, by the issuer with this place in port order: of two in one cycle only the first in
port order is performed, and of two of the host the first. The flag says that this one is lost. -/
def State.spdPut (s : State) (rank : Nat) (chan : Option Nat) (word : Nat) (bs : List (Nat × Byte)) : Bool × State :=
  match (s.portWord word).bind PortWord.winner with
  | none => (false, s.portDo word ⟨rank, chan, .put bs⟩)
  | some w =>
    if w.rank < rank || (w.rank == rank && chan.isNone) then (true, s)
    else if rank < w.rank then (false, ((s.portLost w).portDrop word w.rank).portDo word ⟨rank, chan, .put bs⟩)
    else (false, s.portDo word ⟨rank, chan, .put bs⟩)

/-- A BAR2 access of one DWORD (R421, R423, R424). -/
def State.bar2 (s : State) (off : Nat) (wr : Option Word) (be : Nat) : State :=
  let a := off / 4 * 4
  if !s.barOpen then s
  else if 0x40_0000 ≤ a then s
  else if !s.domOn (spdDomain a) then (s.bump PWR_OFF_ACC.COUNT).answerZero wr.isNone
  else
    match wr with
    | none => s.emit (.memData ((s.spdSee hostRank).readList a 4))
    | some w =>
      if s.spdOwned a then s.spdDeny
      else
        let bs := (bitList 4 be).map (fun i => (a + i, BitVec.ofNat 8 (w.toNat / 256 ^ i)))
        let (lost, s) := s.spdPut hostRank none (a / 4) bs
        if lost then
          (((s.hwUp SPD_LOSS.VALID).put SPD_LOSS.ADDR (a / 4)).bump SPD_CNT.LOST).raise 550 0 0
        else s

/-- The atomic unit refuses an operation: nothing changes in memory, SUCCESS reads 0 and DENIED 1 (R424, R527). -/
def State.atomDenied (s : State) : State := (s.putB SPD_ATOM_STAT.SUCCESS false).putB SPD_ATOM_STAT.DENIED true

/-- An atomic operation on the word at SPD_ATOM_ADDR (R422, R424, R527): it takes its place in port order, and shows what it finds
there. -/
def State.atomic (s : State) (act : PortAct) : State :=
  let word := s.get SPD_ATOM_ADDR.ADDR
  if !s.domOn 129 then s
  else if !s.domOn (spdDomain (4 * word)) then s.atomDenied.put SPD_ATOM_RES.OLD 0
  else if s.spdOwned (4 * word) then s.atomDenied.spdDeny
  else ((s.putB SPD_ATOM_STAT.DENIED false).portDo word ⟨atomRank, none, act⟩).atomShow word

/-- SPD_ATOM_CMD with OP ADD (R422). -/
def State.atomicAdd (s : State) : State := s.atomic (.add (s.get SPD_ATOM_OPND.VALUE))

/-- SPD_ATOM_CMD with OP CAS (R422). -/
def State.atomicCas (s : State) : State := s.atomic (.cas (s.get SPD_ATOM_EXP.VALUE) (s.get SPD_ATOM_OPND.VALUE))

/-! ### Commands -/

/-- BAR4_ACCESS. -/
def execBar4Access (dt off : Nat) (wr : Option Word) (bad : Nat) (s : State) : Host.Outcome State Fault Refusal :=
  .next ((s.advance dt).bar4 off wr bad)

/-- BAR2_ACCESS. -/
def execBar2Access (dt off : Nat) (wr : Option Word) (be : Fin 16) (_lost : Bool) (s : State) :
    Host.Outcome State Fault Refusal :=
  .next ((s.advance dt).bar2 off wr be.val)

/-- ATOMIC_ADD. -/
def execAtomicAdd (dt : Nat) (s : State) : Host.Outcome State Fault Refusal := .next ((s.advance dt).hostReg SPD_ATOM_CMD.addr (fun s => s.atomicAdd))

/-- ATOMIC_CAS. -/
def execAtomicCas (dt : Nat) (s : State) : Host.Outcome State Fault Refusal := .next ((s.advance dt).hostReg SPD_ATOM_CMD.addr (fun s => s.atomicCas))

/-- SCRUB_STEP. -/
def execScrubStep (dt : Nat) (ch : Fin 8) (bad : Nat) (s : State) : Host.Outcome State Fault Refusal :=
  .next ((s.advance dt).scrubStep ch.val bad)

/-- MEM_SPARED. -/
def execMemSpared (dt : Nat) (ch : Fin 8) (stripe : Nat) (s : State) : Host.Outcome State Fault Refusal :=
  .next ((s.advance dt).memSpared ch.val stripe)

end Sys2Proof.Machine
end

