-- ==== Sys2Proof/Machine/Shuttle.lean ====
section
/-! DEFINITION. Shuttle (R401 to R419, R433): descriptors, their checks and extents, the bytes a request commits, completion,
pause and abort, streams and their staging, and the transfers of a domain that goes Off (R82 to R84, R415). -/

namespace Sys2Proof.Machine

/-! ### Channels -/

/-- The hidden state of a channel. -/
def State.chan (s : State) (c : Nat) : ShuChan := tabGet (fun _ => {}) s.shu c

/-- The hidden state of a channel replaced. -/
def State.setChan (s : State) (c : Nat) (x : ShuChan) : State :=
  { s with shu := tabSet (fun _ => {}) s.shu c x }

/-- MODE of a channel: 0 memory, 1 stream-ring, 2 stream-link (R404). -/
def State.chanMode (s : State) (c : Nat) : Nat := s.get (SHU_CFG.MODE c)

/-- Who sends requests to DRAM and the scratchpads (R402). -/
inductive Requester where
  | fieldSet | loader | stream | bar4 | memory (tc : Nat) | errorLog | loupe | scrub
  deriving DecidableEq, Repr

/-- The traffic class of a requester (R402). -/
def Requester.trafficClass (r : Requester) : Nat :=
  match r with
  | .fieldSet | .loader => 0
  | .stream => 1
  | .bar4 => 2
  | .memory tc => tc
  | .errorLog | .loupe | .scrub => 3

/-- The DRAM tags reserved for a traffic class (R402). -/
def reservedTags (tc : Nat) : Nat :=
  match tc with
  | 0 => 1024
  | 1 => 4096
  | _ => 0

/-- The traffic class of a channel's requests (R404): a stream channel's, or that of its SHU_CFG. -/
def State.trafficClass (s : State) (c : Nat) : Nat :=
  (if s.chanMode c = 0 then Requester.memory (s.get (SHU_CFG.TC c)) else .stream).trafficClass

/-- The place of a channel's requests among those that reach a scratchpad port in one cycle, after the host's (R420). -/
def State.portRank (s : State) (c : Nat) : Nat := 2 + 64 * s.trafficClass c + c

/-- Entries of a channel's ring (R405). -/
def State.ringSize (s : State) (c : Nat) : Nat := 2 ^ s.get (SHU_CFG.SIZE_LOG2 c)

/-- Address of a channel's descriptor at HEAD (R405). -/
def State.ringAddr (s : State) (c : Nat) : Nat :=
  s.get64 (SHU_RING_LO.RING c) (SHU_RING_HI.RING c) + 64 * (s.get (SHU_PTR.HEAD c) % s.ringSize c)

/-- The 16 words of the descriptor at HEAD; those of a ring in host memory come with the command. -/
def State.readDesc (s : State) (c : Nat) (host : List Nat) : List Nat :=
  let a := s.ringAddr c
  match s.get (SHU_CFG.RING_KIND c) with
  | 0 => wordsOfBytes 16 (s.dramRead a 64)
  | 1 => wordsOfBytes 16 ((s.spdSee (s.portRank c)).readList (a % 0x40_0000) 64)
  | _ => (List.range 16).map (fun i => nth host i 0)

/-- The descriptor at HEAD lies in a poisoned codeword (R428). -/
def State.descPoisoned (s : State) (c : Nat) : Bool := s.get (SHU_CFG.RING_KIND c) == 0 && s.poisoned (s.ringAddr c)

/-! ### Descriptor fields (R406) -/

/-- A word of a descriptor. -/
def dw (d : List Nat) (i : Nat) : Nat := nth d i 0 % 2 ^ 32
def descOwn (d : List Nat) : Bool := bit (dw d 0) 31
def descIrq (d : List Nat) : Bool := bit (dw d 0) 30
def descOp (d : List Nat) : Nat := bitsOf (dw d 0) 29 28
def descSrcKind (d : List Nat) : Nat := bitsOf (dw d 0) 27 24
def descDstKind (d : List Nat) : Nat := bitsOf (dw d 0) 23 20
def descSrc (d : List Nat) : Nat := dw d 1 + dw d 2 * 2 ^ 32
def descDst (d : List Nat) : Nat := dw d 3 + dw d 4 * 2 ^ 32
def descBytes (d : List Nat) : Nat := bitsOf (dw d 5) 23 0
def descN1 (d : List Nat) : Nat := bitsOf (dw d 6) 15 0 + 1
def descN2 (d : List Nat) : Nat := bitsOf (dw d 6) 31 16 + 1
def descStride (d : List Nat) (i : Nat) : Int := signed 32 (dw d i)
def descTotal (d : List Nat) : Nat := descBytes d * descN1 d * descN2 d

/-- The CRC of a descriptor: over words 0 to 10 with OWN taken as 0 (R406). -/
def descCrcOk (d : List Nat) : Bool :=
  let ws := (List.range 11).map (fun i => if i = 0 then dw d 0 % 2 ^ 31 else dw d i)
  crcWords ws == dw d 11

/-- Lowest and highest address of one side of a descriptor (R409). -/
def descExtent (d : List Nat) (base : Nat) (s1 s2 : Int) : Int × Int :=
  let n1 : Int := descN1 d - 1
  let n2 : Int := descN2 d - 1
  ((base : Int) + min 0 (n1 * s1) + min 0 (n2 * s2),
   (base : Int) + max 0 (n1 * s1) + max 0 (n2 * s2) + descBytes d - 1)

def srcExtent (d : List Nat) : Int × Int := descExtent d (descSrc d) (descStride d 7) (descStride d 9)
def dstExtent (d : List Nat) : Int × Int := descExtent d (descDst d) (descStride d 8) (descStride d 10)

/-- The size of a space (R401). -/
def State.spaceSize (s : State) (kind : Nat) : Nat :=
  match kind with
  | 0 => s.dramCap
  | 1 => 0x40_0000
  | _ => 2 ^ 64

/-- The domains that an access to an extent of a space touches (R401). -/
def State.spaceDomains (s : State) (kind : Nat) (ext : Int × Int) : List Nat :=
  match kind with
  | 0 => 131 :: s.dramChans.map (· + 112)
  | 1 => (if ext.1 < 0x20_0000 then [129] else []) ++ (if 0x20_0000 ≤ ext.2 then [130] else [])
  | 2 => [132]
  | _ => []

/-- The domains of a stream channel's record sources (R401): the tiles that ROUTE sends to it. -/
def State.sourceDomains (s : State) (c : Nat) : List Nat :=
  (List.range 96).filter (fun t => s.pointRoute t == some c || s.exportRoute t == some c || s.listRoute t == some c)

/-- The domains that a channel's ring and descriptor touch (R401). -/
def State.descDomains (s : State) (c : Nat) (d : List Nat) : List Nat :=
  let ra : Int := s.ringAddr c
  128 :: s.spaceDomains (s.get (SHU_CFG.RING_KIND c)) (ra, ra + 63) ++
    s.spaceDomains (descDstKind d) (dstExtent d) ++
    (if descSrcKind d = 3 then s.sourceDomains c else s.spaceDomains (descSrcKind d) (srcExtent d))

/-- The scratchpads that an extent of space 1 meets. -/
def extentPads (ext : Int × Int) : List Nat :=
  (List.range 16).filter (fun n =>
    decide (ext.1 < ((n + 1) * 0x4_0000 : Nat)) && decide (((n * 0x4_0000 : Nat) : Int) ≤ ext.2))

/-- An extent meets an image slot (R359, R407). -/
def State.extentInSlots (s : State) (ext : Int × Int) : Bool :=
  decide (ext.1 < (s.dramCap : Int)) && decide (((s.dramCap - 0x2000_0000 : Nat) : Int) ≤ ext.2)

/-- The first scratchpad of an extent that a class other than the channel's own owns (R407, R424). -/
def State.padConflict (s : State) (c kind : Nat) (ext : Int × Int) : Option Nat :=
  if kind = 1 then (extentPads ext).find? (fun n =>
    s.resOwner (resId 7 n) != 0xF && s.resOwner (resId 7 n) != s.resOwner (resId 6 c))
  else none

/-- The scratchpad whose use by a descriptor is refused: of its destination, else of its source (R407). -/
def State.descPad (s : State) (c : Nat) (d : List Nat) : Option Nat :=
  (s.padConflict c (descDstKind d) (dstExtent d)).or
    (if descSrcKind d = 3 then none else s.padConflict c (descSrcKind d) (srcExtent d))

/-- The field check of R407, step 2. -/
def State.descBadFields (s : State) (c : Nat) (d : List Nat) : Bool :=
  let sk := descSrcKind d
  let dk := descDstKind d
  let mis := fun (n : Nat) => n % 4 != 0
  decide (2 ≤ descOp d) || decide (4 ≤ sk) || decide (3 ≤ dk) || descBytes d == 0 || bitsOf (dw d 5) 31 24 != 0 ||
  bitsOf (dw d 0) 19 16 != 0 ||
  (s.chanMode c == 0 && sk == 3) ||
  (s.chanMode c == 1 && (sk != 3 || descN1 d != 1 || descN2 d != 1 || decide (descBytes d < 4096))) ||
  (descOp d == 1 && (dk != 1 || mis (descBytes d) || mis (descSrc d) || mis (descDst d) || mis (dw d 7) ||
    mis (dw d 8) || mis (dw d 9) || mis (dw d 10)))

/-- An extent leaves its space (R407, step 3). -/
def State.extentBad (s : State) (kind : Nat) (ext : Int × Int) : Bool :=
  decide (ext.1 < 0) || decide ((s.spaceSize kind : Int) ≤ ext.2)

/-- The completion status that the checks of R407 give, in their order; 0 where all pass. -/
def State.descCheck (s : State) (c : Nat) (d : List Nat) : Nat :=
  let se := srcExtent d
  let de := dstExtent d
  let stream := descSrcKind d == 3
  if !descCrcOk d then 0x01
  else if s.descBadFields c d then 0x02
  else if s.extentBad (descDstKind d) de || (!stream && s.extentBad (descSrcKind d) se) then 0x03
  else if descDstKind d == 0 && s.extentInSlots de then 0x04
  else if !stream && descSrcKind d == descDstKind d && decide (se.1 ≤ de.2) && decide (de.1 ≤ se.2) then 0x05
  else if (s.descPad c d).isSome then 0x06
  else if (s.descDomains c d).any (fun m => !s.domOn m) then 0x07
  else 0

/-! ### Taking a descriptor (R405, R407) -/

/-- SHU_CH of a channel, with a cause and a status (R433). -/
def State.shuEvent (s : State) (c cause status : Nat) : State := s.raise (384 + c) 0 (cause * 256 + status)

/-- Whether a channel may take a descriptor now: its domain On, enabled, not paused or aborting, none in progress, and
HEAD different from TAIL (R405, R413). -/
def State.canTake (s : State) (c : Nat) : Bool :=
  s.domOn 128 && s.flag (SHU_CFG.EN c) && s.chanMode c != 2 && !s.flag (SHU_CTL.PAUSE c) &&
  (s.chan c).desc.isNone && !s.flag (SHU_CHSTAT.STALL c) &&
  s.get (SHU_PTR.HEAD c) % s.ringSize c != s.get (SHU_PTR.TAIL c) % s.ringSize c

/-! ### Requests in flight (R402, R403) -/

/-- The requests of a descriptor hold DRAM tags (R403). -/
def descTags (d : List Nat) : Bool := descSrcKind d == 0 || descDstKind d == 0

/-- Requests in flight on the channels that `p` selects. -/
def State.inFlightOf (s : State) (p : Nat → Bool) : Nat :=
  (((List.range 64).filter p).map (fun c => (s.chan c).inflight)).foldl (· + ·) 0

/-- A channel's requests hold DRAM tags. -/
def State.holdsTags (s : State) (c : Nat) : Bool :=
  match (s.chan c).desc with
  | some d => descTags d
  | none => false

/-- SHU_STAT.INFLIGHT and TAGS: requests in flight, and those that hold a DRAM tag (R403). -/
def State.inFlightCount (s : State) : Nat := s.inFlightOf (fun _ => true)
def State.tagCount (s : State) : Nat := s.inFlightOf s.holdsTags

/-- DRAM tags that no class has for itself, and those reserved for TC1 (R402, R403). -/
def sharedTags : Nat := 16384 - reservedTags 0 - reservedTags 1
def streamTags : Nat := reservedTags 1

/-- The tags that a channel may hold beside the other channels: TC1 has its own and the shared ones, TC2 and TC3 the shared ones. -/
def State.tagRoom (s : State) (c : Nat) : Nat :=
  let tc1 := s.inFlightOf (fun k => k != c && s.holdsTags k && s.trafficClass k == 1)
  let rest := s.inFlightOf (fun k => k != c && s.holdsTags k && s.trafficClass k != 1)
  let shared := sharedTags - (rest + (tc1 - streamTags))
  if s.trafficClass c = 1 then (streamTags - tc1) + shared else shared

/-- The requests that a channel may have in flight for a descriptor: OUT_MAX, and what the fabric and its tags leave (R403). -/
def State.reqRoom (s : State) (c : Nat) (d : List Nat) : Nat :=
  let fabric := 32768 - s.inFlightOf (fun k => k != c)
  min (s.get (SHU_LIM.OUT_M1 c) + 1) (min fabric (if descTags d then s.tagRoom c else fabric))

/-- A channel issues `n` requests of its descriptor, or as many as it may (R403). It issues none while it is paused, aborting or
without records to write; where a domain that it touches is Off, or has been Off while it had none in flight, the descriptor
completes with DOMAIN_OFF and BYTES 0 (R415); under a bar, or with no free tag, it waits (R82, R403). -/
def State.chanIssue (s : State) (c n : Nat) : State :=
  let x := s.chan c
  match x.desc with
  | none => s
  | some d =>
    if x.ended || x.inflight != 0 || x.aborting || s.flag (SHU_CTL.PAUSE c) || s.chanMode c == 2 ||
        (s.chanMode c == 1 && x.staged.isEmpty) then s
    else if x.cut || (s.descDomains c d).any (fun m => !s.domOn m) then
      s.setChan c { x with ended := true, status := 0x07, zero := true, waits := false }
    else if (s.descDomains c d).any (fun m => bit s.pwr.barred m) then s.setChan c { x with waits := true }
    else
      let k := min (if s.chanMode c = 1 then 1 else max 1 n) (s.reqRoom c d)
      s.setChan c { x with inflight := k, waits := k == 0 }

/-- The channels that wait for a tag or under a bar, by traffic class and number (R402, R403). -/
def State.waiting (s : State) : List Nat :=
  [1, 2, 3].flatMap (fun k => (List.range 64).filter (fun c => (s.chan c).waits && s.trafficClass c == k))

/-- Waiting requests are issued where they may, those of a lower class number first (R402, R403). -/
def State.shuKick (s : State) : State :=
  if s.domOn 128 && !s.shu.isEmpty then s.each s.waiting (fun s c => s.chanIssue c 1) else s

/-- The channel takes the descriptor at HEAD and checks it (R405, R407). A transfer that touches a domain whose new transfers
are barred is not taken (R82). A descriptor that lies in a poisoned codeword stops with MEM_UE (R428). A scratchpad that another class
owns is a claim refused (R367). -/
def State.descTake (s : State) (c : Nat) (host : List Nat) (n : Nat) : State :=
  if !s.canTake c then s
  else
    let d := s.readDesc c host
    let ue := s.descPoisoned c
    if (s.descDomains c d).any (fun m => bit s.pwr.barred m) then s
    else if !ue && !descOwn d then (s.putB (SHU_CHSTAT.STALL c) true).shuEvent c 3 0
    else
      let st := if ue then 0x08 else s.descCheck c d
      let s := if ue then s.memUncorrectable (s.ringAddr c) (s.dramPlace (s.ringAddr c)).1 else s
      let s := if st = 0x04 then s.bump IMG_PROT_CNT.COUNT else s
      let s := match (if st = 0x06 then s.descPad c d else none) with
        | some n => s.refuseClaim (resId 7 n)
        | none => s
      let s := (s.putB (SHU_CHSTAT.ACTIVE c) true).putB (SHU_CHSTAT.NONE c) true
      let x := s.chan c
      (s.setChan c { x with
        desc := some d, status := st, ended := st != 0, done := 0, lost := false, aborting := false, zero := st != 0
        inflight := 0, waits := false, cut := false, fill := 0, firstAt := none }).chanIssue c n

/-! ### Moving bytes (R408, R410, R412) -/

/-- The run and the offset in it of byte `k` of a descriptor: (i2, i1, offset) (R408). -/
def descPos (d : List Nat) (k : Nat) : Nat × Nat × Nat :=
  let b := descBytes d
  let run := k / b
  (run / descN1 d, run % descN1 d, k % b)

/-- The address of byte `k` of a descriptor on one side (R408); addresses are computed in 64-bit arithmetic. -/
def descByteAddr (d : List Nat) (base : Nat) (s1 s2 : Int) (k : Nat) : Nat :=
  let (i2, i1, o) := descPos d k
  unsigned 64 ((base : Int) + i2 * s2 + i1 * s1 + o)

/-- The address of the source and of the destination of byte `k`. -/
def descSrcAddr (d : List Nat) (k : Nat) : Nat := descByteAddr d (descSrc d) (descStride d 7) (descStride d 9) k
def descDstAddr (d : List Nat) (k : Nat) : Nat := descByteAddr d (descDst d) (descStride d 8) (descStride d 10) k

/-- The address of the first poisoned codeword that a read of `n` bytes meets after its first one. -/
def State.poisonAfter (s : State) (a n : Nat) : Option Nat :=
  ((List.range ((a + n - 1) / 64 - a / 64)).map (fun i => (a / 64 + i + 1) * 64)).find? s.poisoned

/-- Bytes read by a request from a space, in its place in port order at a scratchpad (R420); those of host memory come with the command. The flag is false where a DRAM
codeword could not be corrected; its error is counted at its address (R428). -/
def State.spaceRead (s : State) (rank kind a n : Nat) (host : List Byte) (bad : Nat) : Bool × List Byte × State :=
  match kind with
  | 0 =>
    let (ok, s) := s.memTouch a bad
    let l := s.dramRead a n
    if !ok then (false, l, s)
    else
      match s.poisonAfter a n with
      | some p => (false, l, s.memUncorrectable p (s.dramPlace p).1)
      | none => (true, l, s)
  | 1 => (true, (s.spdSee rank).readList a n, s)
  | _ => (true, (List.range n).map (fun i => nth host i 0), s)

/-- 32-bit words of a channel added to those from a scratchpad word on, each in port order (R412, R420, R422). -/
def State.spdAddList (s : State) (c word : Nat) : List Nat → State
  | [] => s
  | w :: r => (s.portDo word ⟨s.portRank c, some c, .add w⟩).spdAddList c (word + 1) r

/-- The bytes of a write at `a` that lie in a 32-bit word, with their addresses. -/
def wordBytes (a : Nat) (l : List Byte) (word : Nat) : List (Nat × Byte) :=
  (List.range 4).filterMap (fun i =>
    let p := 4 * word + i
    if a ≤ p && p < a + l.length then some (p, nth l (p - a) 0) else none)

/-- A plain write of a channel to a scratchpad, word by word (R423). The flag says whether a word of it is lost. -/
def State.spdPutList (s : State) (c a : Nat) (l : List Byte) : Bool × State :=
  ((List.range ((a + l.length + 3) / 4 - a / 4)).map (fun i => a / 4 + i)).foldl (fun (r : Bool × State) w =>
    let (lost, s) := r.2.spdPut (r.2.portRank c) (some c) w (wordBytes a l w)
    (r.1 || lost, s)) (false, s)

/-- Bytes committed by a request of a channel to a space: how many, up to a poisoned DRAM codeword that the write covers in part,
which is not written and counts as an uncorrectable error (R410, R428); and whether a scratchpad word was lost (R423). -/
def State.spaceWrite (s : State) (c kind op a : Nat) (l : List Byte) : Nat × Bool × State :=
  match kind with
  | 0 =>
    let part := fun i =>
      let b := (a + i) / 64
      s.mem.poison.contains b && !(decide (a ≤ b * 64) && decide (b * 64 + 64 ≤ a + l.length))
    let n := ((List.range l.length).find? part).getD l.length
    let s := s.dramWrite a (l.take n)
    (n, false, if n < l.length then s.touchBursts [(a + n) / 64] else s)
  | 1 =>
    if op = 1 then (l.length, false, s.spdAddList c (a / 4) (wordsOfBytes (l.length / 4) l))
    else
      let (lost, s) := s.spdPutList c a l
      (l.length, lost, s)
  | _ => (l.length, false, s.emit (.hostWrite a l))

/-- What a channel does when its last request in flight has completed: PAUSED reads 1 while PAUSE is 1 (R413), and an
aborted descriptor ends with ABORTED (R414). -/
def State.chanDrained (s : State) (c : Nat) : State :=
  let x := s.chan c
  if x.inflight != 0 then s
  else
    let s := if s.flag (SHU_CTL.PAUSE c) then s.putB (SHU_CHSTAT.PAUSED c) true else s
    if x.aborting && x.desc.isSome && !x.ended then
      s.setChan c { x with ended := true, status := 0x0A, waits := false }
    else s

/-- The tag or the place that a request of a channel frees is one that a channel of a lower class number waits for (R403). -/
def State.yields (s : State) (c : Nat) : Bool :=
  (List.range 64).any (fun k =>
    (s.chan k).waits && decide (s.trafficClass k < s.trafficClass c) &&
    (match (s.chan k).desc with
     | some d => !(s.descDomains k d).any (fun m => bit s.pwr.barred m) &&
        ((descTags d && s.holdsTags c) || decide (32768 ≤ s.inFlightCount))
     | none => false))

/-- Requests left in flight after one completes: no new one is issued while paused or aborting, once the descriptor has
stopped or has none left, or where a lower class number waits for what the one frees (R403, R413). -/
def State.stillInFlight (s : State) (c : Nat) (x : ShuChan) (d : List Nat) (left rest : Nat) : Nat :=
  if s.flag (SHU_CTL.PAUSE c) || x.aborting || x.ended || s.yields c then min left (x.inflight - 1)
  else min (max left 1) (min rest (s.reqRoom c d))

/-- The descriptor of a channel stops before its end, with a status; its other requests drain (R411, R428). -/
def State.chanStop (s : State) (c status left : Nat) : State :=
  let x := s.chan c
  s.setChan c { x with ended := true, status := status, inflight := min left (x.inflight - 1) }

/-- Bytes up to an address have been committed: LAST, and NONE reads 0 (R410). -/
def State.showCommitted (s : State) (c last : Nat) : State :=
  let s := (s.put (SHU_LAST_LO.ADDR c) last).put (SHU_LAST_HI.ADDR c) (last / 2 ^ 32)
  s.putB (SHU_CHSTAT.NONE c) false

/-- A request of a memory channel completes and commits its bytes (R410): `len` bytes from the first uncommitted one, within
one run; `left` requests then remain in flight. `bad`: wrong symbols in the first codeword read. `hostErr`: a
host-memory request ended in an error (status HOST_ERR). -/
def State.memRequest (s : State) (c len left : Nat) (host : List Byte) (hostErr : Bool) (bad : Nat) : State :=
  let x := s.chan c
  match x.desc with
  | none => s
  | some d =>
    if x.inflight = 0 then s
    else if x.ended then s.setChan c { x with inflight := min left (x.inflight - 1) }
    else
      let (i2, i1, o) := descPos d x.done
      let n := max 1 (min len (descBytes d - o))
      let n := if descOp d = 1 then max 4 (n / 4 * 4) else n
      if hostErr && (descSrcKind d == 2 || descDstKind d == 2) then s.chanStop c 0x09 left
      else
        let (okR, l, s) := s.spaceRead (s.portRank c) (descSrcKind d) (descSrcAddr d x.done) n host bad
        if !okR then s.chanStop c 0x08 left
        else
          let a := descDstAddr d x.done
          let (k, lost, s) := s.spaceWrite c (descDstKind d) (descOp d) a l
          let s := if k = 0 then s
            else ((s.showCommitted c (a + k - 1)).put (SHU_IDX.I2 c) i2).put (SHU_IDX.I1 c) i1
          let x := { s.chan c with done := x.done + k, lost := (s.chan c).lost || lost }
          if k < n then (s.setChan c x).chanStop c 0x08 left
          else if descTotal d ≤ x.done then
            s.setChan c { x with ended := true, status := if x.lost then 0x0B else 0, inflight := 0 }
          else
            let i := s.stillInFlight c x d left (descTotal d - x.done)
            s.setChan c { x with inflight := i, waits := i == 0 && !s.flag (SHU_CTL.PAUSE c) && !x.aborting }

/-! ### Streams (R416 to R419) -/

/-- Bytes of a stream record. -/
def StreamRec.bytes (r : StreamRec) : Nat := 4 * r.words.length

/-- The Shuttle channel of the frame-close record, if ROUTE names one (R263). -/
def State.closeChan (s : State) : Option Nat :=
  let w := nth s.img.cfg.route 96 0
  if bit w 8 then some (bitsOf w 5 0) else none

/-- The words of the frame-close record of the running frame (R263). -/
def State.closeWords (s : State) : List Nat :=
  let sumT := fun (f : Nat → Nat) => ((List.range 96).map f).foldl (· + ·) 0
  let disc := sumT (fun t => s.get (T_REED_IVL.DISCARD t))
  let blind := sumT (fun t => popBits 8 (s.get (T_RET_STAT.BLIND t)))
  let pf := sumT (fun t => popBits 8 (orN (orN (s.get (T_PROOF_STAT.AMP_FAIL t)) (s.get (T_PROOF_STAT.POS_FAIL t)))
    (s.get (T_PROOF_STAT.MISSING t))))
  let d := s.sel.dec
  [0x1F * 2 ^ 24 + 8, s.epoch, s.frm.points, s.frm.dropped, s.frm.returns,
   satU 16 disc * 2 ^ 16 + satU 16 s.frm.cut,
   satU 10 blind * 2 ^ 22 + satU 10 pf * 2 ^ 12 + (s.word GLB_FRAME_STAT.addr).toNat % 64,
   b2n (d.pf != 0) * 4 + b2n (d.wf1 != 0) * 2 + b2n (d.wf2 != 0)]

/-- The staging quota of a channel that a record may use (R416). -/
def State.quota (s : State) (c : Nat) : Nat :=
  let q := s.get (SHU_CFG.STAGE c) * 4096
  if s.closeChan = some c then q - 32 else q

/-- A record is dropped whole (R20, R418): its channel counts it and reports the first drop of the frame, the frame has DATA_OVR,
and a point record of the running frame is counted for its frame-close record (R263). -/
def State.dropRecord (s : State) (r : StreamRec) : State :=
  let s := if r.kind == .point && r.epoch == s.epoch then { s with frm := { s.frm with dropped := s.frm.dropped + 1 } }
    else s
  let s := s.dataOverrun
  if !s.domOn 128 then s
  else
    let s := s.bump (SHU_DROP.COUNT r.chan)
    let x := s.chan r.chan
    if x.dropRaised then s
    else (s.setChan r.chan { x with dropRaised := true }).shuEvent r.chan 2 0

/-- A record is staged on its channel, or dropped where the free quota is too small (R416, R418). The place of the frame-close
record is held for it, so that it is never dropped while domain 128 is On (R263); it takes its words there, behind every record of the
frame. -/
def State.stageOne (s : State) (r : StreamRec) : State :=
  let r := if r.kind == .frameClose && r.epoch == s.epoch then { r with words := s.closeWords } else r
  let x := s.chan r.chan
  let used := (x.staged.map StreamRec.bytes).foldl (· + ·) 0
  if s.domOn 128 && (r.kind == .frameClose || decide (used + r.bytes ≤ s.quota r.chan)) then
    (s.setChan r.chan { x with staged := x.staged ++ [r] }).chanIssue r.chan 1
  else s.dropRecord r

/-- The oldest record handed over reaches staging (R416, R418). -/
def State.stageRecord (s : State) : State :=
  match s.toStage with
  | [] => s
  | r :: rest => ({ s with toStage := rest } : State).stageOne r

/-- The tick that ends a frame: point records and histograms that staging has not taken are dropped (R15, R20), a frame-close
record has its place, and list entries, which belong to no frame, stay (log entry 84). -/
def State.stageTick (s : State) : State :=
  let s' : State := { s with toStage := s.toStage.filter (fun r => r.kind == .list) }
  let s' := s'.each (s.toStage.filter (fun r => r.kind == .point || r.kind == .hist)) State.dropRecord
  s'.each (s.toStage.filter (fun r => r.kind == .frameClose)) State.stageOne

/-- The status of a stream buffer that ends with every byte performed (R423). -/
def ShuChan.okStatus (x : ShuChan) : Nat := if x.lost then 0x0B else 0

/-- The oldest staged record of a stream-ring channel is written into the buffer of its descriptor; the descriptor ends where
the record does not fit or was a frame-close record (R417). -/
def State.streamRequest (s : State) (c : Nat) (hostErr : Bool) : State :=
  let x := s.chan c
  match x.desc, x.staged with
  | some d, r :: rest =>
    if x.inflight = 0 then s
    else if x.ended then s.setChan c { x with inflight := 0 }
    else if descBytes d < x.fill + r.bytes then
      s.setChan c { x with ended := true, status := x.okStatus, inflight := 0 }
    else if hostErr && descDstKind d == 2 then s.chanStop c 0x09 0
    else
      let a := descDst d + x.fill
      let (k, lost, s) := s.spaceWrite c (descDstKind d) (descOp d) a (bytesOfWords r.words)
      let s := if k = 0 then s else s.showCommitted c (a + k - 1)
      let x := { s.chan c with done := x.fill + k, lost := (s.chan c).lost || lost, inflight := 0 }
      if k < r.bytes then s.setChan c { x with ended := true, status := 0x08 }
      else
        let s := s.setChan c { x with
          staged := rest, fill := x.fill + r.bytes, firstAt := if x.fill = 0 then some s.now else x.firstAt
          ended := r.kind == .frameClose, status := if r.kind == .frameClose then x.okStatus else x.status }
        s.chanIssue c 1
  | _, _ => s

/-- An in-flight Shuttle request completes (R410), or a stream record is written into its buffer (R417); a paused or aborted channel
may have drained by it, and waiting requests may go (R403, R413, R414). -/
def State.requestDone (s : State) (c len left : Nat) (host : List Byte) (hostErr : Bool) (bad : Nat) : State :=
  if !s.domOn 128 || (s.chan c).inflight = 0 then s
  else
    let s := if s.chanMode c = 1 then s.streamRequest c hostErr else s.memRequest c len left host hostErr bad
    (s.chanDrained c).shuKick

/-- FLUSH_US µs have passed since the first record of a buffer, and its descriptor ends (R417). -/
def State.streamFlush (s : State) (c : Nat) : State :=
  let x := s.chan c
  match x.desc with
  | some _ =>
    if s.domOn 128 && s.get (SHU_LIM.FLUSH_US c) != 0 && 0 < x.fill && !x.ended then
      s.setChan c { x with ended := true, status := x.okStatus }
    else s
  | none => s

/-! ### Completion (R411) -/

/-- Bytes counted as performed (R411; 0 under R407, R84 and R415). -/
def ShuChan.performed (x : ShuChan) : Nat := if x.zero then 0 else x.done

/-- The writeback of words 12 to 14 and of word 0 with OWN cleared (R406, R411). -/
def State.writeback (s : State) (c : Nat) (d : List Nat) (x : ShuChan) : State :=
  let a := s.ringAddr c
  let l := bytesOfWords [x.status, x.performed % 2 ^ 32, s.epoch]
  let w := bytesLE 4 (dw d 0 % 2 ^ 31)
  match s.get (SHU_CFG.RING_KIND c) with
  | 0 => if s.domOn 131 then (s.dramPut (a + 48) l).dramPut a w else s
  | 1 => if s.domOn (spdDomain a) then ((s.spdPutList c (a + 48) l).2.spdPutList c a w).2 else s
  | _ => (s.emit (.hostWrite (a + 48) l)).emit (.hostWrite a w)

/-- A descriptor that has ended is written back, HEAD advances, and SHU_CH is raised when IRQ is 1 or STATUS is not OK
(R411, R433). A stream buffer's bytes beyond BYTES become undefined (R417). -/
def State.descComplete (s : State) (c : Nat) : State :=
  let x := s.chan c
  match x.desc with
  | none => s
  | some d =>
    if !(x.ended && x.inflight == 0 && s.domOn 128) then s
    else
      let s := s.writeback c d x
      let s := if s.chanMode c = 1 && x.status == 0 && descDstKind d != 2 && x.fill < descBytes d then
          let (g, s) := s.fresh
          let lo := descDst d + x.fill
          let hi := descDst d + descBytes d
          if descDstKind d = 0 then { s with dram := s.dram.forget lo hi g }
          else { s with spd := s.spd.forget lo hi g }
        else s
      let s := s.put (SHU_PTR.HEAD c) ((s.get (SHU_PTR.HEAD c) + 1) % s.ringSize c)
      let s := s.bump (SHU_DONE.DONE c)
      let s := if x.status != 0 then s.bump (SHU_DONE.ERRORS c) else s
      let s := (s.putB (SHU_CHSTAT.ACTIVE c) false).put (SHU_CHSTAT.LAST_STATUS c) x.status
      let s := if x.aborting then s.putB (SHU_CTL.ABORT c) false else s
      let s := s.setChan c { x with
        desc := none, status := 0, ended := false, done := 0, lost := false, aborting := false, zero := false
        waits := false, cut := false, fill := 0, firstAt := none }
      if descIrq d || x.status != 0 then s.shuEvent c 1 x.status else s

/-! ### Pause, abort, TAIL (R405, R413, R414) -/

/-- A write of SHU_CTL.PAUSE. Setting it stops new requests, and PAUSED reads 1 once none is in flight. Clearing it resumes the
descriptor at its first uncommitted byte with `n` requests (R413). -/
def State.shuPause (s : State) (c : Nat) (v : Bool) (n : Nat) : State :=
  let s := s.putB (SHU_CTL.PAUSE c) v
  if v then s.chanDrained c else (s.putB (SHU_CHSTAT.PAUSED c) false).chanIssue c n

/-- A write of 1 to SHU_CTL.ABORT (R414); with no descriptor in progress it has no effect. -/
def State.shuAbort (s : State) (c : Nat) : State :=
  let x := s.chan c
  if x.desc.isNone || x.ended then s
  else ((s.putB (SHU_CTL.ABORT c) true).setChan c { x with aborting := true }).chanDrained c

/-- A write of TAIL ends a stall, so that the channel reads the descriptor again (R405). -/
def State.shuTail (s : State) (c v : Nat) : State :=
  (s.put (SHU_PTR.TAIL c) (v % s.ringSize c)).putB (SHU_CHSTAT.STALL c) false

/-! ### Domains (R82 to R84, R415) -/

/-- A channel's unfinished descriptor touches a domain. -/
def State.chanTouches (s : State) (c d : Nat) : Bool :=
  match (s.chan c).desc with
  | some x => !((s.chan c).ended && (s.chan c).inflight == 0) && (s.descDomains c x).contains d
  | none => false

/-- Channels with requests in flight that touch a domain (R82). -/
def State.inFlightOn (s : State) (d : Nat) : List Nat :=
  (List.range 64).filter (fun c => (s.chan c).inflight != 0 && s.chanTouches c d)

/-- A destination range becomes undefined (R84). -/
def State.forgetDest (s : State) (d : List Nat) : State :=
  let e := dstExtent d
  let (g, s) := s.fresh
  match descDstKind d with
  | 0 => { s with dram := s.dram.forget e.1.toNat (e.2.toNat + 1) g }
  | 1 => { s with spd := s.spd.forget e.1.toNat (e.2.toNat + 1) g }
  | _ => s

/-- The descriptors whose transfers the power-down of a domain cuts complete with DOMAIN_OFF and BYTES 0, PWR_DRAIN_LOST counts them
and their destinations become undefined (R84). -/
def State.cutTransfers (s : State) (dom : Nat) : State :=
  s.each (s.inFlightOn dom) (fun s c =>
    let x := s.chan c
    match x.desc with
    | some d =>
      let s := (s.bump PWR_DRAIN_LOST.COUNT).forgetDest d
      (s.setChan c { x with ended := true, status := 0x07, zero := true, inflight := 0, waits := false }).chanDrained c
    | none => s)

/-- A domain goes Off (R415): transfers in flight that touch it are cut, and a descriptor without one ends when it would next issue a
request. Where domain 128 itself goes Off no descriptor is written back, but R84 holds of the transfers in flight: they are counted and
their destinations become undefined. -/
def State.shuDomOff (s : State) (dom : Nat) : State :=
  if s.shu.isEmpty then s
  else if dom = 128 then
    s.each (s.inFlightOn 128) (fun s c => (s.bump PWR_DRAIN_LOST.COUNT).forgetDest ((s.chan c).desc.getD []))
  else
    let s := s.cutTransfers dom
    s.each ((List.range 64).filter (fun c => s.chanTouches c dom)) (fun s c => s.setChan c { s.chan c with cut := true })

/-! ### Commands -/

/-- DESCRIPTOR_TAKE. -/
def execDescriptorTake (dt : Nat) (ch : Fin 64) (host : List Nat) (issued : Nat) (s : State) :
    Host.Outcome State Fault Refusal := .next ((s.advance dt).descTake ch.val host issued)

/-- DESCRIPTOR_COMPLETE. -/
def execDescriptorComplete (dt : Nat) (ch : Fin 64) (s : State) : Host.Outcome State Fault Refusal :=
  .next ((s.advance dt).descComplete ch.val)

/-- SHUTTLE_REQUEST_DONE. -/
def execShuttleRequestDone (dt : Nat) (ch : Fin 64) (len left : Nat) (host : List Byte) (hostErr _lost : Bool)
    (bad : Nat) (s : State) : Host.Outcome State Fault Refusal :=
  .next ((s.advance dt).requestDone ch.val len left host hostErr bad)

/-- PAUSE. -/
def execShuPause (dt : Nat) (ch : Fin 64) (pause : Bool) (issued : Nat) (s : State) : Host.Outcome State Fault Refusal :=
  .next ((s.advance dt).hostReg (SHU_CTL.addr ch.val) (fun s => s.shuPause ch.val pause issued))

/-- ABORT. -/
def execShuAbort (dt : Nat) (ch : Fin 64) (s : State) : Host.Outcome State Fault Refusal :=
  .next ((s.advance dt).hostReg (SHU_CTL.addr ch.val) (fun s => s.shuAbort ch.val))

/-- STREAM_RECORD_STAGE. -/
def execStreamRecordStage (dt : Nat) (s : State) : Host.Outcome State Fault Refusal := .next (s.advance dt).stageRecord

/-- STREAM_FLUSH_TIMEOUT. -/
def execStreamFlushTimeout (dt : Nat) (ch : Fin 64) (s : State) : Host.Outcome State Fault Refusal :=
  .next ((s.advance dt).streamFlush ch.val)

end Sys2Proof.Machine
end

