-- ==== Sys2Proof/Machine/Domains.lean ====
section
/-! DEFINITION. What a domain loses when it goes Off and wakes (R79, R85): its registers and memories return to reset, so that
nothing that was there before can be read again. -/

namespace Sys2Proof.Machine

/-- A register store without the registers of a domain. THM_SHUT_INFO stays until a power cycle (R492). -/
def dropDomain (d : Nat) (t : Tab Word) : Tab Word :=
  t.filter (fun p => blockDomain p.1 != d || p.1 == THM_SHUT_INFO.addr)

/-- A view without the registers of a domain. -/
def View.dropDomain (v : View) (d : Nat) : View :=
  { v with
    regs := Machine.dropDomain d v.regs
    dec := if d = 121 then {} else v.dec
    sums := if d = 120 then [] else v.sums }

/-- A table without the entry of a key. -/
def tabDrop {α : Type} (t : Tab α) (k : Nat) : Tab α := t.filter (fun p => p.1 != k)

/-- A domain's registers at their reset values, and nothing of its earlier status left to read (R85). -/
def State.resetDomainRegs (s : State) (d : Nat) : State :=
  { s with
    regs := dropDomain d s.regs
    cyc := dropDomain d s.cyc
    hiLatch := s.hiLatch.filter (fun p => blockDomain p.1 != d)
    closing := s.closing.dropDomain d
    view := s.view.dropDomain d
    held := s.held.map (fun v => v.dropDomain d) }

/-- A load ends. The counter of free values advances, so that no two loads share one. -/
def State.endLoad (s : State) : State :=
  let s := { s with img := { s.img with load := none }, lnk := { s.lnk with imgPort := none }, freeCount := s.freeCount + 1 }
  ((s.put IMG_STAT.PHASE 0).putB IMG_FEED_STAT.OPEN false).put IMG_FEED_STAT.SPACE 8192

/-- The commands of an opcode that wait for the loader complete. -/
def State.imgComplete (s : State) (op status detail : Nat) : State :=
  s.completeAll (fun c => c.wait == .image && c.op == op) status detail

/-- The boot stops, with what it loads, and the device stays in BOOT (R492). -/
def State.bootStop (s : State) : State :=
  let s := s.endLoad.imgComplete opImgLoad stFailed 0
  { s with img := { s.img with bootFailed := true }, thm := { s.thm with bootHeld := true } }

/-- The loader loses what it was doing: commands that wait for it fail, a staged swap is gone, and its copy of the resource table reads as
zeros until an image lands. Ownership stays (R85, R367). -/
def State.loaderLost (s : State) : State :=
  let s := { s with
    img := { s.img with load := none, swap := none, apply := none, resLost := true }
    hed := { s.hed with tabNext := none }
    lnk := { s.lnk with imgPort := none }
    stage := { s.stage with groups := s.stage.groups.filter (fun g => g.kind != GroupKind.swap) } }
  s.completeAll (fun c => c.wait == .image) stFailed 0

/-- The first instant from now on of Loupe's grid from the release of the internal reset, at the DIV that a reset leaves (R497). -/
def State.lpeGridStart (s : State) : Nat :=
  let p := (getIn [] LPE_SAMP.DIV + 1) * usLsb
  s.releasedAt + ceilDiv (s.now - s.releasedAt) p * p

/-- The state of a domain beyond its registers, cleared (R85). DRAM keeps its contents (R431). -/
def State.resetDomainHidden (s : State) (d : Nat) : State :=
  if d < 96 then { s with tiles := tabDrop s.tiles d }
  else if d < 112 then { s with lnk := { s.lnk with lanes := tabDrop s.lnk.lanes (d - 96) } }
  else match d with
  | 120 => { s with hed := {}, emd := {} }
  | 121 => { s with sel := {} }
  | 122 => ({ s with saf := {}, degAcc := 0, ind := { s.ind with restart := none, teach := none } } : State).completeAll
      (fun c => c.wait == .plug) stFailed 0
  | 123 => { s with trd := {} }
  | 124 => { s with sup := { ticks := s.sup.ticks } }
  | 125 => { s with thm := { shut := s.thm.shut } }
  | 126 => { s with lpe := { gridAt := s.lpeGridStart } }
  | 127 => { s with ind := { restart := s.ind.restart, teach := s.ind.teach } }
  | 128 => { s with shu := [], toStage := [] }
  | 129 => { s with spd := s.spd.zero 0 0x20_0000 }
  | 130 => { s with spd := s.spd.zero 0x20_0000 0x40_0000 }
  | 131 => { s with mem := { s.mem with scrub := [], errs := [], ceRaised := 0 } }
  | 132 => { s with pci := {} }
  | 133 => { s with lnk := { sref := s.lnk.sref, refHeld := s.lnk.refHeld, imgPort := s.lnk.imgPort } }
  | 134 => { s with clk := { s.clk with outs := [] } }
  | 135 => s.loaderLost
  | _ => s

/-- A domain as it is when it wakes from Off (R85). A host write that was staged before it went Off stays staged: it lands if the domain is
On again at the tick (DESIGN CHOICE; log entry 26). -/
def State.resetDomain (s : State) (d : Nat) : State := (s.resetDomainRegs d).resetDomainHidden d

/-- A domain goes Off. Transfers that touch it are cut (R84, R415). What it held cannot be read while it is Off (R81) and is gone
when it wakes (R85), so it is cleared here, but for what the DRAM controller keeps (R431). -/
def State.domainOff (s : State) (d : Nat) : State :=
  let s := s.shuDomOff d
  let s := if d = 131 && s.domOn 131 then s.keepMem else s
  let s := s.resetDomain d
  let s := s.putB (domBit d) false
  ({ s with pwr := { s.pwr with barred := setBit s.pwr.barred d false, waking := setBit s.pwr.waking d false } } : State).shuKick

end Sys2Proof.Machine
end

