-- ==== Sys2Proof/Machine/Slot.lean ====
section
/-! DEFINITION. Treadle slots as far as their outputs and a stop go (R267, R269, R270, R289), and what the ROT_PWM, DRV_DAC and
HV_DRV balls carry. -/

namespace Sys2Proof.Machine

/-- The hidden state of a slot. -/
def State.slot (s : State) (k : Nat) : TrdSlot := tabGet (fun _ => {}) s.trd.slots k

/-- The hidden state of a slot replaced. -/
def State.setSlot (s : State) (k : Nat) (x : TrdSlot) : State :=
  { s with trd := { s.trd with slots := tabSet (fun _ => {}) s.trd.slots k x } }

/-- TYPE of a slot. -/
def State.slotType (s : State) (k : Nat) : Nat := s.get (TRD_CTL.TYPE k)

/-- The encoder that a slot senses, if any (R267). -/
def State.slotEnc (s : State) (k : Nat) : Option Nat :=
  let t := s.slotType k
  let n := s.get (TRD_CTL.SEN_SEL k)
  if (t = 1 || t = 2) && 8 ≤ n && n < 16 then some (n - 8) else none

/-- The balls that a slot uses, as claims of resource and feature (R63, R365): its encoder, sense ball and drive ball. -/
def slotClaims (get : Fld → Nat) (k : Nat) : List (Nat × Nat) :=
  let typ := get (TRD_CTL.TYPE k)
  let sen := get (TRD_CTL.SEN_SEL k)
  let out := get (TRD_CTL.OUT_SEL k)
  if typ = 0 || 7 ≤ k then []
  else
    (if (typ == 1 || typ == 2) && decide (8 ≤ sen) && decide (sen < 16) then [(resId 0 (sen - 8), 1)] else []) ++
      (if typ == 3 && decide (sen < 4) then [(resId 1 sen, k)] else []) ++
      (if decide (out < 4) then [(resId 2 out, k)] else [])

/-- The conditions under which a slot runs (R289); a slot one of whose balls another feature holds stays disabled (R366, R367). -/
def State.slotMay (s : State) (k : Nat) : Bool :=
  s.flag (TRD_CTL.EN k) && s.slotType k != 0 && s.domOn 123 && s.dev.ticks && s.dev != .lockout &&
    !(k == 7 && s.flag TRD_BIAS_STAT.HV_OV) && !(slotClaims s.get k).any (fun p => s.claimRefused p.1 p.2)

/-- A gain or clamp of the bank in use. -/
def State.bankGet (s : State) (k : Nat) (a b : Nat → Fld) : Nat :=
  if s.flag (TRD_CTL.BANK k) then s.get (b k) else s.get (a k)

/-- A two's complement gain of the bank in use. -/
def State.bankGetI (s : State) (k : Nat) (a b : Nat → Fld) : Int := signed 24 (s.bankGet k a b)

/-! ### The rotor drive (R269) -/

/-- The slot with an output function; a DRV_DAC ball that a slot holds is driven by no other (R63, R366). -/
def State.slotDriving (s : State) (out : Nat) : Option Nat :=
  (List.range 7).find? (fun k => s.slotType k != 0 && s.get (TRD_CTL.OUT_SEL k) == out &&
    !(decide (out < 4) && s.claimRefused (resId 2 out) k))

/-- The duty value of ROT_PWM[b] (R269); in the bipolar drive of OUT_SEL 6 one of the two balls is low. -/
def State.pwmDuty (s : State) (b : Nat) : Nat :=
  match s.slotDriving (4 + b), s.slotDriving 6 with
  | some k, _ => s.get (TRD_U.U k)
  | none, some k =>
    let u := s.get (TRD_U.U k)
    if b = 0 then 2 * (u - 32768) else if u < 32768 then min 65535 (2 * (32768 - u)) else 0
  | none, none => 0

/-- The carrier at an instant: settings that were due have taken effect. -/
def Pwm.at' (x : Pwm) (t : Nat) : Pwm :=
  match x.next with
  | some (e, per, high) => if e ≤ t then ⟨e, per, high, none⟩ else x
  | none => x

/-- The length of a carrier period in LSB. -/
def Pwm.period (x : Pwm) : Nat := max 1 x.per * sclkLsb

/-- The settings that the carrier takes up last. -/
def Pwm.goal (x : Pwm) : Nat × Nat :=
  match x.next with
  | some (_, per, high) => (per, high)
  | none => (x.per, x.high)

/-- A new duty is loaded at an instant: it takes effect at the start of the next carrier period (R269). -/
def Pwm.load (x : Pwm) (t per high : Nat) : Pwm :=
  let x := x.at' t
  if x.goal = (per, high) then x
  else { x with next := some (x.start + x.period * ((t - x.start) / x.period + 1), per, high) }

/-- Whether the carrier is high at an instant. -/
def Pwm.isHigh (x : Pwm) (t : Nat) : Bool :=
  let x := x.at' t
  decide ((t - x.start) % x.period < x.high * sclkLsb)

/-- The carrier of ROT_PWM[b]. -/
def State.pwm (s : State) (b : Nat) : Pwm := tabGet (fun _ => {}) s.trd.pwm b

/-- Carriers take up the duties of their slots and PER at an instant (R269). -/
def State.loadPwm (s : State) (balls : List Nat) (t : Nat) : State :=
  s.each balls (fun s b =>
    let per := s.get TRD_PWM_CTL.PER
    { s with trd := { s.trd with pwm := tabSet (fun _ => {}) s.trd.pwm b ((s.pwm b).load t per (s.pwmDuty b * per / 65536)) } })

/-- The ROT_PWM balls that a slot may drive. -/
def State.slotBalls (s : State) (k : Nat) : List Nat :=
  match s.get (TRD_CTL.OUT_SEL k) with
  | 4 => [0]
  | 5 => [1]
  | 6 => [0, 1]
  | _ => []

/-- The output value that a slot drives from an instant on (R269). -/
def State.driveAt (s : State) (k t u : Nat) : State := (s.put (TRD_U.U k) u).loadPwm (s.slotBalls k) t

/-- An output value on its way, whose instant has come, is driven (R272). -/
def State.settle (s : State) (k : Nat) : State :=
  match (s.slot k).due with
  | some (t, u) => if t ≤ s.now then (s.setSlot k { s.slot k with due := none }).driveAt k t u else s
  | none => s

/-- Every slot's output is brought up to the present. -/
def State.settleAll (s : State) : State := s.each (List.range 8) State.settle

/-- The output value that a slot drives now (R272). -/
def State.slotU (s : State) (k : Nat) : Nat := (s.settle k).get (TRD_U.U k)

/-- Whether ROT_PWM[b] is high. -/
def State.rotHigh (s : State) (b : Nat) : Bool := s.domOn 123 && (s.settleAll.pwm b).isHigh s.now

/-- The code of DRV_DAC[n]; none while it is released, with no slot or domain 123 Off (R57, R270). -/
def State.dacCode (s : State) (n : Nat) : Option Nat :=
  if s.domOn 123 then (s.slotDriving n).map s.slotU else none

/-- HV_DRV in units of 1.20 V / 65,535 (R269); low while the slot is stopped or domain 123 is Off (R123, R289). -/
def State.hvDrive (s : State) : Nat := if s.domOn 123 then s.slotU 7 else 0

/-! ### Beam angle (R283 to R285) -/

/-- Whether a slot can be the source of a valid angle (R282, R285). -/
def State.slotValid (s : State) (k : Nat) : Bool :=
  (s.slot k).run && !s.flag (TRD_STAT.FE k) && !s.flag (TRD_STAT.START_FAIL k) &&
    match s.slotEnc k with
    | some e =>
      !bit (s.get TRD_ENC_STAT.ENC_ERR) e && !bit (s.get TRD_ENC_STAT.IDX_ERR) e &&
        !(s.flag (TRD_ENC_CFG.ZEN e) && !bit (s.get TRD_ENC_STAT.INDEXED) e)
    | none => true

/-- AZ of R284: bits 31 to 16 of POS × AZ_SCALE + AZ_OFS. -/
def azimuth (pos : Int) (scale ofs : Nat) : Nat := unsigned 32 (pos * scale + ofs) / 2 ^ 16

/-- EL of R284. -/
def elevation (y scale ofs : Int) : Int := clampI (-2048) 2047 (Int.fdiv ((y - ofs) * scale) (2 ^ 16))

/-- The live angle word is renewed; a field that is invalid holds its last valid value (R285). -/
def State.renewAngle (s : State) : State :=
  let w := s.get TRD_ANG_STAT.ANGLE
  let ka := s.get TRD_ANG_CTL.AZ_SRC
  let ke := s.get TRD_ANG_CTL.EL_SRC
  let azOk := s.flag TRD_ANG_CTL.AZ_EN && (s.slotEnc ka).isSome && s.slotValid ka
  let elOk := s.flag TRD_ANG_CTL.EL_EN && (s.slotType ke == 2 || s.slotType ke == 3) && s.slotValid ke
  let az := if azOk then
      azimuth (s.getI (TRD_ENC_POS.POS ((s.slotEnc ka).getD 0))) (s.get TRD_AZ_SCALE.SCALE) (s.get TRD_AZ_OFS.OFS)
    else bitsOf w 31 16
  let el := if elOk then
      unsigned 12 (elevation (s.getI (TRD_Y.Y ke)) (s.getI TRD_EL_SCALE.SCALE) (s.getI TRD_EL_OFS.OFS))
    else bitsOf w 15 4
  s.put TRD_ANG_STAT.ANGLE (az * 2 ^ 16 + el * 16 + b2n elOk * 8 + b2n azOk * 4)

/-! ### Driving and stopping (R269, R270, R272, R279, R289) -/

/-- An output value that is driven at once, in place of one on its way. -/
def State.drive (s : State) (k u : Nat) : State :=
  let s := s.settle k
  (s.setSlot k { s.slot k with due := none }).driveAt k s.now u

/-- The output value of a sample, driven 64 SCLK after it (R272). -/
def State.driveSoon (s : State) (k u : Nat) : State :=
  let s := s.settle k
  s.setSlot k { s.slot k with due := some (s.now + 64 * sclkLsb, u % 2 ^ 16) }

/-- The idle output of a slot (R270): 0, or U0 of the active bank for a DRV_DAC. -/
def State.driveIdle (s : State) (k : Nat) : State :=
  s.drive k (if s.get (TRD_CTL.OUT_SEL k) < 4 && s.slotType k != 0 then s.bankGet k TRD_OUT_A.U0 TRD_OUT_B.U0 else 0)

/-- A slot stops: idle output, i cleared; the bias slot loses SETTLED (R279, R287, R289). -/
def State.stopSlot (s : State) (k : Nat) : State :=
  let x := s.slot k
  let s := (s.setSlot k { x with run := false, i := 0, inBand := 0, outBand := 0 }).driveIdle k
  if k = 7 then s.putB TRD_BIAS_STAT.SETTLED false else s

/-- A slot that FE_ACT stops does not start again until its latches are cleared (R279). -/
def State.haltSlot (s : State) (k : Nat) : State :=
  let s := s.stopSlot k
  s.setSlot k { s.slot k with halted := true }

/-- FE_ACT stops a slot with a latch set, be it FE_ACT that comes later (R279). -/
def State.feStops (s : State) (k : Nat) : Bool :=
  s.flag (TRD_CTL.FE_ACT k) && (s.flag (TRD_STAT.FE k) || s.flag (TRD_STAT.START_FAIL k))

/-- The slots follow the conditions of R279 and R289: one that does not run drives its idle output (R270), and makes an angle of which
it is the source invalid (R285). A slot starts at its next sample. -/
def State.slotsFollow (s : State) : State :=
  if !s.domOn 123 then s
  else
    let s := s.each (List.range 8) (fun s k =>
      let x := s.slot k
      if s.slotMay k then (if !x.run then s.driveIdle k else if s.feStops k then s.haltSlot k else s)
      else
        let s := s.stopSlot k
        s.setSlot k { s.slot k with halted := false })
    s.renewAngle

end Sys2Proof.Machine
end

