-- ==== Sys2Proof/Machine/Device.lean ====
section
/-! DEFINITION. The device states and their changes (R323 to R330), the reactions S and K of R331, and the OSSD pairs as far as
a change of state drives them (R314, R315). -/

namespace Sys2Proof.Machine

/-! ### State codes (R325) -/

/-- The code of a device state. -/
def Dev.code : Dev → Nat
  | .off => 0 | .reset => 1 | .boot => 2 | .configured => 3 | .run => 4 | .degraded => 5 | .safeStop => 6
  | .maintenance => 7 | .lockout => 8

/-- The states that lead to LOCKOUT (R326). -/
def Dev.canLock : Dev → Bool
  | .configured | .run | .degraded | .safeStop | .maintenance => true
  | _ => false

/-- FAULT_N is asserted (R57, R324): in OFF once VDD_AON is good. -/
def State.faultLow (s : State) : Bool :=
  (s.dev == .off && bit s.pwr.rails 9) || s.dev == .reset || s.dev == .boot || s.dev == .lockout || s.flag EMD_STAT.STUCK_ON || s.flag SAF_CAUSE.CLOCK

/-! ### OSSD pairs -/

/-- The hidden state of pair 0 (OSSD1) or 1 (OSSD2). -/
def State.pair (s : State) (p : Nat) : Pair := tabGet (fun _ => {}) s.saf.pairs p

/-- The hidden state of a pair replaced. -/
def State.setPair (s : State) (p : Nat) (x : Pair) : State :=
  { s with saf := { s.saf with pairs := tabSet (fun _ => {}) s.saf.pairs p x } }

/-- STATE1 or STATE2 of SAF_OSSD_STAT. -/
def pairStateFld (p : Nat) : Fld := if p = 0 then SAF_OSSD_STAT.STATE1 else SAF_OSSD_STAT.STATE2
/-- CAUSE1 or CAUSE2. -/
def pairCauseFld (p : Nat) : Fld := if p = 0 then SAF_OSSD_STAT.CAUSE1 else SAF_OSSD_STAT.CAUSE2

/-- State of a pair: 0 OFF, 1 READY, 2 ON, 3 STOPPING, 4 FAULT. -/
def State.pairState (s : State) (p : Nat) : Nat := s.get (pairStateFld p)

/-- A pair whose balls are high: ON or STOPPING (R314). -/
def State.pairHigh (s : State) (p : Nat) : Bool := s.pairState p == 2 || s.pairState p == 3

/-- A pair enters a state (R315). On leaving ON, the cause is kept; leaving ON or STOPPING raises OSSD_OFF (463); EDM of the pair
must follow each turn-on and turn-off (R317). -/
def State.pairGo (s : State) (p new cause : Nat) : State :=
  let old := s.pairState p
  let s := s.put (pairStateFld p) new
  let s := if old = 2 && new != 2 then s.put (pairCauseFld p) cause else s
  let wasHigh := old == 2 || old == 3
  let high := new == 2 || new == 3
  let x := s.pair p
  let x := if new = 0 then { x with offAt := s.now, released := false } else x
  let x := if new = 1 then { x with readyAt := s.now, released := false } else x
  let x := if new = 3 then { x with stopAt := s.now } else x
  let x := if wasHigh != high && s.flag (SAF_OSSD_CFG.EDM_EN p) then { x with edmWait := some (!high) } else x
  let s := s.setPair p x
  let s := if wasHigh != high then { s with saf := { s.saf with changedAt := tabSet (fun _ => 0) s.saf.changedAt p s.now } }
    else s
  if wasHigh && new != old then s.raise 463 0 0 else s

/-- On leaving RUN and DEGRADED, every pair that is ON, STOPPING or READY enters OFF (R314). -/
def State.pairsDown (s : State) : State :=
  s.each [0, 1] (fun s p =>
    let st := s.pairState p
    if st = 1 || st = 2 || st = 3 then s.pairGo p 0 6 else s)

/-- On entry to RUN every pair with EN at 1 enters OFF (R315, R327). -/
def State.pairsEnterRun (s : State) : State :=
  s.each [0, 1] (fun s p => if s.flag (SAF_OSSD_CFG.EN p) then s.pairGo p 0 0 else s)

/-! ### Changes of state -/

/-- A domain starts to wake (R85, R86). -/
def State.switchOn (s : State) (d : Nat) : State :=
  let s := (s.resetDomain d).putB (domBit d) true
  { s with pwr := { s.pwr with waking := setBit s.pwr.waking d true } }

/-- The bit of PWR_DOM_ON of a domain. -/
def State.domBitOn (s : State) (d : Nat) : Bool := s.flag (domBit d)

/-- Domains that LOCKOUT holds off (R79). -/
def lockoutHeld (d : Nat) : Bool := decide (d < 96) || d == 120

/-- LOCKOUT holds a domain off (R79). -/
def State.heldOff (s : State) (d : Nat) : Bool := s.dev == .lockout && lockoutHeld d

/-- The DRAM channels whose domain is On. -/
def State.onChannels (s : State) : Nat := maskOf 8 (fun c => s.domOn (112 + c))

/-- The domains that STANDBY switched off begin to wake, and DRAM leaves self-refresh; LOCKOUT holds its own off (R79). -/
def State.standbyBack (s : State) : State :=
  let doms := (bitList 136 s.pwr.stbyOff).filter (fun d => !s.heldOff d && !s.domBitOn d)
  let s := s.each doms State.switchOn
  ({ s with
    pwr := { s.pwr with barred := andNotN 136 s.pwr.barred s.pwr.stbyLeft, stbyLeft := 0 }
    mem := { s.mem with selfRef := andNotN 8 s.mem.selfRef s.onChannels } } : State).shuKick

/-- Entry to STANDBY is undone (R89, R386). -/
def State.standbyUndo (s : State) : State :=
  let s := s.standbyBack
  ({ s with pwr := { s.pwr with stbyOff := 0, stbyFail := false } } : State).put PWR_MODE.MODE 0

/-- A WAKE is undone: the domains that it wakes go off again (R386). -/
def State.wakeUndo (s : State) : State :=
  let s := s.each ((bitList 136 s.pwr.stbyOff).filter s.domBitOn) State.domainOff
  ({ s with mem := { s.mem with selfRef := orN s.mem.selfRef s.onChannels } } : State).put PWR_MODE.MODE 2

/-- An apply is given up: what it has taken through Off wakes, where LOCKOUT does not hold it off (R79, R386). -/
def State.dropApply (s : State) : State :=
  match s.img.apply with
  | none => s
  | some a =>
    let s := ({ s with
      img := { s.img with apply := none }
      pwr := { s.pwr with barred := andNotN 136 s.pwr.barred a.left } } : State).put IMG_STAT.PHASE 0
    (s.each ((bitList 136 a.doms).filter (fun d => !s.heldOff d && !s.domBitOn d)) State.switchOn).shuKick

/-- STANDBY, WAKE and IMG_APPLY that still wait have no effect once the state in which they were taken has been left (R386). -/
def State.undoWaiting (s : State) : State :=
  let gone := fun (op : Nat) => s.cmds.any (fun c => c.op == op && c.dev != s.dev)
  let s := if gone opStandby then s.standbyUndo else s
  let s := if gone opWake then s.wakeUndo else s
  if gone opImgApply then s.dropApply else s

/-- The device enters a state (R326, R330): STATE, PREV and, away from RUN or DEGRADED, CAUSE; and SAF_STATE_CHG (472) from the
entry to BOOT onward. Leaving MAINTENANCE aborts a teach (R318), and commands that wait in the state left behind complete
(R386). -/
def State.setDev (s : State) (new : Dev) (cause : Nat) : State :=
  let old := s.dev
  let away := old.running && new != .run
  let s := ({ s with dev := new } : State).put SAF_STATE.STATE new.code
  let s := s.put SAF_STATE.PREV old.code
  let s := if away then s.put SAF_STATE.CAUSE cause else s
  let s := if old == .maintenance && s.sel.teach.isSome then
      ({ s with sel := { s.sel with teach := none } } : State).put SEL_TEACH_STAT.STATE 3
    else s
  let detail := new.code + 16 * old.code + 256 * (if away then cause else 0)
  let s := match new with
    | .off | .reset => s
    | _ => s.raise 472 0 detail
  s.undoWaiting.leftState

/-- The field of SAF_CAUSE of a cause code. -/
def causeFld : Nat → Fld
  | 0x01 => SAF_CAUSE.STOP_CMD | 0x02 => SAF_CAUSE.DEG_EXPIRED | 0x03 => SAF_CAUSE.READBACK
  | 0x04 => SAF_CAUSE.STUCK_ON | 0x05 => SAF_CAUSE.FS_CRC | 0x06 => SAF_CAUSE.FLOW | 0x07 => SAF_CAUSE.CLOCK
  | 0x08 => SAF_CAUSE.SUPPLY | 0x09 => SAF_CAUSE.THERMAL | 0x0A => SAF_CAUSE.ANGLE | 0x0B => SAF_CAUSE.SEAL
  | 0x0C => SAF_CAUSE.MEM | _ => SAF_CAUSE.DIAG_OVR

/-- A pending RUN falls when a reaction S or K comes before its tick (R328). -/
def State.dropRun (s : State) : State :=
  let s := { s with saf := { s.saf with runNext := false, backNext := false } }
  s.completeAll (fun c => c.wait == .runTick) stNotReady 0

/-- SAFE_STOP from RUN or DEGRADED (R326): the cause is latched, and the OSSD pairs go low (R323). -/
def State.safeStop (s : State) (cause : Nat) : State :=
  let s := s.hwUp (causeFld cause)
  (s.dropRun.setDev .safeStop cause).pairsDown

/-- The reaction S (R331): the cause is latched, which blocks RUN (R329); in RUN and DEGRADED the device enters SAFE_STOP. -/
def State.reactS (s : State) (cause : Nat) : State :=
  if s.dev.running then s.safeStop cause
  else (s.hwUp (causeFld cause)).dropRun

/-- LOCKOUT (R79, R289, R326, R330, R467): the cause is latched, the event precedes the power-down of domains 0 to 95 and 120,
every pair goes low, and every Treadle slot stops. -/
def State.lockout (s : State) (cause : Nat) : State :=
  if s.dev.canLock then
    let s := s.hwUp (causeFld cause)
    let s := (s.dropRun.setDev .lockout cause).pairsDown
    (s.slotsFollow.each (List.range 96) State.domainOff).domainOff 120
  else s

end Sys2Proof.Machine
end

