-- ==== Sys2Proof/Machine/Selvedge.lean ====
section
/-! DEFINITION. Selvedge (R292 to R301, R305 to R307, R318, R560, R561): field sets and their check, judging returns, the
coverage scan, selection and loading of field sets, and teach. -/

namespace Sys2Proof.Machine

/-! ### Field sets (R293, R294) -/

/-- Bytes of a field set with its CRC. -/
def fsetBytes : Nat := 0x18_1004

/-- A 32-bit word of a set by its offset. -/
def FieldSet.word (f : FieldSet) (off : Nat) : Nat := tabGet (fun _ => 0) f.words (off / 4)

/-- A two-word zone mask at an offset. -/
def FieldSet.mask (f : FieldSet) (off : Nat) : Nat := f.word off + f.word (off + 4) * 2 ^ 32

/-- DEG_CLASS, IGN_MAX, and the ignore bit of a class code (1 PARTICLE, 2 BLOOM, 3 INTF). -/
def FieldSet.degClass (f : FieldSet) : Nat := bitsOf (f.word 4) 26 24
def FieldSet.ignMax (f : FieldSet) : Nat := bitsOf (f.word 4) 7 0
def FieldSet.ignores (f : FieldSet) (cls : Nat) : Bool :=
  match cls with
  | 1 => bit (f.word 4) 31
  | 2 => bit (f.word 4) 30
  | 3 => bit (f.word 4) 29
  | _ => false

/-- D_j of a set, j from 2 to 7. -/
def FieldSet.dist (f : FieldSet) (j : Nat) : Nat := f.word (8 + (j - 2) / 2 * 4) / 2 ^ (16 * (j % 2)) % 2 ^ 16

/-- Zone mask of pair p, its axis mask and its SAFE_IN mask. -/
def FieldSet.pairZones (f : FieldSet) (p : Nat) : Nat := f.mask (0x14 + 8 * p)
def FieldSet.pairAxes (f : FieldSet) (p : Nat) : Nat := f.word 0x24 / 2 ^ (8 * p) % 2 ^ 8
def FieldSet.pairIns (f : FieldSet) (p : Nat) : Nat := f.word 0x24 / 2 ^ (16 + 4 * p) % 2 ^ 4

/-- Zone mask of an axis, and its limits in a class. -/
def FieldSet.axisZones (f : FieldSet) (a : Nat) : Nat := f.mask (0x100 + 8 * a)
def FieldSet.limOff (a j : Nat) : Nat := 0x200 + 0x80 * a + 0x10 * j
def FieldSet.vmax (f : FieldSet) (a j : Nat) : Nat := f.word (FieldSet.limOff a j)
def FieldSet.pmin (f : FieldSet) (a j : Nat) : Int := signed 32 (f.word (FieldSet.limOff a j + 4))
def FieldSet.pmax (f : FieldSet) (a j : Nat) : Int := signed 32 (f.word (FieldSet.limOff a j + 8))
def FieldSet.tdec (f : FieldSet) (a j : Nat) : Nat := bitsOf (f.word (FieldSet.limOff a j + 12)) 29 16
def FieldSet.motion (f : FieldSet) (a j : Nat) : Nat := bitsOf (f.word (FieldSet.limOff a j + 12)) 1 0

/-- A cell record (R293). -/
structure Cell where
  near : Nat
  pf : Nat
  wf1 : Nat
  wf2 : Nat
  hz : Nat
  zone : Nat
  rest : Bool
  deriving DecidableEq, Repr

/-- The number of a cell. -/
def cellNo (n seg : Nat) : Nat := 1024 * n + seg

/-- The record of a cell; `rest` says that its reserved bits are 0. -/
def FieldSet.cell (f : FieldSet) (c : Nat) : Cell :=
  let o := 0x1000 + 16 * c
  let w0 := f.word o
  let w1 := f.word (o + 4)
  let w2 := f.word (o + 8)
  { near := w0 % 2 ^ 16, pf := w0 / 2 ^ 16, wf1 := w1 % 2 ^ 16, wf2 := w1 / 2 ^ 16, hz := w2 % 2 ^ 16
    zone := bitsOf w2 21 16
    rest := bitsOf w2 31 22 == 0 && f.word (o + 12) == 0 }

/-- The far edges of a cell: within 25,000, and those that are not 0 do not fall (R294). -/
def Cell.edgesOk (c : Cell) : Bool :=
  let l := [c.pf, c.wf1, c.wf2].filter (· != 0)
  l.all (· ≤ 25000) && (l.zip (l.drop 1)).all (fun p => p.1 ≤ p.2)

/-- The check of R294 on a cell of a tile row with gate start `start`. -/
def Cell.ok (c : Cell) (start : Nat) : Bool :=
  c.rest && c.edgesOk && c.hz ≤ 25000 &&
    (if c.pf = 0 then c.near == 0 else decide (c.near < c.pf) && decide (150 * start ≤ c.near))

/-- The part of R294 on the limits of an axis. -/
def FieldSet.axisOk (f : FieldSet) (a : Nat) : Bool :=
  (List.range 8).all (fun j =>
    decide (f.pmin a j ≤ f.pmax a j) && f.tdec a j ≤ 10000 &&
      bitsOf (f.word (FieldSet.limOff a j + 12)) 31 30 == 0 && bitsOf (f.word (FieldSet.limOff a j + 12)) 15 2 == 0 &&
      (j == 7 || f.vmax a j ≤ f.vmax a (j + 1)))

/-- The words of a set that R293 leaves unused are 0. -/
def FieldSet.reservedOk (f : FieldSet) : Bool :=
  bitsOf (f.word 0) 23 6 == 0 && bitsOf (f.word 4) 28 27 == 0 && bitsOf (f.word 4) 23 8 == 0 &&
    bitsOf (f.word 0x24) 31 24 == 0 &&
    f.words.all (fun p =>
      let o := 4 * p.1
      !((0x28 ≤ o && o < 0x100) || (0x140 ≤ o && o < 0x200) || (0x600 ≤ o && o < 0x1000)))

/-- The CRC of a set matches: over bytes 0x0000 to 0x18_0FFF, held at 0x18_1000 (R293). -/
def FieldSet.crcOk (f : FieldSet) : Bool :=
  crcWords ((List.range 0x6_0400).map (fun k => tabGet (fun _ => 0) f.words k)) == f.word 0x18_1000

/-- A set is valid as set `i` under the gate starts of the tiles (R294). -/
def FieldSet.valid (f : FieldSet) (i : Nat) (start : Nat → Nat) : Bool :=
  bitsOf (f.word 0) 31 24 == 0x46 && bitsOf (f.word 0) 5 0 == i && f.reservedOk && f.crcOk &&
    (List.range 98304).all (fun c => (f.cell c).ok (start (c / 1024))) &&
    [2, 3, 4, 5, 6].all (fun j => f.dist j ≤ f.dist (j + 1)) &&
    (List.range 8).all f.axisOk

/-- The PF_NEAR rule of R294 alone, on one tile row (R321, code 0x5C). -/
def FieldSet.nearOk (f : FieldSet) (n start : Nat) : Bool :=
  (List.range 1024).all (fun seg =>
    let c := f.cell (cellNo n seg)
    c.pf == 0 || 150 * start ≤ c.near)

/-- The field set number `i` as it lies in DRAM (R293). -/
def State.fsetInDram (s : State) (i : Nat) : FieldSet :=
  let base := s.get64 SEL_FS_BASE_LO.BASE SEL_FS_BASE_HI.BASE + i * 0x20_0000
  let ws := wordsOfBytes (fsetBytes / 4) (s.dramRead base fsetBytes)
  { num := i, words := ((List.range ws.length).zip ws).filter (fun p => p.2 != 0) }

/-- The poisoned bursts of a field set in DRAM (R428). -/
def State.fsetBursts (s : State) (i : Nat) : List Nat :=
  let base := s.get64 SEL_FS_BASE_LO.BASE SEL_FS_BASE_HI.BASE + i * 0x20_0000
  s.mem.poison.filter (fun b => base < b * 64 + 64 && b * 64 < base + fsetBytes)

/-- A burst of a field set in DRAM is poisoned (R428). -/
def State.fsetPoisoned (s : State) (i : Nat) : Bool := !(s.fsetBursts i).isEmpty

/-! ### Judging returns (R292, R296, R297) -/

/-- Outcomes of one return (R296). -/
inductive Judged where
  | ignored (counts : Bool)
  | shadow
  | pf
  | wf1
  | wf2
  | none
  deriving DecidableEq, Repr

/-- The outcome of a return of range `r` in units of 0.25 mm in a cell: the first row of R296 that applies. -/
def Cell.judge (c : Cell) (ign : Bool) (r : Nat) (near : Bool) : Judged :=
  let inPf := c.pf != 0 && 4 * c.near ≤ r && r ≤ 4 * c.pf
  if ign then .ignored inPf
  else if c.pf != 0 && (r < 4 * c.near || near) then .shadow
  else if inPf then .pf
  else if c.wf1 != 0 && r ≤ 4 * c.wf1 then .wf1
  else if c.wf2 != 0 && r ≤ 4 * c.wf2 then .wf2
  else .none

/-- The person distance of a return that is not ignored (R296). -/
def Cell.distance (c : Cell) (r : Nat) : Option Nat :=
  if r ≤ 4 * max c.pf (max c.wf1 c.wf2) then some (r / 4 - c.hz) else none

/-- The cell of a result: tile, channel and ANGLE word (R292); none where AZ_VALID is 0. -/
def State.cellOf (s : State) (n ch angle : Nat) : Option Nat :=
  if bit angle 2 then
    let r := SEL_CHAZ.addr (ch / 2)
    let ofs := if ch % 2 = 0 then s.get ⟨r, 15, 0⟩ else s.get ⟨r, 31, 16⟩
    some (cellNo n ((bitsOf angle 31 16 + ofs) % 65536 / 64))
  else none

/-- A smallest value kept in a table. -/
def tabMin (d : Nat) (t : Tab Nat) (k v : Nat) : Tab Nat := tabMod (fun _ => d) t k (min v)

/-- A return of `mm` mm of a cell is recorded in a teach, over its FRAMES frames alone (R318). -/
def Teach.take (t : Teach) (cell mm : Nat) : Teach :=
  if t.done < t.frames then { t with vals := tabMin 0xFFFF t.vals cell mm } else t

/-- A return is folded into the zone results of the frame (R296), and into a running teach (R318). -/
def State.foldReturn (s : State) (cell r cls : Nat) (near : Bool) : State :=
  match s.sel.active with
  | none => { s with sel := { s.sel with teach := s.sel.teach.map (fun t => t.take cell (r / 4)) } }
  | some f =>
    let c := f.cell cell
    let m := 2 ^ c.zone
    let j := c.judge (f.ignores cls) r near
    let ignored := match j with
      | .ignored _ => true
      | _ => false
    let x := s.sel
    let x := match j with
      | .shadow => { x with pf := orN x.pf m }
      | .pf => { x with pf := orN x.pf m }
      | .wf1 => { x with wf1 := orN x.wf1 m }
      | .wf2 => { x with wf2 := orN x.wf2 m }
      | .ignored true => { x with ign := tabMod (fun _ => 0) x.ign c.zone (· + 1) }
      | _ => x
    let x := match j with
      | .wf1 => { x with wf2 := orN x.wf2 m }
      | _ => x
    let x := if ignored then x
      else match c.distance r with
        | some d => { x with dmin := tabMin 0xFFFF x.dmin c.zone d }
        | none => x
    let x := if ignored then x else { x with teach := x.teach.map (fun t => t.take cell (r / 4)) }
    let s := { s with sel := x }
    match j with
    | .shadow => s.bump SEL_RET_CNT.SHADOW
    | .ignored _ => s.bump SEL_RET_CNT.IGNORED
    | _ => s

/-- A result observes its cell (R298); the channel is kept, since the results of a lost channel observe nothing (R332). -/
def State.observe (s : State) (cell ch : Nat) : State :=
  { s with sel := { s.sel with seen := tabSet (fun _ => false) s.sel.seen (cell * 8 + ch) true } }

/-! ### Coverage and the zone results (R297, R299) -/

/-- Whether a cell was observed by a channel that is not lost. -/
def State.cellSeen (s : State) (lostCh : Nat → Bool) (cell : Nat) : Bool :=
  (List.range 8).any (fun ch =>
    tabGet (fun _ => false) s.sel.seen (cell * 8 + ch) && !lostCh (cell / 1024 * 8 + ch))

/-- The protective cells that no result observed (R299). -/
def State.unseenCells (s : State) (f : FieldSet) (lostCh : Nat → Bool) : List Nat :=
  (List.range 98304).filter (fun c => (f.cell c).pf != 0 && !s.cellSeen lostCh c)

/-- The zones of a list of cells. -/
def FieldSet.zonesOf (f : FieldSet) (l : List Nat) : Nat := l.foldl (fun m c => orN m (2 ^ (f.cell c).zone)) 0

/-- The zones whose counted returns exceed IGN_MAX (R297). -/
def State.ignZones (s : State) (f : FieldSet) : Nat :=
  maskOf 64 (fun z => decide (f.ignMax < tabGet (fun _ => 0) s.sel.ign z))

/-- 1 + the number of j from 2 to 7 with `d` at or above D_j (R300, R343). -/
def FieldSet.classOf (f : FieldSet) (d : Nat) : Nat := 1 + ([2, 3, 4, 5, 6, 7].filter (fun j => f.dist j ≤ d)).length

/-! ### Field-set selection (R305 to R307, R560, R561) -/

/-- Whether the loaded image has an FSEL record, and its selection source. -/
def State.hasFsel (s : State) : Bool := !s.img.cfg.fsel.isEmpty
def State.fselSrc (s : State) : Bool := bit (nth s.img.cfg.fsel 0 0) 0
def State.fselSender (s : State) : Nat := bitsOf (nth s.img.cfg.fsel 0 0) 7 4

/-- The set that the code table gives to a code (R305). -/
def State.fselSet (s : State) (code : Nat) : Option Nat :=
  ((s.img.cfg.fsel.drop 1).take 64).findSome? (fun w =>
    if bit w 15 && bitsOf w 7 0 == code then some (bitsOf w 13 8) else none)

/-- The transition matrix permits a change from set i to set j. -/
def State.fselPermits (s : State) (i j : Nat) : Bool := bit (nth s.img.cfg.fsel (65 + 2 * i + j / 32) 0) (j % 32)

/-- INIT_SET of the loaded image. -/
def State.initSet (s : State) : Nat := bitsOf (nth s.img.cfg.safety 0 0) 31 26

/-- The selection becomes illegal (R307, R322). -/
def State.fselIllegal (s : State) : State :=
  if s.flag SEL_FSET_STAT.ILLEGAL then s else (s.putB SEL_FSET_STAT.ILLEGAL true).raise 466 0 0

/-- A pending set is discarded: a running load or a loaded set counts in LOAD_ABORT (R306). -/
def State.dropPending (s : State) : State :=
  if s.sel.loading.isNone && s.sel.ready.isNone then s
  else
    let s := { s with sel := { s.sel with loading := none, ready := none, initial := false } }
    ((s.put SEL_FSET_STAT.LOAD 0).put SEL_FSET_STAT.PENDING 0).bump SEL_CNT.LOAD_ABORT

/-- The load of a set into the idle half of the cache begins. -/
def State.startFsetLoad (s : State) (i : Nat) (initial : Bool) : State :=
  let s := { s with sel := { s.sel with loading := some i, ready := none, initial := initial } }
  (s.put SEL_FSET_STAT.PENDING i).put SEL_FSET_STAT.LOAD 1

/-- The pending set, if any. -/
def State.pendingSet (s : State) : Option Nat :=
  match s.sel.loading with
  | some i => some i
  | none => s.sel.ready.map (fun f => f.num)

/-- A request for a set found at two consecutive ticks: accepted unless it names the active or the pending set; a transition
that is not permitted is illegal (R305 to R307). -/
def State.fselAccept (s : State) (j : Nat) : State :=
  let act := s.sel.active.map (fun f => f.num)
  if act = some j || s.pendingSet = some j then s
  else
    let s := s.dropPending
    match act with
    | some i => if s.fselPermits i j then s.startFsetLoad j false else s.fselIllegal
    | none => s

/-- The request is stable at this tick: legal again where it names the active set or is "none" (R307). -/
def State.fselLegal (s : State) (req : Option Nat) : State :=
  let ok : Bool := match req with
    | none => true
    | some j => s.sel.active.map (fun f => f.num) == some j
  if ok then s.putB SEL_FSET_STAT.ILLEGAL false else s

/-- The request is sampled at a tick (R305, R307): `req` is what the code or the sender asks for, none where the tick carried
no request; `known` is false where a sampled code is not in the table; `busy`: a swap is prepared, staged or lands at this tick, which
defers acceptance (R370). -/
def State.fselSample (s : State) (req : Option (Option Nat)) (raw : Option (Option Nat)) (known busy : Bool) : State :=
  let same := raw.isSome && raw == s.sel.fsel.last
  let un := if same then 0 else s.sel.fsel.unstable + 1
  let s := { s with sel := { s.sel with fsel := { last := raw, unstable := un } } }
  let s := if !known then s.fselIllegal else s
  let s := if s.get SEL_CTL.FSEL_TO < un then s.fselIllegal else s
  match same && known, req with
  | true, some r =>
    let s := s.fselLegal r
    match r with
    | some j => if busy then s else s.fselAccept j
    | none => s
  | _, _ => s

/-- A loaded set that fails R294 (R44, R307, R322): the selection is illegal, SEL_FS_CRC (467) is raised, and the reaction is S
with FS_CRC. -/
def State.fsetFailed (s : State) : State :=
  let s := { s with sel := { s.sel with loading := none, initial := false } }
  let s := (s.put SEL_FSET_STAT.LOAD 0).put SEL_FSET_STAT.PENDING 0
  (s.fselIllegal.raise 467 0 0).reactS 0x05

/-- FIELD_SET_LOAD_DONE: the pending set has been read from DRAM and is checked (R294, R306). Its poisoned codewords, each an
uncorrectable error, make it fail; so does the codeword at its base, where two or more of its `bad` symbols are wrong (R428). -/
def State.fsetLoadDone (s : State) (bad : Nat) : State :=
  match s.sel.loading with
  | none => s
  | some i =>
    if !s.domOn 121 then s
    else
      let base := s.get64 SEL_FS_BASE_LO.BASE SEL_FS_BASE_HI.BASE + i * 0x20_0000
      let f := s.fsetInDram i
      let pois := s.fsetPoisoned i
      let s' := s.touchBursts (s.fsetBursts i)
      let s := if bad = 0 || s.poisoned base then s' else (s'.memTouch base bad).2
      if 2 ≤ bad || pois || !f.valid i (fun n => s.get (T_GATE_CTL.START n)) then s.fsetFailed
      else
        let s := { s with sel := { s.sel with loading := none, ready := some f, readyLate := s.handingOver } }
        s.put SEL_FSET_STAT.LOAD 2

/-- A loaded set becomes active at the tick (R306, R561): SEL_FSET (526) is raised, and the selection is legal again where the set
was accepted under R306. A load that ended inside the hand-over window waits one tick. -/
def State.fsetTick (s : State) : State :=
  match s.sel.ready with
  | none => s
  | some f =>
    if s.sel.readyLate then { s with sel := { s.sel with readyLate := false } }
    else
      let first := s.sel.initial
      let s := { s with sel := { s.sel with active := some f, ready := none, corrupt := false, initial := false } }
      let s := ((s.put SEL_FSET_STAT.ACTIVE f.num).put SEL_FSET_STAT.PENDING 0).put SEL_FSET_STAT.LOAD 0
      (if first then s else s.putB SEL_FSET_STAT.ILLEGAL false).raise 526 0 0

/-- Selvedge at a tick: the selection is sampled, a loaded set becomes active, and the zone results and observation bits are
cleared (R300, R301, R305 to R307, R560). `code` is the filtered FSEL code; `msg` the request of the named sender in the
frame just ended; `busy`: a swap was in progress up to this tick. Without an active set there is no selection: it continues once
INIT_SET is active (R561, log entry 89). -/
def State.selTick (s : State) (code : Nat) (msg : Option (Option Nat)) (busy : Bool) : State :=
  if !s.domOn 121 then s
  else
    let s := s.fsetTick
    let s := if !s.hasFsel then
        let s := (s.putB SEL_FSET_STAT.SRC false).put SEL_FSET_STAT.CODE 0
        if s.sel.active.isSome then s.putB SEL_FSET_STAT.ILLEGAL false else s
      else if s.sel.active.isNone then (s.putB SEL_FSET_STAT.SRC s.fselSrc).put SEL_FSET_STAT.CODE (if s.fselSrc then 0 else code)
      else
        let s := s.putB SEL_FSET_STAT.SRC s.fselSrc
        if s.fselSrc then
          let shown := match msg with
            | some (some j) => j
            | _ => 0
          (s.put SEL_FSET_STAT.CODE shown).fselSample msg msg true busy
        else
          let set := s.fselSet code
          (s.put SEL_FSET_STAT.CODE code).fselSample (set.map some) (some (some code)) set.isSome busy
    let s := (s.put SEL_RET_CNT.SHADOW 0).put SEL_RET_CNT.IGNORED 0
    { s with sel := { s.sel with midFrame := false, seen := [], pf := 0, wf1 := 0, wf2 := 0, dmin := [], ign := [] } }

/-! ### Teach (R318) -/

/-- FRAMES as last written, which a teach by TEACH_N takes too. -/
def State.teachFrames (s : State) (frames : Nat) : State := s.put SEL_TEACH_CTL.FRAMES frames

/-- A teach is refused or aborted. -/
def State.teachStop (s : State) : State :=
  ({ s with sel := { s.sel with teach := none } } : State).put SEL_TEACH_STAT.STATE 3

/-- A teach over `frames` frames starts, or is refused (R318). An accepted START while one runs begins
anew (log entry 15). -/
def State.teachStart (s : State) (frames : Nat) : State :=
  if s.dev == .maintenance && s.flag SAF_SEAL.UNLOCK && frames != 0 && s.domOn 121 then
    let s := { s with sel := { s.sel with teach := some { frames := frames, done := 0, vals := [] } } }
    (s.put SEL_TEACH_STAT.STATE 1).put SEL_TEACH_STAT.DONE 0
  else s.teachStop

/-- A running teach is aborted (R318). -/
def State.teachAbort (s : State) : State := if s.sel.teach.isSome then s.teachStop else s

/-- A frame of a running teach ends; frames after the FRAMES-th do not count (R318). -/
def State.teachFrame (s : State) : State :=
  match s.sel.teach with
  | some t =>
    if t.frames ≤ t.done then s
    else
      let s := { s with sel := { s.sel with teach := some { t with done := t.done + 1 } } }
      s.put SEL_TEACH_STAT.DONE (t.done + 1)
  | none => s

/-- The teach area of the loaded image. -/
def State.teachAddr (s : State) : Nat := nth s.img.cfg.safety 2 0 + nth s.img.cfg.safety 3 0 * 2 ^ 32

/-- TEACH_DONE: after FRAMES frames the 98,304 values are written to the teach area, in the order of cell records. -/
def State.teachDone (s : State) : State :=
  match s.sel.teach with
  | some t =>
    if t.done < t.frames then s
    else
      let l := (List.range 98304).flatMap (fun c => bytesLE 2 (min 0xFFFF (tabGet (fun _ => 0xFFFF) t.vals c)))
      let s := s.dramPut s.teachAddr l
      ({ s with sel := { s.sel with teach := none } } : State).put SEL_TEACH_STAT.STATE 2
  | none => s

/-! ### Commands -/

/-- FIELD_SET_LOAD_DONE. -/
def execFieldSetLoadDone (dt : Nat) (_late : Bool) (bad : Nat) (s : State) : Host.Outcome State Fault Refusal :=
  .next ((s.advance dt).fsetLoadDone bad)

/-- TEACH_START. -/
def execTeachStart (dt : Nat) (frames : Fin 256) (s : State) : Host.Outcome State Fault Refusal :=
  .next ((s.advance dt).hostReg SEL_TEACH_CTL.addr (fun s => (s.teachFrames frames.val).teachStart frames.val))

/-- TEACH_ABORT. -/
def execTeachAbort (dt : Nat) (s : State) : Host.Outcome State Fault Refusal :=
  .next ((s.advance dt).hostReg SEL_TEACH_CTL.addr State.teachAbort)

/-- TEACH_DONE. -/
def execTeachDone (dt : Nat) (s : State) : Host.Outcome State Fault Refusal := .next (s.advance dt).teachDone

end Sys2Proof.Machine
end

