-- ==== Sys2Proof/Machine/Tile.lean ====
section
/-! DEFINITION. What several blocks ask of a tile: whether it and its channels are enabled, which slice serves a channel
(R143 to R145), which outputs are bound to it (R127), and whether an output is marked (R203). -/

namespace Sys2Proof.Machine

/-- The tile is On and enabled. -/
def State.tileEn (s : State) (t : Nat) : Bool := s.domOn t && s.flag (T_RX_CTL.TILE_EN t)

/-- Channel `c` of tile `t` is enabled. -/
def State.chEn (s : State) (t c : Nat) : Bool := s.tileEn t && bit (s.get (T_RX_CTL.CH_EN t)) c

/-- The slice is marked failed; slice 8 is the spare. -/
def State.sliceFail (s : State) (t i : Nat) : Bool := bit (s.get (T_TDC_STAT.SLICE_FAIL t)) i

/-- The spare slice serves channel `c` (R143). -/
def State.spareServes (s : State) (t c : Nat) : Bool :=
  s.flag (T_SLICE_MAP.SUB_EN t) && s.get (T_SLICE_MAP.SUB_CH t) == c

/-- The slice that serves a channel. -/
def State.sliceOf (s : State) (t c : Nat) : Nat := if s.spareServes t c then 8 else c

/-- A channel has no working slice (R145). -/
def State.noSlice (s : State) (t c : Nat) : Bool :=
  if s.spareServes t c then s.sliceFail t 8
  else s.sliceFail t c && (s.flag (T_SLICE_MAP.SUB_EN t) || s.sliceFail t 8)

/-- Output `o` is bound to tile `t` (R127). -/
def State.bound (s : State) (t o : Nat) : Bool := bit (s.get (T_BIND.BIND t (o / 32))) (o % 32)

/-- The outputs bound to a tile. -/
def State.boundOuts (s : State) (t : Nat) : List Nat := (List.range 96).filter (s.bound t)

/-- A bit of one of the 96-bit mark registers of EMD. -/
def State.mark (s : State) (f : Nat → Fld) (o : Nat) : Bool := bit (s.get (f (o / 32))) (o % 32)

/-- An output is marked OPEN, SHORT, SHUT or OVER, or lies in a group marked MPD_FAULT (R203, R332). -/
def State.outBad (s : State) (o : Nat) : Bool :=
  s.mark EMD_OPEN.OPEN o || s.mark EMD_SHORT.SHORT o || s.mark EMD_SHUT.SHUT o || s.mark EMD_OVER.OVER o ||
    bit (s.get EMD_STAT.MPD_FAULT) (o / 4)

/-- The loaded image marks the tile as covering a protective zone (R358). -/
def State.zoneTile (s : State) (t : Nat) : Bool := bit s.img.cfg.zones t

/-! ### Hidden state of a tile -/

/-- What a tile holds beyond its registers. -/
def State.tileSt (s : State) (t : Nat) : Tile := tabGet (fun _ => {}) s.tiles t

/-- That state replaced. -/
def State.setTile (s : State) (t : Nat) (x : Tile) : State := { s with tiles := tabSet (fun _ => {}) s.tiles t x }

/-- That state modified. -/
def State.modTile (s : State) (t : Nat) (f : Tile → Tile) : State := s.setTile t (f (s.tileSt t))

/-- A channel of a tile. -/
def Tile.rx (x : Tile) (c : Nat) : RxCh := tabGet (fun _ => {}) x.chans c

/-- A channel replaced. -/
def Tile.setRx (x : Tile) (c : Nat) (y : RxCh) : Tile := { x with chans := tabSet (fun _ => {}) x.chans c y }

/-- A channel of a tile. -/
def State.rx (s : State) (t c : Nat) : RxCh := (s.tileSt t).rx c

/-- A channel of a tile replaced. -/
def State.setRx (s : State) (t c : Nat) (y : RxCh) : State := s.modTile t (fun x => x.setRx c y)

/-- One bit of a mask field set. -/
def State.orBit (s : State) (f : Fld) (i : Nat) : State := s.put f (orN (s.get f) (2 ^ i))

/-! ### Time since the first tick (R153) -/

/-- LSB of TCLK time since the TCLK edge of the first tick; 0 before it. R107 stops TCLK, whose cycles the counter counts, while R153
says that only a reset stops the counter: it rests while TCLK is stopped (log entry 81). -/
def State.ct (s : State) : Nat :=
  match s.saf.tick0 with
  | some t => min s.now (s.clk.tclkOff.getD s.now) - t
  | none => 0

/-- The coarse counter. -/
def State.coarse (s : State) : Nat := s.ct / 64 % 2 ^ 24

/-- Wraps of the coarse counter up to a time since the first tick, and so far. -/
def wrapsAt (ct : Nat) : Nat := ct / 64 / 2 ^ 24
def State.wraps (s : State) : Nat := wrapsAt s.ct

/-- The pairs of the outputs that `p` selects give no fire state from now on: their sub-pulses to come are dropped, one that is high
ends, and a shot of which none has risen has not been emitted (R107, R201, R202). -/
def State.cutPulses (s : State) (p : Nat → Bool) : State :=
  { s with
    hed := { s.hed with edges := s.hed.edges.filterMap (fun (o, r, f) =>
      if !p o || f ≤ s.ct then some (o, r, f) else if s.ct ≤ r then none else some (o, r, s.ct)) }
    emd := { s.emd with shots := s.emd.shots.filter (fun x => !p x.out || decide (x.rise < s.ct)) } }

/-! ### Records and events -/

/-- A record is handed over to Shuttle staging. -/
def State.handOver (s : State) (r : StreamRec) : State := { s with toStage := s.toStage ++ [r] }

/-- A tile event whose causes are each raised at most once per tile per frame (R239, R266): `k` is 2 for REED, 3 for RET. -/
def State.raiseOnce (s : State) (t k cause chans : Nat) : State :=
  let i := (k - 2) * 8 + cause
  if bit (s.tileSt t).raised i then s
  else (s.modTile t (fun x => { x with raised := setBit x.raised i true })).raiseTile t k cause chans

/-- A quotient in a unit for which the spec names no rounding (log entry 20). -/
def openQuot (num den : Nat) : Nat := num / den + (if num % den = 0 then 0 else b2n (Config.roundsUp num den))

end Sys2Proof.Machine
end

