-- ==== Sys2Proof/Machine/Ossd.lean ====
section
/-! DEFINITION. The OSSD pairs (R302, R314 to R317): confirmation, restart, SAFE_IN, EDM, test pulses and readback. -/

namespace Sys2Proof.Machine

/-- 10 ms in units of `State.now`. -/
def ms10 : Nat := 10000 * usLsb

/-! ### Conditions of a pair (R315, R317) -/

/-- SAFE_IN[x] monitors the second contactor of pair x (R63, R317). -/
def State.secondEdm (s : State) : Bool := (s.resEntry (resId 3 0)).isSome

/-- The active set's mask of a pair (0 where there is none). -/
def State.pairMask (s : State) (f : FieldSet → Nat → Nat) (p : Nat) : Nat :=
  match s.sel.active with
  | some x => f x p
  | none => 0

/-- The SAFE_IN inputs of a pair's mask; the two that are EDM inputs take no part (R317). -/
def State.pairInputs (s : State) (p : Nat) : Nat :=
  let m := s.pairMask FieldSet.pairIns p
  if s.secondEdm then m / 4 * 4 else m

/-- Each SAFE_IN of the pair's mask is high. -/
def State.inputsHigh (s : State) (p : Nat) : Bool := andN (s.pairInputs p) s.saf.safeIn == s.pairInputs p

/-- EDM of a pair reads high, and its second contactor too where there is one (R317). -/
def State.edmHigh (s : State) (p : Nat) : Bool :=
  bit (s.get SAF_OSSD_STAT.EDM) p && (!s.secondEdm || bit s.saf.safeIn p)

/-- EDM of a pair reads low, and its second contactor too. -/
def State.edmLow (s : State) (p : Nat) : Bool :=
  !bit (s.get SAF_OSSD_STAT.EDM) p && (!s.secondEdm || !bit s.saf.safeIn p)

/-- An axis of the pair's mask violates or is in fault (R313). -/
def State.axisBad (s : State) (a : Nat) : Bool :=
  let x := tabGet (fun _ => {}) s.saf.axes a
  x.sls || x.slp || x.sdi || x.fault

def State.axesBad (s : State) (p : Nat) : Bool := (bitList 8 (s.pairMask FieldSet.pairAxes p)).any s.axisBad

/-- The conditions of OFF → READY, at a decision (R315). -/
def State.pairReadyOk (s : State) (p : Nat) : Bool :=
  let x := s.pair p
  let wait := s.get SAF_OSSD_TIM.OFF_MIN * ms10
  x.clear && !s.axesBad p && s.inputsHigh p && (!s.flag (SAF_OSSD_CFG.EDM_EN p) || s.edmHigh p) &&
    decide (wait ≤ s.now - x.offAt) && decide (wait ≤ s.now - x.clearAt)

/-- The restart delay has also elapsed (R315). -/
def State.pairDelayOk (s : State) (p : Nat) : Bool :=
  let x := s.pair p
  let wait := s.get (SAF_OSSD_CFG.RESTART_DLY p) * ms10
  decide (wait ≤ s.now - x.offAt) && decide (wait ≤ s.now - x.clearAt)

/-! ### A decision (R302, R315) -/

/-- The confirmation history of a pair after an outcome (R302). -/
def Pair.outcome (x : Pair) (violated : Bool) (m now : Nat) : Pair :=
  if violated then
    let n := x.runV + 1
    { x with runV := min n 4, runC := 0, clear := if m ≤ n then false else x.clear }
  else
    let n := x.runC + 1
    { x with runC := min n 4, runV := 0, clear := x.clear || decide (m ≤ n)
             clearAt := if !x.clear && m ≤ n then now else x.clearAt }

/-- m of R302. -/
def State.confM (s : State) : Nat := s.get SEL_CTL.M_M1 + 1

/-- A pair takes the outcome of a decision and changes state (R302, R315); states change only in RUN and DEGRADED (R314). -/
def State.pairDecide (s : State) (p : Nat) (violated : Bool) : State :=
  let s := s.setPair p ((s.pair p).outcome violated s.confM s.now)
  let x := s.pair p
  if !(s.dev.running && s.flag (SAF_OSSD_CFG.EN p)) then s
  else
    let confV := decide (s.confM ≤ x.runV)
    match s.pairState p with
    | 0 =>
      if s.flag (SAF_OSSD_CFG.RESTART p) then (if !violated && s.pairReadyOk p then s.pairGo p 1 0 else s)
      else if !violated && s.pairReadyOk p && s.pairDelayOk p then s.pairGo p 2 0
      else s
    | 1 =>
      if violated || !s.pairReadyOk p then s.pairGo p 0 0
      else if x.released then s.pairGo p 2 0
      else s
    | 2 => if confV then s.pairGo p (if s.flag (SAF_OSSD_CFG.SS1 p) then 3 else 0) 1 else s
    | _ => s

/-! ### Immediate drops (R313, R315) -/

/-- A pair that is ON, STOPPING or READY goes OFF at once. -/
def State.pairDrop (s : State) (p cause : Nat) : State :=
  let st := s.pairState p
  if s.dev.running && (st == 1 || st == 2 || st == 3) then s.pairGo p 0 cause else s

/-- The pairs whose axis mask holds an axis drop (R313). -/
def State.axisDrop (s : State) (a : Nat) : State :=
  s.each [0, 1] (fun s p => if bit (s.pairMask FieldSet.pairAxes p) a then s.pairDrop p 2 else s)

/-- A SAFE_IN has been low for 1 µs: the pairs whose mask holds it drop (R315). -/
def State.safeInLow (s : State) (i : Nat) : State :=
  let s := { s with saf := { s.saf with safeIn := setBit s.saf.safeIn i false } }
  s.each [0, 1] (fun s p => if bit (s.pairInputs p) i then s.pairDrop p 3 else s)

/-! ### FAULT (R315 to R317) -/

/-- EDM or a readback fault puts a pair in FAULT. -/
def State.pairFault (s : State) (p cause : Nat) : State :=
  if s.pairState p = 4 then s else s.pairGo p 4 cause

/-- EDM of a pair did not reach its level within EDM_T (R317). `edm` and `second` are the levels of EDM[p] and, where it is the
second EDM input, of SAFE_IN[p]. -/
def State.edmTimeout (s : State) (p : Nat) (edm second : Bool) : State :=
  let s := s.put SAF_OSSD_STAT.EDM (setBit (s.get SAF_OSSD_STAT.EDM) p edm)
  let s := if s.secondEdm then { s with saf := { s.saf with safeIn := setBit s.saf.safeIn p second } } else s
  let x := s.pair p
  match x.edmWait with
  | none => s
  | some lvl =>
    if s.now - tabGet (fun _ => 0) s.saf.changedAt p < s.get SAF_OSSD_TIM.EDM_T * ms10 then s
    else
      let s := s.setPair p { x with edmWait := none }
      if (if lvl then s.edmHigh p else s.edmLow p) then s
      else
        let s := s.setPair p { s.pair p with edmFail := true }
        (s.pairFault p 4).raise 462 0 0

/-- The level that the device drives on a ball: its pair is high and no test pulse is in progress (R314, R316). -/
def State.ballHigh (s : State) (b : Nat) : Bool :=
  let t := tabGet (fun _ => 0) s.saf.pulseAt b
  let w := s.get SAF_OSSD_TP.TP_W * 10 * usLsb
  s.pairHigh (b / 2) && !(t != 0 && decide (t - 1 ≤ s.now) && decide (s.now < t - 1 + w))

/-- A ball has changed less than FB_T ago (R316). -/
def State.ballSettling (s : State) (b : Nat) : Bool :=
  let t := tabGet (fun _ => 0) s.saf.pulseAt b
  let w := s.get SAF_OSSD_TP.TP_W * 10 * usLsb
  let near := fun c => decide (c ≤ s.now) && decide (s.now < c + s.get SAF_OSSD_TIM.FB_T * usLsb)
  near (tabGet (fun _ => 0) s.saf.changedAt (b / 2)) || (t != 0 && (near (t - 1) || near (t - 1 + w)))

/-- A test pulse pulls a high ball low (R316). -/
def State.testPulse (s : State) (b : Nat) : State :=
  if s.pairHigh (b / 2) && s.flag (SAF_OSSD_CFG.TP_EN (b / 2)) then
    let s := { s with saf := { s.saf with pulseAt := tabSet (fun _ => 0) s.saf.pulseAt b (s.now + 1) } }
    s.emit (.ossdPulse b (s.get SAF_OSSD_TP.TP_W * 10))
  else s

/-- OSSD_FB is sampled (R316): two unequal samples of a ball in a row put both pairs in FAULT, raise OSSD_FAULT (461), and the
reaction is S with READBACK. -/
def State.readback (s : State) (fb : Nat) : State :=
  if !s.dev.ticks then s
  else
    let s := s.put SAF_OSSD_STAT.FB fb
    let bad := fun b => !s.ballSettling b && (bit fb b != s.ballHigh b)
    let n := fun b => if bad b then min 3 (tabGet (fun _ => 0) s.saf.fbBad b + 1) else 0
    let hit := [0, 1, 2, 3].any (fun b => n b == 2)
    let tab := [0, 1, 2, 3].foldl (fun t b => tabSet (fun _ => 0) t b (n b)) s.saf.fbBad
    let s := { s with saf := { s.saf with fbBad := tab } }
    if hit then (((s.pairFault 0 5).pairFault 1 5).raise 461 0 0).reactS 0x03 else s

/-- The fault cause of a pair is absent: its readback agrees and its EDM reads released (R315). -/
def State.faultGone (s : State) (p : Nat) : Bool :=
  [0, 1, 2, 3].all (fun b => tabGet (fun _ => 0) s.saf.fbBad b == 0) && (!(s.pair p).edmFail || s.edmHigh p)

/-- A qualified release of RESTART_N whose press began at `press` (R315): a READY pair may turn on at the next clear
decision, and a pair in FAULT whose cause is absent enters OFF. -/
def State.pairRestart (s : State) (p press : Nat) : State :=
  match s.pairState p with
  | 1 => if (s.pair p).readyAt ≤ press then s.setPair p { s.pair p with released := true } else s
  | 4 => if s.faultGone p then (s.setPair p { s.pair p with edmFail := false }).pairGo p 0 0 else s
  | _ => s

/-! ### Commands -/

/-- SAFE_IN_LOW. -/
def execSafeInLow (dt : Nat) (pin : Fin 4) (s : State) : Host.Outcome State Fault Refusal :=
  .next ((s.advance dt).safeInLow pin.val)

/-- OSSD_TEST_PULSE. -/
def execOssdTestPulse (dt : Nat) (ball : Fin 4) (s : State) : Host.Outcome State Fault Refusal :=
  .next ((s.advance dt).testPulse ball.val)

/-- OSSD_READBACK_SAMPLE. -/
def execOssdReadbackSample (dt : Nat) (fb : Fin 16) (s : State) : Host.Outcome State Fault Refusal :=
  .next ((s.advance dt).readback fb.val)

/-- EDM_TIMEOUT. -/
def execEdmTimeout (dt : Nat) (pair : Fin 2) (edm second : Bool) (s : State) : Host.Outcome State Fault Refusal :=
  .next ((s.advance dt).edmTimeout pair.val edm second)

end Sys2Proof.Machine
end

