-- ==== Sys2Proof/Machine/Encoder.lean ====
section
/-! DEFINITION. Quadrature decoding (R280, R281), shared by the encoders of Treadle and the axes of the safety core. -/

namespace Sys2Proof.Machine

/-- The place of a pair of levels of A and B in the forward sequence 00, 10, 11, 01 (log entry 13). -/
def quadPhase (a b : Bool) : Nat :=
  match a, b with
  | false, false => 0
  | true, false => 1
  | true, true => 2
  | false, true => 3

/-- What a decoder makes of newly taken levels: the change of POS, whether the step is illegal (A and B both changed), and
whether Z rose while A and B are both high. -/
structure EncStep where
  enc : Enc
  step : Int
  illegal : Bool
  index : Bool
  deriving DecidableEq, Repr

/-- The levels last taken by decoder `who`. -/
def State.encLevels (s : State) (who : Nat) : EncIn := tabGet (fun _ => {}) s.encIn who

/-- The decoder takes new levels of A, B and Z in place of `old` (R280, R281). A taken change of an input starts its count of
short pulses again. -/
def Enc.take (e : Enc) (old : EncIn) (a b z inv : Bool) : EncStep :=
  let d := (quadPhase a b + 4 - quadPhase old.a old.b) % 4
  let st : Int := if d = 1 then 1 else if d = 3 then -1 else 0
  { enc := { sa := if a == old.a then e.sa else 0
             sb := if b == old.b then e.sb else 0
             sz := if z == old.z then e.sz else 0 }
    step := if inv then -st else st
    illegal := d == 2
    index := z && !old.z && a && b }

/-- A short pulse on input 0 (A), 1 (B) or 2 (Z): the fourth with no taken change between latches ENC_ERR (R280). -/
def Enc.short (e : Enc) (input : Nat) : Enc × Bool :=
  match input with
  | 0 => ({ e with sa := if e.sa = 3 then 0 else e.sa + 1 }, e.sa == 3)
  | 1 => ({ e with sb := if e.sb = 3 then 0 else e.sb + 1 }, e.sb == 3)
  | _ => ({ e with sz := if e.sz = 3 then 0 else e.sz + 1 }, e.sz == 3)

/-- What an index does (R281): the new position, INDEXED, and the verdict of the check, if one was made. -/
def indexRule (indexed : Bool) (cpr : Nat) (pos : Int) : Int × Option Bool :=
  if !indexed then (0, none)
  else if cpr = 0 then (pos, none)
  else (0, some (decide ((cpr : Int) - 1 ≤ pos.natAbs) && decide ((pos.natAbs : Int) ≤ cpr + 1)))

/-- Whether Treadle holds an encoder, by the resource table or a claim (R365, R367); one that has no owner keeps its default function as
an axis encoder (R63). -/
def State.encTreadle (s : State) (e : Nat) : Bool := s.resHolder (resId 0 e) == some 1

end Sys2Proof.Machine
end

