-- ==== Sys2Proof/Machine/Treadle.lean ====
section
/-! DEFINITION. Treadle (R267 to R290): measurements, the control law, coefficient banks, following error, the bias slot, the
encoders given to Treadle, and the beam angle. -/

namespace Sys2Proof.Machine

/-! ### Measurement (R268) -/

/-- The 16-bit code of a voltage in µV on SNS[n] or HV_FB (R541). -/
def sarCode (uv : Int) : Nat := (clampI 0 65535 (Int.fdiv (uv * 65536) 1500000)).toNat

/-- VSPAD in mV of a HV_FB code (R268). -/
def vspadMv (code : Nat) : Nat := code * 37500 / 65536

/-- The speed measurement of a slot at a sample (R268). -/
def TrdSlot.speed (x : TrdSlot) (now : Nat) (last : Int) : Int :=
  if 0 < x.ivCnt then x.dir * ((6400000000 * x.ivCnt / max 1 x.ivSum : Nat) : Int)
  else
    match x.lastEdge with
    | none => 0
    | some t =>
      let d := (now - t) / sclkLsb
      if 400000 ≤ d then 0
      else
        let y := x.dir * ((6400000000 / max 1 d : Nat) : Int)
        if y.natAbs < last.natAbs then y else last

/-- The measurement y of a sample; `uv` is the voltage on the sense ball in µV. -/
def State.measure (s : State) (k : Nat) (uv : Int) : Int :=
  match s.slotType k with
  | 1 => (s.slot k).speed s.now (s.getI (TRD_Y.Y k))
  | 2 => s.getI (TRD_ENC_POS.POS ((s.slotEnc k).getD 0))
  | 3 => (sarCode uv : Int)
  | 4 => (vspadMv (sarCode uv) : Int)
  | _ => 0

/-! ### The control law (R273, R274) -/

/-- The result of the control law: the output, the integrator, and whether the output was clamped and the integrator held. -/
structure Law where
  u : Nat
  i : Int
  sat : Bool
  hold : Bool
  deriving DecidableEq, Repr

/-- The 32-bit saturation of e and dy, and the 48-bit saturation of i, both at ±(2^(n-1) − 1) (R273). -/
def satSym (n : Nat) (v : Int) : Int := clampI (-(2 ^ (n - 1) - 1 : Int)) (2 ^ (n - 1) - 1) v

/-- The control law of R273 on its inputs. -/
def controlLaw (kp ki kd kf : Int) (shift u0 umin umax : Nat) (r y yPrev i : Int) : Law :=
  let e := satSym 32 (r - y)
  let dy := satSym 32 (y - yPrev)
  let iTry := satSym 48 (i + ki * e)
  let acc := satS 64 (kp * e + iTry + kd * dy + kf * r)
  let v := Int.fdiv acc (2 ^ shift) + u0
  let hi := decide ((umax : Int) < v)
  let lo := !hi && decide (v < umin)
  let hold := (hi && decide (0 < e)) || (lo && decide (e < 0))
  { u := if hi then umax else if lo then umin else v.toNat
    i := if hold then i else iTry
    sat := hi || lo
    hold := hold }

/-- The control law of a slot with the bank in use. -/
def State.slotLaw (s : State) (k : Nat) (r y : Int) : Law :=
  let x := s.slot k
  let l := controlLaw (s.bankGetI k TRD_KP_A.GAIN TRD_KP_B.GAIN) (s.bankGetI k TRD_KI_A.GAIN TRD_KI_B.GAIN)
    (s.bankGetI k TRD_KD_A.GAIN TRD_KD_B.GAIN) (s.bankGetI k TRD_KF_A.GAIN TRD_KF_B.GAIN)
    (s.bankGet k TRD_OUT_A.SHIFT TRD_OUT_B.SHIFT) (s.bankGet k TRD_OUT_A.U0 TRD_OUT_B.U0)
    (s.bankGet k TRD_LIM_A.UMIN TRD_LIM_B.UMIN) (s.bankGet k TRD_LIM_A.UMAX TRD_LIM_B.UMAX) r y x.yPrev x.i
  if k = 7 && decide (35000 < y) then { l with u := 0, i := if 0 < r - y then x.i else l.i } else l

/-! ### Following error (R277 to R279) -/

/-- FE or START_FAIL is latched: its event, the reaction S of a slot with GUARD at 1, and with FE_ACT the stop of the slot. -/
def State.feLatch (s : State) (k : Nat) (f : Fld) (src : Nat) : State :=
  let s := (s.putB f true).raise src 0 0
  let s := if s.flag (TRD_CTL.FE_ACT k) then s.haltSlot k else s
  let s := if s.flag (TRD_CTL.GUARD k) then s.reactS 0x0A else s
  s.renewAngle

/-- The following-error check of a sample with error `e` (R277). -/
def State.feCheck (s : State) (k : Nat) (e ref : Int) : State :=
  let x := s.slot k
  let lim := s.get (TRD_FE.FE_LIM k)
  let moved := lim != 0 && decide ((lim : Int) < (ref - x.refPrev).natAbs)
  let s := if moved && s.flag (TRD_STAT.ARMED k) then s.putB (TRD_STAT.ARMED k) false else s
  let x := if moved then { x with since := s.now, outRun := 0 } else x
  let x := { x with refPrev := ref }
  if lim = 0 then (s.putB (TRD_STAT.ARMED k) false).setSlot k { x with outRun := 0 }
  else
    let inside := decide ((e.natAbs : Int) ≤ lim)
    if !s.flag (TRD_STAT.ARMED k) then
      if inside then (s.putB (TRD_STAT.ARMED k) true).setSlot k { x with outRun := 0 } else s.setSlot k x
    else if inside then s.setSlot k { x with outRun := 0 }
    else
      let n := x.outRun + 1
      let s := s.setSlot k { x with outRun := n }
      if s.get (TRD_FE.FE_N k) ≤ n && !s.flag (TRD_STAT.FE k) then s.feLatch k (TRD_STAT.FE k) 456 else s

/-- CLR_FE and RST_I take effect at the slot's first sample after the write (R290). -/
def State.slotCmds (s : State) (k : Nat) : State :=
  let x := s.slot k
  let s := if x.clrFe then
      (((s.putB (TRD_STAT.FE k) false).putB (TRD_STAT.START_FAIL k) false).putB (TRD_STAT.ARMED k) false).setSlot k
        { x with clrFe := false, halted := false, outRun := 0, since := s.now }
    else s
  let x := s.slot k
  if x.rstI then s.setSlot k { x with rstI := false, i := 0 } else s

/-! ### The bias slot (R286, R287) -/

/-- The target r* in mV (R286). -/
def State.biasTarget (s : State) : Nat :=
  match s.trd.target with
  | some v => v
  | none => s.get TRD_BIAS_CTL.INIT * 100

/-- The reference moves toward the target by at most SLEW × 0.1 V/ms over the sample period, within 20,000 to 35,000 mV; it is
kept in 1/20 mV (R286). -/
def State.biasStep (s : State) (r : Int) : Int :=
  let t : Int := s.biasTarget * 20
  let d : Int := s.get TRD_BIAS_CTL.SLEW * (s.get (TRD_TIM.DIV 7) + 1)
  clampI 400000 700000 (if r < t then min t (r + d) else max t (r - d))

/-- SETTLED after a sample with error `e` (R287). -/
def State.biasSettle (s : State) (e : Int) : State :=
  let x := s.slot 7
  let a := if e.natAbs ≤ 50 then x.inBand + 1 else 0
  let b := if 100 < e.natAbs then x.outBand + 1 else 0
  let s := s.setSlot 7 { x with inBand := min a 64, outBand := min b 4 }
  let s := if 64 ≤ a then s.putB TRD_BIAS_STAT.SETTLED true else s
  if 4 ≤ b then s.putB TRD_BIAS_STAT.SETTLED false else s

/-! ### A sample (R273) -/

/-- A slot begins to run (R268, R273, R279, R286, R289): i is 0, latches are clear, the check is disarmed, and no edge has been
counted. -/
def State.slotStart (s : State) (k : Nat) : State :=
  let s := ((s.putB (TRD_STAT.FE k) false).putB (TRD_STAT.START_FAIL k) false).putB (TRD_STAT.ARMED k) false
  s.setSlot k { s.slot k with
    run := true, i := 0, refPrev := s.getI (TRD_REF.REF k), since := s.now, outRun := 0
    inBand := 0, outBand := 0, lastEdge := none, ivSum := 0, ivCnt := 0 }

/-- The first measurement of a slot (R273, R286): y_prev equals it, and r of the bias slot starts from it. -/
def State.slotFirst (s : State) (k : Nat) (y : Int) : State :=
  s.setSlot k { s.slot k with yPrev := y, r := (max y 20000) * 20 }

/-- The status of a sample: counts and flags of the epoch, and a bank swap that takes effect (R273, R276). -/
def State.sampleStatus (s : State) (k : Nat) (l : Law) : State :=
  let bank := s.flag (TRD_CTL.BANK k)
  let s := if bank != s.flag (TRD_STAT.BANK_ACT k) then
      ((s.putB (TRD_STAT.SWAPPED k) true).putB (TRD_STAT.BANK_ACT k) bank).raise 525 0 (s.slot k).landed
    else s
  let s := (s.putB (TRD_STAT.RUNNING k) true).bump (TRD_STAT.SAMPLES k)
  let s := if l.sat then s.putB (TRD_STAT.SAT k) true else s
  if l.hold then s.putB (TRD_STAT.HOLD k) true else s

/-- The sample of a running slot: reference, control law, output and checks (R273 to R277, R286, R287). -/
def State.slotSample (s : State) (k : Nat) (y : Int) : State :=
  let x := s.slot k
  let rb := s.biasStep x.r
  let r : Int := if k = 7 then Int.fdiv rb 20 else s.getI (TRD_REF.REF k)
  let l := s.slotLaw k r y
  let s := s.setSlot k { x with i := l.i, yPrev := y, r := rb, ivSum := 0, ivCnt := 0 }
  let s := (s.sampleStatus k l).driveSoon k l.u
  let s := s.putI (TRD_Y.Y k) y
  let e := satSym 32 (r - y)
  let s := if k = 7 then
      ((s.biasSettle e).put TRD_BIAS_STAT.REF (r / 10).toNat).put TRD_BIAS_STAT.VSPAD (y / 10).toNat
    else s
  s.feCheck k e (s.getI (TRD_REF.REF k))

/-- TREADLE_SAMPLE: slot `k` samples; `uv` is the voltage on its sense ball (SNS or HV_FB) in µV. Commands take effect first (R290); a
slot that does not run starts, unless FE_ACT has stopped it (R279). -/
def State.treadleSample (s : State) (k : Nat) (uv : Int) : State :=
  if !s.slotMay k then s
  else
    let s := s.slotCmds k
    if (s.slot k).halted then s
    else
      let starts := !(s.slot k).run
      let s := if starts then s.slotStart k else s
      let y := s.measure k uv
      let s := if starts then s.slotFirst k y else s
      (s.slotSample k y).renewAngle

/-- TRD_START: START_TO has passed without the check arming (R278). -/
def State.trdStartFail (s : State) (k : Nat) : State :=
  let limit := s.get (TRD_CTL.START_TO k)
  let x := s.slot k
  if x.run && limit != 0 && s.get (TRD_FE.FE_LIM k) != 0 && !s.flag (TRD_STAT.ARMED k) &&
      !s.flag (TRD_STAT.START_FAIL k) && decide (limit * 100000 * usLsb ≤ s.now - x.since) then
    s.feLatch k (TRD_STAT.START_FAIL k) 457
  else s

/-! ### Encoders (R280 to R282) -/

/-- ENC_ERR or IDX_ERR of encoder `e` is latched, with TRD_ENC (458) where it was not (R282). -/
def State.encLatch (s : State) (f : Fld) (e : Nat) : State :=
  if bit (s.get f) e then s else (s.put f (setBit (s.get f) e true)).raise 458 0 e

/-- A counted edge in the measurement of a SPEED slot (R268). -/
def TrdSlot.edge (x : TrdSlot) (now : Nat) (st : Int) : TrdSlot :=
  let x := match x.lastEdge with
    | some t => { x with ivSum := x.ivSum + (now - t) / sclkLsb, ivCnt := x.ivCnt + 1 }
    | none => x
  { x with lastEdge := some now, dir := st }

/-- A Treadle encoder takes new levels in place of `old` (R280 to R282, R284). -/
def State.trdEncEdge (s : State) (e : Nat) (old : EncIn) (a b z : Bool) : State :=
  let t := (tabGet (fun _ => {}) s.trd.encs e).take old a b z (s.flag (TRD_ENC_CFG.INV e))
  let s := { s with trd := { s.trd with encs := tabSet (fun _ => {}) s.trd.encs e t.enc } }
  let s := if t.illegal then s.encLatch TRD_ENC_STAT.ENC_ERR e else s
  let s := s.putI (TRD_ENC_POS.POS e) (s.getI (TRD_ENC_POS.POS e) + t.step)
  let s := if t.step = 0 then s
    else s.each (List.range 7) (fun s k =>
      if s.slotEnc k = some e && (s.slot k).run then s.setSlot k ((s.slot k).edge s.now t.step) else s)
  let s := if t.index && s.flag (TRD_ENC_CFG.ZEN e) then
      let r := indexRule (bit (s.get TRD_ENC_STAT.INDEXED) e) (s.get (TRD_ENC_CFG.CPR e)) (s.getI (TRD_ENC_POS.POS e))
      let s := s.putI (TRD_ENC_POS.POS e) r.1
      let s := s.put TRD_ENC_STAT.INDEXED (setBit (s.get TRD_ENC_STAT.INDEXED) e true)
      match r.2 with
      | some true => s.put TRD_ENC_STAT.IDX_ERR (setBit (s.get TRD_ENC_STAT.IDX_ERR) e false)
      | some false => s.encLatch TRD_ENC_STAT.IDX_ERR e
      | none => s
    else s
  s.renewAngle

/-- A short pulse on an input of a Treadle encoder (R280). -/
def State.trdEncShort (s : State) (e input : Nat) : State :=
  let (x, err) := (tabGet (fun _ => {}) s.trd.encs e).short input
  let s := { s with trd := { s.trd with encs := tabSet (fun _ => {}) s.trd.encs e x } }
  if err then (s.encLatch TRD_ENC_STAT.ENC_ERR e).renewAngle else s

/-! ### Commands of TRD_CMD (R288, R290) -/

/-- A refused command (R290). -/
def State.trdRefuse (s : State) : State := s.hwUp TRD_ERR.CMD_ERR

/-- CLR_FE of a slot. -/
def State.trdClrFe (s : State) (k : Nat) : State := s.setSlot k { s.slot k with clrFe := true }

/-- RST_I of a slot. -/
def State.trdRstI (s : State) (k : Nat) : State := s.setSlot k { s.slot k with rstI := true }

/-- CLR_HV_OV (R288); `low`: HV_FB has read 1.360 V or less for the last 1 ms. -/
def State.trdClrHvOv (s : State) (low : Bool) : State :=
  let lock := s.flag TRD_BIAS_STAT.HV_OV_LOCK
  if !low || (lock && s.dev.running) then s.trdRefuse
  else
    let s := s.putB TRD_BIAS_STAT.HV_OV false
    let s := if lock then s.putB TRD_BIAS_STAT.HV_OV_LOCK false else s
    { s with trd := { s.trd with ovCleared := some s.now } }

/-- The latches of the axes that decode an encoder are cleared with it (log entry 14). -/
def State.axesClrEnc (s : State) (e : Nat) : State :=
  { s with saf := { s.saf with axes := s.saf.axes.map (fun p =>
      if s.get (SAF_AXIS_CFG.ENC p.1) = e then (p.1, { p.2 with encErr := false, idxErr := false, indexed := false })
      else p) } }

/-- CLR_ENC of an encoder (R281, R290). -/
def State.trdClrEnc (s : State) (e : Nat) : State :=
  let clr := fun (s : State) (f : Fld) => s.put f (setBit (s.get f) e false)
  ((clr (clr (clr s TRD_ENC_STAT.ENC_ERR) TRD_ENC_STAT.IDX_ERR) TRD_ENC_STAT.INDEXED).axesClrEnc e).renewAngle

/-- HV_FB has exceeded 1.420 V for 1 µs (R124, R287, R288, R289): the overvoltage is latched, slot 7 stops with HV_DRV at 0 V, a
second one within 10 s of an accepted clear locks it, and HV_OV (450) is raised. -/
def State.hvOv (s : State) : State :=
  if !s.domOn 123 || s.flag TRD_BIAS_STAT.HV_OV then s
  else
    let s := s.putB TRD_BIAS_STAT.HV_OV true
    let second := match s.trd.ovCleared with
      | some t => decide (s.now - t < 10000000 * usLsb)
      | none => false
    let s := if second then s.putB TRD_BIAS_STAT.HV_OV_LOCK true else s
    (s.stopSlot 7).raise 450 0 0

/-- Where BANK of a slot lands, the epoch of that tick is kept (R34, R276), and the outputs follow R270. `before`: the state before the
landing. -/
def State.trdLanded (s before : State) : State :=
  let s := s.each (List.range 8) (fun s k =>
    if s.flag (TRD_CTL.BANK k) == before.flag (TRD_CTL.BANK k) then s else s.setSlot k { s.slot k with landed := s.epoch })
  if s.domOn 123 then s.slotsFollow.loadPwm [0, 1] s.now else s

/-- The flags of an epoch start again at a tick, and the slots follow R289 (R276, R289). -/
def State.trdTick (s : State) : State :=
  if !s.domOn 123 then s
  else
    let s := s.each (List.range 8) (fun s k =>
      let s := (s.putB (TRD_STAT.RUNNING k) (s.slot k).run).putB (TRD_STAT.SAT k) false
      ((s.putB (TRD_STAT.SWAPPED k) false).putB (TRD_STAT.HOLD k) false).put (TRD_STAT.SAMPLES k) 0)
    s.slotsFollow

/-! ### Commands -/

/-- TREADLE_SAMPLE. -/
def execTreadleSample (dt : Nat) (slot : Fin 8) (uv : Int) (s : State) : Host.Outcome State Fault Refusal :=
  .next ((s.advance dt).treadleSample slot.val uv)

/-- TRD_START. -/
def execTrdStart (dt : Nat) (slot : Fin 8) (s : State) : Host.Outcome State Fault Refusal :=
  .next ((s.advance dt).trdStartFail slot.val)

/-- CLR_FE. -/
def execClrFe (dt : Nat) (slot : Fin 8) (s : State) : Host.Outcome State Fault Refusal :=
  .next ((s.advance dt).hostReg TRD_CMD.addr (fun s => s.trdClrFe slot.val))

/-- RST_I. -/
def execRstI (dt : Nat) (slot : Fin 8) (s : State) : Host.Outcome State Fault Refusal :=
  .next ((s.advance dt).hostReg TRD_CMD.addr (fun s => s.trdRstI slot.val))

/-- CLR_HV_OV. -/
def execClrHvOv (dt : Nat) (low : Bool) (s : State) : Host.Outcome State Fault Refusal :=
  .next ((s.advance dt).hostReg TRD_CMD.addr (fun s => s.trdClrHvOv low))

/-- CLR_ENC. -/
def execClrEnc (dt : Nat) (enc : Fin 8) (s : State) : Host.Outcome State Fault Refusal :=
  .next ((s.advance dt).hostReg TRD_CMD.addr (fun s => s.trdClrEnc enc.val))

/-- HV_OV. -/
def execHvOv (dt : Nat) (s : State) : Host.Outcome State Fault Refusal := .next (s.advance dt).hvOv

end Sys2Proof.Machine
end

