-- ==== Sys2Proof/Machine/Axis.lean ====
section
/-! DEFINITION. Axis monitoring in the safety core (R309 to R313): position, speed, the allowed speed and its ramps, SLS, SLP
and SDI, and the commands that carry encoder edges to their decoder. -/

namespace Sys2Proof.Machine

/-! ### Axes -/

/-- The hidden state of an axis. -/
def State.axis (s : State) (a : Nat) : Axis := tabGet (fun _ => {}) s.saf.axes a

/-- The hidden state of an axis replaced. -/
def State.setAxis (s : State) (a : Nat) (x : Axis) : State :=
  { s with saf := { s.saf with axes := tabSet (fun _ => {}) s.saf.axes a x } }

/-- Longest speed window, 255 × 100 µs. -/
def histSpan : Nat := 25500 * usLsb

/-- The position that held at an instant: after the last taken edge at or before it, else at the start of monitoring
(R310). -/
def posAt (start : Int) (t : Int) : List (Nat × Int) → Int
  | [] => start
  | p :: r => if (p.1 : Int) ≤ t then p.2 else posAt start t r

/-- The positions that a speed window can still reach. -/
def histPrune (now : Nat) : List (Nat × Int) → List (Nat × Int)
  | [] => []
  | p :: r => if p.1 + histSpan ≤ now then [p] else p :: histPrune now r

/-- The speed of an axis in counts/s (R310). -/
def axisSpeed (pos was : Int) (tw : Nat) : Int :=
  Int.tdiv (signed 32 (unsigned 32 (pos - was)) * 1000000) (max 1 tw)

/-- v of an axis now. -/
def State.axisVel (s : State) (a : Nat) : Int :=
  let x := s.axis a
  let tw := s.get (SAF_AXIS_CFG.T_W a) * 100
  let start := match x.hist.getLast? with
    | some p => p.2
    | none => 0
  axisSpeed (s.getI (SAF_AXIS_POS.POS a)) (posAt start ((s.now : Int) - tw * usLsb) x.hist) tw

/-- The allowed speed as a fraction (R311): on the ramp, or VMAX of the class. -/
def Axis.allow (x : Axis) (now vmax : Nat) : Int × Nat :=
  match x.ramp with
  | some r =>
    if now < r.t0 + r.len then
      (r.num * r.len - (r.num - (r.vEnd : Int) * r.den) * ((now - r.t0 : Nat) : Int), r.den * r.len)
    else ((vmax : Int), 1)
  | none => ((vmax : Int), 1)

/-- A limit of the active set for an axis in its class. -/
def State.axisVmax (s : State) (a j : Nat) : Nat :=
  match s.sel.active with
  | some f => f.vmax a j
  | none => 0

/-- The class of an axis becomes `c` (R309, R311). -/
def State.axisClass (s : State) (a c : Nat) : State :=
  let x := s.axis a
  if c = x.cls then s
  else
    let ramp := if x.cls < c then none
      else
        let len := match s.sel.active with
          | some f => f.tdec a c * 1000 * usLsb
          | none => 0
        if len = 0 then none
        else
          let v0 := x.allow s.now (s.axisVmax a x.cls)
          some { num := v0.1, den := v0.2, t0 := s.now, vEnd := s.axisVmax a c, len := len }
    let s := s.setAxis a { x with cls := c, ramp := ramp }
    let s := s.put (SAF_AXIS_STAT.CLASS a) c
    if ramp.isSome then s.putB (SAF_AXIS_STAT.RAMP a) true else s

/-! ### Evaluation (R310, R312, R313) -/

/-- P_ref of a direction that is forbidden, or none while it is permitted (R312). -/
def refNext (permitted : Bool) (ref : Option Int) (pos : Int) (pick : Int → Int → Int) : Option Int :=
  if permitted then none
  else match ref with
    | some r => some (pick r pos)
    | none => some pos

/-- An axis is evaluated (R310, R312, R313): the flags of the epoch, AXIS_LIMIT (459) at each new violation, AXIS_ENC (460) at a
new fault, and the pairs whose mask holds it drop. -/
def State.axisEval (s : State) (a : Nat) : State :=
  let x := s.axis a
  if !x.on then s
  else
    let v := s.axisVel a
    let s := s.putI (SAF_AXIS_VEL.VEL a) v
    let pos := s.getI (SAF_AXIS_POS.POS a)
    let inLim := match s.sel.active with
      | some f => (f.pmin a x.cls, f.pmax a x.cls, f.motion a x.cls)
      | none => (-(2 ^ 31 : Int), 2 ^ 31 - 1, 3)
    let lim := x.allow s.now (s.axisVmax a x.cls)
    let sls := s.sel.active.isSome && decide (lim.1 < (v.natAbs : Int) * lim.2)
    let slp := decide (pos < inLim.1) || decide (inLim.2.1 < pos)
    let rp := refNext (bit inLim.2.2 0) x.refPos pos min
    let rn := refNext (bit inLim.2.2 1) x.refNeg pos max
    let tol : Int := s.get (SAF_AXIS_LIM.SDI_TOL a)
    let exceeds := fun (r : Option Int) (f : Int → Int) => match r with
      | some q => decide (tol < f q)
      | none => false
    let sdi := exceeds rp (fun q => pos - q) || exceeds rn (fun q => q - pos)
    let bounded := decide (-(2 ^ 31 : Int) < inLim.1) || decide (inLim.2.1 < 2 ^ 31 - 1)
    let fault := x.encErr || x.idxErr || (s.flag (SAF_AXIS_CFG.ZEN a) && !x.indexed && bounded)
    let ramp := match x.ramp with
      | some r => if s.now < r.t0 + r.len then some r else none
      | none => none
    let s := s.setAxis a { x with refPos := rp, refNeg := rn, sls := sls, slp := slp, sdi := sdi, fault := fault, ramp := ramp
                                  hist := histPrune s.now x.hist }
    let mark := fun (s : State) (f : Nat → Fld) (b : Bool) => if b then s.putB (f a) true else s
    let s := mark (mark (mark (mark s SAF_AXIS_STAT.SLS sls) SAF_AXIS_STAT.SLP slp) SAF_AXIS_STAT.SDI sdi)
      SAF_AXIS_STAT.FAULT fault
    let fire := fun (s : State) (is was : Bool) (src : Nat) => if is && !was then s.raise src 0 a else s
    let s := fire (fire (fire (fire s sls x.sls 459) slp x.slp 459) sdi x.sdi 459) fault x.fault 460
    if sls || slp || sdi || fault then s.axisDrop a else s

/-- Monitoring of an axis begins when EN lands at 1 and ends when it lands at 0 (R310); the flags of the epoch start again
(at a tick). -/
def State.axisTick (s : State) (a : Nat) : State :=
  let x := s.axis a
  let en := s.flag (SAF_AXIS_CFG.EN a)
  let s := if en && !x.on then
      (s.setAxis a { x with on := true, start := s.now, hist := [(s.now, 0)], encErr := false, idxErr := false
                            indexed := false, refPos := none, refNeg := none }).putI (SAF_AXIS_POS.POS a) 0
    else if !en && x.on then
      s.setAxis a { x with on := false, hist := [], sls := false, slp := false, sdi := false, fault := false, ramp := none }
    else s
  let x := s.axis a
  let s := ((s.putB (SAF_AXIS_STAT.SLS a) x.sls).putB (SAF_AXIS_STAT.SLP a) x.slp).putB (SAF_AXIS_STAT.SDI a) x.sdi
  let s := (s.putB (SAF_AXIS_STAT.FAULT a) x.fault).putB (SAF_AXIS_STAT.INDEXED a) x.indexed
  let running := match x.ramp with
    | some r => decide (s.now < r.t0 + r.len)
    | none => false
  s.putB (SAF_AXIS_STAT.RAMP a) running

/-! ### Decisions (R309) -/

/-- K_a: the smallest zone class over the axis's mask (R309); 0 with no active set, and for every axis in a frame that is taken as
violated. -/
def State.axisZoneClass (s : State) (a : Nat) (cls : Nat → Nat) : Nat :=
  match s.sel.active with
  | none => 0
  | some f => (bitList 64 (f.axisZones a)).foldl (fun k z => min k (cls z)) 7

/-- The effective class after the last m zone classes, the newest first (R309). -/
def nextClass (c : Nat) (ks : List Nat) : Nat :=
  let hi := ks.foldl max 0
  let lo := ks.foldl min 7
  if hi < c then hi else if c < lo then lo else c

/-- An axis takes its zone class at a decision (R309). -/
def State.axisDecide (s : State) (a : Nat) (cls : Nat → Nat) : State :=
  let x := s.axis a
  if !x.on then s
  else
    let ks := (s.axisZoneClass a cls :: x.ks).take 4
    let s := s.setAxis a { x with ks := ks }
    let now := ks.take s.confM
    let s := s.axisClass a (if now.length < s.confM then x.cls else nextClass x.cls now)
    s.axisEval a

/-- On entry to RUN from CONFIGURED or SAFE_STOP every C_a is 0 (R309). -/
def State.axesZero (s : State) : State :=
  s.each (List.range 8) (fun s a =>
    (s.setAxis a { s.axis a with cls := 0, ramp := none }).put (SAF_AXIS_STAT.CLASS a) 0)

/-! ### Encoder inputs of an axis -/

/-- An axis decodes the encoder that its configuration names, unless the resource table gives it to Treadle (R310, R365). -/
def State.axisListens (s : State) (a : Nat) : Bool :=
  (s.axis a).on && !s.encTreadle (s.get (SAF_AXIS_CFG.ENC a))

/-- The decoder of an axis takes new levels in place of `old` (R280, R281, R310), and the axis is evaluated. -/
def State.axisEdge (s : State) (a : Nat) (old : EncIn) (la lb lz : Bool) : State :=
  let x := s.axis a
  let t := x.enc.take old la lb lz (s.flag (SAF_AXIS_CFG.INV a))
  let pos := signed 32 (unsigned 32 (s.getI (SAF_AXIS_POS.POS a) + t.step))
  let idx := t.index && s.flag (SAF_AXIS_CFG.ZEN a)
  let r := indexRule x.indexed (s.get (SAF_AXIS_LIM.CPR a)) pos
  let pos := if idx then r.1 else pos
  let x := { x with enc := t.enc, encErr := x.encErr || t.illegal }
  let x := if idx then { x with indexed := true, idxErr := match r.2 with
    | some ok => !ok
    | none => x.idxErr } else x
  let s := (s.setAxis a { x with hist := (s.now, pos) :: x.hist }).putI (SAF_AXIS_POS.POS a) pos
  (s.putB (SAF_AXIS_STAT.INDEXED a) x.indexed).axisEval a

/-- ENCODER_EDGE: the decoder `who` sees levels that have held for `held` samples; they are taken once they have held for
FILT + 1 (R280). Levels of an encoder that is not assigned, or of a domain that is Off, move no position (log entry 79). -/
def State.encoderEdge (s : State) (who : Nat) (a b z : Bool) (held : Nat) : State :=
  let filt := if who < 8 then s.get (TRD_ENC_CFG.FILT who) else s.get (SAF_AXIS_CFG.FILT (who - 8))
  if held ≤ filt then s
  else
    let old := s.encLevels who
    let s : State := { s with encIn := tabSet (fun _ => {}) s.encIn who ⟨a, b, z⟩ }
    if who < 8 then if s.domOn 123 && s.encTreadle who then s.trdEncEdge who old a b z else s
    else if s.axisListens (who - 8) then s.axisEdge (who - 8) old a b z
    else s

/-- ENCODER_SHORT_PULSE: a level of an input that held for 1 to FILT samples (R280). -/
def State.encoderShort (s : State) (who input held : Nat) : State :=
  if held = 0 then s
  else if who < 8 then
    if s.domOn 123 && s.encTreadle who && held ≤ s.get (TRD_ENC_CFG.FILT who) then s.trdEncShort who input else s
  else
    let k := who - 8
    if s.axisListens k && held ≤ s.get (SAF_AXIS_CFG.FILT k) then
      let x := s.axis k
      let (e, err) := x.enc.short input
      let s := s.setAxis k { x with enc := e, encErr := x.encErr || err }
      if err then s.axisEval k else s
    else s

/-- The axes of a STOPPING pair's mask stand still, or the largest TDEC of class 0 over them has elapsed: the pair turns OFF
(R315). -/
def State.ss1Done (s : State) (p : Nat) : State :=
  if s.pairState p != 3 then s
  else
    let axes := bitList 8 (s.pairMask FieldSet.pairAxes p)
    let still := axes.all (fun a => decide ((s.axisVel a).natAbs ≤ s.get (SAF_AXIS_VSS.VSS a)))
    let tdec := match s.sel.active with
      | some f => axes.foldl (fun t a => max t (f.tdec a 0)) 0
      | none => 0
    if still || decide (tdec * 1000 * usLsb ≤ s.now - (s.pair p).stopAt) then s.pairGo p 0 1 else s

/-! ### Commands -/

/-- ENCODER_EDGE. -/
def execEncoderEdge (dt : Nat) (who : Fin 16) (a b z : Bool) (held : Nat) (s : State) :
    Host.Outcome State Fault Refusal := .next ((s.advance dt).encoderEdge who.val a b z held)

/-- ENCODER_SHORT_PULSE. -/
def execEncoderShortPulse (dt : Nat) (who : Fin 16) (input : Fin 3) (held : Nat) (s : State) :
    Host.Outcome State Fault Refusal := .next ((s.advance dt).encoderShort who.val input.val held)

/-- AXIS_SPEED_EVAL. -/
def execAxisSpeedEval (dt : Nat) (axis : Fin 8) (s : State) : Host.Outcome State Fault Refusal :=
  .next ((s.advance dt).axisEval axis.val)

/-- SS1_STOP_DONE. -/
def execSs1StopDone (dt : Nat) (pair : Fin 2) (s : State) : Host.Outcome State Fault Refusal :=
  .next ((s.advance dt).ss1Done pair.val)

end Sys2Proof.Machine
end

