-- ==== Sys2Proof/Machine/Fuse.lean ====
section
/-! DEFINITION. What the fuse fields read as (R372, R373): an integrator field whose two copies differ reads at its restrictive
value. Values are the staging words joined, word 0 lowest (BEZ_PROG_DATA). -/

namespace Sys2Proof.Machine

/-- The two copies agree. -/
def Fuse2.agree (f : Fuse2) : Bool := f.a == f.b

/-- CEIL (R373): 0 where the copies differ. -/
def Fuses.ceilRead (f : Fuses) : Nat := if f.ceil.agree then f.ceil.a else 0

/-- The fused cap of T_deg in ms (R373): 0 where the copies differ, at most 10,000. -/
def Fuses.degCap (f : Fuses) : Nat := if f.tDegCap.agree then min f.tDegCap.a 10000 else 0

/-- Caps on PERIOD, m and LIM (R373); 0 means none. -/
def Fuses.capPeriod (f : Fuses) : Nat := if f.caps.agree then bitsOf f.caps.a 31 21 else 100
def Fuses.capM (f : Fuses) : Nat := if f.caps.agree then bitsOf f.caps.a 20 18 else 1
def Fuses.capLim (f : Fuses) : Nat := if f.caps.agree then bitsOf f.caps.a 9 0 else 1

/-- ACCESS, KEY_REVOKE and DBG_LOCK: the OR of the copies (R373). -/
def Fuses.accessBits (f : Fuses) : Nat := orN f.access.a f.access.b
def Fuses.revoked (f : Fuses) : Nat := orN f.revoke.a f.revoke.b % 16
def Fuses.dbgLocked (f : Fuses) : Bool := bit (orN f.dbgLock.a f.dbgLock.b) 0

/-- The SVN floor: the number of bits set (R372, R373). -/
def Fuses.svnFloor (f : Fuses) : Nat := popBits 64 (orN f.svn.a f.svn.b)

/-- The copies of a key hash. -/
def Fuses.key (f : Fuses) (k : Nat) : Fuse2 := tabGet (fun _ => {}) f.keys k

/-- A key slot holds a valid hash: not blank, and its copies agree (R373). -/
def Fuses.keyValid (f : Fuses) (k : Nat) : Bool := (f.key k).agree && (f.key k).a != 0

/-- Every integrator field's copies agree. -/
def Fuses.allAgree (f : Fuses) : Bool :=
  f.ceil.agree && f.tDegCap.agree && f.caps.agree && f.access.agree && f.revoke.agree && f.svn.agree &&
    f.dbgLock.agree && (List.range 4).all (fun k => (f.key k).agree)

/-- Window C as it is in effect (R205, R374): bucket period in µs, A_C, and E_CEIL. -/
def Fuses.ceilBkt (f : Fuses) : Nat := bitsOf f.ceilEff 20 0
def Fuses.ceilLim (f : Fuses) : Nat := bitsOf f.ceilEff 79 32
def Fuses.ceilShot (f : Fuses) : Nat := bitsOf f.ceilEff 95 80

/-- A value of window C, or E_CEIL, is 0 (R210). -/
def Fuses.ceilUnset (f : Fuses) : Bool := f.ceilBkt == 0 || f.ceilLim == 0 || f.ceilShot == 0

/-- The fused MPD gain of a group, the on-chip delay D_o of an output in 62.5 ps steps. -/
def Fuses.gain (f : Fuses) (g : Nat) : Nat := tabGet (fun _ => 4096) f.mpdGain g
def Fuses.outDelay (f : Fuses) (o : Nat) : Nat := tabGet (fun _ => 0) f.fireDly o

end Sys2Proof.Machine
end

