-- ==== Sys2Proof/Machine/Bezel.lean ====
section
/-! DEFINITION. Burning fuses and the test port (R372 to R375). -/

namespace Sys2Proof.Machine

/-- The key that a command to the fuse block carries. -/
def fuseKey : Nat := 0xF05E

/-- Results of BEZ_PROG_STAT. -/
def burnOk : Nat := 0
def burnDenied : Nat := 1
def burnNotBlank : Nat := 2
def burnVerifyFail : Nat := 3
def burnBadField : Nat := 4
def burnBusy : Nat := 5
def burnInUse : Nat := 6

/-- A staging word, and the first `n` of them joined, word 0 lowest. -/
def Fuses.stageWord (f : Fuses) (w : Nat) : Nat := tabGet (fun _ => 0) f.stage w
def Fuses.stageVal (f : Fuses) (n : Nat) : Nat := (List.range n).foldr (fun w v => f.stageWord w % 2 ^ 32 + 2 ^ 32 * v) 0

/-- The fields of R372 that BURN knows, with their staging words and the bits that they hold. -/
def burnBits : Nat → Option (Nat × Nat)
  | 0x01 => some (3, 2 ^ 96 - 1 - (2 ^ 32 - 2 ^ 21))
  | 0x02 => some (1, 2 ^ 14 - 1)
  | 0x03 => some (1, 2 ^ 32 - 1 - (2 ^ 18 - 2 ^ 10))
  | 0x04 => some (1, 2 ^ 8 - 1)
  | 0x10 => some (12, 2 ^ 384 - 1)
  | 0x11 => some (12, 2 ^ 384 - 1)
  | 0x12 => some (12, 2 ^ 384 - 1)
  | 0x13 => some (12, 2 ^ 384 - 1)
  | 0x20 => some (1, 1)
  | _ => none

/-- The copies of an integrator field; REVOKE and RAISE_SVN use the numbers 0x30 and 0x31 of this model. -/
def Fuses.field (f : Fuses) (id : Nat) : Fuse2 :=
  match id with
  | 0x01 => f.ceil
  | 0x02 => f.tDegCap
  | 0x03 => f.caps
  | 0x04 => f.access
  | 0x20 => f.dbgLock
  | 0x30 => f.revoke
  | 0x31 => f.svn
  | k => f.key (k - 0x10)

/-- The copies of an integrator field replaced. -/
def Fuses.setField (f : Fuses) (id : Nat) (v : Fuse2) : Fuses :=
  match id with
  | 0x01 => { f with ceil := v }
  | 0x02 => { f with tDegCap := v }
  | 0x03 => { f with caps := v }
  | 0x04 => { f with access := v }
  | 0x20 => { f with dbgLock := v }
  | 0x30 => { f with revoke := v }
  | 0x31 => { f with svn := v }
  | k => { f with keys := tabSet (fun _ => {}) f.keys (k - 0x10) v }

/-- A field is blank: no bit of either copy is burned. -/
def Fuses.blank (f : Fuses) (id : Nat) : Bool := (f.field id).a == 0 && (f.field id).b == 0

/-- RESULT of an action that does not start. -/
def State.burnEnd (s : State) (r : Nat) : State := s.put BEZ_PROG_STAT.RESULT r

/-- A burn of a value into both copies of a field begins. -/
def State.burnStart (s : State) (action id val : Nat) : State :=
  ({ s with fuse := { s.fuse with burn := some (action, id, val) } } : State).putB BEZ_PROG_STAT.BUSY true

/-- MAINTENANCE with the unlock bit set. -/
def State.unlocked (s : State) : Bool := s.dev == .maintenance && s.flag SAF_SEAL.UNLOCK

/-- BOOT with no image loaded and every key slot blank. -/
def State.virgin (s : State) : Bool := s.dev == .boot && !s.img.loaded && [0x10, 0x11, 0x12, 0x13].all s.fuse.blank

/-- BURN of the field in BEZ_PROG_SEL (R374). -/
def State.burn (s : State) (key : Nat) : State :=
  let id := s.get BEZ_PROG_SEL.FIELD
  if key != fuseKey then s
  else if s.flag BEZ_PROG_STAT.BUSY then s.burnEnd burnBusy
  else match burnBits id with
  | none => s.burnEnd burnBadField
  | some (n, mask) =>
    if !(s.virgin || (s.unlocked && !bit s.fuse.accessBits 5)) then s.burnEnd burnDenied
    else if !s.fuse.blank id then s.burnEnd burnNotBlank
    else s.burnStart 1 id (andN (s.fuse.stageVal n) mask)

/-- The key slot that signed the loaded image. -/
def State.usedKey (s : State) : Option Nat := if s.img.loaded then some s.img.keyIdx else none

/-- REVOKE of the key slot in staging word 0 (R374). -/
def State.burnRevoke (s : State) (key : Nat) : State :=
  let k := s.fuse.stageWord 0 % 4
  if key != fuseKey then s
  else if s.flag BEZ_PROG_STAT.BUSY then s.burnEnd burnBusy
  else if !s.unlocked then s.burnEnd burnDenied
  else if s.usedKey == some k then s.burnEnd burnInUse
  else s.burnStart 2 0x30 (2 ^ k)

/-- RAISE_SVN to staging word 0 (R374). -/
def State.burnSvn (s : State) (key : Nat) : State :=
  let n := s.fuse.stageWord 0 % 128
  if key != fuseKey then s
  else if s.flag BEZ_PROG_STAT.BUSY then s.burnEnd burnBusy
  else if !s.unlocked then s.burnEnd burnDenied
  else if 64 < n then s.burnEnd burnBadField
  else s.burnStart 3 0x31 (2 ^ n - 1)

/-- A burn ends (R374): a fuse goes from 0 to 1 and never back; of the bits that the read-back shows in each copy, those of the
value are burned. VERIFY_FAIL where the copies differ. -/
def State.burnDone (s : State) (a b : Nat) : State :=
  match s.fuse.burn with
  | none => s
  | some (_, id, val) =>
    let old := s.fuse.field id
    let new : Fuse2 := ⟨orN old.a (andN a val), orN old.b (andN b val)⟩
    let s := { s with fuse := { s.fuse.setField id new with burn := none } }
    (s.putB BEZ_PROG_STAT.BUSY false).burnEnd (if new.agree then burnOk else burnVerifyFail)

/-- CEIL takes effect at a tick (R374): window C is loaded under R208. -/
def State.ceilTick (s : State) : State := { s with fuse := { s.fuse with ceilEff := s.fuse.ceilRead } }

/-! ### The test port (R375) -/

/-- The code of an instruction in the model's record of the test port. -/
def tapCode : TapInstr → Nat
  | .bypass => 0 | .idcode => 1 | .samplePreload => 2 | .extest => 3 | .extestPulse => 4 | .extestTrain => 5
  | .clamp => 6 | .highz => 7 | .debug => 8

/-- The test port accepts an instruction. -/
def State.tapAccepts (s : State) (i : TapInstr) : Bool :=
  match i with
  | .bypass => true
  | .idcode => true
  | .samplePreload => true
  | .debug => !s.fuse.dbgLocked && s.unlocked
  | _ => s.faultLow

/-- An instruction is loaded, or BYPASS in its place. -/
def State.tapLoad (s : State) (i : TapInstr) : State :=
  if s.tapAccepts i then { s with fuse := { s.fuse with tap := tapCode i } }
  else ({ s with fuse := { s.fuse with tap := 0 } } : State).hwUp BEZ_STAT.TAP_REFUSED

/-- IDCODE of the test port. -/
def idcode : Nat := 0x1864_0F4B

/-- What the test port reads while IDCODE is loaded (R375). -/
def State.tapReads (s : State) : Option Nat := if s.fuse.tap = tapCode .idcode then some idcode else none

/-! ### Commands -/

/-- BURN. -/
def execBurn (dt : Nat) (key : Fin 65536) (s : State) : Host.Outcome State Fault Refusal := .next ((s.advance dt).hostReg BEZ_PROG_CMD.addr (fun s => s.burn key.val))

/-- REVOKE. -/
def execRevoke (dt : Nat) (key : Fin 65536) (s : State) : Host.Outcome State Fault Refusal :=
  .next ((s.advance dt).hostReg BEZ_PROG_CMD.addr (fun s => s.burnRevoke key.val))

/-- RAISE_SVN. -/
def execRaiseSvn (dt : Nat) (key : Fin 65536) (s : State) : Host.Outcome State Fault Refusal :=
  .next ((s.advance dt).hostReg BEZ_PROG_CMD.addr (fun s => s.burnSvn key.val))

/-- BURN_DONE. -/
def execBurnDone (dt : Nat) (copyA copyB : Nat) (s : State) : Host.Outcome State Fault Refusal :=
  .next ((s.advance dt).burnDone copyA copyB)

/-- TAP_INSTRUCTION. -/
def execTapInstruction (dt : Nat) (tap : TapInstr) (s : State) : Host.Outcome State Fault Refusal :=
  .next ((s.advance dt).tapLoad tap)

end Sys2Proof.Machine
end

