-- ==== Sys2Proof/Machine/Staging.lean ====
section
/-! DEFINITION. The staging store of shadowed configuration: RWS fields, the landing order, pending values, and what lands at a
tick (R27 to R36, R556). -/

namespace Sys2Proof.Machine

/-! ### RWS fields -/

/-- A field of the register at an address. -/
def FieldRow.at' (r : FieldRow) (addr : Nat) : Fld := ⟨addr, r.hi, r.lo⟩

/-- The RWS fields of the register at an address that are not reserved (R31). -/
def rwsFields (addr : Nat) : List Fld :=
  match regAt addr with
  | some r => (r.fields.filter (fun f => f.acc == .rws)).map (fun f => f.at' addr)
  | none => []

/-- The field writes that a write of a DWORD makes (R31). -/
def fieldWrites (addr : Nat) (data : Word) : List FieldWrite :=
  (rwsFields addr).map (fun f => ⟨f, wordBits data f.hi f.lo⟩)

/-- A write to a field that already holds a place replaces the earlier one in that place (R30, R31). -/
def putWrite (l : List FieldWrite) (w : FieldWrite) : List FieldWrite :=
  if l.any (fun x => x.fld == w.fld) then l.map (fun x => if x.fld == w.fld then w else x) else l ++ [w]

/-- Writes put one after another. -/
def putWrites (l ws : List FieldWrite) : List FieldWrite := ws.foldl putWrite l

/-- The new places that writes need in a list. -/
def newPlaces (l ws : List FieldWrite) : Nat := (ws.filter (fun w => !l.any (fun x => x.fld == w.fld))).length

/-! ### The store -/

/-- The ungrouped writes pending for the next tick, or those held to the tick after it (R28). -/
def Staging.singles (g : Staging) (late : Bool) : List FieldWrite := (g.single.filter (fun i => i.late == late)).map (fun i => i.w)

/-- The ungrouped writes of one tick replaced. -/
def Staging.setSingles (g : Staging) (late : Bool) (l : List FieldWrite) : Staging :=
  { g with single := g.single.filter (fun i => i.late != late) ++ l.map (fun w => ⟨w, late⟩) }

/-- Places in use (R31). -/
def Staging.used (g : Staging) : Nat :=
  g.single.length + (g.groups.map (fun x => x.writes.length)).foldl (· + ·) 0 +
    (match g.openGrp with | some o => o.writes.length | none => 0)

/-- The precedence of a source among groups that close in one FCLK cycle (R35): the largest prevails. -/
def GroupKind.rank : GroupKind → Nat
  | .fsel => 0
  | .domain _ => 1
  | .image => 1
  | .swap => 1
  | .ring => 2
  | .host _ => 3

/-- A group lands before another of the same tick (R35). -/
def StageGroup.before (a b : StageGroup) : Bool :=
  decide (a.closed < b.closed) || (a.closed == b.closed && decide (a.kind.rank < b.kind.rank))

/-- The closed groups of one tick in landing order. -/
def Staging.ordered (g : Staging) (late : Bool) : List StageGroup :=
  sortBy StageGroup.before (g.groups.filter (fun x => x.late == late))

/-- The writes of one tick in landing order: ungrouped ones first, then the groups (R30, R35). -/
def Staging.due (g : Staging) (late : Bool) : List FieldWrite :=
  g.singles late ++ (g.ordered late).flatMap (fun x => x.writes)

/-- Every staged write outside the open group in landing order (R28, R30, R35). -/
def Staging.landing (g : Staging) : List FieldWrite := g.due false ++ g.due true

/-- Field writes laid over a register store, the later ones prevailing. -/
def overlay (t : Tab Word) (ws : List FieldWrite) : Tab Word := ws.foldl (fun t w => putIn t w.fld w.val) t

/-- The pending value of an RWS field (R556). -/
def State.pendingVal (s : State) (f : Fld) : Nat :=
  let ws := s.stage.landing ++ (match s.stage.openGrp with | some o => o.writes | none => [])
  match (ws.filter (fun w => w.fld == f)).getLast? with
  | some w => w.val
  | none => s.get f

/-- A closed group is the host's. -/
def StageGroup.isHost (g : StageGroup) : Bool :=
  match g.kind with
  | .host _ => true
  | _ => false

/-- The tag of a host group. -/
def StageGroup.tag (g : StageGroup) : Nat :=
  match g.kind with
  | .host t => t
  | _ => 0

/-- Every staged host write, that of the open group included. -/
def Staging.hostWrites (g : Staging) : List FieldWrite :=
  g.single.map (fun i => i.w) ++ (g.groups.filter StageGroup.isHost).flatMap (fun x => x.writes) ++
    (match g.openGrp with | some o => o.writes | none => [])

/-- A host write of the register at an address is staged. -/
def State.hostStaged (s : State) (addr : Nat) : Bool := s.stage.hostWrites.any (fun w => w.fld.addr == addr)

/-- OPEN, PEND and COUNT follow the store (R36). -/
def State.showStage (s : State) : State :=
  let s := s.putB GLB_SHADOW_STAT.OPEN s.stage.openGrp.isSome
  let s := s.putB GLB_SHADOW_STAT.PEND (!s.stage.hostWrites.isEmpty)
  s.put GLB_SHADOW_CNT.COUNT (match s.stage.openGrp with | some o => o.writes.length | none => 0)

/-- The store replaced, with its status. -/
def State.setStage (s : State) (g : Staging) : State := ({ s with stage := g } : State).showStage

/-! ### A candidate for the checks of R32 -/

/-- What R32 checks: the values in force once it has landed, whether the host wrote it, the registers it addresses, its own writes, and
the values that would be in force without them. -/
structure Cand where
  regs : Tab Word
  host : Bool
  addrs : List Nat
  own : List FieldWrite := []
  base : Tab Word := []
  deriving DecidableEq, Repr

/-- The value that a field will have. -/
def Cand.get (c : Cand) (f : Fld) : Nat := getIn c.regs f

/-- The value that a flag will have. -/
def Cand.flag (c : Cand) (f : Fld) : Bool := c.get f != 0

/-- The value that the candidate's own writes give a field, if they write it. -/
def Cand.wrote (c : Cand) (f : Fld) : Option Nat := ((c.own.filter (fun w => w.fld == f)).getLast?).map (fun w => w.val)

/-- The value that its own writes leave a field with. -/
def Cand.ownGet (c : Cand) (f : Fld) : Nat := (c.wrote f).getD (getIn c.base f)

/-- The candidate addresses the register. -/
def Cand.has (c : Cand) (addr : Nat) : Bool := c.addrs.contains addr

/-- The candidate addresses the register of a field. -/
def Cand.hits (c : Cand) (f : Fld) : Bool := c.has f.addr

/-- The addresses of a list of writes, each once. -/
def addrsOf (ws : List FieldWrite) : List Nat :=
  ws.foldl (fun l w => if l.contains w.fld.addr then l else l ++ [w.fld.addr]) []

/-- The candidate that the store makes with `g` in it, for the writes `ws` (R32), which the store does not hold yet. -/
def State.candOf (s : State) (g : Staging) (host : Bool) (ws : List FieldWrite) : Cand :=
  ⟨overlay s.regs g.landing, host, addrsOf ws, ws, overlay s.regs s.stage.landing⟩

/-! ### Landing -/

/-- What lands at the tick that comes: the writes, and the tag of the last host group or 0 for ungrouped writes alone
(R36). -/
def Staging.hostTag (g : Staging) : Option Nat :=
  match ((g.ordered false).filter StageGroup.isHost).getLast? with
  | some x => some x.tag
  | none => if (g.singles false).isEmpty then none else some 0

/-- The store after a tick: what was held back by R28 is due at the next one. -/
def Staging.afterTick (g : Staging) : Staging :=
  { g with
    single := (g.single.filter (fun i => i.late)).map (fun i => { i with late := false })
    groups := (g.groups.filter (fun x => x.late)).map (fun x => { x with late := false }) }

/-- A domain that has woken waits for its records to land (R87). -/
def State.awaitsGroup (s : State) (d : Nat) : Bool := s.stage.groups.any (fun g => g.kind == GroupKind.domain d)

/-- The kinds of the groups that land at the coming tick. -/
def Staging.landKinds (g : Staging) : List GroupKind := (g.ordered false).map (fun x => x.kind)

/-- The registers whose writes land at the coming tick. Those of a domain that is Off have no effect (R81). -/
def State.landingAddrs (s : State) : List Nat :=
  addrsOf ((s.stage.due false).filter (fun w => s.domOn (blockDomain w.fld.addr)))

/-- The staged writes that are due become effective at a tick that opens an epoch (R27, R36). LAND_EPOCH and LAND_TAG tell of a host group
also where all its writes fall away with their domain (DESIGN CHOICE; log entry 26). -/
def State.landStage (s : State) (epoch : Nat) : State :=
  let ws := (s.stage.due false).filter (fun w => s.domOn (blockDomain w.fld.addr))
  let tag := s.stage.hostTag
  let s : State := { s with regs := overlay s.regs ws }
  let s := match tag with
    | some t => (s.put GLB_CFG_LAND_EPOCH.EPOCH epoch).put GLB_SHADOW_STAT.LAND_TAG t
    | none => s
  s.setStage s.stage.afterTick

end Sys2Proof.Machine
end

