-- ==== Sys2Proof/Machine/Link.lean ====
section
/-! DEFINITION. The LINK record (R435, R464), and the hidden state of lanes and ports by number. -/

namespace Sys2Proof.Machine

/-! ### The LINK record (R435, R464) -/

/-- The record that stands for an image without one: quads 0 and 1 PCIe, quads 2 and 3 HRL at 25.78125 Gbit/s, port 0 on lanes 8
to 11 and port 1 on lanes 12 to 15. -/
def linkDefault : List Nat := [0x0606_0101, 0x8082_0000, 0x80C2_0000]

/-- A word of a LINK record. -/
def linkIn (l : List Nat) (i : Nat) : Nat := nth (if l.isEmpty then linkDefault else l) i 0

/-- A word of the LINK record in effect. -/
def State.linkWord (s : State) (i : Nat) : Nat := linkIn s.img.cfg.link i

/-- Mode (0 OFF, 1 PCIe, 2 HRL) and rate of a quad. -/
def quadModeIn (l : List Nat) (q : Nat) : Nat := bitsOf (linkIn l 0) (8 * q + 1) (8 * q)
def quadRateIn (l : List Nat) (q : Nat) : Nat := bitsOf (linkIn l 0) (8 * q + 3) (8 * q + 2)

/-- The fields of a port. -/
def portValid (l : List Nat) (p : Nat) : Bool := bit (linkIn l (1 + p)) 31
def portCellIn (l : List Nat) (p : Nat) : Bool := bit (linkIn l (1 + p)) 30
def portDozeEn (l : List Nat) (p : Nat) : Bool := bit (linkIn l (1 + p)) 29
def portDeepEn (l : List Nat) (p : Nat) : Bool := bit (linkIn l (1 + p)) 28
def portPeer (l : List Nat) (p : Nat) : Nat := bitsOf (linkIn l (1 + p)) 27 24
def portFirst (l : List Nat) (p : Nat) : Nat := bitsOf (linkIn l (1 + p)) 23 20
def portWidth (l : List Nat) (p : Nat) : Nat := bitsOf (linkIn l (1 + p)) 19 15

/-- The physical lanes of a port. -/
def portLanesIn (l : List Nat) (p : Nat) : List Nat :=
  if portValid l p then (List.range (portWidth l p)).map (fun i => portFirst l p + i) else []

/-- The ports. -/
def allPorts : List Nat := List.range 16

/-- Shuttle channel `c` is stream-link: its class and port. -/
def streamV (l : List Nat) (c : Nat) : Bool := bit (nth l (17 + c) 0) 31
def streamClass (l : List Nat) (c : Nat) : Nat := if bit (nth l (17 + c) 0) 30 then 3 else 1
def streamPort (l : List Nat) (c : Nat) : Nat := bitsOf (nth l (17 + c) 0) 3 0

/-- A record breaks R464 (0x71). -/
def linkBad (l : List Nat) : Bool :=
  let lanes := allPorts.flatMap (portLanesIn l)
  l.length != 81 ||
    (quadModeIn l 1 == 1 && quadModeIn l 0 != 1) || quadModeIn l 2 == 1 || quadModeIn l 3 == 1 ||
    [0, 1, 2, 3].any (fun q => quadModeIn l q == 3 || quadRateIn l q == 3 || (quadModeIn l q != 2 && quadRateIn l q != 0)) ||
    allPorts.any (fun p => portValid l p && (portWidth l p == 0 || decide (16 < portWidth l p) ||
      (portLanesIn l p).any (fun n => decide (15 < n) || quadModeIn l (n / 4) != 2 ||
        quadRateIn l (n / 4) != quadRateIn l (portFirst l p / 4)))) ||
    (List.range 16).any (fun n => decide (1 < (lanes.filter (fun m => m == n)).length)) ||
    (List.range 64).any (fun c => streamV l c && !portValid l (streamPort l c)) ||
    andNotN 32 (nth l 0 0) 0x0F0F_0F0F != 0 ||
    allPorts.any (fun p => bitsOf (nth l (1 + p) 0) 14 0 != 0) ||
    (List.range 64).any (fun c => bitsOf (nth l (17 + c) 0) 29 4 != 0)

/-- A cell port, or one with a lane marked in ROUTE word 97 (`lanes`), has DOZE_EN or DEEP_EN (R462, 0x72). -/
def linkDozeBad (l : List Nat) (lanes : Nat) : Bool :=
  allPorts.any (fun p => (portCellIn l p || (portLanesIn l p).any (bit lanes)) && portValid l p &&
    (portDozeEn l p || portDeepEn l p))

/-! ### Lanes and ports -/

def State.lane (s : State) (n : Nat) : Lane := tabGet (fun _ => {}) s.lnk.lanes n
def State.setLane (s : State) (n : Nat) (x : Lane) : State :=
  { s with lnk := { s.lnk with lanes := tabSet (fun _ => {}) s.lnk.lanes n x } }
def State.port (s : State) (p : Nat) : LnkPort := tabGet (fun _ => {}) s.lnk.ports p
def State.setPort (s : State) (p : Nat) (x : LnkPort) : State :=
  { s with lnk := { s.lnk with ports := tabSet (fun _ => {}) s.lnk.ports p x } }

/-- State code of a lane (R440). -/
def State.laneState (s : State) (n : Nat) : Nat := s.get (LNK_LANE_STAT.STATE n)

def laneDisabled : Nat := 0
def laneDetect : Nat := 1
def lanePolarity : Nat := 2
def laneAdapt : Nat := 3
def laneId : Nat := 4
def laneBond : Nat := 5
def laneActive : Nat := 6
def laneDoze : Nat := 7
def laneDeep : Nat := 8
def laneBackoff : Nat := 9
def lanePcie : Nat := 10

/-- The physical lanes of a port in the record in effect. -/
def State.portLanes (s : State) (p : Nat) : List Nat := portLanesIn s.img.cfg.link p

/-- The port of a lane. -/
def State.portOf (s : State) (n : Nat) : Option Nat := allPorts.find? (fun p => (s.portLanes p).contains n)

/-- The ACTIVE lanes of a port. -/
def State.activeLanes (s : State) (p : Nat) : List Nat := (s.portLanes p).filter (fun n => s.laneState n == laneActive)

/-- A lane of an HRL quad. -/
def State.hrlLane (s : State) (n : Nat) : Bool := quadModeIn s.img.cfg.link (n / 4) == 2

end Sys2Proof.Machine
end

