-- ==== Sys2Proof/Machine/Wire.lean ====
section
/-! DEFINITION. Picks on the wire: sync headers and the scrambler (R438), control picks (R439), the striping of a port's stream over its
lanes (R447), and control columns with the IDLE picks before them (R449). -/

namespace Sys2Proof.Machine

/-- The TRAIN pick that a lane sends in a training state (R439 to R442): PRESET is the one on trial, then the best. -/
def State.trainPick (s : State) (n : Nat) : Nat :=
  let x := s.lane n
  let preset := if s.laneState n = laneAdapt ∧ x.preset ≤ 10 then x.preset else s.get (LNK_LANE_STAT.PRESET n)
  0x2D + n * 2 ^ 8 + s.laneState n * 2 ^ 12 + preset * 2 ^ 16 + x.fom * 2 ^ 20 + b2n x.done * 2 ^ 28 +
    s.fuse.unitId % 2 ^ 32 * 2 ^ 32

/-- The FLOAT, IDLE and DOZE picks (R439). -/
def floatPick : Nat := 0x1E
def idlePick : Nat := 0x5A
def dozePick (ack : Bool) : Nat := 0x0F + b2n ack * 2 ^ 8

/-- The sync header of a control pick and of a data pick (R438). -/
def syncHeader (ctl : Bool) : Nat := if ctl then 2 else 1

/-- The self-synchronous scrambler of payload bits in wire order (R438): `h` holds the 58 bits sent last, the latest first. -/
def scramble : List Bool → List Bool → List Bool
  | _, [] => []
  | h, b :: r =>
    let o := b ^^ (nth h 38 false ^^ nth h 57 false)
    o :: scramble ((o :: h).take 58) r

/-- Bits as a number, the least significant first. -/
def natOfBits (l : List Bool) : Nat := l.foldr (fun b n => b2n b + 2 * n) 0

/-- A payload as it goes on the wire, after the 58 bits in `h`, and the 58 bits that then went last (R438). -/
def scramblePick (h payload : Nat) : Nat × Nat :=
  let o := scramble ((List.range 58).map (bit h)) ((List.range 64).map (bit payload))
  (natOfBits o, natOfBits (o.reverse.take 58))

/-- A pick goes out on a lane. -/
def State.lineSend (s : State) (n : Nat) (ctl : Bool) (payload : Nat) : State :=
  let (o, h) := scramblePick (tabGet (fun _ => 0) s.wire.sent n) payload
  ({ s with wire := { s.wire with sent := tabSet (fun _ => 0) s.wire.sent n h } } : State).emit (.pick n (syncHeader ctl) o)

/-- The lanes of a port's mask in ascending logical order (R447). -/
def State.txLanes (s : State) (p : Nat) : List Nat :=
  let l := bitList 16 (s.get (LNK_PORT_STAT.ACTIVE p))
  (List.range 16).flatMap (fun k => l.filter (fun n => s.get (LNK_LANE_STAT.LLANE n) == k))

/-- The index of the next pick of a port's stream. -/
def State.streamIndex (s : State) (p : Nat) : Nat := tabGet (fun _ => 0) s.wire.index p

/-- The index of the next pick of a port's stream set. -/
def State.setIndex (s : State) (p j : Nat) : State :=
  { s with wire := { s.wire with index := tabSet (fun _ => 0) s.wire.index p j } }

/-- A port sends again. Since its last picks it has sent IDLE, or TRAIN on its lanes: how many, and what its scramblers have come to hold,
is open (log entry 99). -/
def State.lineGap (s : State) (p : Nat) : State :=
  if tabGet (fun _ => none) s.wire.last p = some s.now then s
  else
    { s with wire := {
      index := tabMod (fun _ => 0) s.wire.index p (· + Config.idlePicks p s.now)
      last := tabSet (fun _ => none) s.wire.last p (some s.now)
      sent := (portLanesIn s.img.cfg.link p).foldl (fun t n => tabSet (fun _ => 0) t n (Config.lineBits n s.now).toNat) s.wire.sent } }

/-- The next pick of a port's stream goes on the lane that its index gives, numbered in the mask (R447); a lane that has left ACTIVE
since the last align column does not carry it. -/
def State.streamPick (s : State) (p : Nat) (ctl : Bool) (payload : Nat) : State :=
  let a := s.txLanes p
  let j := s.streamIndex p
  let n := nth a (j % a.length) 0
  let s := s.setIndex p (j + 1)
  if !a.isEmpty && s.laneState n == laneActive then s.lineSend n ctl payload else s

/-- The lanes of a port's mask that are ACTIVE: those of a control column (R449). -/
def State.columnLanes (s : State) (p : Nat) : List Nat := (s.txLanes p).filter (fun n => s.laneState n == laneActive)

/-- Picks of a port's stream, control or data, one after another. -/
def State.sendStream (s : State) (p : Nat) (l : List (Bool × Nat)) : State :=
  (s.lineGap p).each l (fun s x => s.streamPick p x.1 x.2)

/-- A control column: one control pick on each of the lanes, from a stream index that is a multiple of the lanes of the mask, after IDLE
picks up to it (R449). -/
def State.sendColumn (s : State) (p : Nat) (lanes : List Nat) (pick : Nat → Nat) : State :=
  let s := s.lineGap p
  let w := (s.txLanes p).length
  let s := s.each (List.replicate ((w - s.streamIndex p % w) % w) idlePick) (fun s x => s.streamPick p true x)
  (s.setIndex p (s.streamIndex p + w)).each lanes (fun s n => s.lineSend n true (pick n))

end Sys2Proof.Machine
end

