-- ==== Sys2Proof/Machine/Lane.lean ====
section
/-! DEFINITION. Serial lanes: quads and references, the lane states and training, ports, lane order, align columns,
Doze and Deep (R434 to R450, R457, R460 to R462, R464, R465). -/

namespace Sys2Proof.Machine

/-! ### Lanes (R440, R461, R465) -/

/-- The reference of a quad is present, and PLL-T lets it be measured. -/
def State.quadRefOk (s : State) (q : Nat) : Bool := bit s.lnk.sref q && s.flag CLK_STAT.PLLT_LOCK

/-- The transmit PLL of a quad is locked: it has its reference, and its lanes have not all turned theirs off in DEEP (R461, log entry
92). -/
def State.quadPll (s : State) (q : Nat) : Bool :=
  s.quadRefOk q && !(List.range 4).all (fun i => (s.lane (4 * q + i)).pllOff)

/-- A lane enters a state: the work of the step before is forgotten, a new state raises LANE_STATE, and RETRAIN clears on
leaving ACTIVE or BACKOFF (R440, R465). -/
def State.laneGo (s : State) (n st : Nat) : State :=
  let old := s.laneState n
  let x := s.lane n
  let x : Lane :=
    if st = laneDoze || st = laneDeep || old = laneDoze || old = laneDeep then
      { x with kept := st == lanePolarity, pllOff := st == laneDeep }
    else if st = laneActive then { x with done := false, pdone := false, kept := false }
    else if st = laneBond then { x with done := !x.held, pdone := false }
    else if st = lanePolarity then { kept := x.kept, fom := x.fom, txPreset := x.txPreset }
    else if st = laneDetect || st = laneDisabled || st = laneBackoff then {}
    else { x with done := false, pdone := false, preset := 0, best := none }
  let s := (s.setLane n x).put (LNK_LANE_STAT.STATE n) st
  let s := if old = laneActive || old = laneBackoff then s.putB (LNK_LANE_CTL.RETRAIN n) false else s
  let s := if st = laneActive then s.put (LNK_LANE_STAT.FAILS n) 0 else s
  let s := if st = laneDeep || old = laneDeep then s.putB (LNK_QUAD.PLL_LOCK (n / 4)) (s.quadPll (n / 4)) else s
  if st = old then s else s.raise (480 + 2 * n) st 0

/-- LANE_ERR of a lane with a cause (R465). -/
def State.laneErr (s : State) (n cause : Nat) : State := s.raise (481 + 2 * n) cause 0

/-! ### References (R437) -/

/-- REF_OK and PLL_LOCK of the HRL quads follow their references. A quad whose lanes come to be held for want of its reference raises
LANE_ERR with cause REF_LOSS on each of them (R107, R437). -/
def State.showQuads (s : State) : State :=
  s.each [0, 1, 2, 3] (fun s q =>
    if quadModeIn s.img.cfg.link q = 2 then
      let ok := s.quadRefOk q
      let s := (s.putB (LNK_QUAD.REF_OK q) ok).putB (LNK_QUAD.PLL_LOCK q) (s.quadPll q)
      let s := if ok || bit s.lnk.refHeld q then s else s.each [0, 1, 2, 3] (fun s i => s.laneErr (4 * q + i) 5)
      { s with lnk := { s.lnk with refHeld := setBit s.lnk.refHeld q (!ok) } }
    else { s with lnk := { s.lnk with refHeld := setBit s.lnk.refHeld q false } })

/-- The lane's domain and the engine are On and configured (R87). -/
def State.laneReady (s : State) (n : Nat) : Bool :=
  s.domOn (96 + n) && s.domOn 133 && !s.awaitsGroup (96 + n) && !s.awaitsGroup 133

/-- A lane may run: an HRL quad, lane domain and engine On, enabled, with its reference. -/
def State.laneMay (s : State) (n : Nat) : Bool :=
  s.hrlLane n && s.laneReady n && !s.flag (LNK_LANE_CTL.DISABLE n) && s.quadRefOk (n / 4)

/-- Lanes that may not run are DISABLED, and those that may leave DISABLED for DETECT; a lane of a PCIe quad is in PCIE. -/
def State.lanesCheck (s : State) : State :=
  if !s.domOn 133 then s
  else
    (s.showQuads).each (List.range 16) (fun s n =>
      let st := s.laneState n
      if quadModeIn s.img.cfg.link (n / 4) = 1 then
        let want := if s.laneReady n then lanePcie else laneDisabled
        if st = want then s else s.laneGo n want
      else if s.laneMay n then (if st = laneDisabled || st = lanePcie then s.laneGo n laneDetect else s)
      else if st = laneDisabled then s else s.laneGo n laneDisabled)

/-- PORT of every lane, and the quads' modes and rates, as the LINK record gives them (R435). -/
def State.showLink (s : State) : State :=
  let s := s.each [0, 1, 2, 3] (fun s q =>
    (s.put (LNK_QUAD.MODE q) (quadModeIn s.img.cfg.link q)).put (LNK_QUAD.RATE q) (quadRateIn s.img.cfg.link q))
  s.each (List.range 16) (fun s n => s.put (LNK_LANE_STAT.PORT n) ((s.portOf n).getD 0))

/-- The LINK record of a loaded image takes effect: every quad whose mode or rate changes retrains from DISABLED
(R435). -/
def State.applyLink (s : State) (l : List Nat) : State :=
  let old := s.img.cfg.link
  let changed := [0, 1, 2, 3].filter (fun q =>
    quadModeIn old q != quadModeIn l q || quadRateIn old q != quadRateIn l q)
  let s := { s with img := { s.img with cfg := { s.img.cfg with link := l } } }
  if !s.domOn 133 then s
  else
    let s := s.each ((List.range 16).filter (fun n => changed.contains (n / 4) && s.laneState n != laneDisabled))
      (fun s n => s.laneGo n laneDisabled)
    s.showLink.lanesCheck

/-! ### Training (R440 to R446) -/

/-- The partner's lanes rise with the local ones (false), or fall (true), among lanes of a port with known PLANE; none: one lane
alone does not tell. -/
def State.orderOf (s : State) (l : List Nat) : Option Bool :=
  match l with
  | a :: b :: _ => some (decide ((s.get (LNK_LANE_STAT.PPLANE b)) < s.get (LNK_LANE_STAT.PPLANE a)))
  | _ => none

/-- The lanes of a port that have bonded, ascending; Doze and Deep keep the bond (R445, R460). -/
def State.bondedLanes (s : State) (p : Nat) : List Nat :=
  (s.portLanes p).filter (fun n => [laneBond, laneActive, laneDoze, laneDeep].contains (s.laneState n) && !(s.lane n).held)

/-- PLANE of a lane keeps the order of a port. -/
def State.orderKept (s : State) (l : List Nat) (n : Nat) : Bool :=
  let pl := fun m => s.get (LNK_LANE_STAT.PPLANE m)
  match s.orderOf l with
  | some rev => l.all (fun m => if m < n then (decide (pl n < pl m) == rev) && pl n != pl m
      else (decide (pl m < pl n) == rev) && pl n != pl m)
  | none => l.all (fun m => pl m != pl n)

/-- Logical lane numbers follow the physical order of the unit with the lower UNIT_ID (R445). -/
def State.showLogical (s : State) (p : Nat) : State :=
  let w := portWidth s.img.cfg.link p
  let rev := s.flag (LNK_PORT_STAT.REV p) && decide (s.get (LNK_PORT_UNIT.UNIT p) < s.fuse.unitId % 2 ^ 32)
  s.each ((s.portLanes p).zipIdx) (fun s q => s.put (LNK_LANE_STAT.LLANE q.1) (if rev then w - 1 - q.2 else q.2))

/-- A lane completes LANE_ID: it bonds with the partner of its port, or is held out with MAP_ERR (R445). -/
def State.laneBonds (s : State) (n : Nat) : State :=
  match s.portOf n with
  | none => s.laneGo n laneBond
  | some p =>
    let l := s.bondedLanes p
    let x := s.lane n
    let bad := !l.isEmpty && (x.uid != s.get (LNK_PORT_UNIT.UNIT p) || !s.orderKept l n)
    let s := if l.isEmpty then (s.put (LNK_PORT_UNIT.UNIT p) x.uid).putB (LNK_PORT_STAT.REV p) false else s
    if bad then ((s.setLane n { x with held := true }).laneErr n 4).laneGo n laneBond
    else
      let s := s.laneGo n laneBond
      let s := match s.orderOf (s.bondedLanes p) with
        | some r => s.putB (LNK_PORT_STAT.REV p) r
        | none => s
      s.showLogical p

/-- The training step of a lane completes when its own work is done and DONE of its partner received (R441). -/
def State.laneAdvance (s : State) (n : Nat) : State :=
  let x := s.lane n
  if !(x.done && x.pdone) then s
  else
    match s.laneState n with
    | 2 => s.laneGo n (if x.kept then laneId else laneAdapt)
    | 3 => s.laneGo n laneId
    | 4 => s.laneBonds n
    | 5 => if x.held then s else s.laneGo n laneActive
    | _ => s

/-- LANE_DETECT_PROBE (R440). -/
def State.laneProbe (s : State) (n : Nat) (found : Bool) : State :=
  if s.laneState n = laneDetect && found then s.laneGo n lanePolarity else s

/-- A lane trains. -/
def State.laneTrains (s : State) (n : Nat) : Bool := decide (2 ≤ s.laneState n) && decide (s.laneState n ≤ 5)

/-- Block lock is gained or lost (R441, R444). -/
def State.laneLock (s : State) (n : Nat) (gained inverted : Bool) (bad : Nat) : State :=
  if !(s.laneTrains n || s.laneState n == laneActive) then s
  else
    let s := s.addSat (LNK_LANE_CNT.SH_ERR n) bad
    let x := s.lane n
    if gained then
      let s := s.setLane n { x with lock := true, done := x.done || s.laneState n == lanePolarity }
      let s := if inverted && s.laneState n == lanePolarity then s.putB (LNK_LANE_STAT.POL_INV n) true else s
      s.laneAdvance n
    else if !x.lock then s
    else
      let s := (s.bump (LNK_LANE_CNT.LOCK_LOSS n)).setLane n
        { x with lock := false, done := x.done && s.laneState n != lanePolarity }
      if s.laneState n = laneActive then (s.laneErr n 2).laneGo n lanePolarity else s

/-- A preset hold of ADAPT ends with a figure of merit (R442). -/
def State.laneFom (s : State) (n fom : Nat) : State :=
  let x := s.lane n
  if s.laneState n != laneAdapt || decide (10 < x.preset) then s
  else
    let best := match x.best with
      | some (f, p) => if f < fom then (fom, x.preset) else (f, p)
      | none => (fom, x.preset)
    let last := x.preset == 10
    let s := s.setLane n { x with
      best := some best, fom := fom, preset := x.preset + 1, done := last && decide (s.get LNK_CFG.FOM_MIN ≤ best.1) }
    if last then ((s.put (LNK_LANE_STAT.PRESET n) best.2).put (LNK_LANE_STAT.FOM n) best.1).laneAdvance n else s

/-- The partner's TRAIN picks take the port of a lane out of Doze or Deep (R460, R461). -/
def State.portWakes (s : State) (n : Nat) : State :=
  match s.portOf n with
  | some p => (s.put (LNK_PORT_STAT.PWR p) 0).setPort p { s.port p with dozeSent := false }
  | none => s

/-- A TRAIN pick is received (R439, R441, R444, R445, R460, R461): a training lane takes the transmit preset that it requests. -/
def State.laneTrain (s : State) (n plane step : Nat) (done : Bool) (r : TrainRest) : State :=
  let st := s.laneState n
  if st = laneActive then s.laneGo n lanePolarity
  else if st = laneDeep then (s.laneGo n lanePolarity).portWakes n
  else if st = laneDoze then (s.laneGo n laneActive).portWakes n
  else if s.laneTrains n then
    let x := s.lane n
    let s := s.put (LNK_LANE_STAT.PPLANE n) plane
    let x := { x with pdone := x.pdone || (done && step == st), txPreset := r.preset.val, pfom := r.fom.val }
    let x := if st = laneId then { x with uid := r.uid.toNat, done := true } else x
    (s.setLane n x).laneAdvance n
  else s

/-- The step timer of a lane expires (R443). -/
def State.laneStepOut (s : State) (n : Nat) : State := if s.laneTrains n then s.laneGo n lanePolarity else s

/-- The 24 ms limit of a lane passes (R443). -/
def State.laneTrainOut (s : State) (n : Nat) : State :=
  if s.laneTrains n then
    let s := (s.laneErr n 1).bump (LNK_LANE_STAT.FAILS n)
    (s.bump (LNK_LANE_CNT.TRAIN_FAIL n)).laneGo n laneBackoff
  else s

/-- BACKOFF of a lane ends (R443). -/
def State.laneBackoffEnd (s : State) (n : Nat) : State := if s.laneState n = laneBackoff then s.laneGo n laneDetect else s

/-- An ACTIVE lane returns to POLARITY (R444). -/
def State.laneRetrain (s : State) (n : Nat) : State := if s.laneState n = laneActive then s.laneGo n lanePolarity else s

/-- Every lane of a port retrains (R454, R455). -/
def State.portRetrain (s : State) (p : Nat) : State := s.each (s.portLanes p) State.laneRetrain

/-- A write of 1 to RETRAIN (R8, R443, R444): the bit sets, to clear when the lane leaves ACTIVE or BACKOFF, k is 0, and an ACTIVE lane
retrains. -/
def State.laneRetrainCmd (s : State) (n : Nat) : State :=
  ((s.put (LNK_LANE_STAT.FAILS n) 0).putB (LNK_LANE_CTL.RETRAIN n) true).laneRetrain n

/-- A write of LNK_LANE_CTL. -/
def State.laneCtl (s : State) (n : Nat) (disable retrain : Bool) : State :=
  let s := (s.putB (LNK_LANE_CTL.DISABLE n) disable).lanesCheck
  if retrain then s.laneRetrainCmd n else s

/-- A reference is lost or returns (R437). -/
def State.srefChange (s : State) (q : Nat) (ok : Bool) : State :=
  ({ s with lnk := { s.lnk with sref := setBit s.lnk.sref q ok } } : State).lanesCheck

/-! ### Ports (R447 to R449, R457) -/

/-- A port is UP. -/
def State.portUp (s : State) (p : Nat) : Bool := s.flag (LNK_PORT_STAT.UP p)

/-- A port carries flits: UP, and neither in Doze nor in Deep. -/
def State.portRuns (s : State) (p : Nat) : Bool :=
  s.domOn 133 && s.portUp p && s.get (LNK_PORT_STAT.PWR p) == 0 && !(s.activeLanes p).isEmpty

/-- The lanes on which a port sends, with WIDTH; a change of the count raises PORT_WIDTH. -/
def State.setActive (s : State) (p : Nat) (l : List Nat) : State :=
  let was := s.get (LNK_PORT_STAT.WIDTH p)
  let s := (s.put (LNK_PORT_STAT.ACTIVE p) (maskOf 16 (fun n => l.contains n))).put (LNK_PORT_STAT.WIDTH p) l.length
  if was = l.length then s else s.raise 562 0 p

/-- The receive buffer of a class, in picks (R452). -/
def classBuffer : Nat → Nat
  | 0 => 128 | 1 => 4096 | 2 => 1024 | _ => 512

/-- A BOBBIN pick (R439). -/
def bobbinPick (cls : Nat) (init ackV nak : Bool) (count ackSeq : Nat) : Nat :=
  0x55 + cls * 2 ^ 8 + b2n init * 2 ^ 10 + b2n ackV * 2 ^ 11 + b2n nak * 2 ^ 12 + count % 2 ^ 16 * 2 ^ 16 +
    ackSeq % 2 ^ 12 * 2 ^ 32

/-- PORT_UP (R447, R448): a lane of the port is ACTIVE. SEQ and replay start anew, and INIT bobbins are sent for each class. -/
def State.portGoUp (s : State) (p : Nat) : State :=
  let l := s.activeLanes p
  if !s.domOn 133 || s.portUp p || l.isEmpty then s
  else
    let s := s.setPort p { granted := [(0, 128), (1, 4096), (2, 1024), (3, 512)], raised := (s.port p).raised }
    let s := s.putB (LNK_PORT_STAT.UP p) true
    let s := (s.put (LNK_PORT_STAT.PWR p) 0).putB (LNK_PORT_STAT.PEER_ERR p) false
    let s := ((s.put (LNK_PORT_BOB0.C0 p) 0).put (LNK_PORT_BOB0.C1 p) 0).put (LNK_PORT_BOB1.C3 p) 0
    let s := (s.raise 560 0 p).setActive p l
    (s.setIndex p 0).sendStream p ([0, 1, 2, 3].map (fun c => (true, bobbinPick c true false false (classBuffer c) 0)))

/-- A lane of a port still carries it: ACTIVE, in Doze or Deep, or on its way back from Deep. -/
def State.laneHolds (s : State) (n : Nat) : Bool :=
  let st := s.laneState n
  st == laneActive || st == laneDoze || st == laneDeep || (s.lane n).kept

/-- PORT_DOWN (R448): no lane carries the port any more. -/
def State.portGoDown (s : State) (p : Nat) : State :=
  if !s.portUp p || (s.portLanes p).any s.laneHolds then s
  else
    let s := s.addSat (LNK_PORT_CNT2.LOST p) (s.port p).replay.length
    let s := (s.setPort p { raised := (s.port p).raised }).putB (LNK_PORT_STAT.UP p) false
    let s := ((s.put (LNK_PORT_STAT.PWR p) 0).putB (LNK_PORT_STAT.PEER_ERR p) false).raise 561 0 p
    let s := ((s.put (LNK_PORT_BOB0.C0 p) 0).put (LNK_PORT_BOB0.C1 p) 0).put (LNK_PORT_BOB1.C3 p) 0
    s.setActive p []

/-- An align column is received (R445 to R447, R457): the mask, the partner's MEMBER and CELL, and the lanes more than 32 picks
late, which are held out with SKEW. -/
def State.portAlign (s : State) (p active member : Nat) (cell : Bool) (late : Nat) : State :=
  if !s.portRuns p then s
  else
    let first := (s.port p).rxMask == 0
    let s := s.setPort p { s.port p with rxMask := active }
    let s := s.put (LNK_PORT_STAT.PEER p) member
    let s := s.each ((s.portLanes p).filter (bit late)) (fun s n =>
      if s.laneState n = laneActive then (s.laneErr n 3).laneGo n lanePolarity
      else if s.laneState n = laneBond && !(s.lane n).held then (s.setLane n { s.lane n with held := true }).laneErr n 3
      else s)
    if first && portCellIn s.img.cfg.link p && (!cell || member != portPeer s.img.cfg.link p) then
      (s.putB (LNK_PORT_STAT.PEER_ERR p) true).raise 565 0 p
    else s

/-- The align pick of a lane (R439). -/
def State.alignPick (s : State) (p n : Nat) : Nat :=
  let act := (s.activeLanes p).foldl (fun m k => orN m (2 ^ s.get (LNK_LANE_STAT.LLANE k))) 0
  0x4B + s.get (LNK_LANE_STAT.LLANE n) * 2 ^ 8 + p * 2 ^ 12 + act * 2 ^ 16 + s.get SAF_CELL.MEMBER * 2 ^ 32 +
    b2n (portCellIn s.img.cfg.link p) * 2 ^ 36 + quadRateIn s.img.cfg.link (n / 4) * 2 ^ 37 + s.fuse.unitId % 2 ^ 24 * 2 ^ 40

/-- A float column is sent on the lanes of the mask, an align column on the ACTIVE lanes; the latter announces them as the new mask,
which takes effect from the pick after it (R447, R449). -/
def State.columnSend (s : State) (p : Nat) (align : Bool) : State :=
  if !s.portRuns p then s
  else if align then
    let l := s.activeLanes p
    let s := s.sendColumn p l (s.alignPick p)
    let old := s.get (LNK_PORT_STAT.ACTIVE p)
    let s := s.setActive p l
    if s.get (LNK_PORT_STAT.ACTIVE p) = old then s else s.setIndex p 0
  else s.sendColumn p (s.columnLanes p) (fun _ => floatPick)

/-! ### Doze and Deep (R460, R461) -/

/-- Every lane of a port in one state enters another. -/
def State.lanesGo (s : State) (p old new : Nat) : State :=
  s.each ((s.portLanes p).filter (fun n => s.laneState n == old)) (fun s n => s.laneGo n new)

/-- A DOZE column on the lanes of a port. -/
def State.dozeColumn (s : State) (p : Nat) (ack : Bool) : State :=
  s.sendColumn p (s.columnLanes p) (fun _ => dozePick ack)

/-- A stream-link channel has records staged for a port. -/
def State.streamWaits (s : State) (p c : Nat) : Bool :=
  s.domOn 128 && s.flag (SHU_CFG.EN c) && s.chanMode c == 2 && streamV s.img.cfg.link c && streamPort s.img.cfg.link c == p &&
    !(s.chan c).staged.isEmpty

/-- A port has neither a flit nor a replay nor a bobbin return to send. -/
def State.portIdle (s : State) (p : Nat) : Bool :=
  let x := s.port p
  x.replay.isEmpty && x.q0.isEmpty && x.freed.isEmpty && !x.ackDue && !x.nakDue && !(List.range 64).any (s.streamWaits p)

/-- DOZE_IDLE µs have passed: a DOZE column is sent. -/
def State.dozeIdle (s : State) (p : Nat) : State :=
  if s.portRuns p && portDozeEn s.img.cfg.link p && s.portIdle p then
    (s.dozeColumn p false).setPort p { s.port p with dozeSent := true }
  else s

/-- A DOZE column is received: it is answered, or is the answer, and the lanes enter Doze. One that finds traffic pending at this
end gets no answer (log entry 92). -/
def State.dozeTake (s : State) (p : Nat) (ack : Bool) : State :=
  if !(s.portRuns p && portDozeEn s.img.cfg.link p && (if ack then (s.port p).dozeSent else s.portIdle p)) then s
  else
    let s := if ack then s else s.dozeColumn p true
    (s.lanesGo p laneActive laneDoze).put (LNK_PORT_STAT.PWR p) 1

/-- The device leaves Doze with traffic pending: it sends TRAIN picks on its lanes. -/
def State.dozeExit (s : State) (p : Nat) : State :=
  if s.get (LNK_PORT_STAT.PWR p) = 1 then
    let l := (s.portLanes p).filter (fun n => s.laneState n == laneDoze)
    let s := (s.lineGap p).each l (fun s n => s.lineSend n true (s.trainPick n))
    let s := (s.lanesGo p laneDoze laneActive).put (LNK_PORT_STAT.PWR p) 0
    s.setPort p { s.port p with dozeSent := false }
  else s

/-- DEEP_IDLE ms have passed in Doze. -/
def State.deepIdle (s : State) (p : Nat) : State :=
  if s.get (LNK_PORT_STAT.PWR p) = 1 && portDeepEn s.img.cfg.link p then
    (s.lanesGo p laneDoze laneDeep).put (LNK_PORT_STAT.PWR p) 2
  else s

/-- The device leaves Deep with a flit to send. -/
def State.deepExit (s : State) (p : Nat) : State :=
  if s.get (LNK_PORT_STAT.PWR p) = 2 then
    let s := (s.lanesGo p laneDeep lanePolarity).put (LNK_PORT_STAT.PWR p) 0
    s.setPort p { s.port p with dozeSent := false }
  else s

/-! ### Class 0 messages to send (R458) -/

/-- A message is queued on ports that are UP and carry class 0: the device's own on every cell port and every port with a lane
marked in ROUTE word 97; a forwarded one on every other cell port. -/
def State.lnkMessage (s : State) (ws : List Nat) (from' : Option Nat) (hops : Nat) : State :=
  if !s.domOn 133 then s
  else
    let lanes := bitsOf (nth s.img.cfg.route 97 0) 15 0
    let ports := allPorts.filter (fun p => s.portUp p && !s.flag (LNK_PORT_STAT.PEER_ERR p) &&
      (portCellIn s.img.cfg.link p || (from'.isNone && (s.portLanes p).any (bit lanes))) && from' != some p)
    s.each ports (fun s p => s.setPort p { s.port p with q0 := (s.port p).q0 ++ [(ws, hops)] })

/-! ### Commands -/

/-- LANE_DETECT_PROBE. -/
def execLaneDetectProbe (dt : Nat) (lane : Fin 16) (found : Bool) (s : State) : Host.Outcome State Fault Refusal :=
  .next ((s.advance dt).laneProbe lane.val found)

/-- BLOCK_LOCK. -/
def execBlockLock (dt : Nat) (lane : Fin 16) (gained inverted : Bool) (bad : Nat) (s : State) :
    Host.Outcome State Fault Refusal := .next ((s.advance dt).laneLock lane.val gained inverted bad)

/-- ADAPT_PRESET_STEP. -/
def execAdaptPresetStep (dt : Nat) (lane : Fin 16) (fom : Fin 256) (s : State) : Host.Outcome State Fault Refusal :=
  .next ((s.advance dt).laneFom lane.val fom.val)

/-- TRAIN_STEP_TIMEOUT. -/
def execTrainStepTimeout (dt : Nat) (lane : Fin 16) (s : State) : Host.Outcome State Fault Refusal :=
  .next ((s.advance dt).laneStepOut lane.val)

/-- TRAIN_TO. -/
def execTrainTo (dt : Nat) (lane : Fin 16) (s : State) : Host.Outcome State Fault Refusal :=
  .next ((s.advance dt).laneTrainOut lane.val)

/-- BACKOFF_EXPIRY. -/
def execBackoffExpiry (dt : Nat) (lane : Fin 16) (s : State) : Host.Outcome State Fault Refusal :=
  .next ((s.advance dt).laneBackoffEnd lane.val)

/-- RETRAIN. -/
def execRetrain (dt : Nat) (lane : Fin 16) (s : State) : Host.Outcome State Fault Refusal :=
  .next ((s.advance dt).hostReg (LNK_LANE_CTL.addr lane.val) (fun s => s.laneRetrainCmd lane.val))

/-- SREF_CHANGE. -/
def execSrefChange (dt : Nat) (quad : Fin 4) (ok : Bool) (s : State) : Host.Outcome State Fault Refusal :=
  .next ((s.advance dt).srefChange quad.val ok)

/-- TRAIN. -/
def execTrain (dt : Nat) (lane : Fin 16) (plane step : Fin 16) (done : Bool) (rest : TrainRest) (s : State) :
    Host.Outcome State Fault Refusal := .next ((s.advance dt).laneTrain lane.val plane.val step.val done rest)

/-- ALIGN. -/
def execAlign (dt : Nat) (port : Fin 16) (active : Fin 65536) (member : Fin 16) (cell : Bool) (late : Fin 65536)
    (s : State) : Host.Outcome State Fault Refusal :=
  .next ((s.advance dt).portAlign port.val active.val member.val cell late.val)

/-- ALIGN_COLUMN_MISSING. -/
def execAlignColumnMissing (dt : Nat) (lane : Fin 16) (s : State) : Host.Outcome State Fault Refusal :=
  .next ((s.advance dt).laneRetrain lane.val)

/-- PORT_UP. -/
def execPortUp (dt : Nat) (port : Fin 16) (s : State) : Host.Outcome State Fault Refusal :=
  .next ((s.advance dt).portGoUp port.val)

/-- PORT_DOWN. -/
def execPortDown (dt : Nat) (port : Fin 16) (s : State) : Host.Outcome State Fault Refusal :=
  .next ((s.advance dt).portGoDown port.val)

/-- DOZE. -/
def execDoze (dt : Nat) (port : Fin 16) (ack : Bool) (s : State) : Host.Outcome State Fault Refusal :=
  .next ((s.advance dt).dozeTake port.val ack)

/-- DOZE_IDLE_TIMEOUT. -/
def execDozeIdleTimeout (dt : Nat) (port : Fin 16) (s : State) : Host.Outcome State Fault Refusal :=
  .next ((s.advance dt).dozeIdle port.val)

/-- DEEP_IDLE_TIMEOUT. -/
def execDeepIdleTimeout (dt : Nat) (port : Fin 16) (s : State) : Host.Outcome State Fault Refusal :=
  .next ((s.advance dt).deepIdle port.val)

/-- DOZE_EXIT. -/
def execDozeExit (dt : Nat) (port : Fin 16) (s : State) : Host.Outcome State Fault Refusal :=
  .next ((s.advance dt).dozeExit port.val)

/-- DEEP_EXIT. -/
def execDeepExit (dt : Nat) (port : Fin 16) (s : State) : Host.Outcome State Fault Refusal :=
  .next ((s.advance dt).deepExit port.val)

/-- CONTROL_COLUMN_SEND. -/
def execControlColumnSend (dt : Nat) (port : Fin 16) (align : Bool) (s : State) : Host.Outcome State Fault Refusal :=
  .next ((s.advance dt).columnSend port.val align)

end Sys2Proof.Machine
end

