-- ==== Sys2Proof/Machine/Clock.lean ====
section
/-! DEFINITION. Clocks, PLL-T, PLL-F and frame alignment (R92 to R116, R558). -/

namespace Sys2Proof.Machine

/-! ### Steering and the tick (R96 to R103) -/

/-- The effective s in 0.001 ppm. -/
def State.steer (s : State) : Int := s.getI CLK_STEER_STAT.EFF

/-- N_F (R96). -/
def State.frameCycles (s : State) : Nat := s.get CLK_FRAME_PER.PERIOD * 2000

/-- The length of `n` FRCLK cycles at the present s, in LSB rounded up. -/
def State.cycles (s : State) (n : Nat) : Nat := ceilDiv (n * 320 * 10 ^ 9) (10 ^ 9 + s.steer).toNat

/-- The FRCLK cycles left of the frame. -/
def State.cyclesLeft (s : State) : Nat := (s.clk.dueAt - s.now) * (10 ^ 9 + s.steer).toNat / (320 * 10 ^ 9)

/-- The remaining count runs at the nominal rate from now on (R558); in the bypass of PLL-T it does so already (R107). -/
def State.bypassDue (s : State) : State :=
  if s.dev.ticks && !s.flag CLK_STAT.PLLT_BYP then { s with clk := { s.clk with dueAt := s.now + 320 * s.cyclesLeft } } else s

/-- The length of the frame that a tick opens: N_F FRCLK cycles, or in the bypass of PLL-T 2 × N_F SCLK cycles (R96, R107). -/
def State.frameLength (s : State) : Nat :=
  if s.flag CLK_STAT.PLLT_BYP then 2 * s.frameCycles * sclkLsb else s.cycles s.frameCycles

/-- A tick comes earlier than 0.98 T_F or later than 1.02 T_F,max after the previous one, in 10⁻² LSB (R104, R335); one that MODE
RESET has placed may come early. -/
def State.tickOff (s : State) : Bool :=
  let tf := s.frameCycles * 320
  let d := s.now - s.clk.tickAt
  s.saf.tick0.isSome && ((!s.clk.placed && decide (100 * d < 98 * tf)) ||
    decide (102 * tf * 10 ^ 6 < 100 * d * (10 ^ 6 - s.get CLK_STEER_LIM.LIM)))

/-! ### Clock outputs (R109, R110) -/

/-- The period of a source of the clock outputs at its nominal rate, in LSB. -/
def clkSrcLsb : Nat → Nat
  | 0 => 64 | 1 => fclkLsb | 2 => sclkLsb | 3 => 320 | _ => 640

/-- The source and the divider of a word of CLK_OUT_CTL. -/
def outSrc (ctl : Word) : Nat := wordBits ctl 30 28
def outDiv (ctl : Word) : Nat := wordBits ctl 25 16 + 1

/-- What an LSB of time is in 10⁻⁹ LSB of a source's nominal time: FRCLK alone runs at 1 + s (R97, R109). -/
def outRate (steer : Int) (ctl : Word) : Nat := if outSrc ctl = 3 then (10 ^ 9 + steer).toNat else 10 ^ 9

/-- The period of an output in LSB of its source's nominal time. -/
def outPeriod (ctl : Word) : Nat := clkSrcLsb (outSrc ctl) * outDiv ctl

/-- Its high phase: half of the period for an even d, (d + 1) / 2 source cycles for an odd one, and with d = 1 the source's own
(R109, log entry 81). -/
def outHigh (ctl : Word) : Nat :=
  if outDiv ctl = 1 then clkSrcLsb (outSrc ctl) / 2 else clkSrcLsb (outSrc ctl) * ((outDiv ctl + 1) / 2)

/-- So much of a source's nominal time lasts, in LSB rounded up. -/
def outTime (steer : Int) (ctl : Word) (x : Nat) : Nat := ceilDiv (x * 10 ^ 9) (outRate steer ctl)

/-- The delay of an output: DLY_C source cycles and DLY_F steps of 62.5 ps. -/
def outDelay (steer : Int) (ctl : Word) : Nat :=
  outTime steer ctl (clkSrcLsb (outSrc ctl) * wordBits ctl 15 8) + 4 * wordBits ctl 3 0

/-- Where in its period a waveform is, in 10⁻⁹ LSB of its source's nominal time. -/
def ClkWave.phase (w : ClkWave) (steer : Int) (t : Nat) : Nat :=
  (w.acc + (t - w.rise) * outRate steer w.ctl) % (outPeriod w.ctl * 10 ^ 9)

/-- Whether a waveform is high at an instant. -/
def ClkWave.high (w : ClkWave) (steer : Int) (t : Nat) : Bool :=
  decide (w.rise ≤ t) && decide (w.phase steer t < outHigh w.ctl * 10 ^ 9)

/-- The end of the high phase that runs at an instant, or the instant itself in a low phase. -/
def ClkWave.highEnd (w : ClkWave) (steer : Int) (t : Nat) : Nat :=
  if w.high steer t then t + ceilDiv (outHigh w.ctl * 10 ^ 9 - w.phase steer t) (outRate steer w.ctl) else t

/-- The beginning of the next low phase after an instant. -/
def ClkWave.nextLow (w : ClkWave) (steer : Int) (t : Nat) : Nat :=
  if t < w.rise then t
  else if w.high steer t then w.highEnd steer t
  else t + ceilDiv ((outPeriod w.ctl + outHigh w.ctl) * 10 ^ 9 - w.phase steer t) (outRate steer w.ctl)

/-- The low phase of a change of settings (R110): a low phase of the new ones, and no shorter than the shorter half-period. -/
def changeLow (steer : Int) (old new : Word) : Nat :=
  let half := fun c => ceilDiv (outTime steer c (outPeriod c)) 2
  max (outTime steer new (outPeriod new - outHigh new)) (min (half old) (half new))

/-- An output at an instant: a change that is due has been made. -/
def ClkOut.at' (o : ClkOut) (t : Nat) : ClkOut :=
  match o.next with
  | some (e, w) => if e ≤ t then { cur := w } else o
  | none => o

/-- New settings at an instant (R110): an output that was steady rises after its delay; a running one changes at its next low phase; a
disabled one finishes its high phase. -/
def ClkOut.change (o : ClkOut) (steer : Int) (t : Nat) (ctl : Word) : ClkOut :=
  let o := o.at' t
  let en := bit ctl.toNat 31
  match o.cur with
  | none => if en then { cur := some { ctl := ctl, rise := t + outDelay steer ctl } } else {}
  | some w =>
    if !en then { o with next := some (w.highEnd steer t, none) }
    else if w.ctl = ctl then { o with next := none }
    else
      let e := w.nextLow steer t
      { o with next := some (e, some { ctl := ctl, rise := e + changeLow steer w.ctl ctl + outDelay steer ctl }) }

/-- s changes at an instant from `old` to `new`: a waveform of FRCLK goes on from where it is, and a change that waits comes as the
new s has it. -/
def ClkOut.resteer (o : ClkOut) (old new : Int) (t : Nat) : ClkOut :=
  let o := o.at' t
  let cur := o.cur.map (fun w =>
    if outSrc w.ctl == 3 && decide (w.rise ≤ t) then { w with rise := t, acc := w.phase old t } else w)
  let o' : ClkOut := { cur := cur }
  match o.next with
  | some (_, some w) => o'.change new t w.ctl
  | some (_, none) => { o' with next := cur.map (fun w => (w.highEnd new t, none)) }
  | none => o'

/-- The clock outputs as a change of s to `v` leaves them. -/
def State.resteer (s : State) (v : Int) : State :=
  { s with clk := { s.clk with outs := s.clk.outs.map (fun p => (p.1, p.2.resteer s.steer v s.now)) } }

/-- s takes a value. -/
def State.setSteer (s : State) (v : Int) : State := (s.resteer v).putI CLK_STEER_STAT.EFF v

/-- CLKOUT[n] carries the frame strobe (R365). -/
def State.strobe (s : State) (n : Nat) : Bool := s.resHolder (resId 4 n) == some 1

/-- The output CLKOUT[n]. -/
def State.clkOut (s : State) (n : Nat) : ClkOut := tabGet (fun _ => {}) s.clk.outs n

/-- The level of CLKOUT[n] as a clock output (R109, R110); one of TCLK stands still while TCLK is stopped (R94, R107). -/
def State.clkOutHigh (s : State) (n : Nat) : Bool :=
  match ((s.clkOut n).at' s.now).cur with
  | some w =>
    s.domOn 134 && !s.strobe n &&
      w.high s.steer (if outSrc w.ctl = 0 then min s.now (s.clk.tclkOff.getD s.now) else s.now)
  | none => false

/-! ### Frame alignment (R111 to R115) -/

/-- A pulse of CLK_SYNC_OUT.WIDTH on SYNC_OUT (ball 0) or on CLKOUT[ball − 1]. -/
def State.pulse (s : State) (ball frclk : Nat) : State :=
  if s.domOn 134 then s.emit (.syncPulse ball frclk (100 * max 1 (s.get CLK_SYNC_OUT.WIDTH))) else s

/-- The pulses of a tick (R111). -/
def State.tickPulses (s : State) : State :=
  let s := if s.get CLK_SYNC_OUT.MODE = 1 then s.pulse 0 4 else s
  s.each [0, 1] (fun s n => if s.strobe n then s.pulse (n + 1) 4 else s)

/-- STATE of the alignment changes, which raises SYNC_STATE (R115). -/
def State.syncGo (s : State) (st : Nat) : State :=
  if s.get CLK_SYNC_STAT.STATE = st then s else (s.put CLK_SYNC_STAT.STATE st).raise 522 0 0

/-- MODE RESET restarts the tick counter: the next tick falls DLY cycles after this edge, or one N_F later where that is less than
100 µs after the previous tick (R113). -/
def State.syncRestart (s : State) : State :=
  let due := s.now + s.cycles (s.get CLK_SYNC_DLY.DLY)
  let due := if due < s.clk.tickAt + 100 * usLsb then due + s.cycles s.frameCycles else due
  { s with clk := { s.clk with dueAt := due, placed := true } }

/-- PHASE_ERR at a reference edge, in FRCLK cycles: the nearest tick minus the target tick (R112, R113). The edge has been timed
to one FCLK. -/
def State.phaseErr (s : State) : Int :=
  let e := s.now / fclkLsb * fclkLsb - s.clk.tickAt
  let x := openQuot (e * (10 ^ 9 + s.steer).toNat) (320 * 10 ^ 9) + s.get CLK_SYNC_DLY.DLY
  satS 24 (((roundDivN x s.frameCycles * s.frameCycles : Nat) : Int) - (x : Int))

/-- LIM in 0.001 ppm. -/
def State.steerLim (s : State) : Int := ((s.get CLK_STEER_LIM.LIM * 1000 : Nat) : Int)

/-- STATE after a reference edge (R115). -/
def State.syncJudge (s : State) (err : Int) : State :=
  let near := decide (err.natAbs ≤ 4)
  let far := decide (40 < err.natAbs)
  let ok := if near then min 8 (s.clk.okRun + 1) else 0
  let bad := if far then min 2 (s.clk.farRun + 1) else 0
  let s := { s with clk := { s.clk with okRun := ok, farRun := bad } }
  let st := s.get CLK_SYNC_STAT.STATE
  if s.steerLim < (s.clk.want.natAbs : Int) then s.syncGo 3
  else if ok = 8 then s.syncGo 2
  else if st = 2 then (if bad = 2 then s.syncGo 1 else s)
  else s.syncGo 1

/-- A reference edge (R112, R113). What the loop chooses for s is free (log entry 23). -/
def State.refEdge (s : State) : State :=
  let err := s.phaseErr
  let (n, s) := s.fresh
  let s := { s with clk := { s.clk with refAt := s.now, edges := 0, missed := 0, want := Config.alignSteer n } }
  let s := s.putI CLK_SYNC_STAT.PHASE_ERR err
  let s := if s.get CLK_SYNC_CTL.MODE = 2 && !s.dev.running then s.syncRestart else s
  s.syncJudge err

/-- The expected reference period (R112). -/
def State.refPeriod (s : State) : Nat := s.cycles ((s.get CLK_SYNC_CTL.QFR_M1 + 1) * s.frameCycles)

/-- Windows of R114 that have passed without an edge since the last reference edge; a window takes in its closing instant. -/
def State.windowsPassed (s : State) : Nat :=
  let p := s.refPeriod
  (4 * (s.now - s.clk.refAt) - (p + 1)) / (4 * p)

/-- Reference periods that have gone by without an edge are counted as missing (R114); the fourth is SYNC_LOST. -/
def State.countMissing (s : State) (upTo : Nat) : State :=
  if s.get CLK_SYNC_STAT.STATE = 0 then s
  else
    let n := max s.clk.missed (min upTo s.windowsPassed)
    { s.addSat CLK_SYNC_CNT.MISSING (n - s.clk.missed) with clk := { s.clk with missed := n } }

/-- An edge that could be a reference edge: inside the window around an expected instant it is one, outside it is spurious (R114). -/
def State.candidateEdge (s : State) : State :=
  let p := s.refPeriod
  let k := max 1 (roundDivN (s.now - s.clk.refAt) p)
  let t := s.clk.refAt + k * p
  if 4 * ((s.now : Int) - (t : Int)).natAbs ≤ p then s.refEdge else s.bump CLK_SYNC_CNT.SPURIOUS

/-- A level on SYNC_IN that has held for `held` ns (R112 to R114); the relay of R111 passes on each qualified edge, of the polarity
that EDGE sets. The edge that starts acquisition in FREE is a reference edge, from which d_S counts (log entry 81). -/
def State.syncEdge (s : State) (falling : Bool) (held : Nat) : State :=
  if held < 40 || falling != s.flag CLK_SYNC_CTL.EDGE then s
  else
    let s := if s.get CLK_SYNC_OUT.MODE = 2 then s.pulse 0 0 else s
    if s.get CLK_SYNC_CTL.MODE = 0 || !s.dev.ticks || s.flag CLK_STAT.PLLF_BYP then s
    else if s.get CLK_SYNC_STAT.STATE = 0 then
      let s := { s with clk := { s.clk with okRun := 0, farRun := 0 } }
      (s.syncGo 1).refEdge
    else
      let s := s.countMissing 3
      if s.clk.edges < s.get CLK_SYNC_CTL.DIV_M1 then { s with clk := { s.clk with edges := s.clk.edges + 1 } }
      else s.candidateEdge

/-- Four reference periods in a row have had no edge (R114): s holds its value. -/
def State.syncLost (s : State) : State :=
  if s.get CLK_SYNC_STAT.STATE = 0 then s
  else
    let s := s.addSat CLK_SYNC_CNT.MISSING (4 - s.clk.missed)
    let s := { s with clk := { s.clk with missed := 0, edges := 0, want := s.steer } }
    (s.syncGo 0).raise 521 0 0

/-! ### PLL-T, PLL-F and their bypasses (R94, R100, R105 to R108) -/

/-- PLL-T locks on entry to BOOT, and TCLK runs (R94). -/
def State.pllTLock (s : State) : State :=
  if s.dev == .boot && !s.clk.tDead && !s.flag CLK_STAT.PLLT_BYP then
    let s : State := { s with clk := { s.clk with tclkOff := none } }
    ((s.putB CLK_STAT.PLLT_LOCK true).putB CLK_STAT.REFT_OK true).lanesCheck
  else s

/-- PLL-T has not locked within 2 ms of entry to BOOT (R94). -/
def State.pllTDead (s : State) : State :=
  if s.dev == .boot && !s.flag CLK_STAT.PLLT_LOCK then { s with clk := { s.clk with tDead := true } } else s

/-- The band of the lowest-numbered table entry that includes 8,000.00 MHz (R100). -/
def State.tableBand (s : State) : Option Nat :=
  ((List.range 8).find? (fun i =>
    let lo := s.get (CLK_PLLF_BTAB.VCO_LO i)
    let hi := s.get (CLK_PLLF_BTAB.VCO_HI i)
    s.flag (CLK_PLLF_BTAB.VALID i) && decide (lo ≤ 1000) && decide (1000 ≤ hi) && decide (hi ≤ 2000))).map
      (fun i => s.get (CLK_PLLF_BTAB.BAND i))

/-- PLL-F takes REFCLK_F: it is selected, and in bypass it is also present (R95, R106). -/
def State.usesRefF (s : State) : Bool :=
  s.flag CLK_PLLF_CFG.REF_SEL && (s.flag CLK_STAT.REFF_OK || !s.flag CLK_STAT.PLLF_BYP)

/-- s returns to 0, and PLL-F takes its reference, as each lock attempt does (R95, R100, R106). -/
def State.attemptStart (s : State) : State := (s.setSteer 0).putB CLK_STAT.REFF_ACT s.usesRefF

/-- PLL-F is locked on a band; a bypass ends at the next tick (R100, R106). -/
def State.pllFLocked (s : State) (band : Nat) (auto : Bool) : State :=
  let s := ((s.putB CLK_STAT.PLLF_LOCK true).put CLK_STAT.BAND band).putB CLK_STAT.BAND_AUTO auto
  { s with clk := { s.clk with exitByp := s.flag CLK_STAT.PLLF_BYP } }

/-- A lock attempt (R100): `tableOk`: lock and check succeed on the table's band; `found`: the band on which automatic search locks. -/
def State.pllFAttempt (s : State) (tableOk : Bool) (found : Option Nat) : State :=
  let s := s.attemptStart
  match (if s.flag CLK_PLLF_CFG.BAND_SRC || !tableOk then none else s.tableBand), found with
  | some b, _ => s.pllFLocked b false
  | none, some b => s.pllFLocked b true
  | none, none => s.putB CLK_STAT.PLLF_LOCK false

/-- The bypass of PLL-F (R106); with REFCLK_F lost, PLL-F no longer runs from it. -/
def State.pllFBypass (s : State) : State :=
  let was := s.flag CLK_STAT.PLLF_BYP
  let s := if was then s else s.bypassDue
  let s := (s.putB CLK_STAT.PLLF_LOCK false).setSteer 0
  let s := { s with clk := { s.clk with exitByp := false, want := 0, edges := 0, missed := 0, okRun := 0, farRun := 0 } }
  let s := s.putB CLK_STAT.REFF_ACT (s.flag CLK_STAT.REFF_ACT && s.flag CLK_STAT.REFF_OK)
  let s := (s.putB CLK_STAT.PLLF_BYP true).syncGo 0
  if was then s else s.raise 520 0 0

/-- The 1 ms retry of a bypass (R106). -/
def State.pllFRetry (s : State) : State := if s.flag CLK_STAT.PLLF_BYP then s.attemptStart else s

/-- A frame in the bypass of PLL-T is incomplete (R107). -/
def State.clkTFrame (s : State) : State := s.acqOverrun.diagOverrun

/-- The bypass of PLL-T (R107, R331): TCLK and Heddle stop, and the reaction of CLOCK follows. -/
def State.clkTFail (s : State) : State :=
  if s.flag CLK_STAT.PLLT_BYP || s.dev == .off || s.dev == .reset then s
  else
    let s := ({ s.bypassDue with clk := { s.bypassDue.clk with tclkOff := some (s.clk.tclkOff.getD s.now) } } : State).cutPulses (fun _ => true)
    let s := (s.putB CLK_STAT.PLLT_LOCK false).putB CLK_STAT.PLLT_BYP true
    let s := s.lanesCheck
    let s := (s.putB HED_STAT.RUNNING false).raise 449 0 0
    let s := if s.dev.ticks then s.clkTFrame else s
    s.reactS 0x07

/-- A reference clock is lost or is back (R105). -/
def State.refOk (s : State) (refF ok : Bool) : State :=
  s.putB (if refF then CLK_STAT.REFF_OK else CLK_STAT.REFT_OK) ok

/-- The clock monitor finds a fault of TCLK, FCLK or SCLK (0 to 2) or of FRCLK (3) (R108). -/
def State.monitorFault (s : State) (clk : Nat) : State :=
  let s := s.hwUp CLK_STAT.MON_FAIL
  if clk = 3 then s.pllFBypass else s.clkTFail

/-! ### A tick, and registers that land or are written -/

/-- A write of CLK_SYNC_CTL, CLK_SYNC_DLY or CLK_FRAME_PER takes effect (R115), and a change of REF_SEL starts a lock attempt
in bypass. The windows of R114 are reckoned from this tick until a reference edge comes (log entry 81). `before`: the state just before the writes landed; `written`: the registers that they wrote. -/
def State.clkLanded (s before : State) (written : List Nat) : State :=
  let s := if [CLK_SYNC_CTL.MODE.addr, CLK_SYNC_DLY.DLY.addr, CLK_FRAME_PER.PERIOD.addr].any written.contains then
      let s := { s with clk := { s.clk with want := s.steer, edges := 0, missed := 0, okRun := 0, farRun := 0, refAt := s.now } }
      s.syncGo (if s.get CLK_SYNC_CTL.MODE = 0 || s.flag CLK_STAT.PLLF_BYP then 0 else 1)
    else s
  if s.get CLK_PLLF_CFG.REF_SEL = before.get CLK_PLLF_CFG.REF_SEL then s else s.pllFBypass.attemptStart

/-- The clocks at a tick (R96, R103, R106): a bypass that a retry has ended is left, s moves, and the next tick is due one N_F
later. -/
def State.clkTick (s : State) : State :=
  let s := if s.clk.exitByp then
      { s.putB CLK_STAT.PLLF_BYP false with clk := { s.clk with exitByp := false } }
    else s
  let s := if s.flag CLK_STAT.PLLF_BYP then s.setSteer 0
    else
      let lim := s.steerLim
      let goal := clampI (-lim) lim (if s.get CLK_SYNC_CTL.MODE = 0 then s.getI CLK_STEER.OFFSET else s.clk.want)
      let step := ((s.get CLK_STEER_LIM.STEP * 10 : Nat) : Int)
      s.setSteer (s.steer + clampI (-step) step (goal - s.steer))
  let s := { s with clk := { s.clk with tickAt := s.now, dueAt := s.now + s.frameLength, placed := false } }
  s.tickPulses

/-! ### Writes of the clock outputs -/

/-- The smallest divider of a clock output's source, for at most 200 MHz (R109). -/
def minDiv : Nat → Option Nat
  | 0 => some 5 | 1 => some 4 | 2 => some 2 | 3 => some 1 | 4 => some 1 | _ => none

/-- A write of CLK_OUT`n`_CTL (R109): ignored while the ball carries the frame strobe, where one that would enable the output is a
refused claim (R367); ignored with OUT_ERR for a reserved source or more than 200 MHz. -/
def State.writeClkOut (s : State) (n : Nat) (w : Word) : State :=
  if s.strobe n then
    if bit w.toNat 31 then
      ((s.hwUp GLB_SHADOW_STAT.REJ).put GLB_SHADOW_STAT.REJ_CODE 0x61).refuseClaim (resId 4 n)
    else s
  else
    match minDiv (wordBits w 30 28) with
    | none => s.hwUp CLK_STAT.OUT_ERR
    | some d =>
      if wordBits w 25 16 + 1 < d then s.hwUp CLK_STAT.OUT_ERR
      else
        let s := if bit w.toNat 31 then s.claim (resId 4 n) 0 else s
        let w := w &&& 0xF3FF_FF0F#32
        let o := (s.clkOut n).change s.steer s.now w
        { s.setWord (CLK_OUT_CTL.addr n) w with clk := { s.clk with outs := tabSet (fun _ => {}) s.clk.outs n o } }

/-! ### Commands -/

/-- PLL_T_LOCK. -/
def execPllTLock (dt : Nat) (s : State) : Host.Outcome State Fault Refusal := .next (s.advance dt).pllTLock

/-- PLL_T_LOCK_TIMEOUT. -/
def execPllTLockTimeout (dt : Nat) (s : State) : Host.Outcome State Fault Refusal := .next (s.advance dt).pllTDead

/-- PLL_F_LOCK_ATTEMPT. -/
def execPllFLockAttempt (dt : Nat) (tableOk search : Bool) (band : Fin 64) (s : State) :
    Host.Outcome State Fault Refusal :=
  .next ((s.advance dt).pllFAttempt tableOk (if search then some band.val else none))

/-- PLL_F_BYPASS. -/
def execPllFBypass (dt : Nat) (s : State) : Host.Outcome State Fault Refusal := .next (s.advance dt).pllFBypass

/-- PLL_F_RETRY. -/
def execPllFRetry (dt : Nat) (s : State) : Host.Outcome State Fault Refusal := .next (s.advance dt).pllFRetry

/-- CLK_T_FAIL. -/
def execClkTFail (dt : Nat) (s : State) : Host.Outcome State Fault Refusal := .next (s.advance dt).clkTFail

/-- REFCLK_LOSS. -/
def execRefclkLoss (dt : Nat) (refF : Bool) (s : State) : Host.Outcome State Fault Refusal :=
  .next ((s.advance dt).refOk refF false)

/-- REFCLK_RETURN. -/
def execRefclkReturn (dt : Nat) (refF : Bool) (s : State) : Host.Outcome State Fault Refusal :=
  .next ((s.advance dt).refOk refF true)

/-- CLOCK_MONITOR_FAULT. -/
def execClockMonitorFault (dt : Nat) (clk : Fin 4) (s : State) : Host.Outcome State Fault Refusal :=
  .next ((s.advance dt).monitorFault clk.val)

/-- SYNC_IN_EDGE. -/
def execSyncInEdge (dt : Nat) (falling : Bool) (heldNs : Nat) (s : State) : Host.Outcome State Fault Refusal :=
  .next ((s.advance dt).syncEdge falling heldNs)

/-- SYNC_LOST. -/
def execSyncLost (dt : Nat) (s : State) : Host.Outcome State Fault Refusal := .next (s.advance dt).syncLost

end Sys2Proof.Machine
end

