-- ==== Sys2Proof/Machine/Emitter.lean ====
section
/-! DEFINITION. Emitter supervision (R194 to R203) and the Class 1 energy governor (R204 to R211). -/

namespace Sys2Proof.Machine

/-! ### Marks (R198 to R203) -/

/-- A new mark of an output: the bit is set, and `evt` is raised with the output number (R203). -/
def State.markOut (s : State) (f : Nat → Fld) (o : Nat) (evt : Option Nat) : State :=
  if s.mark f o then s
  else
    let s := s.orBit (f (o / 32)) (o % 32)
    match evt with
    | some e => s.raise e 0 o
    | none => s

def State.markOpen (s : State) (o : Nat) : State := s.markOut EMD_OPEN.OPEN o (some 451)
def State.markShort (s : State) (o : Nat) : State := s.markOut EMD_SHORT.SHORT o (some 452)
def State.markShut (s : State) (o : Nat) : State :=
  let at' := if s.mark EMD_SHUT.SHUT o then s.emd.shutAt else tabSet (fun _ => 0) s.emd.shutAt o (s.ct + 1)
  ({ s with emd := { s.emd with shutAt := at' } } : State).markOut EMD_SHUT.SHUT o (some 453)
/-- OVER has no event of its own (R203, R207). -/
def State.markOver (s : State) (o : Nat) : State := s.markOut EMD_OVER.OVER o none

/-- MPD_FAULT of a group (R200, R203). -/
def State.markMpd (s : State) (g : Nat) : State :=
  if bit (s.get EMD_STAT.MPD_FAULT) g then s else (s.orBit EMD_STAT.MPD_FAULT g).raise 454 0 g

/-- An output is marked OPEN, SHORT, SHUT or OVER. -/
def State.outMarked (s : State) (o : Nat) : Bool :=
  s.mark EMD_OPEN.OPEN o || s.mark EMD_SHORT.SHORT o || s.mark EMD_SHUT.SHUT o || s.mark EMD_OVER.OVER o

/-- The outputs whose slots are suppressed from a tick on (R203). -/
def State.barredNow (s : State) : Nat := maskOf 96 s.outBad

/-! ### The governor (R204 to R211) -/

/-- Key of a window (0 to 2, 3 for C) and group. -/
def winKey (w g : Nat) : Nat := 32 * w + g

/-- The buckets of a window and group. -/
def State.buckets (s : State) (w g : Nat) : Buckets := tabGet (fun _ => {}) s.emd.buckets (winKey w g)

/-- A window is enabled; C always is (R205). -/
def State.winOn (s : State) (w : Nat) : Bool := w == 3 || s.flag (EMD_WIN_CFG.EN w)

/-- The limit of a window. -/
def State.winLim (s : State) (w : Nat) : Nat :=
  if w = 3 then s.fuse.ceilLim else s.get (EMD_WIN_LIM_LO.LIM w) + s.get (EMD_WIN_LIM_HI.LIM w) * 2 ^ 32

/-- The bucket period in force of a window in µs, 0 where it is not enabled. -/
def State.winBkt (s : State) (w : Nat) : Nat :=
  if w = 3 then s.fuse.ceilBkt else if s.flag (EMD_WIN_CFG.EN w) then s.get (EMD_WIN_CFG.BKT w) else 0

/-- The sum S of a window and group: all 65 buckets, saturating at 2⁴⁸ − 1 (R205). -/
def State.winSum (s : State) (w g : Nat) : Nat :=
  let b := s.buckets w g
  b.done.foldl (fun a e => satU 48 (a + e)) b.cur

/-- The provisional amounts of a group's shots whose E_meas is not yet in the sums (R207). -/
def State.provisional (s : State) (g : Nat) : Nat :=
  ((s.emd.shots.filter (fun x => x.out / 4 == g)).map (fun x => x.pred)).foldl (· + ·) 0

/-- E_pred of an output (R206). -/
def State.ePred (s : State) (o : Nat) : Nat :=
  (tabGet (fun _ => []) s.emd.last o).foldl max (s.get (EMD_OUT_E.E_DECL o))

/-- The governor refuses a shot of output `o`: it could carry a sum of its group past its limit (R206). -/
def State.govRefuses (s : State) (o : Nat) : Bool :=
  let g := o / 4
  [0, 1, 2, 3].any (fun w => s.winOn w && decide (s.winLim w < s.winSum w g + s.provisional g + s.ePred o))

/-- What becomes of an emitted shot or proof shot (R181, R201 to R206). -/
inductive Fire where
  | emitted | gov | fault | fireOff
  deriving DecidableEq, Repr

/-- The decision at a commit: FIRE_OFF, then FAULT, then the governor. -/
def State.fireDecide (s : State) (o : Nat) : Fire :=
  if !s.flag HED_CTL.FIRE_EN || s.flag EMD_STAT.CEIL_UNSET then .fireOff
  else if s.flag EMD_STAT.STUCK_ON || bit s.emd.barred o || s.mark EMD_SHUT.SHUT o then .fault
  else if s.govRefuses o then .gov
  else .emitted

/-- A suppressed shot is counted; the first governor suppression of a frame raises GOV_SUPPRESS (R211). -/
def State.suppress (s : State) (o : Nat) (f : Fire) : State :=
  match f with
  | .emitted => s
  | .gov =>
    let s := s.bump HED_SUPP.GOV
    let s := { s with emd := { s.emd with supp := tabMod (fun _ => 0) s.emd.supp (o / 4) (· + 1) } }
    if s.emd.govRaised then s
    else ({ s with emd := { s.emd with govRaised := true } } : State).raise 524 0 (o / 4)
  | .fault | .fireOff => s.bump HED_SUPP.OTHER

/-- A shot is emitted: its energy counts provisionally (R207) and its sub-pulses, as (rise, fall), are kept for blanking
(R132). -/
def State.emitShot (s : State) (o : Nat) (proof : Bool) (width : Nat) (pulses : List (Nat × Nat)) : State :=
  let old := s.hed.edges.filter (fun e => decide (s.ct ≤ e.2.2 + 64 * 64))
  let shot : Shot := ⟨o, s.ePred o, proof, width, (pulses.headD (0, 0)).1⟩
  let s : State := { s with
    emd := { s.emd with shots := s.emd.shots ++ [shot] }
    hed := { s.hed with edges := old ++ pulses.map (fun p => (o, p.1, p.2)) } }
  s.bump HED_SHOTS.EMITTED

/-- The buckets of a window loaded as full, or discarded (R208, R209). -/
def State.loadWindow (s : State) (w : Nat) : State :=
  let on := s.winBkt w != 0 || w == 3
  let b : Buckets := if on then { done := List.replicate 64 (ceilDiv (s.winLim w) 64), cur := 0 } else {}
  { s with emd := { s.emd with
    buckets := (List.range 24).foldl (fun t g => tabSet (fun _ => {}) t (winKey w g) b) s.emd.buckets
    ramp := tabSet (fun _ => 0) s.emd.ramp w (if on then 64 else 0)
    bkt := tabSet (fun _ => 0) s.emd.bkt w (s.winBkt w) } }

/-- GOV_RAMP: a loaded bucket is still among the 64 of a window (R208). -/
def State.showRamp (s : State) : State := s.putB EMD_STAT.GOV_RAMP (s.emd.ramp.any (fun p => p.2 != 0))

/-- A governor change that lands at a tick (R209), and CEIL_UNSET (R210). -/
def State.govTick (s : State) : State :=
  let s := s.each [0, 1, 2, 3] (fun s w =>
    if s.winBkt w = tabGet (fun _ => 0) s.emd.bkt w then s else s.loadWindow w)
  s.showRamp.putB EMD_STAT.CEIL_UNSET s.fuse.ceilUnset

/-- Domain 120 wakes: every enabled window and window C are loaded (R208). -/
def State.emdWake (s : State) : State :=
  ((s.each [0, 1, 2, 3] (fun s w => s.loadWindow w)).showRamp).putB EMD_STAT.CEIL_UNSET s.fuse.ceilUnset

/-- A bucket period of a window ends (R205, R208). -/
def State.bucketRoll (s : State) (w : Nat) : State :=
  if !s.domOn 120 || !s.winOn w then s
  else
    let roll := fun (b : Buckets) => ({ done := (b.cur :: b.done).take 64, cur := 0 } : Buckets)
    let s := { s with emd := { s.emd with
      buckets := (List.range 24).foldl (fun t g => tabMod (fun _ => {}) t (winKey w g) roll) s.emd.buckets
      ramp := tabMod (fun _ => 0) s.emd.ramp w (· - 1) } }
    s.showRamp

/-! ### The end of a shot's MPD integration (R196 to R200, R204, R207) -/

/-- The verdict of a proof shot (R196). -/
def State.proofVerdict (s : State) (o : Nat) (ok : Bool) : State :=
  let g := o / 4
  let n := if ok then 0 else min 2 (tabGet (fun _ => 0) s.emd.proofFail o + 1)
  let s := { s with emd := { s.emd with
    again := tabSet (fun _ => 0) s.emd.again g (if ok then 0 else o + 1)
    proofFail := tabSet (fun _ => 0) s.emd.proofFail o n } }
  if n = 2 then s.markOpen o else s

/-- The run of undetected shots of an output (R198). -/
def State.openRun (s : State) (o : Nat) (detected : Bool) : State :=
  let n := if detected then 0 else min 15 (tabGet (fun _ => 0) s.emd.miss o + 1)
  let s := { s with emd := { s.emd with miss := tabSet (fun _ => 0) s.emd.miss o n } }
  if s.get EMD_CTL.OPEN_N ≤ n then s.markOpen o else s

/-- The run of detected shots of a group with too little light (R200). -/
def State.darkRun (s : State) (g : Nat) (dark : Bool) : State :=
  let n := if dark then min 4 (tabGet (fun _ => 0) s.emd.dark g + 1) else 0
  let s := { s with emd := { s.emd with dark := tabSet (fun _ => 0) s.emd.dark g n } }
  if n = 4 then s.markMpd g else s

/-- E_meas of integrator code `q` (R204). A code of 0xFFFF is taken as an energy above the per-shot ceiling (R200): where the formula
gives no such energy, the spec states no value above it (log entry 86). -/
def State.measured (s : State) (g q : Nat) : Nat :=
  let e := q * s.fuse.gain g / 4096
  if q = 0xFFFF && e ≤ s.fuse.ceilShot then s.fuse.ceilShot + 1 + Config.overEnergy g else e

/-- The comparator of ISENSE[g] is high at a level (R197); it is so at its threshold (log entry 96). -/
def State.isenseHigh (s : State) (g mv : Nat) : Bool := decide (5 * s.get (EMD_ISN_THR.ISN_THR g) ≤ mv)

/-- The longest time without a break for which the comparator is high: `run` ps so far, `best` the longest. -/
def State.isenseRun (s : State) (g : Nat) : List IsensePart → Nat → Nat → Nat
  | [], _, best => best
  | p :: r, run, best =>
    let n := if s.isenseHigh g p.mv then run + p.ps else 0
    s.isenseRun g r n (max best n)

/-- ISENSE detects the shot: high for at least 2.0 ns without a break in its window (R197). -/
def State.detects (s : State) (g : Nat) (isense : List IsensePart) : Bool := decide (2000 ≤ s.isenseRun g isense 0 0)

/-- The MPD integration of the oldest pending shot of an output ends: `q` is the integrator code, `isense` the level of ISENSE in
the window. -/
def State.mpdEnd (s : State) (o q : Nat) (isense : List IsensePart) : State :=
  match s.emd.shots.find? (fun x => x.out == o) with
  | none => s
  | some x =>
    let g := o / 4
    let eMeas := s.measured g q
    let eLow := s.get (EMD_OUT_E.E_LOW o)
    let eCount := max eMeas eLow
    let add := fun (b : Buckets) => { b with cur := satU 48 (b.cur + eCount) }
    let e := s.emd
    let s := { s with emd := { e with
      shots := e.shots.erase x
      buckets := ([0, 1, 2, 3].filter s.winOn).foldl (fun t w => tabMod (fun _ => {}) t (winKey w g) add) e.buckets
      last := tabMod (fun _ => []) e.last o (fun l => (eMeas :: l).take 16)
      sumE := if x.proof then e.sumE else tabMod (fun _ => 0) e.sumE o (· + eMeas)
      sumN := if x.proof then e.sumN else tabMod (fun _ => 0) e.sumN o (· + 1) } }
    let s := if s.fuse.ceilShot < eMeas then s.markOver o else s
    let detected := s.detects g isense
    let evaluated := x.proof || decide (32 ≤ x.width)
    let s := if evaluated then s.darkRun g (detected && decide (eMeas < eLow)) else s
    if x.proof then s.proofVerdict o (detected && decide (eLow ≤ eMeas))
    else if evaluated then s.openRun o detected
    else s

/-- The sums of the frame are tested, and start again (R199). -/
def State.sumCheck (s : State) : State :=
  let s := s.each (List.range 96) (fun s o =>
    let n := tabGet (fun _ => 0) s.emd.sumN o
    if n < 16 then s
    else
      let miss := decide (2 * tabGet (fun _ => 0) s.emd.sumE o < n * s.get (EMD_OUT_E.E_LOW o))
      let k := if miss then min 2 (tabGet (fun _ => 0) s.emd.sumMiss o + 1) else 0
      let s := { s with emd := { s.emd with sumMiss := tabSet (fun _ => 0) s.emd.sumMiss o k } }
      if k = 2 then s.markOpen o else s)
  { s with emd := { s.emd with sumE := [], sumN := [] } }

/-! ### Drivers, stuck stages and clears (R201 to R203) -/

/-- A driver's detector trips, and its pair goes to high impedance (R201). -/
def State.driverTrip (s : State) (o : Nat) : State := if s.domOn 120 then (s.cutPulses (· == o)).markShut o else s

/-- Current flows in a group with no output in the fire state, and every output is driven to the off state (R202). -/
def State.stuckOn (s : State) : State :=
  if s.domOn 120 && !s.flag EMD_STAT.STUCK_ON then
    (((s.cutPulses (fun _ => true)).putB EMD_STAT.STUCK_ON true).raise 455 0 0).reactS 0x04
  else s

/-- A write of EMD_CMD that is refused. -/
def State.emdRefuse (s : State) : State := s.hwUp EMD_ERR.CMD_ERR

/-- A mark bit of an output cleared. -/
def State.unmarkOut (s : State) (f : Nat → Fld) (o : Nat) : State :=
  s.put (f (o / 32)) (setBit (s.get (f (o / 32))) (o % 32) false)

/-- Action 0x1 (R203); `quiet`: the driver's detector has been inactive for 10 ms. A cleared output takes part again from the
next tick. -/
def State.clearOut (s : State) (o : Nat) (quiet : Bool) : State :=
  if 96 ≤ o || (s.mark EMD_SHUT.SHUT o && !quiet) then s.emdRefuse
  else
    let s := if s.outMarked o then { s with emd := { s.emd with barred := setBit s.emd.barred o true } } else s
    (((s.unmarkOut EMD_OPEN.OPEN o).unmarkOut EMD_SHORT.SHORT o).unmarkOut EMD_SHUT.SHUT o).unmarkOut EMD_OVER.OVER o

/-- Action 0x2 (R203). -/
def State.clearMpd (s : State) (g : Nat) : State :=
  if 24 ≤ g then s.emdRefuse
  else s.put EMD_STAT.MPD_FAULT (setBit (s.get EMD_STAT.MPD_FAULT) g false)

/-- Action 0x3 (R202). -/
def State.clearStuck (s : State) : State :=
  if s.dev.running then s.emdRefuse
  else s.putB EMD_STAT.STUCK_ON false

/-! ### Commands -/

/-- MPD_INTEGRATION_END. -/
def execMpdIntegrationEnd (dt : Nat) (out : Fin 96) (q : Fin 65536) (isense : List IsensePart) (s : State) :
    Host.Outcome State Fault Refusal :=
  .next ((s.advance dt).mpdEnd out.val q.val isense)

/-- GOV_BUCKET_ROLL. -/
def execGovBucketRoll (dt : Nat) (win : Fin 4) (s : State) : Host.Outcome State Fault Refusal :=
  .next ((s.advance dt).bucketRoll win.val)

/-- DRIVER_TRIP. -/
def execDriverTrip (dt : Nat) (out : Fin 96) (s : State) : Host.Outcome State Fault Refusal :=
  .next ((s.advance dt).driverTrip out.val)

/-- EMD_STUCK_ON. -/
def execEmdStuckOn (dt : Nat) (s : State) : Host.Outcome State Fault Refusal := .next (s.advance dt).stuckOn

/-- CLEAR_OUTPUT_MARKS. -/
def execClearOutputMarks (dt : Nat) (index : Fin 128) (quiet : Bool) (s : State) : Host.Outcome State Fault Refusal :=
  .next ((s.advance dt).hostReg EMD_CMD.addr (fun s => s.clearOut index.val quiet))

/-- CLEAR_MPD_FAULT. -/
def execClearMpdFault (dt : Nat) (index : Fin 128) (s : State) : Host.Outcome State Fault Refusal :=
  .next ((s.advance dt).hostReg EMD_CMD.addr (fun s => s.clearMpd index.val))

/-- CLEAR_STUCK_ON. -/
def execClearStuckOn (dt : Nat) (s : State) : Host.Outcome State Fault Refusal := .next ((s.advance dt).hostReg EMD_CMD.addr (fun s => s.clearStuck))

end Sys2Proof.Machine
end

