-- ==== Sys2Proof/Machine/Tdc.lean ====
section
/-! DEFINITION. Time-to-digital conversion (R148 to R173): what a slice makes of an event, DLL locks, failed marks, the queues of the
photon lists, and the code-density audit. -/

namespace Sys2Proof.Machine

/-! ### Slices (R149 to R159) -/

/-- The DLL of a slice is locked. -/
def State.dllLocked (s : State) (t i : Nat) : Bool := bit (s.get (T_TDC_STAT.DLL_LOCK t)) i

/-- The tile runs in TAC mode (R157). -/
def State.tacMode (s : State) (t : Nat) : Bool := s.flag (T_TDC_STAT.MODE_ACT t)

/-- The native timestamp of an event at `ct` LSB with fine code `code` (R154). -/
def nativeStamp (ct code : Nat) : Nat := ct / 64 % 2 ^ 24 * 64 + code % 64

/-- STOP of a conversion that starts at `ct` LSB (R157): the next TCLK edge whose coarse count is a multiple of 32. -/
def tacStop (ct : Nat) : Nat := (ct / 2048 + 1) % 2 ^ 19

/-- The timestamp of a TAC conversion with CODE `code` (R157). -/
def tacStamp (ct code : Nat) : Nat := (tacStop ct * 2048 + 2 ^ 30 - code % 1024 * 2) % 2 ^ 30

/-- An event reaches a slice, whose line or ramp gives `code`: the timestamp, or a drop (R150, R158, R159). -/
def State.sliceTake (s : State) (t i code : Nat) : Option Nat × State :=
  if !s.dllLocked t i || s.flag (T_TDC_STAT.SETTLING t) then (none, s.bump (T_TDC_CNT.DLL_DROP t))
  else if s.tacMode t then
    let last := tabGet (fun _ => 0) (s.tileSt t).conv i
    if last != 0 && s.now < last - 1 + 2560 then (none, s.bump (T_TDC_CNT.TAC_DROP t))
    else
      (some (tacStamp s.ct code),
       s.modTile t (fun x => { x with conv := tabSet (fun _ => 0) x.conv i (s.now + 1) }))
  else (some (nativeStamp s.ct code), s)

/-- Δ of a timestamp and a reference time (R155). -/
def deltaOf (stamp tS : Nat) : Nat := (stamp + 2 ^ 30 - tS % 2 ^ 30) % 2 ^ 30

/-! ### Marks (R151, R168 to R172) -/

/-- The registers of the audit phase that runs. -/
def State.auditShow (s : State) (t : Nat) : State :=
  let a := (s.tileSt t).aud
  let s := s.put (T_TDC_AUDIT_STAT.PHASE t) (if !a.run then 0xF else if a.dens then 0 else a.ch + 1)
  s.putB (T_TDC_AUDIT_STAT.REPEAT t) (a.run && !a.dens && a.rep)

/-- The audit stops (R145, R165). -/
def State.auditStop (s : State) (t : Nat) : State := (s.modTile t (fun x => { x with aud := {} })).auditShow t

/-- A slice is marked failed; `dev` where the device does it itself (R172). A marking inside the hand-over window is noted for R144.
The spare's mark sets SPARE_FAIL, stops the audit (R145, R169) and is reported (R147). -/
def State.markSlice (s : State) (t i : Nat) (dev : Bool) : State :=
  let was := s.sliceFail t i
  let s := if s.handingOver && !was then s.modTile t (fun x => { x with markLate := setBit x.markLate i true }) else s
  let s := s.orBit (T_TDC_STAT.SLICE_FAIL t) i
  let s := if dev then s.modTile t (fun x => { x with markedNow := setBit x.markedNow i true }) else s
  if i = 8 && !was then ((s.putB (T_RX_STAT.SPARE_FAIL t) true).auditStop t).raiseTile t 1 3 0 else s

/-- A slice's mark is cleared, unless the device marked it in the frame (R172). -/
def State.unmarkSlice (s : State) (t i : Nat) : State :=
  if bit (s.tileSt t).markedNow i then s
  else
    let s := s.put (T_TDC_STAT.SLICE_FAIL t) (setBit (s.get (T_TDC_STAT.SLICE_FAIL t)) i false)
    if i = 8 then s.putB (T_RX_STAT.SPARE_FAIL t) false else s

/-- A write of T_TDC_CMD (R172). -/
def State.tdcCmd (s : State) (t slice : Nat) (mark unmark : Bool) : State :=
  if (mark && unmark) || decide (8 < slice) || (unmark && s.dev.running) then s.hwUp (T_TDC_ERR.CMD_ERR t)
  else if mark then s.markSlice t slice false
  else if unmark then s.unmarkSlice t slice
  else s

/-- A DLL unlocks (R150). -/
def State.dllUnlock (s : State) (t i : Nat) : State :=
  if s.domOn t && s.dllLocked t i then
    let s := s.put (T_TDC_STAT.DLL_LOCK t) (setBit (s.get (T_TDC_STAT.DLL_LOCK t)) i false)
    s.modTile t (fun x => { x with unlockAt := tabSet (fun _ => 0) x.unlockAt i (s.now + 1) })
  else s

/-- The time for which a DLL has been unlocked up to now, since it was last counted; one that has never locked counts once the 20 µs are
over in which it may lock (R150, R151; log entry 85). -/
def State.unlockRun (s : State) (t i : Nat) : Nat :=
  let x := s.tileSt t
  let a := tabGet (fun _ => 0) x.unlockAt i
  if a ≠ 0 then s.now + 1 - a
  else if tabGet (fun _ => 0) x.lockAt i = 0 && !s.dllLocked t i then s.now - (x.wokeAt + 20 * usLsb)
  else 0

/-- A DLL locks (R150). -/
def State.dllLock (s : State) (t i : Nat) : State :=
  if s.domOn t && !s.dllLocked t i then
    let n := s.unlockRun t i
    let s := s.orBit (T_TDC_STAT.DLL_LOCK t) i
    s.modTile t (fun x => { x with
      unlockAt := tabSet (fun _ => 0) x.unlockAt i 0
      unlocked := tabMod (fun _ => 0) x.unlocked i (· + n)
      lockAt := if tabGet (fun _ => 0) x.lockAt i = 0 then tabSet (fun _ => 0) x.lockAt i (s.now + 1) else x.lockAt })
  else s

/-- At the close of the acquisition window the unlocked time of each slice since the last close is taken (R151). -/
def State.dllClose (s : State) (t : Nat) : State :=
  let x := s.tileSt t
  let span := (List.range 9).map (fun i => (i, tabGet (fun _ => 0) x.unlocked i + s.unlockRun t i))
  s.setTile t { x with
    unlockSpan := span.filter (fun p => p.2 != 0)
    unlocked := []
    unlockAt := (List.range 9).foldl (fun m i =>
      if s.unlockRun t i = 0 then m else tabSet (fun _ => 0) m i (s.now + 1)) x.unlockAt }

/-- A DLL had not locked 20 µs after its tile woke (R151). -/
def Tile.lockLate (x : Tile) (i now : Nat) : Bool :=
  let a := tabGet (fun _ => 0) x.lockAt i
  decide (x.wokeAt + 20 * usLsb ≤ now) && (a == 0 || decide (x.wokeAt + 20 * usLsb < a - 1))

/-- A slice is marked for its unlocked time: more than 1 µs in the span that the last close ended, or no lock in the 20 µs after
the wake (R151). Each is judged once. -/
def State.sliceTimeout (s : State) (t i : Nat) : State :=
  let x := s.tileSt t
  let late := x.lockLate i s.now && !bit x.lateSeen i
  if s.domOn t && (usLsb < tabGet (fun _ => 0) x.unlockSpan i || late) then
    let s := s.setTile t { x with
      unlockSpan := x.unlockSpan.filter (fun p => p.1 != i), lateSeen := setBit x.lateSeen i (late || bit x.lateSeen i) }
    s.markSlice t i true
  else s

/-- The slices of a tile have settled (R159). -/
def State.settled (s : State) (t : Nat) : State :=
  if s.domOn t then s.putB (T_TDC_STAT.SETTLING t) false else s

/-! ### Photon lists (R160 to R164) -/

/-- A photon list. -/
def State.listQ (s : State) (t c : Nat) : ListQ := tabGet (fun _ => {}) (s.tileSt t).lists c

/-- A photon list replaced. -/
def State.setList (s : State) (t c : Nat) (q : ListQ) : State :=
  s.modTile t (fun x => { x with lists := tabSet (fun _ => {}) x.lists c q })

/-- The list of a channel is enabled and has begun. -/
def State.listOn (s : State) (t c : Nat) : Bool := (s.listQ t c).on

/-- An entry is written with its WRAP bit (R162). -/
def ListQ.add (q : ListQ) (wraps word kind : Nat) : ListQ :=
  { q with q := q.q ++ [(word % 2 ^ 31 + (if wraps = q.wraps then 0 else 2 ^ 31), kind)], wraps := wraps }

/-- Ordinary entries in the queue; 62 places hold them (R163). -/
def ListQ.used (q : ListQ) : Nat := (q.q.filter (fun e => e.2 == 0)).length

/-- An ordinary entry is written after `wraps` wraps, or dropped where no unreserved place is free (R163). -/
def State.listPut (s : State) (t c wraps word : Nat) : State :=
  if !s.listOn t c then s
  else
    let q := s.listQ t c
    if q.used < 62 then s.setList t c (q.add wraps word 0)
    else (s.setList t c { q with lost := q.lost + 1 }).bump (T_TDC_LIST_CNT.LIST_DROP t)

/-- The word of a photon entry (R161). -/
def State.photonWord (s : State) (t stamp code : Nat) : Nat :=
  if s.tacMode t && s.flag (T_TDC_CTL.TAC_RAW t) then tacStop s.ct * 2 ^ 10 + code % 1024 else stamp

/-- Words of a marker and a frame entry (R161). -/
def markerWord (tS : Nat) : Nat := 2 ^ 30 + tS % 2 ^ 30
def frameWord (epoch : Nat) : Nat := 2 ^ 30 + epoch % 2 ^ 28 * 4 + 3

/-! ### The audit (R165 to R170) -/

/-- The audit may run (R165). -/
def State.auditMay (s : State) (t : Nat) : Bool :=
  s.domOn t && !s.flag (T_RX_STAT.SPARE_USED t) && !s.flag (T_RX_STAT.SPARE_FAIL t) && s.flag (T_TDC_CTL.AUDIT_EN t)

/-- The next phase starts at a tick (R165); a phase whose verdict was not made counts as one without a verdict. -/
def State.auditTick (s : State) (t : Nat) : State :=
  let a := (s.tileSt t).aud
  if !s.auditMay t then if a.run then s.auditStop t else s
  else
    let next : Audit :=
      if !a.run then { run := true }
      else if a.dens then
        { a with dens := false, pass := a.pass && a.made, made := false, mism := 0, cmp := 0, sum := 0, sq := 0 }
      else if a.made then { a with dens := true, made := false }
      else { a with dens := true, made := false, rep := false, ch := (a.ch + 1) % 8 }
    (s.modTile t (fun x => { x with aud := next })).auditShow t

/-- |DNL| and |INL| of a code as numerators over the hits H (R166): 64 h_i − H summed. -/
def dnlNum (h : List Nat) (hits i : Nat) : Int := 64 * ((nth h i 0 : Nat) : Int) - hits
def inlNum (h : List Nat) (hits k : Nat) : Int := ((List.range (k + 1)).map (dnlNum h hits)).foldl (· + ·) 0

/-- The code with the largest value, the lowest among equals. -/
def argMax (f : Nat → Nat) (n : Nat) : Nat := (List.range n).foldl (fun b i => if f b < f i then i else b) 0

/-- The verdict of a density phase from the hits by code (R166, R169). -/
def State.densVerdict (s : State) (t : Nat) (h : List Nat) : State :=
  let hits := ((List.range 64).map (fun i => nth h i 0)).foldl (· + ·) 0
  let s := s.put (T_TDC_DENS_HITS.H t) hits
  let a := (s.tileSt t).aud
  if hits < 65536 then
    (s.put (T_TDC_DENS.VERDICT t) 3).modTile t (fun x => { x with aud := { a with pass := false, made := true } })
  else
    let dn := fun i => (dnlNum h hits i).natAbs
    let il := fun i => (inlNum h hits i).natAbs
    let di := argMax dn 64
    let ii := argMax il 64
    let s := (s.put (T_TDC_DENS.DNL_MAX t) (satU 8 (roundDivN (64 * dn di) hits))).put (T_TDC_DENS.DNL_CODE t) di
    let s := (s.put (T_TDC_DENS.INL_MAX t) (satU 8 (roundDivN (16 * il ii) hits))).put (T_TDC_DENS.INL_CODE t) ii
    let bad := decide (s.get (T_TDC_AUDIT_CTL.DNL_LIM t) * hits < 64 * dn di) ||
      decide (s.get (T_TDC_AUDIT_CTL.INL_LIM t) * hits < 16 * il ii)
    let n := if bad then a.fails + 1 else 0
    let s := s.put (T_TDC_DENS.VERDICT t) (if bad then 2 else 1)
    let s := s.modTile t (fun x => { x with aud := { a with pass := !bad, fails := n, made := true } })
    if 2 ≤ n then s.markSlice t 8 true else s

/-- The integer square root of `n`, by bits from `b` down. -/
def isqrtBits (n : Nat) : Nat → Nat → Nat
  | 0, r => r
  | b + 1, r => isqrtBits n b (if (r + 2 ^ b) * (r + 2 ^ b) ≤ n then r + 2 ^ b else r)

/-- The integer square root of a number below 2⁶⁴, and that of any number below 2²⁵⁶. -/
def isqrt (n : Nat) : Nat := isqrtBits n (if n < 2 ^ 64 then 32 else 128) 0

/-- 16 × √(q / n), with the rounding that the spec leaves open. -/
def rms16 (q n : Nat) : Nat :=
  let r := isqrt (256 * q / n)
  if r * r * n = 256 * q then r else r + b2n (Config.roundsUp (256 * q) n)

/-- The mean of `sum` over `n` in 1/16, with the rounding that the spec leaves open, as 8-bit two's complement. -/
def mean16 (sum : Int) (n : Nat) : Int :=
  let q := Int.fdiv (16 * sum) n
  satS 8 (if q * n = 16 * sum then q else q + b2n (Config.roundsUp (16 * sum).natAbs n))

/-- The verdict of a mirror phase (R167, R168). -/
def State.mirrorVerdict (s : State) (t : Nat) : State :=
  let a := (s.tileSt t).aud
  let c := a.ch
  let ofsBad := decide (s.get (T_TDC_AUDIT_CTL.OFS_LIM t) * a.cmp < 4 * a.sum.natAbs)
  let v := if s.get (T_TDC_AUDIT_CTL.CMP_MAX t) < a.mism then 2
    else if 8 ≤ a.cmp && ofsBad then 2
    else if 8 ≤ a.cmp then 1
    else 3
  let v := if a.pass then v else 3
  let s := s.put (T_TDC_MIR.OFFSET t c) (if a.cmp = 0 then 0 else unsigned 8 (mean16 a.sum a.cmp))
  let s := s.put (T_TDC_MIR.RMS t c) (if a.cmp = 0 then 0 else satU 8 (rms16 a.sq a.cmp))
  let s := (s.put (T_TDC_MIR.MISMATCH t c) (satU 4 a.mism)).put (T_TDC_MIR.COMPARED t c) (satU 10 a.cmp)
  let s := s.put (T_TDC_MIR.VERDICT t c) v
  let again := v == 2 && !a.rep
  let next := if again then { a with rep := true, made := true }
    else { a with rep := false, ch := (a.ch + 1) % 8, made := true }
  let s := s.modTile t (fun x => { x with aud := next })
  let s := if !again && c == 7 then s.bumpWrap (T_TDC_AUDIT_STAT.CYCLES t) else s
  if v == 2 && a.rep then s.markSlice t c true else s

/-- The verdict of the frame's audit phase, made after the acquisition window closes (R170). -/
def State.auditVerdict (s : State) (t : Nat) (h : List Nat) : State :=
  let a := (s.tileSt t).aud
  if !(s.domOn t && a.run && !a.made && !s.acqOpen && s.dev.ticks) then s
  else if a.dens then s.densVerdict t h
  else s.mirrorVerdict t

/-- An event of the mirrored channel is compared (R167). One that neither slice times is no compared event, and OFFSET and RMS read 0 after a
phase without any (DESIGN CHOICE; log entry 94). -/
def State.auditCompare (s : State) (t : Nat) (own spare : Option Nat) : State :=
  let tol := s.get (T_TDC_AUDIT_CTL.CMP_TOL t)
  let upd := fun (a : Audit) => match own, spare with
    | some x, some y =>
      let d := signed 30 (x + 2 ^ 30 - y)
      if tol < d.natAbs then { a with mism := a.mism + 1 }
      else { a with cmp := a.cmp + 1, sum := a.sum + d, sq := a.sq + d.natAbs * d.natAbs }
    | none, none => a
    | _, _ => { a with mism := a.mism + 1 }
  s.modTile t (fun x => { x with aud := upd x.aud })

/-- The mirror phase of channel `c` runs, and its acquisition window is open. -/
def State.mirrors (s : State) (t c : Nat) : Bool :=
  let a := (s.tileSt t).aud
  a.run && !a.dens && a.ch == c && s.acqOpen

/-! ### Commands -/

/-- DLL_UNLOCK. -/
def execDllUnlock (dt : Nat) (tile : Fin 96) (slice : Fin 9) (s : State) : Host.Outcome State Fault Refusal :=
  .next ((s.advance dt).dllUnlock tile.val slice.val)

/-- DLL_LOCK. -/
def execDllLock (dt : Nat) (tile : Fin 96) (slice : Fin 9) (s : State) : Host.Outcome State Fault Refusal :=
  .next ((s.advance dt).dllLock tile.val slice.val)

/-- SLICE_MARK_TIMEOUT. -/
def execSliceMarkTimeout (dt : Nat) (tile : Fin 96) (slice : Fin 9) (s : State) : Host.Outcome State Fault Refusal :=
  .next ((s.advance dt).sliceTimeout tile.val slice.val)

/-- SLICE_SETTLE_DONE. -/
def execSliceSettleDone (dt : Nat) (tile : Fin 96) (s : State) : Host.Outcome State Fault Refusal :=
  .next ((s.advance dt).settled tile.val)

/-- MARK. -/
def execSliceMark (dt : Nat) (tile : Fin 96) (slice : Fin 16) (unmark _late : Bool) (s : State) :
    Host.Outcome State Fault Refusal := .next ((s.advance dt).hostReg (T_TDC_CMD.addr tile.val) (fun s => s.tdcCmd tile.val slice.val true unmark))

/-- UNMARK. -/
def execSliceUnmark (dt : Nat) (tile : Fin 96) (slice : Fin 16) (s : State) : Host.Outcome State Fault Refusal :=
  .next ((s.advance dt).hostReg (T_TDC_CMD.addr tile.val) (fun s => s.tdcCmd tile.val slice.val false true))

/-- AUDIT_VERDICT. -/
def execAuditVerdict (dt : Nat) (tile : Fin 96) (hist : List Nat) (s : State) : Host.Outcome State Fault Refusal :=
  .next ((s.advance dt).auditVerdict tile.val hist)

end Sys2Proof.Machine
end

