-- ==== Sys2Proof/Machine/Ambient.lean ====
section
/-! DEFINITION. Gates (R126 to R131), coincidence settings (R120, R134, R135), and the ambient estimator (R136 to R139). -/

namespace Sys2Proof.Machine

/-! ### SPADs and coincidence settings -/

/-- The enabled SPADs of a channel as a mask (R120). -/
def State.spads (s : State) (t c : Nat) : Nat :=
  andNotN 24 (s.get (T_SPAD_MASK.EN t c)) (tabGet (fun _ => 0) s.fuse.spadMap (8 * t + c))

/-- n_en of a channel (R120). -/
def State.nEn (s : State) (t c : Nat) : Nat := popBits 24 (s.spads t c)

/-- The band in force for a channel (R137, R138). -/
def State.bandOf (s : State) (t c : Nat) : Nat := ((s.rx t c).band).getD (s.get (T_COINC_CTL.START_BAND t))

/-- k, w in steps of 0.25 ns, and whether k was clamped (R135). -/
def State.coincOf (s : State) (t c : Nat) : Nat × Nat × Bool :=
  if s.flag (T_COINC_CTL.ADAPT t) then
    let b := s.bandOf t c
    let k := s.get (T_AMB_TAB.K t b)
    let n := s.nEn t c
    if n < k then (n, s.get (T_AMB_TAB.W t b), true) else (k, s.get (T_AMB_TAB.W t b), false)
  else (s.get (T_COINC_CTL.K_FIX t), s.get (T_COINC_CTL.W_FIX t), false)

/-! ### Gates -/

/-- START and LEN of a tile in ns (R128). -/
def State.gateStart (s : State) (t : Nat) : Nat := s.get (T_GATE_CTL.START t)
def State.gateLen (s : State) (t : Nat) : Nat := s.get (T_GATE_CTL.LEN_M1 t) + 1

/-- Opening and close of a gate in LSB since the first tick. -/
def State.gateOpen (s : State) (t : Nat) (g : Gate) : Nat := g.tS + 64 * s.gateStart t
def State.gateClose (s : State) (t : Nat) (g : Gate) : Nat := g.tS + 64 * (s.gateStart t + s.gateLen t)

/-- A channel has no working slice since the last tick (R145). -/
def State.chFail (s : State) (t c : Nat) : Bool := bit (s.get (T_RX_STAT.CH_FAIL t)) c

/-- A gate of a slot lies in the coarse phase (R225). -/
def Ivl.coarse (iv : Ivl) (slot : Nat) : Bool := iv.f1 == 0 || slot ≤ iv.f1

/-- A gate opens (R126, R128): with BIAS_RDY at 0 it does not. A marker is written to each list of a channel whose gate opens
(R145, R160). -/
def State.openGate (s : State) (t : Nat) (g : Gate) : State :=
  if !s.flag (T_BIAS_STAT.BIAS_RDY t) then
    s.modTile t (fun x => { x with gates := x.gates.filter (fun h => h.tS != g.tS) })
  else
    let s := s.modTile t (fun x => { x with
      gates := x.gates.map (fun h => if h.tS = g.tS then { h with opened := true } else h)
      ivl := x.ivl.map (fun iv =>
        if iv.coarse g.slot then { iv with gatesC := iv.gatesC + 1 } else { iv with gatesF := iv.gatesF + 1 }) })
    s.each (List.range 8) (fun s c =>
      if s.chEn t c && !s.chFail t c then s.listPut t c (wrapsAt (s.gateOpen t g)) (markerWord g.tS) else s)

/-- The gates of a tile are brought up to the present: those whose time has come open, those whose time is over go. -/
def State.gatesNow (s : State) (t : Nat) : State :=
  if (s.tileSt t).gates.isEmpty then s
  else
    let due := (s.tileSt t).gates.filter (fun g => !g.opened && s.gateOpen t g ≤ s.ct)
    let s := s.each due (fun s g => s.openGate t g)
    s.modTile t (fun x => { x with gates := x.gates.filter (fun g => s.ct < s.gateClose t g) })

/-- The open gate of a tile; none while TCLK is stopped (R107). -/
def State.gateNow (s : State) (t : Nat) : Option Gate :=
  if s.clk.tclkOff.isSome then none else (s.tileSt t).gates.find? (fun g => g.opened && s.ct < s.gateClose t g)

/-- A gate arms in the 3 ns before it opens (R129). -/
def State.arming (s : State) (t : Nat) : Bool :=
  (s.tileSt t).gates.any (fun g => !g.opened && s.gateOpen t g - 192 ≤ s.ct && s.ct < s.gateOpen t g)

/-! ### The estimator -/

/-- T_amb in ns; 0 where no ambient is counted (R136). -/
def State.tAmb (s : State) (t : Nat) : Nat :=
  s.gateStart t + s.gateLen t - max (s.get (T_AMB_CTL.AMB_START t)) (s.gateStart t)

/-- The rate of an interval with count `c` and `gates` gates, in 10 kcps (R136). A rate that an unsaturated count
takes above the field saturates too (DESIGN CHOICE; log entry 94). -/
def ambRate (c gates tAmb nEn : Nat) : Nat :=
  if tAmb = 0 then 0
  else if 2 ^ 24 - 1 ≤ c || gates = 0 then 0xFFFF
  else satU 16 (c * 100000 / (gates * tAmb * nEn))

/-- The highest table entry whose threshold is no greater than a rate (R137). -/
def State.bandFor (s : State) (t rate : Nat) : Nat :=
  (List.range (s.get (T_AMB_CTL.NB_M1 t) + 1)).foldl (fun b i => if s.get (T_AMB_TAB.THR t i) ≤ rate then i else b) 0

/-- The band after a rate, with the hysteresis of R137. -/
def State.bandNext (s : State) (t b rate : Nat) : Nat :=
  let hi := s.bandFor t rate
  if b < hi then hi
  else if hi < b && rate * 100 < s.get (T_AMB_TAB.THR t b) * (100 - s.get (T_COINC_CTL.HYST t)) then hi
  else b

/-- A table change lands (R138): each channel takes the band that its last rate selects without hysteresis. -/
def State.ambTableLanded (s : State) (t : Nat) : State :=
  s.each (List.range 8) (fun s c =>
    let y := s.rx t c
    match y.rate with
    | some r => s.setRx t c { y with band := some (s.bandFor t r) }
    | none => s)

end Sys2Proof.Machine
end

