-- ==== Sys2Proof/Machine/Reed.lean ====
section
/-! DEFINITION. The Reed histogram engine (R212 to R239): increments, the seed list, facets, point intervals and their halves,
and histogram export. -/

namespace Sys2Proof.Machine

/-! ### The window and the increment path -/

/-- The first and last window bins of a tile (R230). -/
def State.window (s : State) (t : Nat) : Nat × Nat :=
  let n := s.get (T_REED_WIN.HW_LEN t)
  if n = 0 then (s.gateStart t, s.gateStart t + s.gateLen t - 1)
  else (s.get (T_REED_WIN.HW_LO t), s.get (T_REED_WIN.HW_LO t) + n - 1)

/-- The count of a bin. -/
def binGet (b : Tab Nat) (i : Nat) : Nat := tabGet (fun _ => 0) b i

/-- The seed list after a coarse-phase increment of bin `b` to `v` (R226); entries are (bin, count). -/
def seedStep (sep : Nat) (l : List (Nat × Nat)) (b v : Nat) : List (Nat × Nat) :=
  if l.any (fun e => e.1 == b) then l.map (fun e => if e.1 = b then (b, v) else e)
  else
    let near := l.filter (fun e => decide (e.1 ≤ b + sep) && decide (b ≤ e.1 + sep))
    if near.isEmpty then
      if l.length < 4 then l ++ [(b, v)]
      else
        let m := l.foldl (fun m e => if e.2 < m.2 || (e.2 == m.2 && decide (m.1 < e.1)) then e else m) (l.headD (0, 0))
        if m.2 < v then l.map (fun e => if e.1 = m.1 then (b, v) else e) else l
    else if near.all (fun e => decide (e.2 < v)) then l.filter (fun e => !near.contains e) ++ [(b, v)]
    else l

/-- The width of a facet in LSB (R229). -/
def facetSpan (tac : Bool) : Nat := if tac then 128 else 64

/-- The facet and its bin that hold Δ (R229). -/
def facetOf (tac : Bool) (fs : List (Option Nat)) (delta : Nat) : Option (Nat × Nat) :=
  let hit := fun f => match nth fs f none with
    | some x => decide (x ≤ delta) && decide (delta < x + facetSpan tac)
    | none => false
  match (List.range 3).find? hit with
  | some f =>
    let d := delta - (nth fs f none).getD 0
    some (f, if tac then d / 2 else d)
  | none => none

/-- One increment of a counter in a store: the store, and whether the counter was at its end (R218). -/
def binAdd (b : Tab Nat) (i : Nat) : Tab Nat × Bool :=
  if 0xFFFF ≤ binGet b i then (b, true) else (tabMod (fun _ => 0) b i (· + 1), false)

/-- An increment takes the forward path: its row is that of one accepted one or two cycles before (R216). -/
def forwards (last : Option (Nat × Nat)) (cyc row : Nat) : Bool :=
  match last with
  | some (c, r) => r == row && decide (cyc ≤ c + 2)
  | none => false

/-- An event with Δ reaches the bank of a channel (R213 to R218, R226, R229, R230); `coarse`: its slot lies in the coarse
phase. A half that it marks SAT is shown and reported (R239). -/
def State.reedEvent (s : State) (t c delta : Nat) (coarse : Bool) : State :=
  let (wl, we) := s.window t
  let b := delta / 64
  if b < wl || we < b then s.bump (T_REED_OUT_CNT.COUNT t)
  else
    let y := s.rx t c
    let h := y.half
    let cyc := s.ct / 64
    let (bins, full) := binAdd h.bins b
    let fw := b2n (forwards h.lastB cyc (b / 16))
    let seeds := if coarse then seedStep (s.get (T_REED_CTL.SEP t)) h.seeds b (binGet bins b) else h.seeds
    let h := { h with bins := bins, sat := h.sat || full, seeds := seeds, lastB := some (cyc, b / 16) }
    let (h, fw) := match (if coarse then none else facetOf (s.tacMode t) h.fs delta) with
      | some (f, i) =>
        let (fac, full) := binAdd h.fac (64 * f + i)
        let row := 4 * f + i / 16
        ({ h with fac := fac, sat := h.sat || full, lastF := some (cyc, row) },
         fw + b2n (forwards h.lastF cyc row))
      | none => (h, fw)
    let s := (s.setRx t c { y with half := h }).addSat (T_REED_FWD_CNT.COUNT t) fw
    if h.sat && !y.half.sat then (s.orBit (T_REED_STAT.SAT t) c).raiseOnce t 2 1 (2 ^ c) else s

/-! ### Seeding (R227, R228) -/

/-- The seeds of a list: count at least `least`, highest count first, lower bin first among equals, at most three. -/
def seedsOf (l : List (Nat × Nat)) (least : Nat) : List (Nat × Nat) :=
  (sortBy (fun a b => decide (b.2 < a.2) || (a.2 == b.2 && decide (a.1 < b.1)))
    (l.filter (fun e => decide (least ≤ e.2)))).take 3

/-- The facet start of a seed bin (R228). -/
def facetStart (bins : Tab Nat) (wl we b : Nat) (fofs : Int) (tac : Bool) : Nat :=
  let cnt := fun x => if x < wl || we < x then 0 else binGet bins x
  let cm := if b = 0 then 0 else cnt (b - 1)
  let q := Int.tdiv (64 * ((cnt (b + 1) : Int) - cm)) (cm + cnt b + cnt (b + 1) : Nat)
  let f := clampI (64 * wl) (64 * (we + 1) - facetSpan tac) (64 * b + q + fofs)
  let f := f.toNat
  if tac then f / 2 * 2 else f

/-- The seeding instant of a tile: the facets of each channel are fixed (R227). -/
def State.seeding (s : State) (t : Nat) : State :=
  match (s.tileSt t).ivl with
  | some iv =>
    match iv.seedAt with
    | some a =>
      if s.ct < a then s
      else
        let (wl, we) := s.window t
        let s := s.modTile t (fun x => { x with ivl := some { iv with seedAt := none } })
        s.each (List.range 8) (fun s c =>
          let y := s.rx t c
          let l := seedsOf y.half.seeds (s.get (T_REED_CTL.SEED_MIN t))
          let fs := l.map (fun e => some (facetStart y.half.bins wl we e.1 (s.getI (T_REED_CTL.FOFS t)) (s.tacMode t)))
          s.setRx t c { y with half := { y.half with fs := fs } })
    | none => s
  | none => s

/-! ### Point intervals (R178, R179, R225, R231) -/

/-- An interval of a tile opens at its first slot. A slot is committed before its t_S: where the interval before has had all its
slots committed and not yet ended, the new one waits for that end (R179). -/
def State.openIvl (s : State) (t : Nat) (iv : Ivl) : State :=
  let old := (s.tileSt t).ivl
  if old.any (fun o => decide (o.slots < o.n)) || (s.tileSt t).nextIvl.isSome then s
  else
    let en := (List.range 8).filter (s.chEn t)
    let m := maskOf 8 (fun c => en.contains c && (s.rx t c).had && (s.rx t c).rchg)
    let iv := { iv with rchg := m, angle := (s.word TRD_ANG_STAT.addr).toNat }
    let s := s.modTile t (fun x => if old.isSome then { x with nextIvl := some iv } else { x with ivl := some iv })
    s.each en (fun s c =>
      let s := if bit m c then s.orBit (T_REED_STAT.RCHG t) c else s
      s.setRx t c { s.rx t c with had := true, rchg := false })

/-- An interval after a slot with reference instant `tS`: it is counted, or is suppressed (R182, R225); at slot F1 the seeding
instant follows (R227). -/
def State.ivlSlot (s : State) (t : Nat) (iv : Ivl) (tS : Nat) (supp : Bool) : Ivl :=
  let k := iv.slots + 1
  let at' := if k = iv.f1 then some (ceilDiv (tS + 64 * (s.gateStart t + s.gateLen t) + 512) 64 * 64) else iv.seedAt
  { iv with slots := k, supp := iv.supp + b2n supp, seedAt := at' }

/-- A slot of the interval of a tile, the one that waits where there is one: it is counted, and opens a gate at `gate` (R131,
R225). `tS`: the slot's reference instant. -/
def State.slotTile (s : State) (t entry : Nat) (tS : Nat) (gate supp : Bool) : State :=
  match (s.tileSt t).nextIvl, (s.tileSt t).ivl with
  | some iv, _ =>
    if iv.entry != entry then s
    else
      s.modTile t (fun x => { x with
        nextIvl := some (s.ivlSlot t iv tS supp)
        nextGates := if gate then x.nextGates ++ [⟨tS, iv.slots + 1, false⟩] else x.nextGates })
  | none, some iv =>
    if iv.entry != entry then s
    else
      s.modTile t (fun x => { x with
        ivl := some (s.ivlSlot t iv tS supp)
        gates := if gate then x.gates ++ [⟨tS, iv.slots + 1, false⟩] else x.gates })
  | none, none => s

/-! ### Export (R234 to R237) -/

/-- The eight header words of an export record (R237). -/
def Half.header (h : Half) (t typ len : Nat) : List Nat :=
  let fsw := fun f => match nth h.fs f none with
    | some x => 2 ^ 31 + x % 2 ^ 17
    | none => 0
  [typ * 2 ^ 24 + t * 2 ^ 17 + h.ch * 2 ^ 14 + len % 2 ^ 11, h.epoch,
   h.point % 2 ^ 12 * 2 ^ 20 + h.train % 2 ^ 9 * 2 ^ 11 + b2n h.listen * 2 ^ 10 + b2n h.proof * 2 ^ 9 + b2n h.rchg * 2 ^ 8 +
     b2n h.sat * 2 ^ 7 + b2n h.tac * 2 ^ 6,
   h.wl % 2 ^ 11 * 2 ^ 21 + h.we % 2 ^ 11 * 2 ^ 10,
   h.gatesC % 2 ^ 11 * 2 ^ 21 + h.gatesF % 2 ^ 11 * 2 ^ 10 + h.f1 % 2 ^ 10, fsw 0, fsw 1, fsw 2]

/-- Two bins of a store in a word. -/
def binPair (b : Tab Nat) (i : Nat) : Nat := binGet b i + binGet b (i + 1) * 2 ^ 16

/-- The raw record of a half (R237). -/
def Half.rawRec (h : Half) (t : Nat) : List Nat :=
  let r0 := h.wl / 16
  let rows := h.we / 16 + 1 - r0
  h.header t 0x21 (8 + 8 * rows) ++ (List.range (8 * rows)).map (fun i => binPair h.bins (16 * r0 + 2 * i))

/-- The facet record of a half (R237). -/
def Half.facRec (h : Half) (t : Nat) : List Nat :=
  h.header t 0x22 104 ++ (List.range 96).map (fun i => binPair h.fac (2 * i))

/-- A record takes room in the export buffer, or is skipped whole (R236). -/
def State.exportPut (s : State) (t ch : Nat) (ws : List Nat) : State :=
  let used := ((s.tileSt t).exp.map (fun l => 4 * l.length)).foldl (· + ·) 0
  if used + 4 * ws.length ≤ 16384 then s.modTile t (fun x => { x with exp := x.exp ++ [ws] })
  else ((s.bump (T_REED_CNT.EXP_SKIP t)).dataOverrun).raiseOnce t 2 3 (2 ^ ch)

/-- The exports of a half at its swap (R235). -/
def State.exportHalf (s : State) (t : Nat) (h : Half) : State :=
  if (s.exportRoute t).isNone || (h.proof && !s.flag (T_REED_EXP.EXP_PROOF t)) then s
  else
    let p := if h.proof then 0 else h.point
    let s := if bit (s.get (T_REED_EXP.FAC_EXP t)) h.ch && h.f1 != 0 then s.exportPut t h.ch (h.facRec t) else s
    if bit (s.get (T_REED_EXP.RAW_EXP t)) h.ch && p % (s.get (T_REED_EXP.RAW_DIV_M1 t) + 1) == 0 then
      s.exportPut t h.ch (h.rawRec t)
    else s

/-- The oldest export record leaves the buffer on the tile's route (R236). -/
def State.exportDrain (s : State) (t : Nat) : State :=
  match (s.tileSt t).exp with
  | [] => s
  | ws :: rest =>
    let s := s.modTile t (fun x => { x with exp := rest })
    match s.exportRoute t with
    | some ch => s.handOver ⟨ch, .hist, nth ws 1 0, t, ws⟩
    | none => s

/-! ### The end of an interval (R136 to R139, R220, R221, R233) -/

/-- A half of a channel that has not been extracted is cut by the swap (R221). -/
def State.cutHalf (s : State) (t c : Nat) : State :=
  if (s.tileSt t).pend.any (fun h => h.ch == c && !h.cut) then
    let s := s.modTile t (fun x => { x with
      pend := x.pend.map (fun h => if h.ch = c then { h with cut := true, bins := [], fac := [] } else h) })
    ((s.orBit (T_REED_STAT.CUT t) c).bump (T_REED_CNT.CUT_CNT t)).raiseOnce t 2 2 (2 ^ c)
  else s

/-- The receiver's side of an interval's end for a channel (R136 to R139): the rate, whether the channel is blinded, the status
registers, and the band of the next interval. -/
def State.ambEnd (s : State) (t c gates : Nat) : Nat × Bool × State :=
  let y := s.rx t c
  let (k, w, clamp) := s.coincOf t c
  let b := s.bandOf t c
  let ta := s.tAmb t
  let rate := ambRate y.c gates ta (s.nEn t c)
  let blind := ta != 0 && decide (s.get (T_AMB_CTL.BLIND_THR t) ≤ rate)
  let s := (s.put (T_AMB_STAT.RATE t c) rate).put (T_AMB_STAT.BAND t c) b
  let s := (s.put (T_AMB_STAT.K t c) k).put (T_AMB_STAT.W t c) w
  let s := (s.putB (T_AMB_STAT.BLIND t c) blind).putB (T_AMB_STAT.K_CLAMP t c) clamp
  let s := s.setRx t c { y with c := 0, rate := some rate, band := some (s.bandNext t b rate), clamped := y.clamped || clamp }
  (rate, blind, if clamp && !y.clamped then s.raiseTile t 0 5 (2 ^ c) else s)

/-- A channel's half is filled and handed on, and the other half becomes active, cleared (R214, R220, R233). -/
def State.swapHalf (s : State) (t c : Nat) (iv : Ivl) : State :=
  let s := s.cutHalf t c
  let y := s.rx t c
  let (k, w, _) := s.coincOf t c
  let band := s.bandOf t c
  let gC := if s.chFail t c then 0 else iv.gatesC
  let gF := if s.chFail t c then 0 else iv.gatesF
  let (rate, blind, s) := if iv.proof then (y.rate.getD 0, false, s) else s.ambEnd t c (gC + gF)
  let (wl, we) := s.window t
  let fs := (List.range 3).map (fun f => nth y.half.fs f none)
  let h : Half :=
    { ch := c, half := y.sel, train := iv.train, point := iv.point, listen := iv.listen, proof := iv.proof, angle := iv.angle, supp := iv.supp
      wl := wl, we := we, f1 := iv.f1, gatesC := gC, gatesF := gF, fs := fs, sat := y.half.sat, rchg := bit iv.rchg c
      tac := s.tacMode t, k := k, w := w, band := band, rate := rate, blind := blind, epoch := s.epoch
      bins := y.half.bins, fac := y.half.fac }
  let s := s.modTile t (fun x => ({ x with pend := x.pend ++ [h] }).setRx c { x.rx c with sel := 1 - y.sel, half := {} })
  let s := s.put (T_REED_SEED.NSEED t c) (fs.filter Option.isSome).length
  let s := s.put (T_REED_SEED.FS0 t c) ((nth fs 0 none).getD 0)
  s.exportHalf t h

/-- The open interval of a tile ends, once its last slot has been committed and its last gate has closed (R18, R220); one that
waits for that end is open from then. -/
def State.ivlEnd (s : State) (t : Nat) : State :=
  let s := s.gatesNow t
  match (s.tileSt t).ivl with
  | some iv =>
    if iv.slots < iv.n || !(s.tileSt t).gates.isEmpty then s
    else
      let s := s.modTile t (fun x => { x with ivl := x.nextIvl, gates := x.nextGates, nextIvl := none, nextGates := [] })
      let s := s.bumpWrap (T_REED_IVL.DONE t)
      s.each ((List.range 8).filter (s.chEn t)) (fun s c => s.swapHalf t c iv)
  | none => s

/-- The close of the acquisition window discards the interval that a tile has open (R223). -/
def State.ivlDiscard (s : State) (t : Nat) : State :=
  let s := s.gatesNow t
  match (s.tileSt t).ivl with
  | some _ =>
    let s := s.modTile t (fun x => { x with
      ivl := none, gates := [], nextIvl := none, nextGates := []
      chans := x.chans.map (fun p => (p.1, { p.2 with half := {}, c := 0 })) })
    (s.bump (T_REED_IVL.DISCARD t)).raiseOnce t 2 4 0
  | none => s

/-! ### Settings and epochs -/

/-- The settings of R231 that apply to every channel of a tile. -/
def State.reedSig (s : State) (t : Nat) : List Nat :=
  [(s.word (T_GATE_CTL.addr t)).toNat, (s.word (T_REED_WIN.addr t)).toNat, (s.word (T_REED_CTL.addr t)).toNat,
   s.get (T_BIND.BIND t 0), s.get (T_BIND.BIND t 1), s.get (T_BIND.BIND t 2), s.get (T_RX_CTL.TILE_EN t),
   s.get (T_TDC_CTL.MODE t)]

/-- The channels whose next interval carries RANGE_CHANGED after a landing (R231): `before` is the state before it. -/
def State.reedLanded (s before : State) (t : Nat) : State :=
  let all := s.reedSig t != before.reedSig t
  s.each (List.range 8) (fun s c =>
    let en := bit (s.get (T_RX_CTL.CH_EN t)) c != bit (before.get (T_RX_CTL.CH_EN t)) c
    if all || en then s.setRx t c { s.rx t c with rchg := true } else s)

/-- The status of an epoch starts again at a tick. -/
def State.reedTick (s : State) (t : Nat) : State :=
  let s := (s.setWord (T_REED_STAT.addr t) 0).setWord (T_REED_IVL.addr t) 0
  s.each (List.range 8) (fun s c => s.setWord (T_REED_SEED.addr t c) 0)

/-! ### Commands -/

/-- POINT_INTERVAL_END. -/
def execPointIntervalEnd (dt : Nat) (tile : Fin 96) (s : State) : Host.Outcome State Fault Refusal :=
  .next ((s.advance dt).ivlEnd tile.val)

/-- SEEDING. -/
def execSeeding (dt : Nat) (tile : Fin 96) (s : State) : Host.Outcome State Fault Refusal :=
  .next ((s.advance dt).seeding tile.val)

/-- EXPORT_DRAIN. -/
def execExportDrain (dt : Nat) (tile : Fin 96) (s : State) : Host.Outcome State Fault Refusal :=
  .next ((s.advance dt).exportDrain tile.val)

end Sys2Proof.Machine
end

