-- ==== Sys2Proof/Machine/Receiver.lean ====
section
/-! DEFINITION. The receiver (R118 to R147): bias measurement, avalanches, coincidence and blanking, and what a tick does to the
slice map. -/

namespace Sys2Proof.Machine

/-! ### Bias (R121, R122, R125, R126) -/

/-- V_EX,tgt in mV. -/
def State.vexTgt (s : State) : Nat := s.get TRD_BIAS_CTL.VEX_TGT * 10

/-- The tile contributes its V_BD to V_BD,max (R122). -/
def State.givesVbd (s : State) (t : Nat) : Bool :=
  s.tileEn t && !s.flag (T_BIAS_CTL.EXCL t) && !s.flag (T_BIAS_STAT.BIAS_FAULT t) && (s.tileSt t).vbd.isSome

/-- The bias target is renewed where at least one tile contributes (R122, R286). -/
def State.biasRefresh (s : State) : State :=
  let l := (List.range 96).filter s.givesVbd
  if l.isEmpty then s
  else
    let m := l.foldl (fun m t => max m (((s.tileSt t).vbd).getD 0)) 0
    { s with trd := { s.trd with target := some (m + s.vexTgt).toNat } }

/-- The trim that a measurement gives (R122): steps of 25 mV, rounded to the nearest, clamped to 0 to 63, with whether 63
clamped it. `excess` is V_SPAD − V_BD − V_EX,tgt in mV. -/
def trimOf (excess : Int) : Nat × Bool :=
  let n := roundDivI excess 25
  ((clampI 0 63 n).toNat, decide (63 < n))

/-- The next value of a run of consecutive measurements. -/
def runNext (n : Nat) (b : Bool) : Nat := if b then min 3 (n + 1) else 0

/-- A bias measurement (R121, R122, R125, R126): `hits` avalanches from the 16 triggers, with a mean swing of `vex` in 10 mV. The
second test of R125 applies while the bias slot reports settled; a measurement with avalanches before that counts as one
that passes it (log entry 85). -/
def State.biasMeasure (s : State) (t hits vex : Nat) : State :=
  if !s.tileEn t then s
  else
    let s := s.gatesNow t
    let x := s.tileSt t
    let vspad : Int := s.getI (TRD_Y.Y 7)
    let v := 10 * vex
    let dev : Int := (v : Int) - s.vexTgt
    let fault := s.flag (T_BIAS_STAT.BIAS_FAULT t)
    let refBad := decide (hits < 12)
    let exBad := hits == 0 || decide (250 < dev.natAbs)
    let settled := s.flag TRD_BIAS_STAT.SETTLED
    let refRun := runNext x.refRun refBad
    let exRun := runNext x.exRun (exBad && settled)
    let okRun := runNext x.okRun (!(refBad || (exBad && (settled || hits == 0))))
    let rdyRun := runNext x.rdyRun (!fault && hits != 0 && decide (dev.natAbs ≤ 100))
    let trim := s.get (T_BIAS_STAT.TRIM t)
    let vbd : Int := vspad - 25 * trim - v
    -- values of the measurement
    let s := if hits = 0 then s.setTile t { x with vbd := none }
      else
        let s := (s.put (T_BIAS_STAT.VEX t) vex).put (T_BIAS_STAT.VBD t) (openQuot vbd.toNat 10)
        s.setTile t { x with vbd := some vbd }
    let s := s.modTile t (fun x => { x with refRun := refRun, exRun := exRun, okRun := okRun, rdyRun := rdyRun })
    -- faults
    let setRef := refRun == 3 && !s.flag (T_BIAS_STAT.REF_FAIL t)
    let setFault := (refRun == 3 || exRun == 3) && !fault
    let s := if setRef then (s.putB (T_BIAS_STAT.REF_FAIL t) true).raiseTile t 0 2 0 else s
    let s := if setFault then (s.putB (T_BIAS_STAT.BIAS_FAULT t) true).raiseTile t 0 1 0 else s
    let s := if okRun == 3 then (s.putB (T_BIAS_STAT.BIAS_FAULT t) false).putB (T_BIAS_STAT.REF_FAIL t) false else s
    let bad := s.flag (T_BIAS_STAT.BIAS_FAULT t)
    let rdy := s.flag (T_BIAS_STAT.BIAS_RDY t)
    let s := if bad then s.modTile t (fun x => { x with rdyRun := 0 }) else s
    let s := if bad && rdy then (s.putB (T_BIAS_STAT.BIAS_RDY t) false).raiseTile t 0 4 0
      else if !bad && rdyRun == 3 then s.putB (T_BIAS_STAT.BIAS_RDY t) true
      else s
    -- trim
    let s := if hits = 0 || bad || !s.flag (T_BIAS_CTL.AUTO t) then s
      else
        let (n, sat) := trimOf (vspad - vbd - s.vexTgt)
        let was := s.flag (T_BIAS_STAT.TRIM_SAT t)
        let s := (s.modTile t (fun x => { x with trimNext := some n })).putB (T_BIAS_STAT.TRIM_SAT t) sat
        if sat && !was then s.raiseTile t 0 3 0 else s
    s.biasRefresh

/-! ### Avalanches (R119, R129, R132, R134, R136) -/

/-- A sub-pulse of an aggressor of the tile blanks an event at the present instant (R132): an event on either end of the interval is
blanked (log entry 45); the TCLK edge at which an avalanche is timed is the last one at or before it (R154), so that a slot
committed at the next edge does not blank it (log entry 85); and an event in a quiet window is blanked where PRE or POST of an
edge outside the window reaches it, since R133 and the table check keep the edges alone out of the window (log entry 85). -/
def State.blanked (s : State) (t : Nat) : Bool :=
  let pre := 16 * s.get (T_BLANK_CTL.PRE t)
  let post := 16 * s.get (T_BLANK_CTL.POST t)
  s.hed.edges.any (fun (o, r, f) => bit (s.get (T_AGGR.AGGR t (o / 32))) (o % 32) && decide (r - pre ≤ s.ct) && decide (s.ct ≤ f + post))

/-- An event of a channel reaches its slice, the list and the bank (R155, R160, R167). -/
def State.event (s : State) (t c : Nat) (g : Gate) (code code8 : Nat) : State :=
  let mirror := s.mirrors t c
  let (own, s) := s.sliceTake t (s.sliceOf t c) code
  let s := if mirror then
      let (sp, s) := s.sliceTake t 8 code8
      s.auditCompare t own sp
    else s
  match own, (s.tileSt t).ivl with
  | some stamp, some iv =>
    let s := s.listPut t c s.wraps (s.photonWord t stamp code)
    s.reedEvent t c (deltaOf stamp g.tS) (iv.coarse g.slot)
  | _, _ => s

/-- An avalanche of an enabled SPAD in an open gate: the ambient count, coincidence, blanking and the event (R132, R134,
R136). -/
def State.avalancheIn (s : State) (t c : Nat) (g : Gate) (code code8 : Nat) : State :=
  let (k, w, _) := s.coincOf t c
  let y := s.rx t c
  let proof := match (s.tileSt t).ivl with
    | some iv => iv.proof
    | none => true
  let amb := !proof && decide (g.tS + 64 * s.get (T_AMB_CTL.AMB_START t) ≤ s.ct)
  let cnt := if amb then min (2 ^ 24 - 1) (y.c + 1) else y.c
  let av := y.aval.filter (fun a => decide (s.now < a + 16 * w)) ++ [s.now]
  let free := y.evtAt = 0 || y.evtAt - 1 + 128 ≤ s.now
  if k ≤ av.length && free then
    let s := s.setRx t c { y with c := cnt, aval := [], evtAt := s.now + 1 }
    if s.blanked t then s.bump (T_RX_CNT.BLANK_CNT t) else s.event t c g code code8
  else s.setRx t c { y with c := cnt, aval := av }

/-- An avalanche of a SPAD at the present instant. A SPAD that is not enabled, is in its dead time, or is not armed makes none
that counts (R119, R120, R129, R145). -/
def State.avalanche (s : State) (t c spad code code8 : Nat) : State :=
  if !s.domOn t then s
  else
    let s := s.gatesNow t
    let y := s.rx t c
    let last := tabGet (fun _ => 0) y.spad spad
    let dead := last != 0 && decide (s.now < last - 1 + 64 * (s.get (T_SPAD_CTL.HOLD t) + 1))
    if !(s.chEn t c && bit (s.spads t c) spad) || s.chFail t c || dead then s
    else
      let mark := fun (s : State) => s.setRx t c { s.rx t c with spad := tabSet (fun _ => 0) (s.rx t c).spad spad (s.now + 1) }
      match s.gateNow t with
      | some g => (mark s).avalancheIn t c g code code8
      | none => if s.arming t && s.flag (T_BIAS_STAT.BIAS_RDY t) then mark s else s

/-! ### The slice map at a tick (R143 to R145) -/

/-- Automatic substitution (R144): `was` is SUB_EN before the tick's landings, `staged` says that a host write of T_SLICE_MAP was staged
then, be it one that lands at this tick; a slice marked inside the hand-over
window waits for the next tick. Of several failed slices, the lowest-numbered is substituted (DESIGN CHOICE, log entry 85). -/
def State.autoSub (s : State) (t : Nat) (was staged : Bool) : State :=
  let late := (s.tileSt t).markLate
  let failed := (List.range 8).find? (fun i => s.sliceFail t i && !bit late i)
  let s := s.modTile t (fun x => { x with markLate := 0 })
  match failed with
  | some c =>
    let on := s.flag (T_SLICE_MAP.SUB_EN t)
    if !s.flag (T_RX_CTL.AUTO_SUB t) || (on && (was || !staged)) then s
    else if staged then s.raiseTile t 1 2 (2 ^ c)
    else ((s.putB (T_SLICE_MAP.SUB_EN t) true).put (T_SLICE_MAP.SUB_CH t) c).raiseTile t 1 1 (2 ^ c)
  | none => s

/-- SPARE_USED and CH_FAIL at a tick; a channel left without a slice is reported (R143, R145, R147). -/
def State.sliceTick (s : State) (t : Nat) : State :=
  let s := s.putB (T_RX_STAT.SPARE_USED t) (s.flag (T_SLICE_MAP.SUB_EN t))
  let old := s.get (T_RX_STAT.CH_FAIL t)
  let m := maskOf 8 (s.noSlice t)
  let s := s.put (T_RX_STAT.CH_FAIL t) m
  let new := andNotN 8 m old
  if new = 0 then s else s.raiseTile t 1 4 new

/-- The receiver at a tick (R122, R138, R147): the trim lands and the status of the epoch starts again. -/
def State.rxTick (s before : State) (t : Nat) : State :=
  let x := s.tileSt t
  let s := if s.flag (T_BIAS_CTL.AUTO t) then
      match x.trimNext with
      | some n => if s.flag (T_BIAS_STAT.BIAS_FAULT t) then s else s.put (T_BIAS_STAT.TRIM t) n
      | none => s
    else s.put (T_BIAS_STAT.TRIM t) (s.get (T_BIAS_CTL.TRIM t))
  let s := s.setTile t { x with trimNext := none }
  let tab := fun (s : State) => (List.range (s.get (T_AMB_CTL.NB_M1 t) + 1)).map (fun i => (s.word (T_AMB_TAB.addr t i)).toNat)
  let s := if tab s != tab before then s.ambTableLanded t else s
  let s := s.setWord (T_PROOF_STAT.addr t) 0
  s.each (List.range 8) (fun s c =>
    let s := s.setWord (T_AMB_STAT.addr t c) 0
    let y := s.rx t c
    let y := if s.chEn t c && !before.chEn t c then { y with band := none, rate := none } else y
    s.setRx t c { y with clamped := false })

/-! ### Commands -/

/-- BIAS_MEASUREMENT. -/
def execBiasMeasurement (dt : Nat) (tile : Fin 96) (hits : Fin 17) (vex : Nat) (s : State) : Host.Outcome State Fault Refusal :=
  .next ((s.advance dt).biasMeasure tile.val hits.val vex)

/-- AVALANCHE. -/
def execAvalanche (dt : Nat) (tile : Fin 96) (ch : Fin 8) (spad : Fin 24) (code : Nat) (code8 : Nat) (s : State) :
    Host.Outcome State Fault Refusal := .next ((s.advance dt).avalanche tile.val ch.val spad.val code code8)

end Sys2Proof.Machine
end

