-- ==== Sys2Proof/Machine/Heddle.lean ====
section
/-! DEFINITION. Heddle (R177 to R192, R194 to R196): the shot table, slots and triggers, the diagnostic slot, and throttle
pauses. -/

namespace Sys2Proof.Machine

/-! ### The shot table (R177 to R180) -/

/-- A word of an entry in a table. -/
def entWord (tab : List Nat) (i w : Nat) : Nat := nth tab (4 * i + w) 0

/-- Type of an entry: 0 END, 1 TRAIN, 2 PROOF_LED, 3 DIAG. -/
def entType (tab : List Nat) (i : Nat) : Nat := bitsOf (entWord tab i 0) 31 28
def entT0 (tab : List Nat) (i : Nat) : Nat := bitsOf (entWord tab i 0) 23 0
/-- PER of a TRAIN or PROOF_LED entry. -/
def entPer (tab : List Nat) (i : Nat) : Nat :=
  if entType tab i = 1 then bitsOf (entWord tab i 2) 31 16 else bitsOf (entWord tab i 1) 31 16
def trainCell (tab : List Nat) (i : Nat) : Bool := bit (entWord tab i 0) 27
def trainSet (tab : List Nat) (i : Nat) : Nat := bitsOf (entWord tab i 0) 26 25 + 1
def trainOut (tab : List Nat) (i k : Nat) : Nat := bitsOf (entWord tab i 1) (8 * k + 6) (8 * k)
/-- The outputs of a train's set. -/
def trainOuts (tab : List Nat) (i : Nat) : List Nat := (List.range (trainSet tab i)).map (trainOut tab i)
def trainLo (tab : List Nat) (i : Nat) : Nat := bitsOf (entWord tab i 2) 15 10
def trainN (tab : List Nat) (i : Nat) : Nat := bitsOf (entWord tab i 2) 9 0 + 1
def trainNp (tab : List Nat) (i : Nat) : Nat := bitsOf (entWord tab i 3) 11 0
def proofHi (tab : List Nat) (i : Nat) : Nat := bitsOf (entWord tab i 1) 14 8
def proofLo (tab : List Nat) (i : Nat) : Nat := bitsOf (entWord tab i 1) 6 0
def proofTrig (tab : List Nat) (i : Nat) : Nat := bitsOf (entWord tab i 2) 5 0 + 1

/-- Entries before END, at most 512 (R177). -/
def tabEntries (tab : List Nat) : Nat := ((List.range (min 512 (tab.length / 4))).takeWhile (fun i => entType tab i != 0)).length

/-- The entries of a type. -/
def entsOf (tab : List Nat) (typ : Nat) : List Nat := (List.range (tabEntries tab)).filter (fun i => entType tab i == typ)

/-- The train index of an entry: its place among the TRAIN entries. -/
def trainIdx (tab : List Nat) (i : Nat) : Nat := ((entsOf tab 1).filter (fun j => decide (j < i))).length

/-- Slots or triggers of an entry in a frame (R178, R179). -/
def entSlots (tab : List Nat) (i : Nat) : Nat :=
  match entType tab i with
  | 1 => trainN tab i * trainNp tab i
  | 2 => proofTrig tab i
  | _ => 0

/-- Slots of an entry committed in the frame. -/
def State.entPos (s : State) (i : Nat) : Nat := tabGet (fun _ => 0) s.hed.pos i

/-- Point interval `p` of a train is a listen point (R190). -/
def isListen (lo p : Nat) : Bool := lo != 0 && (lo == 1 || p % lo == lo - 1)

/-! ### Running the table (R181, R107) -/

/-- The device states in which Heddle runs. -/
def Dev.fires : Dev → Bool
  | .configured | .run | .degraded | .safeStop | .maintenance => true
  | _ => false

/-- The table runs (R181); Heddle stops in a bypass of PLL-T (R107). -/
def State.tableRuns (s : State) : Bool :=
  s.dev.fires && s.domOn 120 && s.flag HED_STAT.TABLE_VALID && !s.flag CLK_STAT.PLLT_BYP

/-- A slot may be committed: the table runs, the acquisition window is open, and no pause runs (R17, R192). -/
def State.shotMay (s : State) : Bool := s.tableRuns && s.acqOpen && s.hed.pauseAt.isNone

/-- A DIAG entry is in the table. -/
def State.diagIn (s : State) : Bool := !(entsOf s.hed.tab 3).isEmpty

/-- The diagnostic slot has begun, and its proof shots have not been committed. -/
def State.inDiag (s : State) : Bool := s.emd.diagAt.isSome && !s.emd.diagRan

/-- A slot, trigger or the diagnostic slot of the frame is still to be committed (R192). -/
def State.moreSlots (s : State) : Bool :=
  (List.range (tabEntries s.hed.tab)).any (fun i => decide (s.entPos i < entSlots s.hed.tab i)) ||
    (s.diagIn && s.emd.diagAt.isNone)

/-! ### Slots (R183 to R191) -/

/-- The dither state after a slot (R187). -/
def ditherNext (x : Nat) : Nat :=
  let b := (x / 2 ^ 15 + x / 2 ^ 13 + x / 2 ^ 12 + x / 2 ^ 10) % 2
  (2 * x + b) % 2 ^ 16

/-- The dither of a shot in ns (R187). -/
def State.ditherNs (s : State) (o x : Nat) : Nat :=
  if s.flag (HED_DITH.EN o) then x * (s.get (HED_DITH.DMAX o) + 1) / 65536 else 0

/-- The dither state loaded when EN becomes 1 or a new SEED lands (R188). -/
def State.ditherLoad (s : State) (o : Nat) : Nat :=
  let v := s.get (HED_DITH.SEED o)
  if v = 0 then 1 + Config.ditherSeed s.fuse.unitId o % 65535 else v

/-- The TCLK edge at which a slot is committed, in LSB since the first tick. -/
def State.edge (s : State) : Nat := s.ct / 64 * 64

/-- NSUB, WIDTH and OFS_k of an output, in steps of 62.5 ps (R186). -/
def State.nsub (s : State) (o : Nat) : Nat := s.get (HED_CODE_A.NSUB_M1 o) + 1
def State.width (s : State) (o : Nat) : Nat := s.get (HED_CODE_A.WIDTH o)
def State.ofs (s : State) (o k : Nat) : Nat :=
  match k with
  | 0 => 0
  | 1 => s.get (HED_CODE_A.OFS1 o)
  | 2 => s.get (HED_CODE_B.OFS2 o)
  | _ => s.get (HED_CODE_B.OFS3 o)

/-- t_S of a shot of an output committed now with a dither of `d` ns (R184). -/
def State.shotTs (s : State) (o d : Nat) : Nat :=
  s.edge + 1024 + 64 * d + 4 * (s.get (HED_CODE_A.FINE o) + s.fuse.outDelay o)

/-- The sub-pulses of a shot with t_S `tS` (R184). -/
def State.pulses (s : State) (o tS : Nat) : List (Nat × Nat) :=
  (List.range (s.nsub o)).map (fun k => (tS + 4 * s.ofs o k, tS + 4 * (s.ofs o k + s.width o)))

/-- The closing reserve T_CR (R17). -/
def closingReserve : Nat := 60 * usLsb

/-- Sub-pulses that end in the acquisition window of the frame (R17). -/
def State.inWindow (s : State) (pulses : List (Nat × Nat)) : Bool :=
  pulses.all (fun p => decide (s.now + (p.2 - s.ct) + closingReserve ≤ s.clk.dueAt))

/-- A slot fires a shot whose edges do not all come in the acquisition window: it is not committed (R17, log entry 95). -/
def State.tooLate (s : State) (e : Nat) : Bool :=
  let tab := s.hed.tab
  let i := s.entPos e
  let o := trainOut tab e (i % trainSet tab e)
  !isListen (trainLo tab e) (i / trainN tab e) && s.fireDecide o == .emitted &&
    !s.inWindow (s.pulses o (s.shotTs o (s.ditherNs o (tabGet (fun _ => 0) s.hed.dith o))))

/-- The tiles that take part in a train. -/
def State.trainTiles (s : State) (e : Nat) : List Nat :=
  (List.range 96).filter (fun t => s.tileEn t && (trainOuts s.hed.tab e).any (s.bound t))

/-- One more slot of an entry has been committed. -/
def State.slotDone (s : State) (e : Nat) : State :=
  { s with hed := { s.hed with pos := tabMod (fun _ => 0) s.hed.pos e (· + 1) } }

/-- Heddle commits the next slot of a train (R178, R182 to R184, R187, R189, R190). -/
def State.shotCommit (s : State) (e : Nat) : State :=
  let tab := s.hed.tab
  let i := s.entPos e
  if !(s.shotMay && decide (e < tabEntries tab) && entType tab e == 1 && decide (i < entSlots tab e)) || s.tooLate e then s
  else
    let n := trainN tab e
    let o := trainOut tab e (i % trainSet tab e)
    let p := i / n
    let listen := isListen (trainLo tab e) p
    let x := tabGet (fun _ => 0) s.hed.dith o
    let tS := s.shotTs o (s.ditherNs o x)
    let s := { s with hed := { s.hed with dith := tabSet (fun _ => 0) s.hed.dith o (ditherNext x) } }
    let tiles := s.trainTiles e
    let s := s.each tiles (fun s t => s.gatesNow t)
    let s := if i % n = 0 then
        s.each tiles (fun s t =>
          let f1 := s.get (T_REED_CTL.F1 t)
          s.openIvl t { entry := e, train := trainIdx tab e, point := p, n := n
                        f1 := if s.flag (T_REED_CTL.FACET t) && f1 < n then f1 else 0
                        listen := listen, proof := false, angle := 0 })
      else s
    let f := s.fireDecide o
    let emitted := !listen && f == .emitted
    let s := if listen then s.bump HED_LISTEN.COUNT
      else if emitted then s.emitShot o false (s.width o) (s.pulses o tS)
      else s.suppress o f
    let s := s.each tiles (fun s t =>
      s.slotTile t e tS (s.bound t o && (listen || emitted)) (!listen && !emitted))
    (s.slotDone e).putB HED_STAT.RUNNING true

/-- Heddle commits the next trigger of a PROOF_LED entry (R140, R179, R185): the proof LED of each tile that takes part gives its pulse
at t_P + DLY. -/
def State.proofTrigger (s : State) (e : Nat) : State :=
  let tab := s.hed.tab
  let i := s.entPos e
  if !(s.shotMay && decide (e < tabEntries tab) && entType tab e == 2 && decide (i < entSlots tab e)) then s
  else
    let n := proofTrig tab e
    let tiles := (List.range 96).filter (fun t => decide (proofLo tab e ≤ t) && decide (t ≤ proofHi tab e) && s.tileEn t)
    let tP := s.edge + 1024
    let s := s.each tiles (fun s t =>
      let s := s.gatesNow t
      let s := if i = 0 then
          s.openIvl t { entry := e, train := 0x1FF, point := 0xFFF, n := n
                        f1 := if s.flag (T_REED_CTL.FACET t) then n / 2 else 0
                        listen := false, proof := true, angle := 0 }
        else s
      (s.slotTile t e tP true false).emit
        (.proofLed t (tP + 64 * s.get (T_PROOF_CTL.DLY t)) (s.get (T_PROOF_CTL.WIDTH t)) (s.get (T_PROOF_CTL.DRIVE t))))
    (s.slotDone e).putB HED_STAT.RUNNING true

/-! ### The diagnostic slot (R194 to R196) -/

/-- The output of a group's proof shot (R196). -/
def State.proofOut (s : State) (g : Nat) : Option Nat :=
  if bit (s.get EMD_STAT.MPD_FAULT) g then none
  else
    let a := tabGet (fun _ => 0) s.emd.again g
    let base := if a = 0 then s.epoch % 4 else (a - 1) % 4
    ((List.range 4).map (fun k => 4 * g + (base + k) % 4)).find? (fun o => !s.outMarked o)

/-- The commit of the proof shots, 3,200 TCLK after T_D, and their base edge 16 TCLK later (R194). -/
def diagCommit : Nat := 64 * 3200
def diagBase : Nat := 64 * 3216

/-- The proof shot of a group in the diagnostic slot that started at `tD` (R194, R196): one suppressed with cause GOV or FIRE_OFF, or
too late for the acquisition window (R17), has not run, which is a DIAG_OVR cause. -/
def State.proofShot (s : State) (tD g : Nat) : State :=
  match s.proofOut g with
  | none => s
  | some o =>
    match s.fireDecide o with
    | .emitted =>
      let tS := tD + diagBase + 4 * s.fuse.outDelay o
      if s.inWindow [(tS, tS + 256)] then s.emitShot o true 64 [(tS, tS + 256)] else s.diagOverrun
    | .fault => s.suppress o .fault
    | .gov => (s.suppress o .gov).diagOverrun
    | .fireOff => (s.suppress o .fireOff).diagOverrun

/-- The pair of an output is shut down: its detector has tripped, or its SHORT mark has taken it to high impedance (R201). -/
def State.pairShut (s : State) (o : Nat) : Bool := s.mark EMD_SHUT.SHUT o || bit s.emd.shortZ o

/-- The pair of an output was shut down already at an instant of TCLK time. -/
def State.wasShut (s : State) (o c : Nat) : Bool :=
  bit s.emd.shortZ o || (s.mark EMD_SHUT.SHUT o && decide (tabGet (fun _ => 0) s.emd.shutAt o ≤ c + 1))

/-- The step of the walking test that runs `d` LSB after T_D: the output stepped, and whether in step B (R194). -/
def walkStep (d : Nat) : Option (Nat × Bool) := if d / 2048 < 96 then some (d / 2048, decide (1024 ≤ d % 2048)) else none

/-- The level of a ball in a step of output `o` (R175, R195): step A drives FIRE_P high and step B FIRE_N low; FIRE_P is low and
FIRE_N high in the off state. Balls are 2 × output for FIRE_P and 1 more for FIRE_N. -/
def walkLevel (o : Nat) (stepB : Bool) (ball : Nat) : Bool :=
  if ball = 2 * o && !stepB then true else if ball = 2 * o + 1 && stepB then false else ball % 2 == 1

/-- A sample of a ball in a step of output `o` (R195): where it does not read the ball's driven or off-state level, `o` and the owner of
the ball are marked SHORT. An output that was shut down at that step of the slot of `tD` is neither stepped nor sampled. -/
def State.walkSample (s : State) (tD o : Nat) (stepB : Bool) (ball : Nat) (high : Bool) : State :=
  let c := tD + 2048 * o + (if stepB then 1024 else 0)
  if s.wasShut o c || s.wasShut (ball / 2) (c + 896) || high == walkLevel o stepB ball then s
  else
    let s := { s with emd := { s.emd with walkBad := true } }
    (s.markShort o).markShort (ball / 2)

/-- The diagnostic slot of the frame (R194): at its start T_D the walking test begins; at T_D + 3,200 TCLK the proof shots are committed
and the samples of the walking test have been judged. -/
def State.diagSlot (s : State) (walk : List WalkSample) : State :=
  if !(s.shotMay && s.diagIn) || s.emd.diagRan then s
  else
    match s.emd.diagAt with
    | none => ({ s with emd := { s.emd with diagAt := some s.edge } } : State).putB HED_STAT.RUNNING true
    | some tD =>
      if s.ct < tD + diagCommit then s
      else
        let s := { s with emd := { s.emd with diagRan := true } }
        let s := s.each (List.range 24) (fun s g => s.proofShot tD g)
        s.each walk (fun s p => s.walkSample tD p.stepped.val p.stepB p.ball.val p.high)

/-- The state of a FIRE_P/N pair (R175). -/
inductive PairState where
  | off | fire | testHigh | testLow | hiZ
  deriving DecidableEq, Repr

/-- The step of the walking test, if any, that an output is in: `true` for step B. -/
def State.walks (s : State) (o : Nat) : Option Bool :=
  if !s.tableRuns || s.flag EMD_STAT.STUCK_ON then none
  else
    match (s.emd.diagAt.map (fun tD => walkStep (s.ct - tD))).join with
    | some (p, b) => if p = o then some b else none
    | none => none

/-- The state of the FIRE_P/N pair of an output (R59, R70, R79, R175, R195, R201): the drivers draw from VDDIO_18, rail 8 (R533), and
keepers in the always-on domain, on VDD_AON, hold the off state while domain 120 is Off. -/
def State.firePair (s : State) (o : Nat) : PairState :=
  if !bit s.pwr.rails 8 || (!s.domOn 120 && !bit s.pwr.rails 9) then .hiZ
  else if s.dev == .off || s.dev == .reset then .off
  else if !s.domOn 120 then .off
  else if s.pairShut o then .hiZ
  else match s.walks o with
    | some false => .testHigh
    | some true => .testLow
    | none => if s.hed.edges.any (fun e => e.1 == o && decide (e.2.1 ≤ s.ct) && decide (s.ct < e.2.2)) then .fire else .off

/-- The levels of FIRE_P and FIRE_N in a state; none where they are released (R175). -/
def PairState.levels : PairState → Option (Bool × Bool)
  | .off => some (false, true)
  | .fire => some (true, false)
  | .testHigh => some (true, true)
  | .testLow => some (false, false)
  | .hiZ => none

/-! ### Throttle pauses (R192) -/

/-- A throttle pause of `len` LSB is requested: Heddle takes it up only while the table runs and a slot is still to
come (R192); one that comes during a pause lengthens it (R491). -/
def State.pauseAsk (s : State) (len : Nat) : State :=
  if !(s.tableRuns && s.acqOpen && s.moreSlots) then s
  else if s.hed.pauseAt.isSome then { s with hed := { s.hed with pauseLen := s.hed.pauseLen + len } }
  else { s with hed := { s.hed with pauseReq := s.hed.pauseReq + len } }

/-- The requested pause starts at the next slot boundary, which is not inside the diagnostic slot. -/
def State.pauseStart (s : State) : State :=
  if s.hed.pauseReq = 0 || !s.shotMay || !s.moreSlots || s.inDiag then s
  else { s with hed := { s.hed with pauseAt := some s.now, pauseLen := s.hed.pauseReq, pauseReq := 0 } }

/-- The running pause ends; its time in the frame is counted. -/
def State.pauseEnd (s : State) : State :=
  match s.hed.pauseAt with
  | some a =>
    let n := s.hed.paused + (s.now - a)
    ({ s with hed := { s.hed with pauseAt := none, pauseLen := 0, paused := n } } : State).put HED_PAUSE.TCLK (n / 64)
  | none => s

/-! ### The close of the window and the tick -/

/-- What has not ended at the close of the acquisition window (R20, R223): an open interval, or slots that were never
committed while the table ran. -/
def State.hedClose (s : State) : State :=
  let tab := s.hed.tab
  let missed := fun typ => (entsOf tab typ).any (fun i => decide (s.entPos i < entSlots tab i))
  let openT := fun (p : Tile → Bool) => s.tiles.any (fun x => p x.2)
  let open' := openT (fun x => x.ivl.isSome)
  let openP := openT (fun x => x.ivl.any (fun iv => iv.proof))
  let runs := s.tableRuns
  let late := open' || (runs && missed 1)
  let diag := openP || (runs && (missed 2 || (s.diagIn && !s.emd.diagRan)))
  let s := s.each (List.range 96) (fun s t => s.ivlDiscard t)
  let s := if late then s.acqOverrun else s
  if diag then s.diagOverrun else s

/-- Dither states are loaded where EN became 1 or a new SEED landed (R187, R188). `before`: the state before the landing. -/
def State.hedLanded (s before : State) : State :=
  s.each (List.range 96) (fun s o =>
    let on := s.flag (HED_DITH.EN o) && !before.flag (HED_DITH.EN o)
    let seed := s.get (HED_DITH.SEED o) != before.get (HED_DITH.SEED o)
    if on || seed then { s with hed := { s.hed with dith := tabSet (fun _ => 0) s.hed.dith o (s.ditherLoad o) } } else s)

/-- Heddle at a tick (R192): the counts of the frame start again, and marks take effect (R203). -/
def State.hedTick (s : State) : State :=
  let s := { s with
    hed := { s.hed with pos := [], pauseAt := none, pauseLen := 0, pauseReq := 0, paused := 0 }
    emd := { s.emd with supp := [], govRaised := false, diagAt := none, diagRan := false, walkBad := false
                        barred := s.barredNow, shortZ := maskOf 96 (s.mark EMD_SHORT.SHORT) } }
  let s := (s.setWord HED_SHOTS.addr 0).setWord HED_SUPP.addr 0
  let s := (s.setWord HED_LISTEN.addr 0).setWord HED_PAUSE.addr 0
  (s.govTick).putB HED_STAT.RUNNING s.tableRuns

/-! ### Commands -/

/-- SHOT_SLOT_COMMIT. -/
def execShotSlotCommit (dt : Nat) (entry : Fin 512) (s : State) : Host.Outcome State Fault Refusal :=
  .next ((s.advance dt).shotCommit entry.val)

/-- PROOF_TRIGGER. -/
def execProofTrigger (dt : Nat) (entry : Fin 512) (s : State) : Host.Outcome State Fault Refusal :=
  .next ((s.advance dt).proofTrigger entry.val)

/-- DIAG_SLOT. -/
def execDiagSlot (dt : Nat) (walk : List WalkSample) (s : State) : Host.Outcome State Fault Refusal :=
  .next ((s.advance dt).diagSlot walk)

/-- THROTTLE_PAUSE_START. -/
def execThrottlePauseStart (dt : Nat) (s : State) : Host.Outcome State Fault Refusal := .next (s.advance dt).pauseStart

/-- THROTTLE_PAUSE_END. -/
def execThrottlePauseEnd (dt : Nat) (s : State) : Host.Outcome State Fault Refusal := .next (s.advance dt).pauseEnd

end Sys2Proof.Machine
end

