-- ==== Sys2Proof/Machine/Extract.lean ====
section
/-! DEFINITION. Return extraction (R240 to R264, R559): template, baseline, candidates, times, ranges, classes, the results that
Selvedge gets, proof outcomes, and point records. Amounts are in 1/16 count, times in 1/16 LSB. -/

namespace Sys2Proof.Machine

/-! ### Template (R243) -/

/-- A template: OFS_k, tap offsets in bins, and the width of a tap in bins. -/
structure Template where
  ofs : List Nat
  taps : List Nat
  wb : Nat
  deriving DecidableEq, Repr

/-- A template from OFS_k and WIDTH in steps of 62.5 ps. -/
def templateOf (ofs : List Nat) (width : Nat) : Template :=
  { ofs := ofs, taps := ofs.map (fun o => (o + 8) / 16), wb := max 1 ((width + 8) / 16) }

def Template.nsub (p : Template) : Nat := p.taps.length
def Template.span (p : Template) : Nat := p.taps.getLastD 0 + p.wb

/-- The template of a tile's bound outputs, which agree in their codes (R265). -/
def State.template (s : State) (t : Nat) : Template :=
  match s.boundOuts t with
  | o :: _ => templateOf ((List.range (s.nsub o)).map (s.ofs o)) (s.width o)
  | [] => templateOf [0] 16

/-- The template of a proof interval: a single tap (R243). -/
def State.proofTemplate (s : State) (t : Nat) : Template := { ofs := [0], taps := [0], wb := s.get (T_PROOF_CTL.WIDTH t) }

/-! ### Baseline (R244) -/

/-- Bins of block `j` inside a window. -/
def blockLen (wl we j : Nat) : Nat := min we (64 * j + 63) + 1 - max wl (64 * j)

/-- The blocks of a window as (first, last) block numbers, with short ones joined to their neighbour. -/
def blocksOf (wl we : Nat) : List (Nat × Nat) :=
  let j0 := wl / 64
  let l := (List.range (we / 64 + 1 - j0)).map (fun i => (j0 + i, j0 + i))
  let l := match l with
    | a :: b :: r => if blockLen wl we a.1 < 16 then (a.1, b.2) :: r else l
    | _ => l
  match l.reverse with
  | a :: b :: r => if blockLen wl we a.2 < 16 then ((b.1, a.2) :: r).reverse else l
  | _ => l

/-- β of a joined block in 1/16 count. -/
def blockBase (bins : Tab Nat) (wl we : Nat) (blk : Nat × Nat) : Nat :=
  let lo := max wl (64 * blk.1)
  let hi := min we (64 * blk.2 + 63)
  let c := (List.range (hi + 1 - lo)).map (fun i => binGet bins (lo + i))
  let sum := c.foldl (· + ·) 0
  let top := ((sortBy (fun a b => decide (b < a)) c).take 4).foldl (· + ·) 0
  16 * (sum - top) / (c.length - 4)

/-- β by block (R244); 0 everywhere in a window of fewer than 16 bins. -/
def baseline (bins : Tab Nat) (wl we : Nat) : Tab Nat :=
  if we + 1 - wl < 16 then []
  else (blocksOf wl we).flatMap (fun b =>
    let v := blockBase bins wl we b
    (List.range (b.2 + 1 - b.1)).map (fun i => (b.1 + i, v)))

/-- β at a bin. -/
def betaAt (beta : Tab Nat) (x : Nat) : Nat := tabGet (fun _ => 0) beta (x / 64)

/-! ### Scores (R245) -/

/-- What a half is searched with. -/
structure Search where
  h : Half
  p : Template
  beta : Tab Nat
  deriving DecidableEq, Repr

/-- r(x). -/
def Search.r (q : Search) (x : Nat) : Int := 16 * binGet q.h.bins x - betaAt q.beta x

/-- S_k(b) for the tap at offset `p`. -/
def Search.tap (q : Search) (b p : Nat) : Int := ((List.range q.p.wb).map (fun i => q.r (b + p + i))).foldl (· + ·) 0

/-- The tap sums of bin `b`. -/
def Search.taps (q : Search) (b : Nat) : List Int := q.p.taps.map (q.tap b)

/-- Bin `b` lies in the range of R245. -/
def Search.inRange (q : Search) (b : Nat) : Bool := decide (q.h.wl ≤ b) && decide (b + q.p.span ≤ q.h.we + 1)

/-- C(b), 0 outside the range. -/
def Search.score (q : Search) (b : Nat) : Int := if q.inRange b then (q.taps b).foldl (· + ·) 0 else 0

/-- B(b). -/
def Search.back (q : Search) (b : Nat) : Nat :=
  (q.p.taps.flatMap (fun p => (List.range q.p.wb).map (fun i => betaAt q.beta (b + p + i)))).foldl (· + ·) 0

/-- Least and largest tap sum. -/
def Search.tapMin (q : Search) (b : Nat) : Int := let l := q.taps b; l.foldl min (l.headD 0)
def Search.tapMax (q : Search) (b : Nat) : Int := let l := q.taps b; l.foldl max (l.headD 0)

/-- 16 × Q, floored and capped at 15 (R260). -/
def Search.q16 (q : Search) (b : Nat) : Nat :=
  if q.p.nsub = 1 then 15
  else if q.tapMax b ≤ 0 then 0
  else (clampI 0 15 (Int.fdiv (16 * q.tapMin b) (q.tapMax b))).toNat

/-! ### Candidates (R246, R247, R259) -/

/-- (THR_SIG / 4) × √max(B, 1) in 1/16 count, truncated once (R246, log entry 47); `back` is B in 1/16 count. -/
def sigLevel (thrSig back : Nat) : Nat := isqrt (thrSig * thrSig * max back 16)

/-- Bin `b` is a detection. -/
def Search.detects (q : Search) (thrAbs thrSig b : Nat) : Bool :=
  let c := q.score b
  decide ((16 * thrAbs : Nat) ≤ c) && decide ((sigLevel thrSig (q.back b) : Nat) ≤ c)

/-- Two bins lie within `m` of each other. -/
def within (m a b : Nat) : Bool := decide (a ≤ b + m) && decide (b ≤ a + m)

/-- The candidates, in descending order of C with the lower bin first (R246). -/
def Search.candidates (q : Search) (thrAbs thrSig merge : Nat) : List Nat :=
  let bins := ((List.range (q.h.we + 1 - q.h.wl)).map (q.h.wl + ·)).filter
    (fun b => q.inRange b && q.detects thrAbs thrSig b)
  let ord := (sortBy (fun a b => decide (b.2 < a.2)) (bins.map (fun b => (b, q.score b)))).map (fun p => p.1)
  ord.foldl (fun l b => if l.any (within merge b) then l else l ++ [b]) []

/-- What is selected from the candidates: the returns' bins in order, the carried candidates dropped, and the candidates left
over (R247, R259). -/
structure Selected where
  bins : List Nat := []
  dropped : Nat := 0
  left : Nat := 0
  deriving DecidableEq, Repr

/-- The selection of R247; `carried` is empty outside an interval with RANGE_CHANGED. -/
def selectReturns (cands carried : List Nat) (merge : Nat) : Selected :=
  match cands with
  | [] => {}
  | c :: cs =>
    let low := cs.foldl min c
    let rest := cands.filter (· != low)
    let car := rest.filter (fun b => carried.any (within merge b))
    let others := rest.filter (fun b => !car.contains b)
    let kept := car.take 3
    let room := 3 - kept.length
    { bins := low :: (kept ++ others.take room), dropped := car.length - 3
      left := (car.length - 3) + (others.length - room) }

/-! ### Times (R248, R249) -/

/-- The coarse time of bin `b` in 1/16 LSB. -/
def Search.coarseTime (q : Search) (b : Nat) : Int :=
  let m := if b = 0 then 0 else q.score (b - 1)
  let d := m + q.score b + q.score (b + 1)
  let f := if d ≤ 0 then 0 else Int.tdiv (64 * (q.score (b + 1) - m)) d
  16 * (64 * b + 32 + f)

/-- The net counts of a facet for a tap at bin `x`. -/
def Search.facetNet (q : Search) (f x : Nat) : List Nat :=
  let g := q.h.gatesC + q.h.gatesF
  let bf := betaAt q.beta x * q.h.gatesF / (g * (if q.h.tac then 32 else 64))
  (List.range 64).map (fun i => 16 * binGet q.h.fac (64 * f + i) - bf)

/-- The used facets that match a tap at bin `x`. -/
def Search.facetsAt (q : Search) (x : Nat) : List Nat :=
  (List.range 3).filter (fun f => match nth q.h.fs f none with
    | some fs => decide (((fs : Int) + (if q.h.tac then 64 else 32) - 64 * x - 32).natAbs < 64)
    | none => false)

/-- The time of a return at bin `b` in 1/16 LSB, and whether a facet gave it. -/
def Search.time (q : Search) (b : Nat) : Int × Bool :=
  let tc := q.coarseTime b
  if q.p.wb != 1 then (tc, false)
  else
    match (List.range q.p.nsub).find? (fun k => !(q.facetsAt (b + nth q.p.taps k 0)).isEmpty) with
    | none => (tc, false)
    | some k =>
      let x := b + nth q.p.taps k 0
      let sum := fun f => (q.facetNet f x).foldl (· + ·) 0
      let l := q.facetsAt x
      let f := l.foldl (fun m f => if sum m < sum f then f else m) (l.headD 0)
      if sum f = 0 then (tc, false)
      else
        let h := q.facetNet f x
        let w := ((List.range 64).map (fun i => (if q.h.tac then 32 * i + 16 else 16 * i + 8) * nth h i 0)).foldl (· + ·) 0
        (16 * ((nth q.h.fs f none).getD 0 : Nat) + (w / sum f : Nat) - 64 * (nth q.p.ofs k 0 : Nat), true)

/-! ### Returns (R250, R251, R260) -/

/-- A return: bin, score, background, range in 0.25 mm, NEAR, whether a facet gave the time, saturation, class. -/
structure Return where
  bin : Nat
  score : Int
  back : Nat
  beta : Nat
  range : Nat
  near : Bool
  facet : Bool
  q : Nat
  sat : Bool
  cls : Nat
  deriving DecidableEq, Repr

/-- CHOFS of a channel (R250). -/
def State.chofs (s : State) (t c : Nat) : Int :=
  let a := if c < 4 then T_RET_CHOFS.addr t 0 else T_RET_CHOFS.addr t 1
  s.getI ⟨a, 8 * (c % 4) + 7, 8 * (c % 4)⟩

/-- The range of a time of flight in 1/16 LSB, and NEAR (R250). -/
def rangeOf (tau : Int) : Nat × Bool := if tau < 0 then (0, true) else ((tau.toNat * 38373 + 32768) / 65536, false)

/-- The return at a selected bin, before its class. -/
def State.returnAt (s : State) (t : Nat) (q : Search) (b : Nat) : Return :=
  let (tm, fac) := q.time b
  let (r, near) := rangeOf (tm - s.get (T_RET_CAL.CAL t) - s.chofs t q.h.ch)
  let g := q.h.gatesC + q.h.gatesF
  let sat := q.h.sat || q.p.taps.any (fun p => decide (s.get (T_RET_CLS.SAT_FRAC t) * g ≤ 16 * binGet q.h.bins (b + p)))
  { bin := b, score := q.score b, back := q.back b, beta := betaAt q.beta b, range := r, near := near, facet := fac
    q := q.q16 b, sat := sat, cls := 0 }

/-- The class of a return among those of its channel (R251, R252); `intf`: the result carries INTF. -/
def State.classify (s : State) (t : Nat) (q : Search) (all : List Return) (lb : List Nat) (intf : Bool) (r : Return) : Nat :=
  let merge := s.get (T_RET_CTL.MERGE t)
  let bb := s.get (T_RET_CLS.BLOOM_BINS t)
  let bloom := all.any (fun o => o.bin != r.bin && o.sat && within bb o.bin r.bin &&
    decide (16 * r.score < s.get (T_RET_CLS.BLOOM_RATIO t) * o.score))
  let code := decide (2 ≤ q.p.nsub) && (decide (q.tapMax r.bin ≤ 0) ||
    decide (16 * q.tapMin r.bin < s.get (T_RET_CLS.MATCH_Q t) * q.tapMax r.bin))
  let pr := s.get (T_RET_CLS.PART_RATIO t)
  if r.sat then 4
  else if bb != 0 && bloom then 2
  else if code || (intf && lb.any (within merge r.bin)) then 3
  else if pr != 0 && all.any (fun o => decide (r.bin < o.bin) && decide (16 * r.score < pr * o.score)) then 1
  else 0

/-- The two words of a return in a point record (R260). -/
def Return.words (r : Return) (range : Nat) : List Nat :=
  let snr := satU 8 (isqrt (r.score.natAbs * r.score.natAbs / max r.back 16))
  [range % 2 ^ 20 * 2 ^ 12 + min 4095 (r.score.toNat / 16),
   r.cls * 2 ^ 29 + b2n r.facet * 2 ^ 28 + b2n r.near * 2 ^ 27 + r.q * 2 ^ 23 + snr * 2 ^ 15 + min 4095 r.beta]

/-- The five header words of a point record (R260). -/
def Half.recordHead (h : Half) (t nret stat flags : Nat) : List Nat :=
  [0x11 * 2 ^ 24 + t * 2 ^ 17 + h.ch * 2 ^ 14 + nret * 2 ^ 11 + stat * 2 ^ 8 + flags, h.epoch,
   h.point % 2 ^ 12 * 2 ^ 20 + h.train % 2 ^ 9 * 2 ^ 11 + h.k % 2 ^ 4 * 2 ^ 7 + h.w % 2 ^ 6 * 2, h.angle,
   h.rate % 2 ^ 16 * 2 ^ 16 + h.band % 2 ^ 4 * 2 ^ 12 + (if h.proof then 0 else h.supp % 2 ^ 11)]

/-- A point record is handed to staging on the tile's route (R242, R262). -/
def State.pointRecord (s : State) (t : Nat) (h : Half) (stat flags : Nat) (rets : List (List Nat)) : State :=
  match s.pointRoute t with
  | none => s
  | some ch =>
    let s := (s.bump (T_RET_PTS.RECORDS t)).handOver
      ⟨ch, .point, h.epoch, t, h.recordHead t rets.length stat flags ++ rets.flatten⟩
    { s with frm := { s.frm with points := s.frm.points + 1 } }

/-! ### Results (R252 to R258) -/

/-- The channel result goes to Selvedge, unless it comes too late (R20, R253, R254, R298). A decision that comes before its deadline does
not wait for it, and what is extracted after the decision has no effect on the frame, without EXT_OVR (DESIGN CHOICE; log entry 100). -/
def State.deliver (s : State) (t : Nat) (h : Half) (stat : Nat) (rets : List Return) : State :=
  if h.late || s.decided || !s.domOn 121 then s
  else
    let s := s.addSat (T_RET_PTS.RETURNS t) rets.length
    let s := { s with frm := { s.frm with returns := s.frm.returns + rets.length } }
    match s.cellOf t h.ch h.angle with
    | none => s
    | some cell =>
      let s := if stat = 0 then s.observe cell h.ch else s
      s.each rets (fun s r => s.foldReturn cell r.range r.cls r.near)

/-- The interference hold of a channel after a train half (R252): whether its result carries INTF. With INTF_HOLD at 0 the listen rule
is off: a hold left over from before is neither tested nor counted. -/
def State.listenHold (s : State) (t : Nat) (h : Half) (bins : List Nat) : Bool × State :=
  let y := s.rx t h.ch
  let n := s.get (T_RET_CLS.INTF_HOLD t)
  if n = 0 then (false, s)
  else if h.listen && !bins.isEmpty then
    (true, (s.setRx t h.ch { y with hold := n, listenBins := bins }).raiseOnce t 3 1 (2 ^ h.ch))
  else (y.hold != 0, s.setRx t h.ch { y with hold := y.hold - 1 })

/-- Counters and events of a selection (R247, R250, R259, R266). -/
def State.selectCounts (s : State) (t ch : Nat) (sel : Selected) (far near : Nat) : State :=
  let m := 2 ^ ch
  let s := if sel.left = 0 then s else (s.addSat (T_RET_CNT.CAND_LOST t) sel.left).raiseOnce t 3 2 m
  let s := if sel.dropped = 0 then s else (s.addSat (T_RET_CNT2.OVL_LOSS t) sel.dropped).raiseOnce t 3 5 m
  let s := if far = 0 then s else (s.addSat (T_RET_CNT.FAR t) far).raiseOnce t 3 3 m
  if near = 0 then s else (s.addSat (T_RET_CNT2.NEAR_CNT t) near).raiseOnce t 3 4 m

/-- A half that is cut or opened no gate gives no return (R258). -/
def Half.dead (h : Half) : Bool := h.cut || h.gatesC + h.gatesF == 0

/-- The candidates of a half with a template. -/
def State.halfCands (s : State) (t : Nat) (q : Search) : List Nat :=
  if q.h.dead then []
  else q.candidates (s.get (T_RET_CTL.THR_ABS t)) (s.get (T_RET_CTL.THR_SIG t)) (s.get (T_RET_CTL.MERGE t))

/-- A half of a point interval is extracted. -/
def State.extractPoint (s : State) (t : Nat) (h : Half) : State :=
  let c := h.ch
  let q : Search := { h := h, p := s.template t, beta := baseline h.bins h.wl h.we }
  let merge := s.get (T_RET_CTL.MERGE t)
  let sel := selectReturns (s.halfCands t q) (if h.rchg then (s.rx t c).carried else []) merge
  let (intf, s) := s.listenHold t h sel.bins
  let all := sel.bins.map (s.returnAt t q)
  let kept := all.filter (fun r => decide (r.range ≤ 1000000))
  let lb := (s.rx t c).listenBins
  let rets := kept.map (fun r => { r with cls := if h.listen then 3 else s.classify t q kept lb intf r })
  let rets := sortBy (fun a b => decide (a.range < b.range) || (a.range == b.range && decide (a.bin < b.bin))) rets
  let s := s.selectCounts t c sel (all.length - kept.length) (kept.filter (fun r => r.near)).length
  let s := if h.listen || h.dead then s else s.setRx t c { s.rx t c with carried := sel.bins }
  let stat := if h.cut then 2 else if h.dead then 3 else if h.blind then 1 else 0
  let flags := b2n h.listen * 128 + b2n h.rchg * 32 + b2n h.sat * 16 + b2n h.tac * 8 + b2n intf * 4 +
    b2n (sel.dropped != 0) * 2 + b2n (sel.left != 0)
  let s := if intf then s.orBit (T_RET_STAT.INTF t) c else s
  let s := if stat = 1 then s.orBit (T_RET_STAT.BLIND t) c else s
  let s := if stat = 3 then s.orBit (T_RET_STAT.NO_GATES t) c else s
  let s := if sel.left != 0 then s.orBit (T_RET_STAT.FULL t) c else s
  let s := if h.cut then { s with frm := { s.frm with cut := s.frm.cut + 1 } } else s
  let s := if h.listen then s
    else match rets with
      | r :: _ => ((s.put (T_RET_LAST.RANGE t c) r.range).put (T_RET_LAST.CLASS t c) r.cls).putB (T_RET_LAST.VALID t c) true
      | [] => s.setWord (T_RET_LAST.addr t c) 0
  let s := if h.listen then s else s.deliver t h stat rets
  let drop := s.get (T_RET_HOSTMASK.DROP t)
  let out := rets.filter (fun r => !bit drop r.cls)
  if h.listen || s.flag (T_RET_CTL.EMPTY_REC t) || !out.isEmpty || stat != 0 || flags != 0 then
    s.pointRecord t h stat flags (out.map (fun r => r.words r.range))
  else s

/-- A half of a proof interval is extracted (R141, R257, R559). -/
def State.extractProof (s : State) (t : Nat) (h : Half) : State :=
  let c := h.ch
  let q : Search := { h := h, p := s.proofTemplate t, beta := baseline h.bins h.wl h.we }
  let best := (s.halfCands t q).head?
  let ret := best.map (s.returnAt t q)
  let posBad := fun (b : Nat) =>
    let aim : Int := 64 * s.get (T_PROOF_CTL.DLY t) + tabGet (fun _ => 0) s.fuse.ledDly t
    decide (64 * s.get (T_PROOF_CHK.POS_TOL t) < ((q.time b).1 - 16 * aim).natAbs)
  let ampBad := fun (b : Nat) =>
    let a := q.score b / 16
    decide (a < s.get (T_PROOF_CHK.AMP_MIN t)) || decide ((s.get (T_PROOF_CHK.AMP_MAX t) : Int) < a)
  let (fld, code) := match best with
    | none => (T_PROOF_STAT.MISSING t, 7)
    | some b => if posBad b then (T_PROOF_STAT.POS_FAIL t, 6) else if ampBad b then (T_PROOF_STAT.AMP_FAIL t, 5)
      else (T_PROOF_STAT.PASS t, 4)
  let s := s.orBit fld c
  let s := if h.cut then { s with frm := { s.frm with cut := s.frm.cut + 1 } } else s
  let stat := if h.cut then 2 else if h.dead then 3 else code
  let flags := 64 + b2n h.rchg * 32 + b2n h.sat * 16 + b2n h.tac * 8
  if s.flag (T_RET_CTL.PROOF_REC t) then
    let rets := ret.toList.map (fun r =>
      r.words (if r.range < 2 ^ 20 then r.range else Config.farProofRange r.range))
    s.pointRecord t h stat flags rets
  else s

/-- The engine of a tile extracts the next filled half (R240, R242): in the order of the swaps, and of one swap in channel order. The
half that the command names is extracted when its turn has come. -/
def State.extractHalf (s : State) (t c : Nat) : State :=
  match (s.tileSt t).pend with
  | [] => s
  | h :: rest =>
    if h.ch != c then s
    else
      let s := s.modTile t (fun x => { x with pend := rest })
      if h.proof then s.extractProof t h else s.extractPoint t h

/-- The instant at which every return must have reached Selvedge: what is still pending leaves the safety path (R20). -/
def State.extractDeadline (s : State) : State :=
  if s.tiles.any (fun p => !p.2.pend.isEmpty) then
    ({ s with tiles := s.tiles.map (fun p =>
      (p.1, { p.2 with pend := p.2.pend.map (fun h => { h with late := true }) })) } : State).extOverrun
  else s

/-- Extraction at a tick: the status of the epoch starts again (R241). -/
def State.retTick (s : State) (t : Nat) : State :=
  let s := s.modTile t (fun x => { x with raised := 0, markedNow := 0 })
  let s := (s.setWord (T_RET_STAT.addr t) 0).setWord (T_RET_PTS.addr t) 0
  s.each (List.range 8) (fun s c => s.setWord (T_RET_LAST.addr t c) 0)

/-! ### The frame-close record (R263) -/

/-- The frame-close record is handed to staging, on the channel that the image names (R263). -/
def State.closeRecord (s : State) : State :=
  if s.frm.closed then s
  else
    let s := { s with frm := { s.frm with closed := true } }
    match s.closeChan with
    | some ch => s.handOver ⟨ch, .frameClose, s.epoch, 255, s.closeWords⟩
    | none => s

/-- A record of the frame has yet to be handed over that the frame-close record must follow: that of a half which awaits extraction, or
one in an export buffer whose route is the record's own. -/
def State.recordsWait (s : State) : Bool :=
  s.tiles.any (fun p => !p.2.pend.isEmpty || (!p.2.exp.isEmpty && (s.exportRoute p.1).isSome && s.exportRoute p.1 == s.closeChan))

/-- The record is due once the frame decision has been issued and every record that it must follow has been handed over. -/
def State.frameClose (s : State) : State :=
  if !s.decided || s.recordsWait then s else s.closeRecord

/-- The tick that ends a frame (R15, R20, R263): halves that were not extracted are given up, a frame-close record that still waited for
them is written, what the export buffers hold is dropped, and so is what staging has not taken. -/
def State.recordsEnd (s : State) : State :=
  let s := s.each (s.tiles.filter (fun p => !p.2.pend.isEmpty || !p.2.exp.isEmpty)) (fun s p =>
    let s := s.modTile p.1 (fun x => { x with pend := [], exp := [] })
    match s.exportRoute p.1 with
    | some ch => s.each p.2.exp (fun s ws => s.dropRecord ⟨ch, .hist, nth ws 1 0, p.1, ws⟩)
    | none => s)
  let s := s.stageTick
  (if s.decided then s.closeRecord else s).stageTick

/-! ### Commands -/

/-- EXTRACT_HALF. -/
def execExtractHalf (dt : Nat) (tile : Fin 96) (ch : Fin 8) (s : State) : Host.Outcome State Fault Refusal :=
  .next ((s.advance dt).extractHalf tile.val ch.val)

/-- FRAME_CLOSE_RECORD. -/
def execFrameCloseRecord (dt : Nat) (s : State) : Host.Outcome State Fault Refusal := .next (s.advance dt).frameClose

end Sys2Proof.Machine
end

