-- ==== Sys2Proof/Machine/TableCheck.lean ====
section
/-! DEFINITION. The shot-table check of R193 with the rules of R130, R133, R140, R178, R179, R186 and R222 (codes 0x30 to 0x38
and 0x42). A time is in LSB of the TDC, multiplied by U = 10⁶ + 10⁶ s; at a steering value s, n FRCLK cycles then last
n × 320 × 10⁶ of these units and m LSB last m × U. Every bound is linear in s; a rule is tested at −LIM and +LIM, and a quiet window
against each edge over the whole range between them (log entry 30). -/

namespace Sys2Proof.Machine

/-! ### Entries (R177, 0x30) -/

/-- The bits of word `w` that the format of a type uses. -/
def entUsed (typ w : Nat) : Nat :=
  match typ, w with
  | 1, 0 => 0xFEFF_FFFF
  | 1, 1 => 0x7F7F_7F7F
  | 1, 2 => 0xFFFF_FFFF
  | 1, 3 => 0xFFF
  | 2, 0 => 0xF0FF_FFFF
  | 2, 1 => 0xFFFF_7F7F
  | 2, 2 => 0x3F
  | 3, 0 => 0xF0FF_FFFF
  | _, 0 => 0xF000_0000
  | _, _ => 0

/-- An entry has a known type, no reserved bit set and every field in its range. -/
def entOk (tab : List Nat) (i : Nat) : Bool :=
  let typ := entType tab i
  let plain := [0, 1, 2, 3].all (fun w => andNotN 32 (entWord tab i w) (entUsed typ w) == 0)
  match typ with
  | 0 => plain
  | 1 =>
    plain && decide (25 ≤ entPer tab i) && decide (4 ≤ trainN tab i) && decide (1 ≤ trainNp tab i) &&
      (trainOuts tab i).all (fun o => decide (o < 96)) &&
      [1, 2, 3].all (fun k => decide (k < trainSet tab i) || trainOut tab i k == 0)
  | 2 =>
    plain && decide (25 ≤ entPer tab i) && decide (4 ≤ proofTrig tab i) && decide (proofLo tab i ≤ proofHi tab i) &&
      decide (proofHi tab i < 96)
  | 3 => plain
  | _ => false

/-- The entries and the table as a whole: at most one DIAG, and an END where there are fewer than 512 entries. -/
def tabFormOk (tab : List Nat) : Bool :=
  let n := tabEntries tab
  (List.range n).all (entOk tab) && decide ((entsOf tab 3).length ≤ 1) &&
    (n == 512 || (decide (n < tab.length / 4) && entOk tab n))

/-! ### Codes (R186, 0x37) -/

/-- OFS_k of an output in a candidate. -/
def Cand.ofs (c : Cand) (o k : Nat) : Nat :=
  match k with
  | 0 => 0
  | 1 => c.get (HED_CODE_A.OFS1 o)
  | 2 => c.get (HED_CODE_B.OFS2 o)
  | _ => c.get (HED_CODE_B.OFS3 o)

/-- NSUB of an output in a candidate. -/
def Cand.nsub (c : Cand) (o : Nat) : Nat := c.get (HED_CODE_A.NSUB_M1 o) + 1

/-- The burst code of an output keeps R186. -/
def Cand.codeOk (c : Cand) (o : Nat) : Bool :=
  let w := c.get (HED_CODE_A.WIDTH o)
  decide (8 ≤ w) && [1, 2, 3].all (fun k => decide (c.ofs o k ≤ 496)) &&
    [1, 2, 3].all (fun k => decide (c.nsub o ≤ k) || decide (c.ofs o (k - 1) + w + 16 ≤ c.ofs o k))

/-! ### Times -/

/-- What the timed rules use: the candidate, the table, the fused delays and U. -/
structure TabTime where
  c : Cand
  tab : List Nat
  fuse : Fuses
  u : Nat
  deriving DecidableEq, Repr

/-- `n` FRCLK cycles. -/
def TabTime.fr (_ : TabTime) (n : Nat) : Int := ((n * 320000000 : Nat) : Int)

/-- `m` LSB. -/
def TabTime.lsb (x : TabTime) (m : Nat) : Int := ((m * x.u : Nat) : Int)

/-- t_S − B of an output at its earliest and at its latest, in LSB (R184, R187). -/
def TabTime.lo (x : TabTime) (o : Nat) : Nat := 4 * (x.c.get (HED_CODE_A.FINE o) + x.fuse.outDelay o)
def TabTime.hi (x : TabTime) (o : Nat) : Nat :=
  x.lo o + (if x.c.flag (HED_DITH.EN o) then 64 * x.c.get (HED_DITH.DMAX o) else 0)

/-- BSPAN of an output in LSB (R185). -/
def TabTime.bspan (x : TabTime) (o : Nat) : Nat := 4 * (x.c.ofs o (x.c.nsub o - 1) + x.c.get (HED_CODE_A.WIDTH o))

/-- The first slot of an entry (R191). -/
def TabTime.t0 (x : TabTime) (e : Nat) : Nat :=
  entT0 x.tab e + (if entType x.tab e == 1 && trainCell x.tab e then
    x.c.get HED_CELL_CTL.MEMBER * x.c.get HED_CELL_CTL.SLOT else 0)

/-- The FRCLK edge of slot or trigger `i` of an entry (R178, R179). -/
def TabTime.slotAt (x : TabTime) (e i : Nat) : Int := x.fr (x.t0 e + i * entPer x.tab e)

/-- The output of slot `i` of a train. -/
def TabTime.out (x : TabTime) (e i : Nat) : Nat := nth (trainOuts x.tab e) (i % trainSet x.tab e) 0

/-- Earliest and latest t_S of slot `i` of a train: S follows the FRCLK edge by at most 1 TCLK and B follows S by 16 TCLK
(R183). -/
def TabTime.tsLo (x : TabTime) (e i : Nat) : Int := x.slotAt e i + x.lsb (1024 + x.lo (x.out e i))
def TabTime.tsHi (x : TabTime) (e i : Nat) : Int := x.slotAt e i + x.lsb (1088 + x.hi (x.out e i))

/-- Earliest and latest t_P of trigger `j` of a PROOF_LED entry (R185). -/
def TabTime.tpLo (x : TabTime) (e j : Nat) : Int := x.slotAt e j + x.lsb 1024
def TabTime.tpHi (x : TabTime) (e j : Nat) : Int := x.slotAt e j + x.lsb 1088

/-- START and START + LEN of a tile in LSB (R128). -/
def TabTime.start (x : TabTime) (t : Nat) : Nat := 64 * x.c.get (T_GATE_CTL.START t)
def TabTime.gate (x : TabTime) (t : Nat) : Nat := x.start t + 64 * (x.c.get (T_GATE_CTL.LEN_M1 t) + 1)

/-- An output is bound to a tile in the candidate (R127). -/
def Cand.bound (c : Cand) (t o : Nat) : Bool := bit (c.get (T_BIND.BIND t (o / 32))) (o % 32)
/-- An output is an aggressor of a tile (R132). -/
def Cand.aggr (c : Cand) (t o : Nat) : Bool := bit (c.get (T_AGGR.AGGR t (o / 32))) (o % 32)
/-- A tile is enabled in the candidate. -/
def Cand.tileEn (c : Cand) (t : Nat) : Bool := c.flag (T_RX_CTL.TILE_EN t)

/-- The enabled tiles, the TRAIN and the PROOF_LED entries. -/
def TabTime.tiles (x : TabTime) : List Nat := (List.range 96).filter x.c.tileEn
def TabTime.trains (x : TabTime) : List Nat := entsOf x.tab 1
def TabTime.proofs (x : TabTime) : List Nat := entsOf x.tab 2

/-- The train that a tile belongs to, if any. -/
def TabTime.trainOf (x : TabTime) (t : Nat) : Option Nat :=
  x.trains.find? (fun e => (trainOuts x.tab e).any (x.c.bound t))

/-- The PROOF_LED entries that name a tile. -/
def TabTime.proofsOf (x : TabTime) (t : Nat) : List Nat :=
  x.proofs.filter (fun e => decide (proofLo x.tab e ≤ t) && decide (t ≤ proofHi x.tab e))

/-- The slots of a train that belong to bound outputs of a tile. -/
def TabTime.tileSlots (x : TabTime) (t e : Nat) : List Nat :=
  (List.range (entSlots x.tab e)).filter (fun i => x.c.bound t (x.out e i))

/-- An interval of time. -/
structure Span where
  a : Int
  b : Int
  deriving DecidableEq, Repr

/-- Two intervals overlap. -/
def Span.meets (p q : Span) : Bool := decide (p.a < q.b) && decide (q.a < p.b)

/-- Some interval of one list overlaps one of another. -/
def spansMeet (l m : List Span) : Bool := l.any (fun p => m.any p.meets)

/-- The gates of a tile in its train and in its proof interval, from the arming 3 ns before the gate (R129). -/
def TabTime.gates (x : TabTime) (t e : Nat) : List Span :=
  (x.tileSlots t e).map (fun i => ⟨x.tsLo e i + x.lsb (x.start t - 192), x.tsHi e i + x.lsb (x.gate t)⟩)
def TabTime.proofGates (x : TabTime) (t p : Nat) : List Span :=
  (List.range (entSlots x.tab p)).map (fun j => ⟨x.tpLo p j + x.lsb (x.start t - 192), x.tpHi p j + x.lsb (x.gate t)⟩)

/-- Point interval `p` of a tile: from its first t_S to the write of its last event, 5 TCLK after its last gate (R18, R220). -/
def TabTime.point (x : TabTime) (t e p : Nat) : Span :=
  let n := trainN x.tab e
  ⟨x.tsLo e (p * n), x.tsHi e (p * n + n - 1) + x.lsb (x.gate t + 320)⟩
def TabTime.points (x : TabTime) (t e : Nat) : List Span := (List.range (trainNp x.tab e)).map (x.point t e)

/-- The proof interval of a tile. -/
def TabTime.proof (x : TabTime) (t p : Nat) : Span :=
  ⟨x.tpLo p 0, x.tpHi p (entSlots x.tab p - 1) + x.lsb (x.gate t + 320)⟩

/-! ### Rules -/

/-- An output in two trains, or the bound outputs of a tile not in one train's set (R178, 0x31). -/
def TabTime.bad31 (x : TabTime) : Bool :=
  let inTrain := fun (e o : Nat) => (trainOuts x.tab e).contains o
  (List.range 96).any (fun o => decide (1 < (x.trains.filter (fun e => inTrain e o)).length)) ||
    (List.range 96).any (fun t =>
      let b := (List.range 96).filter (x.c.bound t)
      !b.isEmpty && !x.trains.any (fun e => b.all (inTrain e)))

/-- The slots of an output closer than 100 FRCLK cycles (0x32). -/
def TabTime.bad32 (x : TabTime) : Bool :=
  x.trains.any (fun e =>
    let n := entSlots x.tab e
    (List.range n).any (fun i => (List.range (min 100 (n - 1 - i))).any (fun k =>
      x.out e i == x.out e (i + k + 1) && decide ((k + 1) * entPer x.tab e < 100))))

/-- The close of the acquisition window (R17). -/
def TabTime.close (x : TabTime) : Int := x.fr (x.c.get CLK_FRAME_PER.PERIOD * 2000) - x.lsb (60 * 64000)

/-- A shot, an interval or the diagnostic slot ends outside the acquisition window (R17, 0x33). -/
def TabTime.bad33 (x : TabTime) : Bool :=
  x.trains.any (fun e => (List.range (entSlots x.tab e)).any (fun i =>
      decide (x.close < x.tsHi e i + x.lsb (x.bspan (x.out e i))))) ||
    x.tiles.any (fun t =>
      (match x.trainOf t with
        | some e => (x.points t e).any (fun p => decide (x.close < p.b))
        | none => false) ||
      (x.proofsOf t).any (fun p => decide (x.close < (x.proof t p).b))) ||
    x.proofs.any (fun p => decide (x.close < x.tpHi p (entSlots x.tab p - 1))) ||
    (entsOf x.tab 3).any (fun e => decide (x.close < x.slotAt e 0 + x.lsb (64 + 256000)))

/-- Successive elements of a list satisfy a relation somewhere. -/
def anyPair (f : Nat → Nat → Bool) (l : List Nat) : Bool := (l.zip (l.drop 1)).any (fun p => f p.1 p.2)

/-- The edges at the balls of slot `i` of a train as the interval in which each may lie (R184). -/
def TabTime.edges (x : TabTime) (e i : Nat) : List Span :=
  let o := x.out e i
  (List.range (x.c.nsub o)).flatMap (fun k =>
    [x.c.ofs o k, x.c.ofs o k + x.c.get (HED_CODE_A.WIDTH o)].map (fun d =>
      (⟨x.tsLo e i + x.lsb (4 * d), x.tsHi e i + x.lsb (4 * d)⟩ : Span)))

/-- Slot `i` of a train emits: it is not of a listen point (R190). -/
def TabTime.emits (x : TabTime) (e i : Nat) : Bool := !isListen (trainLo x.tab e) (i / trainN x.tab e)

/-- Gate spacing or burst span of a tile broken (R130, 0x34). -/
def TabTime.bad34 (x : TabTime) : Bool :=
  x.tiles.any (fun t =>
    match x.trainOf t with
    | none => false
    | some e =>
      let l := x.tileSlots t e
      l.any (fun i => decide (x.start t < x.bspan (x.out e i) + 192)) ||
      anyPair (fun i j => decide (x.tsLo e j - x.tsHi e i < x.lsb (x.gate t + 512))) l)

/-- The quiet window of a tile at slot `i` of its train (R133). -/
def TabTime.quiet (x : TabTime) (t e i : Nat) : Span :=
  let qs := x.c.get (T_QUIET_CTL.QW_START t)
  ⟨x.tsLo e i + x.lsb (64 * qs), x.tsHi e i + x.lsb (64 * (qs + x.c.get (T_QUIET_CTL.QW_LEN t)))⟩

/-- Two closed intervals, given at both ends of the steering range, meet somewhere in it: neither lies wholly before the other
throughout, as intervals that move linearly do where they never meet. -/
def sweepMeets (p q p' q' : Span) : Bool :=
  !(decide (p.b < q.a) && decide (p'.b < q'.a)) && !(decide (q.b < p.a) && decide (q'.b < p'.a))

/-- An aggressor's edge falls in a quiet window of a tile at some s from −LIM to +LIM, given at both ends (R133, R193, 0x34). Within the
tile's own shot no edge follows t_S + BSPAN, which lies before the gate. PRE and POST of R132 add no margin (DESIGN CHOICE,
log entry 85). -/
def TabTime.badQuiet (x y : TabTime) : Bool :=
  x.tiles.any (fun t =>
    match x.trainOf t with
    | none => false
    | some e =>
      x.c.get (T_QUIET_CTL.QW_LEN t) != 0 && (x.tileSlots t e).any (fun i =>
        x.trains.any (fun f => (List.range (entSlots x.tab f)).any (fun j =>
          !(e == f && i == j) && x.emits f j && x.c.aggr t (x.out f j) &&
            ((x.edges f j).zip (y.edges f j)).any (fun d => sweepMeets (x.quiet t e i) d.1 (y.quiet t e i) d.2)))))

/-- The diagnostic slot overlaps a gate, a slot or a proof interval (R194, 0x35). -/
def TabTime.bad35 (x : TabTime) : Bool :=
  (entsOf x.tab 3).any (fun d =>
    let w : Span := ⟨x.slotAt d 0, x.slotAt d 0 + x.lsb (64 + 256000)⟩
    x.trains.any (fun e => (List.range (entSlots x.tab e)).any (fun i =>
      w.meets ⟨x.slotAt e i, x.tsHi e i + x.lsb (x.bspan (x.out e i))⟩)) ||
    x.proofs.any (fun p => w.meets ⟨x.slotAt p 0, x.tpHi p (entSlots x.tab p - 1)⟩) ||
    x.tiles.any (fun t =>
      (match x.trainOf t with
        | some e => (x.gates t e).any w.meets
        | none => false) ||
      (x.proofsOf t).any (fun p => w.meets (x.proof t p))))

/-- A tile in no PROOF_LED entry or in several, a proof interval over a gate or a point interval of its tile, or triggers
closer than R140 allows (R179, 0x36). -/
def TabTime.bad36 (x : TabTime) : Bool :=
  x.tiles.any (fun t =>
    (x.proofsOf t).length != 1 ||
    (x.proofsOf t).any (fun p =>
      (List.range (entSlots x.tab p - 1)).any (fun j =>
        decide (x.tpLo p (j + 1) - x.tpHi p j < x.lsb (x.gate t + 512))) ||
      (match x.trainOf t with
        | some e => spansMeet (x.gates t e) (x.proofGates t p) || (x.points t e).any (x.proof t p).meets
        | none => false)))

/-- MPD integration windows of two shots of one group overlap, the proof shots of the diagnostic slot included (R185, R194,
0x38). -/
def TabTime.bad38 (x : TabTime) : Bool :=
  let shots := x.trains.flatMap (fun e => ((List.range (entSlots x.tab e)).filter (x.emits e)).map (fun i =>
    (x.out e i / 4, (⟨x.tsLo e i - x.lsb 128, x.tsHi e i + x.lsb (x.bspan (x.out e i) + 2560)⟩ : Span))))
  let diag := (entsOf x.tab 3).flatMap (fun d => (List.range 24).map (fun g =>
    let dl := (List.range 4).map (fun k => 4 * x.fuse.outDelay (4 * g + k))
    (g, (⟨x.slotAt d 0 + x.lsb (205696 + dl.foldl min (nth dl 0 0)),
      x.slotAt d 0 + x.lsb (64 + 208640 + dl.foldl max 0)⟩ : Span))))
  let l := (shots ++ diag).zipIdx
  l.any (fun p => l.any (fun q => decide (p.2 < q.2) && p.1.1 == q.1.1 && p.1.2.meets q.1.2))

/-- The ends of a tile's intervals. -/
def TabTime.ends (x : TabTime) (t : Nat) : List Span :=
  (match x.trainOf t with
    | some e => (List.range (trainNp x.tab e)).map (fun p =>
        let i := p * trainN x.tab e + trainN x.tab e - 1
        (⟨x.tsLo e i, x.tsHi e i⟩ : Span))
    | none => []) ++
    (x.proofsOf t).map (fun p => ⟨x.tpLo p (entSlots x.tab p - 1), x.tpHi p (entSlots x.tab p - 1)⟩)

/-- Two intervals of a tile end within 4,000 TCLK of each other (R222, 0x42): both ends follow the last t_S or t_P by the same
START + LEN. -/
def TabTime.bad42 (x : TabTime) : Bool :=
  x.tiles.any (fun t =>
    let l := (x.ends t).zipIdx
    l.any (fun p => l.any (fun q => decide (p.2 < q.2) &&
      decide (p.1.a - q.1.b < x.lsb 256000) && decide (q.1.a - p.1.b < x.lsb 256000))))

/-- The first code that a rule of the table gives, if any. -/
def firstCode (l : List (Bool × Nat)) : Option Nat := (l.find? (fun p => p.1)).map (fun p => p.2)

/-- The timed rules at one steering value. -/
def TabTime.code (x : TabTime) : Option Nat :=
  firstCode [(x.bad32, 0x32), (x.bad33, 0x33), (x.bad34, 0x34), (x.bad35, 0x35), (x.bad36, 0x36), (x.bad38, 0x38),
    (x.bad42, 0x42)]

/-- The check of a table, and of the burst codes, which R186 binds with no table too (R193). -/
def tableCode (c : Cand) (fuse : Fuses) (tab : List Nat) : Option Nat :=
  let codes := (List.range 96).any (fun o => !c.codeOk o)
  if tab.isEmpty then (if codes then some 0x37 else none)
  else if !tabFormOk tab then some 0x30
  else
    let lim := c.get CLK_STEER_LIM.LIM
    let x : TabTime := ⟨c, tab, fuse, 1000000 - lim⟩
    let y : TabTime := ⟨c, tab, fuse, 1000000 + lim⟩
    if x.bad31 then some 0x31
    else if codes then some 0x37
    else if x.badQuiet y then some 0x34
    else match x.code with
      | some k => some k
      | none => y.code

/-- A register on which the check of a table depends (R193): those of Heddle, the frame period and LIM, and those of the
receivers. -/
def tableDep (addr : Nat) : Bool :=
  addr / 0x1_0000 == 0x8 || addr == CLK_FRAME_PER.PERIOD.addr || addr == CLK_STEER_LIM.LIM.addr ||
    (decide (0x0100_0000 ≤ addr) && decide (addr < 0x0160_0000) && addr % 0x1_0000 / 0x4000 == 0)

/-- The table that will be active once what is staged has landed. -/
def State.tabNext (s : State) : List Nat := s.hed.tabNext.getD s.hed.tab

end Sys2Proof.Machine
end

