-- ==== Sys2Proof/Machine/Checks.lean ====
section
/-! DEFINITION. The consistency rules of R32 as the owning chapters give them, with their codes. Each function answers the code of
the first rule that the candidate breaks, in the order of the chapter's table (log entry 31), or none. -/

namespace Sys2Proof.Machine

/-- The value of a field outside a range. -/
def Cand.outside (c : Cand) (f : Fld) (lo hi : Nat) : Bool := decide (c.get f < lo) || decide (hi < c.get f)

/-- The candidate changes the value of a field in force. -/
def State.changes (s : State) (c : Cand) (f : Fld) : Bool := c.get f != s.get f

/-- The candidate's own writes change a field, against the value in force or the one that is staged. -/
def State.ownChanges (s : State) (c : Cand) (f : Fld) : Bool :=
  match c.wrote f with
  | some v => v != s.get f || v != getIn c.base f
  | none => false

/-- The candidate's own writes clear a bit of a field that is 1 in force or staged at 1. -/
def State.ownClears (s : State) (c : Cand) (f : Fld) : Bool :=
  match c.wrote f with
  | some v => andNotN (f.hi + 1 - f.lo) (orN (s.get f) (getIn c.base f)) v != 0
  | none => false

/-- A host write in RUN or DEGRADED. -/
def State.hostRun (s : State) (c : Cand) : Bool := c.host && s.dev.running

/-- The candidate addresses one of the registers of a list of fields. -/
def Cand.hitsAny (c : Cand) (l : List Fld) : Bool := l.any c.hits

/-! ### Caps and clocks (R97, R103, R368) -/

/-- Caps of the Bezel (R368, 0x60). -/
def State.capCode (s : State) (c : Cand) : Option Nat :=
  let exceeds := fun (f : Fld) (add cap : Nat) => c.hits f && cap != 0 && decide (cap < c.get f + add)
  if exceeds CLK_FRAME_PER.PERIOD 0 s.fuse.capPeriod || exceeds SEL_CTL.M_M1 1 s.fuse.capM ||
      exceeds CLK_STEER_LIM.LIM 0 s.fuse.capLim then some 0x60
  else none

/-- PERIOD_DECL of the loaded image (R97). -/
def State.periodDecl (s : State) : Nat := bitsOf (nth s.img.cfg.safety 0 0) 10 0

/-- The offset s that is in force, in 0.001 ppm. -/
def State.steerNow (s : State) : Int := s.getI CLK_STEER_STAT.EFF

/-- The rules of the clock registers. -/
def State.clkCode (s : State) (c : Cand) : Option Nat :=
  let lim : Int := ((c.get CLK_STEER_LIM.LIM * 1000 : Nat) : Int)
  let off := signed 21 (c.get CLK_STEER.OFFSET)
  firstCode [
    (c.hits CLK_FRAME_PER.PERIOD && (c.outside CLK_FRAME_PER.PERIOD 100 2000 ||
      (s.dev.running && decide (s.periodDecl < c.get CLK_FRAME_PER.PERIOD))), 0x10),
    (c.hits CLK_PLLF_CFG.REF_SEL && ((s.dev.running && s.changes c CLK_PLLF_CFG.REF_SEL) ||
      c.outside CLK_PLLF_CFG.REFF_KHZ 10000 200000), 0x11),
    ((c.hits CLK_SYNC_CTL.MODE && c.get CLK_SYNC_CTL.MODE == 3) ||
      (c.hits CLK_SYNC_DLY.DLY && decide (c.get CLK_FRAME_PER.PERIOD * 2000 ≤ c.get CLK_SYNC_DLY.DLY)), 0x12),
    ((c.hits CLK_STEER.OFFSET && (decide (lim < off) || decide (off < -lim))) ||
      (c.hits CLK_STEER_LIM.LIM && (decide (lim < s.steerNow) || decide (s.steerNow < -lim))), 0x13),
    (c.hits CLK_STEER_LIM.LIM && (c.outside CLK_STEER_LIM.LIM 1 1000 || c.outside CLK_STEER_LIM.STEP 10 2000), 0x14)]

/-! ### Tiles (R142, R143, R146, R159, R164, R173, R234, R238, R265) -/

/-- The tiles of which the candidate addresses a register in sub-block `sub` (0 RX, 1 TDC, 2 REED, 3 RET). -/
def Cand.tilesIn (c : Cand) (sub : Nat) : List Nat :=
  (List.range 96).filter (fun t => c.addrs.any (fun a =>
    decide (0x0100_0000 ≤ a) && (a - 0x0100_0000) / 0x1_0000 == t && a % 0x1_0000 / 0x4000 == sub))

/-- n_en of a channel in a candidate (R120). -/
def State.candNen (s : State) (c : Cand) (t k : Nat) : Nat :=
  popBits 24 (andNotN 24 (c.get (T_SPAD_MASK.EN t k)) (tabGet (fun _ => 0) s.fuse.spadMap (8 * t + k)))

/-- The enabled channels of a tile in a candidate: none while TILE_EN is 0 (DESIGN CHOICE, log entry 85). -/
def Cand.chans (c : Cand) (t : Nat) : List Nat := if c.tileEn t then bitList 8 (c.get (T_RX_CTL.CH_EN t)) else []

/-- An interval in ns inside the gate of a tile. -/
def Cand.inGate (c : Cand) (t a len : Nat) : Bool :=
  decide (c.get (T_GATE_CTL.START t) ≤ a) && decide (a + len ≤ c.get (T_GATE_CTL.START t) + c.get (T_GATE_CTL.LEN_M1 t) + 1)

/-- A host write that R142 bars, judged by what it writes itself. The image marks every channel of a tile with ZONE at 1 (R358). -/
def State.barred142 (s : State) (c : Cand) (t : Nat) : Bool :=
  c.hitsAny [T_PROOF_CTL.DLY t, T_PROOF_CHK.AMP_MIN t] ||
    (s.zoneTile t && (s.ownClears c (T_RX_CTL.TILE_EN t) || s.ownClears c (T_RX_CTL.CH_EN t) ||
      (List.range 8).any (fun k => s.ownClears c (T_SPAD_MASK.EN t k))))

/-- The ambient table of a tile is malformed (0x24). -/
def Cand.ambBad (c : Cand) (t : Nat) : Bool :=
  let n := c.get (T_AMB_CTL.NB_M1 t) + 1
  let amb := max (c.get (T_AMB_CTL.AMB_START t)) (c.get (T_GATE_CTL.START t))
  c.get (T_AMB_TAB.THR t 0) != 0 ||
    anyPair (fun i j => decide (c.get (T_AMB_TAB.THR t j) < c.get (T_AMB_TAB.THR t i))) (List.range n) ||
    (List.range n).any (fun i => c.outside (T_AMB_TAB.K t i) 1 12 || c.outside (T_AMB_TAB.W t i) 1 32) ||
    decide (n ≤ c.get (T_COINC_CTL.START_BAND t)) || decide (50 < c.get (T_COINC_CTL.HYST t)) ||
    (c.flag (T_COINC_CTL.ADAPT t) &&
      decide (c.get (T_GATE_CTL.START t) + c.get (T_GATE_CTL.LEN_M1 t) + 1 < amb + 32))

/-- The spare leaves, or does not come to, a channel with a failed slice (R143, 0x25). -/
def State.sliceMapBad (s : State) (c : Cand) (t : Nat) : Bool :=
  let k := s.get (T_SLICE_MAP.SUB_CH t)
  c.hits (T_SLICE_MAP.SUB_EN t) && s.flag (T_SLICE_MAP.SUB_EN t) && s.sliceFail t k &&
    (!c.flag (T_SLICE_MAP.SUB_EN t) || c.get (T_SLICE_MAP.SUB_CH t) != k)

/-- The rules of the receiver registers of a tile. -/
def State.rxCode (s : State) (c : Cand) (t : Nat) : Option Nat :=
  let kf := c.get (T_COINC_CTL.K_FIX t)
  let en := c.chans t
  firstCode [
    (decide (c.get (T_GATE_CTL.START t) < 6) ||
      decide (2048 < c.get (T_GATE_CTL.START t) + c.get (T_GATE_CTL.LEN_M1 t) + 1), 0x20),
    (s.hostRun c && s.barred142 c t, 0x21),
    (c.outside (T_COINC_CTL.K_FIX t) 1 12 || c.outside (T_COINC_CTL.W_FIX t) 1 32 ||
      (!c.flag (T_COINC_CTL.ADAPT t) && en.any (fun k => decide (s.candNen c t k < kf))), 0x22),
    (c.outside (T_SPAD_CTL.HOLD t) 2 20 || en.any (fun k => s.candNen c t k == 0), 0x23),
    (c.ambBad t, 0x24),
    (s.sliceMapBad c t, 0x25),
    (c.outside (T_PROOF_CTL.WIDTH t) 1 8 || !c.inGate t (c.get (T_PROOF_CTL.DLY t)) (c.get (T_PROOF_CTL.WIDTH t)) ||
      c.get (T_PROOF_CHK.AMP_MIN t) == 0 ||
      decide (c.get (T_PROOF_CHK.AMP_MAX t) < c.get (T_PROOF_CHK.AMP_MIN t)), 0x26),
    (c.get (T_QUIET_CTL.QW_LEN t) != 0 &&
      !c.inGate t (c.get (T_QUIET_CTL.QW_START t)) (c.get (T_QUIET_CTL.QW_LEN t)), 0x27)]

/-- Whether the loaded image routes a tile's list or export (R164, R234). A candidate of the loader carries its own ROUTE
record in place of it. -/
def routeOf (route : List Nat) (t v : Nat) : Bool := bit (nth route t 0) v

/-- The rules of the TDC registers of a tile. A write of T_TDC_CTL that leaves MODE as it is does not write MODE, for it shares its
register with LIST_EN (DESIGN CHOICE; log entry 94). -/
def State.tdcCode (s : State) (c : Cand) (route : List Nat) (t : Nat) : Option Nat :=
  firstCode [
    (s.dev.running && c.hits (T_TDC_CTL.MODE t) && s.changes c (T_TDC_CTL.MODE t), 0x28),
    ((s.dev.running && ((s.flag (T_TDC_CTL.AUDIT_EN t) && !c.flag (T_TDC_CTL.AUDIT_EN t)) ||
        c.hits (T_TDC_AUDIT_CTL.OFS_LIM t))) ||
      c.get (T_TDC_AUDIT_CTL.OFS_LIM t) == 0 || decide (c.get (T_TDC_AUDIT_CTL.CMP_TOL t) < 3) ||
      decide (c.get (T_TDC_AUDIT_CTL.INL_LIM t) < 0x18) || c.outside (T_TDC_AUDIT_CTL.DNL_LIM t) 0x14 0x7F, 0x29),
    (c.get (T_TDC_CTL.LIST_EN t) != 0 && !routeOf route t 26, 0x2A)]

/-- The rules of the Reed registers of a tile, but for the spacing of R222. -/
def State.reedCode (s : State) (c : Cand) (route : List Nat) (t : Nat) : Option Nat :=
  let len := c.get (T_REED_WIN.HW_LEN t)
  firstCode [
    (len != 0 && (decide (len < 16) || decide (2048 < len) || !c.inGate t (c.get (T_REED_WIN.HW_LO t)) len), 0x40),
    (c.flag (T_REED_CTL.FACET t) && (c.get (T_REED_CTL.F1 t) == 0 || c.get (T_REED_CTL.SEP t) == 0 ||
      c.get (T_REED_CTL.SEED_MIN t) == 0), 0x41),
    ((c.get (T_REED_EXP.RAW_EXP t) != 0 || c.get (T_REED_EXP.FAC_EXP t) != 0) && !routeOf route t 25, 0x43),
    (s.hostRun c && s.zoneTile t && c.hitsAny [T_REED_CTL.FACET t, T_REED_WIN.HW_LEN t], 0x44)]

/-- The shape of an output's burst code: NSUB_M1, WIDTH and the used offsets (R243). -/
def Cand.shape (c : Cand) (o : Nat) : List Nat :=
  [c.nsub o, c.get (HED_CODE_A.WIDTH o)] ++ (List.range (c.nsub o)).map (c.ofs o)

/-- The template of an output in coarse bins (R243). -/
def Cand.spanBins (c : Cand) (o : Nat) : Nat :=
  (c.ofs o (c.nsub o - 1) + 8) / 16 + max 1 ((c.get (HED_CODE_A.WIDTH o) + 8) / 16)

/-- The window bins of a tile (R230). -/
def Cand.winBins (c : Cand) (t : Nat) : Nat :=
  if c.get (T_REED_WIN.HW_LEN t) = 0 then c.get (T_GATE_CTL.LEN_M1 t) + 1 else c.get (T_REED_WIN.HW_LEN t)

/-- The rules of extraction for a tile. -/
def State.retCode (s : State) (c : Cand) (t : Nat) : Option Nat :=
  let outs := (List.range 96).filter (c.bound t)
  firstCode [
    (anyPair (fun o p => c.shape o != c.shape p) outs, 0x48),
    (s.hostRun c && s.zoneTile t && c.hitsAny [T_RET_CTL.MERGE t, T_RET_CLS.MATCH_Q t, T_RET_CAL.CAL t,
      T_RET_CHOFS.CH0 t 0, T_RET_CHOFS.CH0 t 1], 0x49),
    ([T_RET_CTL.MERGE t, T_RET_CTL.THR_SIG t, T_RET_CTL.THR_ABS t, T_RET_CLS.MATCH_Q t, T_RET_CLS.SAT_FRAC t,
      T_RET_CLS.BLOOM_RATIO t].any (fun f => c.get f == 0), 0x4A),
    (outs.any (fun o => decide (c.winBins t < c.spanBins o)), 0x4B)]

/-- The tiles on which extraction is checked: all of them after a write of a burst code (R265). -/
def Cand.retTiles (c : Cand) : List Nat :=
  if c.addrs.any (fun a => a / 0x1_0000 == 0x8) then List.range 96
  else (List.range 96).filter (fun t => [0, 2, 3].any (fun sub => (c.tilesIn sub).contains t))

/-! ### Heddle and EMD (R193) -/

/-- The outputs of the trains of a table. -/
def tabOuts (tab : List Nat) : List Nat := (entsOf tab 1).flatMap (trainOuts tab)

/-- LIM of a window, as read by `get`. -/
def winLimOf (get : Fld → Nat) (w : Nat) : Nat := get (EMD_WIN_LIM_LO.LIM w) + get (EMD_WIN_LIM_HI.LIM w) * 2 ^ 32

/-- A host write of a window or of output energies that code 0x3B bars: any but a lower LIM or a higher E_DECL. -/
def State.barred3B (s : State) (c : Cand) (outE : List Nat) : Bool :=
  [0, 1, 2].any (fun w => s.ownChanges c (EMD_WIN_CFG.EN w) || s.ownChanges c (EMD_WIN_CFG.BKT w) ||
      (c.hitsAny [EMD_WIN_LIM_LO.LIM w, EMD_WIN_LIM_HI.LIM w] && decide (winLimOf s.get w < winLimOf c.ownGet w))) ||
    outE.any (fun o => s.ownChanges c (EMD_OUT_E.E_LOW o) || decide (c.ownGet (EMD_OUT_E.E_DECL o) < s.get (EMD_OUT_E.E_DECL o)))

/-- The rules of HED_CELL_CTL and of the EMD registers. -/
def State.emdCode (s : State) (c : Cand) (tab : List Nat) (newTab : Bool) : Option Nat :=
  let outE := (List.range 96).filter (fun o => c.hits (EMD_OUT_E.E_DECL o))
  firstCode [
    (s.hostRun c && c.hits HED_CELL_CTL.MEMBER, 0x39),
    ((c.hits EMD_CTL.OPEN_N && decide (c.get EMD_CTL.OPEN_N < 2)) ||
      [0, 1, 2].any (fun w => c.hits (EMD_WIN_CFG.EN w) && c.flag (EMD_WIN_CFG.EN w) &&
        c.outside (EMD_WIN_CFG.BKT w) 1 1562500) ||
      outE.any (fun o => decide (c.get (EMD_OUT_E.E_DECL o) < c.get (EMD_OUT_E.E_LOW o))) ||
      (tabOuts tab).any (fun o => (newTab || outE.contains o) && c.get (EMD_OUT_E.E_DECL o) == 0), 0x3A),
    (s.hostRun c && s.barred3B c outE, 0x3B)]

/-! ### Treadle (R291) -/

/-- Registers of a slot that R291 guards. -/
def trdGuarded (k : Nat) : List Fld := [TRD_CTL.EN k, TRD_TIM.DIV k, TRD_REF.REF k, TRD_FE.FE_N k]

/-- The encoders that serve an angle source in a candidate. -/
def State.angleEncs (s : State) (c : Cand) : List Nat :=
  [(TRD_ANG_CTL.AZ_EN, TRD_ANG_CTL.AZ_SRC), (TRD_ANG_CTL.EL_EN, TRD_ANG_CTL.EL_SRC)].filterMap (fun p =>
    if c.flag p.1 then s.slotEnc (c.get p.2) else none)

/-- The rules of the Treadle registers. -/
def State.trdCode (s : State) (c : Cand) : Option Nat :=
  let slots := (List.range 8).filter (fun k => c.hitsAny (trdGuarded k))
  let typ := fun (f : Fld) => c.get (TRD_CTL.TYPE (c.get f))
  firstCode [
    (slots.any (fun k => decide (199 < c.get (TRD_TIM.PHASE k)) || c.get (TRD_FE.FE_N k) == 0) ||
      (c.hits TRD_PWM_CTL.PER && c.outside TRD_PWM_CTL.PER 2000 16000), 0x50),
    (slots.any (fun k => c.flag (TRD_CTL.EN k) && c.get (TRD_CTL.TYPE k) == 0), 0x51),
    (s.hostRun c && (slots.any (fun k => c.flag (TRD_CTL.GUARD k)) ||
      c.hitsAny [TRD_BIAS_CTL.SLEW, TRD_ANG_CTL.AZ_EN, TRD_AZ_SCALE.SCALE, TRD_AZ_OFS.OFS, TRD_EL_SCALE.SCALE,
        TRD_EL_OFS.OFS] ||
      (s.angleEncs c).any (fun e => c.hits (TRD_ENC_CFG.ZEN e))), 0x52),
    (c.hits TRD_BIAS_CTL.SLEW && (c.outside TRD_BIAS_CTL.VEX_TGT 50 800 || c.outside TRD_BIAS_CTL.INIT 200 350 ||
      c.get TRD_BIAS_CTL.SLEW == 0), 0x53),
    (slots.any (fun k => c.get (TRD_CTL.START_TO k) != 0 && c.get (TRD_FE.FE_LIM k) == 0), 0x54),
    ((c.hits TRD_ANG_CTL.AZ_EN || !slots.isEmpty) &&
      ((c.flag TRD_ANG_CTL.AZ_EN && !(typ TRD_ANG_CTL.AZ_SRC == 1 || typ TRD_ANG_CTL.AZ_SRC == 2)) ||
        (c.flag TRD_ANG_CTL.EL_EN && !(typ TRD_ANG_CTL.EL_SRC == 2 || typ TRD_ANG_CTL.EL_SRC == 3))), 0x55)]

/-! ### Selvedge and the safety core (R321) -/

/-- The resource table gives an encoder to Treadle (R63, R321). -/
def State.encTaken (s : State) (e : Nat) : Bool :=
  match s.resEntry (resId 0 e) with
  | some p => resFeature p.1 != 0
  | none => false

/-- The field sets that a landing write will meet: the active one, or from the close of a swap's group on the copy that the swap brings
(R370), and a loaded one. -/
def State.cachedSets (s : State) : List FieldSet :=
  let act := match s.img.swap with
    | some w => if w.staged then w.set else s.sel.active
    | none => s.sel.active
  act.toList ++ s.sel.ready.toList

/-- The rules of the Selvedge and safety-core registers. -/
def State.safCode (s : State) (c : Cand) : Option Nat :=
  let axes := (List.range 8).filter (fun a => c.hits (SAF_AXIS_CFG.EN a))
  let ossd := [SAF_OSSD_CFG.EN 0, SAF_OSSD_TIM.FB_T, SAF_OSSD_TP.TP_W]
  firstCode [
    (c.hits SEL_CTL.FSEL_TO && c.get SEL_CTL.FSEL_TO == 0, 0x58),
    (s.hostRun c && (c.hitsAny (SEL_CTL.M_M1 :: ossd) ||
      (List.range 8).any (fun a => c.hitsAny [SAF_AXIS_CFG.EN a, SAF_AXIS_LIM.CPR a, SAF_AXIS_VSS.VSS a])), 0x59),
    (c.hitsAny ossd && (c.outside SAF_OSSD_TP.TP_W 2 50 || c.outside SAF_OSSD_TP.TP_PER 10 1000 ||
      c.outside SAF_OSSD_TIM.FB_T 5 255 || decide (10 * c.get SAF_OSSD_TP.TP_W ≤ c.get SAF_OSSD_TIM.FB_T) ||
      c.get SAF_OSSD_TIM.EDM_T == 0), 0x5A),
    (axes.any (fun a => c.get (SAF_AXIS_CFG.T_W a) == 0 ||
      (c.flag (SAF_AXIS_CFG.EN a) && s.encTaken (c.get (SAF_AXIS_CFG.ENC a)))), 0x5B),
    ((List.range 96).any (fun t => c.hits (T_GATE_CTL.START t) &&
      s.cachedSets.any (fun f => !f.nearOk t (c.get (T_GATE_CTL.START t)))), 0x5C),
    (s.dev.running && c.hits SAF_CTL.OP_RESUME, 0x5D)]

/-! ### Shuttle, memory and link (R432, R466) -/

/-- The rules of the Shuttle, DRAM and LNK registers. -/
def State.shuCode (s : State) (c : Cand) : Option Nat :=
  let chs := (List.range 64).filter (fun k => c.hitsAny [SHU_CFG.EN k, SHU_RING_LO.RING k, SHU_RING_HI.RING k])
  firstCode [
    (chs.any (fun k => (c.get (SHU_CFG.MODE k) == 0 && c.outside (SHU_CFG.TC k) 2 3) ||
        c.outside (SHU_CFG.SIZE_LOG2 k) 2 16 || c.get (SHU_RING_LO.RING k) % 64 != 0) ||
      (!chs.isEmpty && decide (512 < ((List.range 64).map (fun k => c.get (SHU_CFG.STAGE k))).foldl (· + ·) 0)), 0x68),
    (chs.any (fun k => s.flag (SHU_CFG.EN k) &&
      [SHU_RING_LO.RING k, SHU_RING_HI.RING k, SHU_CFG.RING_KIND k, SHU_CFG.SIZE_LOG2 k].any (s.changes c)), 0x69),
    (c.hits MEM_SCRUB.SCRUB_H && (c.outside MEM_SCRUB.SCRUB_H 1 168 || c.get MEM_SCRUB.SPARE_THR == 0), 0x6A),
    ((c.hits LNK_CFG.FOM_MIN && c.get LNK_CFG.FOM_MIN == 0) ||
      (List.range 16).any (fun p => c.hits (LNK_PORT_CTL.DOZE_IDLE p) &&
        (c.get (LNK_PORT_CTL.DOZE_IDLE p) == 0 || c.get (LNK_PORT_CTL.DEEP_IDLE p) == 0)), 0x70)]

/-! ### Supervision, Loupe and indicators (R493, R509, R523) -/

/-- The inputs that SEL may name (R469). -/
def supSelOk (x : Nat) : Bool := decide (x < 0x3A) || x == 0x40 || x == 0x41

/-- The slots that a window uses. -/
def supWinSrcs (get : Fld → Nat) (w : Nat) : List Nat :=
  if get (SUP_WIN_CFG.MODE w) = 0 then [get (SUP_WIN_CFG.SRC_A w)] else [get (SUP_WIN_CFG.SRC_A w), get (SUP_WIN_CFG.SRC_B w)]

/-- What a safety window in force guards in RUN and DEGRADED (0x7B). -/
def State.supGuarded (s : State) (c : Cand) : Bool :=
  let wins := (List.range 16).filter (fun w => s.flag (SUP_WIN_CFG.SAFE w))
  let srcs := wins.flatMap (supWinSrcs s.get)
  c.hits SUP_CTL.EN ||
    wins.any (fun w => c.hitsAny [SUP_WIN_CFG.EN w, SUP_WIN_LO.LIMIT w, SUP_WIN_HI.LIMIT w]) ||
    (List.range 32).any (fun i => c.hits (SUP_ENT.EN i) && srcs.any (fun j => j / 16 == i / 16)) ||
    srcs.any (fun j => s.get (SUP_ENT.EXC j) != 0 && c.hits (SUP_EXC.EN (s.get (SUP_ENT.EXC j) - 1)))

/-- A host write of SAFE (0x7B): it would set the bit, or change it. -/
def State.hostSafe (s : State) (c : Cand) (w : Nat) : Bool :=
  c.wrote (SUP_WIN_CFG.SAFE w) == some 1 || s.ownChanges c (SUP_WIN_CFG.SAFE w)

/-- The rules of the SUP and THM registers. The SRC fields of a window name slots while EN is 1, SRC_B with MODE at 1 (log entry 53). -/
def State.supCode (s : State) (c : Cand) : Option Nat :=
  let ti := c.get SUP_CTL.TI
  let used := fun (k : Nat) => ((List.range 16).filter (fun i => c.flag (SUP_ENT.EN (16 * k + i)))).length
  let sup := c.addrs.any (fun a => a / 0x1_0000 == 0xD)
  firstCode [
    (sup && (c.outside SUP_CTL.TI 2000 100000 || [0, 1].any (fun k => used k != 0 &&
      (decide (8192 * used k * 1000000 < 80000 * ti) || decide (8000000 * ti < 8192 * used k * 1000000)))), 0x78),
    (sup && ((List.range 32).any (fun i => !supSelOk (c.get (SUP_ENT.SEL i)) || c.get (SUP_ENT.MED i) == 3) ||
      (List.range 4).any (fun x => c.outside (SUP_EXC.ISET x) 1 100) ||
      decide (20000 < c.get SUP_BLANK.BW_START + c.get SUP_BLANK.BW_LEN)), 0x79),
    (sup && (List.range 16).any (fun w =>
      let lo := signed 24 (c.get (SUP_WIN_LO.LIMIT w))
      let hi := signed 24 (c.get (SUP_WIN_HI.LIMIT w))
      decide (hi < lo) || c.get (SUP_WIN_CFG.N w) == 0 ||
        decide (hi - lo < ((c.get (SUP_WIN_CFG.HYST w) * 512 : Nat) : Int)) ||
        (c.flag (SUP_WIN_CFG.EN w) && (supWinSrcs c.get w).any (fun i => !c.flag (SUP_ENT.EN i)))), 0x7A),
    (c.host && ((List.range 16).any (s.hostSafe c) || (s.dev.running && s.supGuarded c)), 0x7B),
    (c.hits THM_CTL.XCHK && c.outside THM_CTL.XCHK 5 40, 0x7C)]

/-- A discrete source byte of Loupe that is reserved (R496). -/
def lpeSrcBad (w : Nat) : Bool := [0, 1, 2, 3].any (fun k =>
  let x := w / 2 ^ (8 * k) % 256
  decide (0x1A < x) && x != 0xFF)

/-- The rules of the Loupe registers. -/
def lpeCode (c : Cand) : Option Nat :=
  if !c.addrs.any (fun a => a / 0x1_0000 == 0xF) then none
  else firstCode [
    (lpeSrcBad (c.get LPE_SGRP_LO.SRC) || lpeSrcBad (c.get LPE_SGRP_HI.SRC) ||
      (List.range 8).any (fun t => decide (0x41 < c.get (LPE_TRACE.SRC t))) ||
      (List.range 4).any (fun x => c.flag (LPE_XING_CTL.EN x) && !c.flag (LPE_TRACE.EN (c.get (LPE_XING_CTL.TRACE x)))), 0x74),
    (decide (1024 < c.get LPE_DEPTH.PRE) || c.get LPE_DEPTH.POST == 0 ||
      (List.range 4).any (fun x => decide (0x7FFF_FFFF < c.get (LPE_XING_HYS.VALUE x))), 0x75)]

/-- The rules of the IND registers. -/
def State.indCode (s : State) (c : Cand) : Option Nat :=
  let leds := (List.range 12).filter (fun k => c.hitsAny [IND_LED_CTL.EN k, IND_LED_PIN.PIN_LO k])
  firstCode [
    (c.hits IND_BEAD_CTL.EN && (decide (64 < c.get IND_BEAD_CTL.NODES) || c.get IND_BEAD_CTL.PER == 0 ||
      decide (1000 * c.get IND_BEAD_CTL.PER < (c.get IND_BEAD_CTL.NODES + 1) * 40 + 50)), 0x80),
    (leds.any (fun k => decide (40 < c.get (IND_LED_CTL.ISET k)) ||
      decide (c.get (IND_LED_PIN.PIN_HI k) < c.get (IND_LED_PIN.PIN_LO k))), 0x81),
    (c.hits IND_BTN_CFG.MIN_PRESS && (s.dev.running || c.outside IND_BTN_CFG.MIN_PRESS 5 100 ||
      c.outside IND_BTN_CFG.MAX_PRESS 1 30), 0x82)]

/-! ### Claims (R63, R367) -/

/-- The feature that no table entry names: a host that starts a Shuttle channel, which the table gives to a class (R404). -/
def hostFeature : Nat := 2 ^ 18

/-- The claims that values would make of the resources, as resource and feature, where `hit` says that a field is concerned: enabled axes
claim their encoders, enabled Treadle slots their encoder, sense ball and drive ball, Loupe trigger outputs and LED sinks LED[11:8]. They
stand in falling priority of their classes (R365, R367). -/
def featureClaims (get : Fld → Nat) (hit : Fld → Bool) : List (Nat × Nat) :=
  let on := fun (f : Fld) => hit f && get f != 0
  ((List.range 8).filter (fun a => on (SAF_AXIS_CFG.EN a))).map (fun a => (resId 0 (get (SAF_AXIS_CFG.ENC a)), 0)) ++
    ((List.range 7).filter (fun k => on (TRD_CTL.EN k))).flatMap (slotClaims get) ++
    (((List.range 4).map LPE_PAT_CTL.OUT ++ (List.range 4).map LPE_XING_CTL.OUT).filter (fun f =>
        on f && decide (get f ≤ 4))).map (fun f => (resId 5 (get f - 1), 1)) ++
    ((List.range 4).filter (fun n => on (IND_LED_CTL.EN (8 + n)))).map (fun n => (resId 5 n, 0))

/-- The claims that a host candidate makes; a write that starts a Shuttle channel is one (R404). -/
def State.claims (s : State) (c : Cand) : List (Nat × Nat) :=
  featureClaims c.get c.hits ++
    ((List.range 64).filter (fun k => c.hits (SHU_CFG.EN k) && c.flag (SHU_CFG.EN k) && !s.flag (SHU_CFG.EN k))).map
      (fun k => (resId 6 k, hostFeature))

/-- The first claim among several that is refused: another feature holds the resource, or one before it in the list claims it for another
feature (R367). -/
def State.firstRefused (s : State) : List (Nat × Nat) → List (Nat × Nat) → Option Nat
  | _, [] => none
  | seen, p :: r =>
    if s.claimRefused p.1 p.2 || seen.any (fun q => q.1 == p.1 && q.2 != p.2) then some p.1
    else s.firstRefused (p :: seen) r

/-- The resource of the first claim of a candidate that is refused. -/
def State.claimBad (s : State) (c : Cand) : Option Nat := s.firstRefused [] (s.claims c)

/-- The claims of a candidate are granted. -/
def State.claimAll (s : State) (c : Cand) : State := s.each (s.claims c) (fun s p => s.claim p.1 p.2)

/-- Features that values in force enable claim resources without an owner, the highest class first; a refused claim is counted, and
that feature stays disabled (R367, log entry 88). `hit`: the fields concerned. -/
def State.claimWhere (s : State) (hit : Fld → Bool) : State :=
  s.each (featureClaims s.get hit) (fun s p => if s.claimRefused p.1 p.2 then s.refuseClaim p.1 else s.claim p.1 p.2)

/-- The claims of an image that has landed. -/
def State.claimInForce (s : State) : State := s.claimWhere (fun f => s.domOn (blockDomain f.addr))

/-- The claims of the records of a domain that has woken. -/
def State.claimWoken (s : State) (d : Nat) : State := s.claimWhere (fun f => blockDomain f.addr == d)

/-! ### All rules -/

/-- The first code among several checks. -/
def firstSome (l : List (Option Nat)) : Option Nat := (l.filterMap (fun x => x)).head?

/-- The code of the first rule that a candidate breaks, if any (R32), with the table and the routes that will be in force;
`newTab`: the candidate brings the table. -/
def State.ruleCode (s : State) (c : Cand) (tab route : List Nat) (newTab : Bool) : Option Nat :=
  firstSome (
    [s.capCode c, s.clkCode c] ++ (c.tilesIn 0).map (s.rxCode c) ++ (c.tilesIn 1).map (s.tdcCode c route) ++
    [if newTab || c.addrs.any tableDep then tableCode c s.fuse tab else none, s.emdCode c tab newTab] ++
    ((List.range 96).filter (fun t => (c.tilesIn 2).contains t || (c.tilesIn 0).contains t)).map (s.reedCode c route) ++
    c.retTiles.map (s.retCode c) ++
    [s.trdCode c, s.safCode c, s.shuCode c, s.supCode c, lpeCode c, s.indCode c])

/-- The check of a host candidate: the rules, and its claims (R32, R367). -/
def State.hostCode (s : State) (c : Cand) : Option Nat :=
  match s.ruleCode c s.tabNext s.img.cfg.route false with
  | some k => some k
  | none => if (s.claimBad c).isSome then some 0x61 else none

end Sys2Proof.Machine
end

