-- ==== Sys2Proof/Machine/Shadow.lean ====
section
/-! DEFINITION. Staging by the host and by the loader: groups, ungrouped writes, overflow and rejection (R29 to R33, R35). -/

namespace Sys2Proof.Machine

/-- Places of the staging store (R31). -/
def stagePlaces : Nat := 4096

/-- A host write or group is rejected (R32): REJ and its code; a refused claim is counted and reported (R367). -/
def State.stageReject (s : State) (c : Cand) (code : Nat) : State :=
  let s := (s.hwUp GLB_SHADOW_STAT.REJ).put GLB_SHADOW_STAT.REJ_CODE code
  if code = 0x61 then
    match s.claimBad c with
    | some id => s.refuseClaim id
    | none => s
  else s

/-- A host candidate is checked: the store takes it, with the claims it makes, or keeps `g0` and reports the rejection. -/
def State.stageCheck (s : State) (g0 g : Staging) (ws : List FieldWrite) : State :=
  let c := s.candOf g true ws
  match s.hostCode c with
  | some code => (s.setStage g0).stageReject c code
  | none => (s.setStage g).claimAll c

/-- The store is full for these writes (R31). -/
def State.stageFull (s : State) (l ws : List FieldWrite) : Bool :=
  decide (stagePlaces < s.stage.used + newPlaces l ws)

/-- A host write of RWS fields: into the open group, or ungrouped (R29, R31). -/
def State.stageWrites (s : State) (ws : List FieldWrite) : State :=
  if ws.isEmpty then s
  else
    match s.stage.openGrp with
    | some o =>
      if s.stageFull o.writes ws then
        (s.setStage { s.stage with openGrp := some { o with ovf := true } }).hwUp GLB_SHADOW_STAT.OVF
      else s.setStage { s.stage with openGrp := some { o with writes := putWrites o.writes ws } }
    | none =>
      let late := s.handingOver
      let l := s.stage.singles late
      if s.stageFull l ws then s.hwUp GLB_SHADOW_STAT.OVF
      else s.stageCheck s.stage (s.stage.setSingles late (putWrites l ws)) ws

/-- A write of GLB_SHADOW_OPEN (R29, R33); tag 0 opens no group. -/
def State.shadowOpen (s : State) (tag : Nat) : State :=
  if s.stage.openGrp.isSome || tag == 0 then s.hwUp GLB_SHADOW_STAT.NEST
  else s.setStage { s.stage with openGrp := some ⟨tag, [], false⟩ }

/-- A write of 1 to GLB_SHADOW_CLOSE (R29, R31 to R33). -/
def State.shadowClose (s : State) : State :=
  match s.stage.openGrp with
  | none => s.hwUp GLB_SHADOW_STAT.NEST
  | some o =>
    let g0 : Staging := { s.stage with openGrp := none }
    if o.ovf then s.setStage g0
    else
      let g : Staging := { g0 with groups := g0.groups ++ [⟨.host o.tag, s.now / fclkLsb, s.handingOver, o.writes⟩] }
      s.stageCheck g0 g o.writes

/-- The open group is discarded (R33, R377). -/
def State.shadowAbort (s : State) : State := s.setStage { s.stage with openGrp := none }

/-- A group of another source is staged, or the code that rejects it is answered (R31, R32, R35), with one place for each field that it
writes: the store's overflow answers code 0. -/
def State.stageGroup (s : State) (kind : GroupKind) (late : Bool) (ws : List FieldWrite) (tab route : List Nat)
    (newTab : Bool) : Option Nat × State :=
  let ws := putWrites [] ws
  if decide (stagePlaces < s.stage.used + ws.length) then (some 0, s.hwUp GLB_SHADOW_STAT.OVF)
  else
    let g : Staging := { s.stage with groups := s.stage.groups ++ [⟨kind, s.now / fclkLsb, late, ws⟩] }
    match s.ruleCode (s.candOf g false ws) tab route newTab with
    | some code => (some code, s)
    | none => (none, s.setStage g)

/-- GLB_SHADOW_OPEN. -/
def execGlbShadowOpen (dt : Nat) (tag : Fin 256) (s : State) : Host.Outcome State Fault Refusal :=
  .next ((s.advance dt).hostReg GLB_SHADOW_OPEN.addr (fun s => s.shadowOpen tag.val))

/-- GLB_SHADOW_CLOSE. -/
def execGlbShadowClose (dt : Nat) (_late : Bool) (s : State) : Host.Outcome State Fault Refusal :=
  .next ((s.advance dt).hostReg GLB_SHADOW_CLOSE.addr (fun s => s.shadowClose))

/-- GLB_SHADOW_ABORT. -/
def execGlbShadowAbort (dt : Nat) (s : State) : Host.Outcome State Fault Refusal := .next ((s.advance dt).hostReg GLB_SHADOW_ABORT.addr (fun s => s.shadowAbort))

end Sys2Proof.Machine
end

