-- ==== Sys2Proof/Machine/Container.lean ====
section
/-! DEFINITION. The loom image as a byte string (R354 to R357): header, records, trailer, what a set of records configures (R358,
R365, R366, R404), and the checks of a load (R361). -/

namespace Sys2Proof.Machine

/-! ### Header (R354) -/

/-- A 32-bit word of a byte string. -/
def wordAt (b : List Byte) (off : Nat) : Nat := natOfBytes ((b.drop off).take 4)

def imgLen (b : List Byte) : Nat := wordAt b 8
def imgNrec (b : List Byte) : Nat := wordAt b 4 % 2 ^ 16
def imgSvn (b : List Byte) : Nat := bitsOf (wordAt b 12) 31 24
def imgKey (b : List Byte) : Nat := bitsOf (wordAt b 12) 5 4
def imgSite (b : List Byte) : Nat := bitsOf (wordAt b 12) 2 0
def imgShash (b : List Byte) : List Byte := (b.drop 0x20).take 48

/-- SVN, key and site as a swap checks them again (R361, R369). -/
def State.imgTrust (s : State) (b : List Byte) : Option Nat :=
  firstCode [
    (!s.fuse.keyValid (imgKey b) || bit s.fuse.revoked (imgKey b), 0x05),
    (decide (imgSvn b < s.fuse.svnFloor), 0x06),
    (imgSite b != s.get SAF_SEAL.BOOT / 2, 0x07)]

/-- The header checks of R361, on the first 256 bytes. -/
def State.hdrCode (s : State) (b : List Byte) : Option Nat :=
  match firstCode [
    (wordAt b 0 != 0x4D4F_4F4C || wordAt b 4 / 2 ^ 16 != 1, 0x02),
    (crc32 (b.take 0xFC) != wordAt b 0xFC, 0x03),
    (decide (imgLen b < 512) || decide (0x0800_0000 < imgLen b) || imgLen b % 4 != 0 ||
      decide (imgNrec b < 1) || decide (4096 < imgNrec b), 0x04)] with
  | some k => some k
  | none => s.imgTrust b

/-! ### Records (R355, R357) -/

/-- Whether a record's body has the length that its type gives (log entry 34). -/
def recLenOk (typ words : Nat) : Bool :=
  match typ with
  | 0x01 => words == 32
  | 0x02 => words == 81
  | 0x03 => words == 4
  | 0x04 => decide (1 ≤ words) && decide (words ≤ 64)
  | 0x05 => words == 5
  | 0x06 => words == 4
  | 0x07 => words == 4
  | 0x08 => words == 98
  | 0x09 => words == 33
  | 0x20 => decide (4 ≤ words) && decide (words ≤ 2048) && words % 4 == 0
  | 0x21 => words % 2 == 0
  | 0x22 => words == fsetBytes / 4
  | 0x23 => words == 193
  | _ => true

/-- The types of R357, and whether TARGET is in range. -/
def recKnown (typ target : Nat) : Bool :=
  match typ with
  | 0x06 => decide (target < 96)
  | 0x22 => decide (target < 64)
  | 0x21 => decide (target < 136) || target == 255
  | 0x3F => true
  | 0x20 => target == 0
  | 0x23 => target == 0
  | t => decide (1 ≤ t) && decide (t ≤ 9) && target == 0

/-- The order and the counts of R357 are kept when a record follows others. -/
def recOrderOk (l : List ImgRec) (r : ImgRec) : Bool :=
  ((r.idx == 0) == (r.typ == 1)) && !(decide (r.typ < 0x20) && l.any (fun x => decide (0x20 ≤ x.typ))) &&
    (match r.typ with
      | 0x06 => l.all (fun x => x.typ != 0x06 || x.target != r.target)
      | 0x22 => l.all (fun x => x.typ != 0x22 || x.target != r.target)
      | 0x21 => true
      | 0x3F => true
      | t => l.all (fun x => x.typ != t)) &&
    recLenOk r.typ r.body.length

/-- The field set of an FSET record. -/
def ImgRec.fset (r : ImgRec) : FieldSet :=
  { num := r.target, words := ((List.range r.body.length).zip r.body).filter (fun p => p.2 != 0) }

/-- What has been read of the records: those that passed, the bytes of the structural ones, the first failure with its
record, and whether the last record has ended at the trailer. -/
structure Scan where
  recs : List ImgRec := []
  structural : List Byte := []
  bad : Option (Nat × Nat) := none
  whole : Bool := false
  deriving DecidableEq, Repr

/-- The code of a complete record that fails (R361), its bytes `b` being word 0 to CRC word. -/
def recCode (l : List ImgRec) (r : ImgRec) (b : List Byte) : Option Nat :=
  firstCode [
    (crc32 (b.take (b.length - 4)) != wordAt b (b.length - 4), 0x08),
    (!recOrderOk l r, 0x09),
    (!recKnown r.typ r.target, 0x0A),
    (r.typ == 0x22 && !r.fset.valid r.target (fun _ => 0), 0x0F)]

/-- Records read from a byte string: `n` to come from index `idx`, `room` bytes before the trailer. -/
def scanRecs : Nat → Nat → Nat → List Byte → Scan → Scan
  | 0, _, room, _, a => if room = 0 then { a with whole := true } else { a with bad := some (0x04, 0xFFFF) }
  | n + 1, idx, room, b, a =>
    let w0 := wordAt b 0
    let size := 12 + wordAt b 4
    if room < 12 then { a with bad := some (0x04, idx) }
    else if b.length < 8 then a
    else if room < size || size % 4 != 0 then { a with bad := some (0x04, idx) }
    else if b.length < size then a
    else
      let raw := b.take size
      let r : ImgRec := ⟨idx, w0 / 2 ^ 24, w0 % 2 ^ 16, wordsOfBytes (wordAt b 4 / 4) (b.drop 8)⟩
      match recCode a.recs r raw with
      | some k => { a with bad := some (k, idx) }
      | none =>
        scanRecs n (idx + 1) (room - size) (b.drop size)
          { a with recs := a.recs ++ [r], structural := if r.typ < 0x20 then a.structural ++ raw else a.structural }

/-- The records of the bytes of an image that have arrived, once its header has. -/
def imgScan (b : List Byte) : Scan :=
  if b.length < 256 then {} else scanRecs (imgNrec b) 0 (imgLen b - 456) ((b.take (imgLen b - 200)).drop 256) {}

/-- The body of the record of a type that an image may hold once. -/
def bodyOf (l : List ImgRec) (typ : Nat) : List Nat :=
  match l.find? (fun r => r.typ == typ) with
  | some r => r.body
  | none => []

/-- The index of that record, 0xFFFF where there is none. -/
def idxOf (l : List ImgRec) (typ : Nat) : Nat :=
  match l.find? (fun r => r.typ == typ) with
  | some r => r.idx
  | none => 0xFFFF

/-! ### What records configure -/

/-- The configuration outside registers. -/
def imgCfgOf (l : List ImgRec) : ImgCfg :=
  { zones := maskOf 96 (fun t => l.any (fun r => r.typ == 6 && r.target == t && bit (nth r.body 3 0) 0))
    link := bodyOf l 2
    safety := bodyOf l 3
    route := bodyOf l 8
    cell := bodyOf l 9
    fsel := bodyOf l 0x23
    memcfg := bodyOf l 1
    sets := (l.filter (fun r => r.typ == 0x22)).map (fun r => r.target) }

/-- A resource entry that another of a higher-priority owner displaces (R366). -/
def resDropped (l : List Nat) (w : Nat) : Bool :=
  w / 2 ^ 28 != 0xF && l.any (fun x => resOfWord x == resOfWord w && decide (x / 2 ^ 28 < w / 2 ^ 28))

/-- The resource table with the present owners. -/
def resTableOf (l : List Nat) : List (Nat × Nat) := l.map (fun w => (w, if resDropped l w then 0xF else w / 2 ^ 28))

/-- Two entries of equal priority for one resource (R366). -/
def resDup (l : List Nat) : Bool :=
  l.any (fun w => w / 2 ^ 28 != 0xF &&
    decide (1 < (l.filter (fun x => resOfWord x == resOfWord w && x / 2 ^ 28 == w / 2 ^ 28)).length))

/-- DETAIL of the entry that binds a Treadle slot, 0 where none does (R365). -/
def slotDetail (t : List (Nat × Nat)) (k : Nat) : Nat :=
  match t.find? (fun e => resOfWord e.1 == resId 8 k && e.2 != 0xF) with
  | some e => e.1 % 2 ^ 18
  | none => 0

/-- The Shuttle channels that a ROUTE record names. -/
def routeNames (route : List Nat) (c : Nat) : Bool :=
  (List.range 96).any (fun t =>
    let w := nth route t 0
    (bit w 26 && bitsOf w 21 16 == c) || (bit w 25 && bitsOf w 13 8 == c) || (bit w 24 && bitsOf w 5 0 == c)) ||
  (bit (nth route 96 0) 8 && bitsOf (nth route 96 0) 5 0 == c)

/-- MODE of a Shuttle channel (R404). -/
def chanModeOf (cfg : ImgCfg) (c : Nat) : Nat :=
  if streamV cfg.link c then 2 else if routeNames cfg.route c then 1 else 0

/-- The registers that the structural records load. -/
def structWrites (l : List ImgRec) : List FieldWrite :=
  let cfg := imgCfgOf l
  let tab := resTableOf (bodyOf l 4)
  let saf := nth cfg.safety 0 0
  let cell := nth cfg.cell 0 0
  (l.filter (fun r => r.typ == 6)).flatMap (fun r => [0, 1, 2].map (fun k => ⟨T_BIND.BIND r.target k, nth r.body k 0⟩)) ++
    ((bodyOf l 7).zipIdx).flatMap (fun p =>
      [⟨SEL_CHAZ.AZOFS_ODD p.2, p.1 / 2 ^ 16⟩, ⟨SEL_CHAZ.AZOFS_EVEN p.2, p.1 % 2 ^ 16⟩]) ++
    [⟨SAF_DEG_CFG.T_DEG, nth cfg.safety 1 0 % 2 ^ 16⟩, ⟨SAF_PLUG.REQ, b2n (bit saf 25)⟩,
      ⟨SAF_CELL.MEMBER, bitsOf cell 3 0⟩, ⟨SAF_CELL.SOURCE, bitsOf cell 7 4⟩, ⟨SAF_CELL.PRESENT, bitsOf cell 31 16⟩] ++
    (List.range 7).flatMap (fun k =>
      let d := slotDetail tab k
      [⟨TRD_CTL.GUARD k, bitsOf d 17 17⟩, ⟨TRD_CTL.TYPE k, bitsOf d 16 13⟩, ⟨TRD_CTL.SEN_SEL k, bitsOf d 12 8⟩,
        ⟨TRD_CTL.OUT_SEL k, bitsOf d 7 5⟩]) ++
    (List.range 64).map (fun c => ⟨SHU_CFG.MODE c, chanModeOf cfg c⟩)

/-- The pairs of a REGS record: BAR0 offset and value. -/
def pairsOf : List Nat → List (Nat × Nat)
  | a :: v :: r => (a, v) :: pairsOf r
  | _ => []

/-- A pair names an RWS register of the record's domain. -/
def pairOk (target : Nat) (p : Nat × Nat) : Bool :=
  p.1 % 4 == 0 && blockDomain p.1 == target && !(rwsFields p.1).isEmpty

/-- The writes of the REGS records. -/
def regsWrites (l : List ImgRec) : List FieldWrite :=
  (l.filter (fun r => r.typ == 0x21)).flatMap (fun r =>
    (pairsOf r.body).flatMap (fun p => fieldWrites p.1 (BitVec.ofNat 32 p.2)))

/-- Every register that the records load, in order. -/
def imgWrites (l : List ImgRec) : List FieldWrite := structWrites l ++ regsWrites l

/-- The domains that an image requires (R358, and R78 for those always required). -/
def requiredDoms (l : List ImgRec) : Nat → Bool :=
  let cfg := imgCfgOf l
  let dom := bodyOf l 5
  let lanes := bitsOf (nth cfg.route 97 0) 15 0
  let cell := (allPorts.filter (fun p => portValid cfg.link p && portCellIn cfg.link p)).flatMap (portLanesIn cfg.link)
  fun d => bit (nth dom (d / 32) 0) (d % 32) || (decide (d < 96) && bit cfg.zones d) ||
    (decide (96 ≤ d) && decide (d < 112) && (bit lanes (d - 96) || cell.contains (d - 96))) ||
    d == 120 || d == 121 || d == 122 || d == 125

/-! ### Checks of the parsed records (R361) -/

/-- The rules of R483 on safety windows (0x7D). -/
def supSafeBad (regs : Tab Word) (reqd : Nat → Bool) : Bool :=
  let get := getIn regs
  let wins := (List.range 16).filter (fun w => get (SUP_WIN_CFG.SAFE w) != 0)
  let srcs := wins.flatMap (supWinSrcs get)
  let convs := [0, 1].filter (fun k => srcs.any (fun i => i / 16 == k))
  (wins.any (fun w => get (SUP_WIN_CFG.EN w) != 0) && !reqd 124) ||
    srcs.any (fun i => get (SUP_ENT.MED i) != 0 || get (SUP_ENT.ALIGN i) != 0) ||
    convs.any (fun k => [0x40, 0x41].any (fun sel => !(List.range 16).any (fun e =>
      let i := 16 * k + e
      get (SUP_ENT.EN i) != 0 && get (SUP_ENT.SEL i) == sel && get (SUP_ENT.GAIN i) == 0 && get (SUP_ENT.REF i) == 0 &&
        get (SUP_ENT.MED i) == 0 && get (SUP_ENT.ALIGN i) == 0)))

/-- Two valid codes of an FSEL record that differ in fewer than two bits (0x19). -/
def fselBad (fsel : List Nat) : Bool :=
  let l := ((fsel.drop 1).take 64).filter (fun w => bit w 15)
  (List.range l.length).any (fun i => (List.range i).any (fun j =>
    decide (popBits 8 (Nat.xor (nth l i 0 % 256) (nth l j 0 % 256)) < 2)))

/-- The values in force once an image has landed on those in force now. -/
def State.imgRegs (s : State) (l : List ImgRec) : Tab Word := overlay s.regs (imgWrites l)

/-- The REJ_CODE of the rule of R32 that an image breaks, its values laid over those in force (log entry 35). -/
def State.imgRuleCode (s : State) (l : List ImgRec) : Option Nat :=
  let cfg := imgCfgOf l
  let t : State := { s with dev := .configured, img := { s.img with cfg := cfg, res := resTableOf (bodyOf l 4) } }
  let ws := imgWrites l
  let c : Cand := ⟨s.imgRegs l, false, addrsOf ws, ws, s.regs⟩
  firstSome [
    firstCode [(!cfg.link.isEmpty && linkBad cfg.link, 0x71),
      (linkDozeBad cfg.link (bitsOf (nth cfg.route 97 0) 15 0), 0x72),
      (supSafeBad c.regs (requiredDoms l), 0x7D)],
    t.ruleCode c (bodyOf l 0x20) cfg.route (!(bodyOf l 0x20).isEmpty)]

/-- The record that a broken rule points to: LINK and SHOT rules have one record each. -/
def recOfRule (l : List ImgRec) (rej free : Nat) : Nat :=
  if rej = 0x71 || rej = 0x72 then idxOf l 2
  else if (decide (0x30 ≤ rej) && decide (rej ≤ 0x38)) || rej = 0x42 then idxOf l 0x20
  else free

/-- A failure of a load: ERR, RECORD and REJ_CODE. -/
structure LoadBad where
  code : Nat
  record : Nat := 0xFFFF
  rej : Nat := 0
  deriving DecidableEq, Repr

/-- The REGS records with a pair for a register. -/
def regsRecsOf (l : List ImgRec) (addr : Nat) : List ImgRec :=
  l.filter (fun r => r.typ == 0x21 && (pairsOf r.body).any (fun p => p.1 == addr))

/-- The checks made when the records are parsed from the slot: 0x0E, 0x0F, 0x10, 0x11 and 0x19. -/
def State.parseBad (s : State) (l : List ImgRec) : Option LoadBad :=
  let cfg := imgCfgOf l
  let exceeds := fun (cap v : Nat) => cap != 0 && decide (cap < v)
  let outOf := fun (f : Fld) (bad : Nat → Bool) => regsRecsOf l f.addr |>.find? (fun r => (pairsOf r.body).any (fun p =>
    p.1 == f.addr && bad (bitsOf p.2 f.hi f.lo)))
  let badRegs := l.find? (fun r => r.typ == 0x21 && !(pairsOf r.body).all (pairOk r.target))
  let codeSets := (((cfg.fsel.drop 1).take 64).filter (fun w => bit w 15)).map (fun w => bitsOf w 13 8)
  if exceeds s.fuse.capPeriod (bitsOf (nth cfg.safety 0 0) 10 0) then some { code := 0x0E, record := idxOf l 3 }
  else if let some r := (outOf SEL_CTL.M_M1 (fun v => exceeds s.fuse.capM (v + 1))).or (outOf CLK_STEER_LIM.LIM (exceeds s.fuse.capLim)) then
    some { code := 0x0E, record := r.idx }
  else if !cfg.sets.contains (bitsOf (nth cfg.safety 0 0) 31 26) then some { code := 0x0F, record := idxOf l 3 }
  else if codeSets.any (fun i => !cfg.sets.contains i) then some { code := 0x0F, record := idxOf l 0x23 }
  else match badRegs with
  | some r => some { code := 0x10, record := r.idx }
  | none =>
    match s.imgRuleCode l with
    | some k => some { code := 0x10, record := recOfRule l k (Config.failRecord s.freeCount), rej := k }
    | none =>
      if resDup (bodyOf l 4) then some { code := 0x11, record := idxOf l 4 }
      else if fselBad cfg.fsel then some { code := 0x19, record := idxOf l 0x23 }
      else none

/-- The set checks of 0x0F against the gate starts that will be in force (R294). -/
def State.setsBad (s : State) (l : List ImgRec) : Option LoadBad :=
  let regs := s.imgRegs l
  let bad := l.find? (fun r => r.typ == 0x22 && !r.fset.valid r.target (fun n => getIn regs (T_GATE_CTL.START n)))
  bad.map (fun r => { code := 0x0F, record := r.idx })

/-- SAFETY and RESOURCE stand in a whole image (R357). -/
def recsMissing (l : List ImgRec) : Bool := [1, 3, 4].any (fun t => !l.any (fun r => r.typ == t))

/-- The checks of the trailer: its words, the key hash, the signature and the structure hash (R356, R357). -/
def State.trailerCode (s : State) (b : List Byte) (structural : List Byte) : Option Nat :=
  let t := (b.take (imgLen b)).drop (imgLen b - 200)
  let part := fun (o : Nat) => (t.drop o).take 48
  let num := fun (o : Nat) => natOfBytesBE (part o)
  firstCode [
    (wordAt t 0 != 0x5349_474E || wordAt t 4 != 0, 0x02),
    (natOfBytes (sha384 (part 8 ++ part 56)) != (s.fuse.key (imgKey b)).a, 0x0B),
    (!ecdsaOk (sha384 (b.take (imgLen b - 200))) (num 8) (num 56) (num 104) (num 152), 0x0C),
    (sha384 structural != imgShash b, 0x0D)]

/-- What MEMCFG gives the DRAM controller (R425, R427). -/
def memWrites (m : List Nat) : List FieldWrite :=
  let w0 := nth m 0 0
  let w1 := nth m 1 0
  [⟨MEM_CFG.INIT_OK, 1⟩, ⟨MEM_CFG.RAW_GB, bitsOf w0 23 16⟩, ⟨MEM_CFG.RATE, bitsOf w0 15 12⟩, ⟨MEM_CFG.CH_EN, bitsOf w0 7 0⟩,
    ⟨MEM_CAP.PAGES, popBits 8 w0 * (2 ^ 30 * bitsOf w0 23 16 / 4288 - 7680)⟩,
    ⟨MEM_SCRUB.SCRUB_H, bitsOf w1 15 8⟩, ⟨MEM_SCRUB.SPARE_THR, bitsOf w1 7 0⟩]

/-- MEMCFG keeps R425. -/
def memcfgOk (m : List Nat) : Bool :=
  let w0 := nth m 0 0
  let raw := bitsOf w0 23 16
  decide (1 ≤ raw) && decide (raw ≤ 24) && decide (bitsOf w0 15 12 ≤ 5) && [1, 2, 4, 8].contains (popBits 8 w0) &&
    bitsOf w0 31 24 == 0 && bitsOf w0 11 8 == 0 && nth m 1 0 / 2 ^ 16 == 0

/-- The first failure of what has arrived of an image, on its header and its records. -/
def State.streamBad (s : State) (b : List Byte) (sc : Scan) : Option LoadBad :=
  if b.length < 256 then none
  else match s.hdrCode b with
  | some k => some { code := k }
  | none =>
    match sc.bad with
    | some (k, i) => some { code := k, record := i }
    | none => if sc.whole && recsMissing sc.recs then some { code := 0x09 } else none

end Sys2Proof.Machine
end

