-- ==== Sys2Proof/Machine/Message.lean ====
section
/-! DEFINITION. Safety messages (R117, R319, R320, R389): building the message of a decision, checking a received one, the
baseline of a sender, and joining the cell's epoch. -/

namespace Sys2Proof.Machine

/-- A word of a message. -/
def mw (m : List Nat) (i : Nat) : Nat := nth m i 0 % 2 ^ 32
def msgSrc (m : List Nat) : Nat := bitsOf (mw m 0) 23 20
def msgSeq (m : List Nat) : Nat := bitsOf (mw m 0) 15 0
def msgEpoch (m : List Nat) : Nat := mw m 1
def msgTime (m : List Nat) : Nat := mw m 2
def msgPf (m : List Nat) : Nat := mw m 3 + mw m 4 * 2 ^ 32
def msgWf1 (m : List Nat) : Nat := mw m 5 + mw m 6 * 2 ^ 32
def msgWf2 (m : List Nat) : Nat := mw m 7 + mw m 8 * 2 ^ 32
def msgDmin (m : List Nat) : Nat := bitsOf (mw m 11) 31 16

/-- The request of a message: none is the request "none" (R305, R319). -/
def msgReq (m : List Nat) : Option Nat := if bit (mw m 10) 25 then some (bitsOf (mw m 10) 24 19) else none

/-- The CRC of a message matches (R319). -/
def msgCrcOk (m : List Nat) : Bool := crcWords ((List.range 15).map (mw m)) == mw m 15

/-! ### The cell (R343) -/

/-- Own member index, timing source, and whether a member is in the cell table. -/
def State.ownMember (s : State) : Nat := s.get SAF_CELL.MEMBER
def State.timeSource (s : State) : Nat := s.get SAF_CELL.SOURCE
def State.inCell (s : State) (m : Nat) : Bool := bit (s.get SAF_CELL.PRESENT) m

/-- Cover mask C_m of the loaded image. -/
def State.cover (s : State) (m : Nat) : Nat :=
  nth s.img.cfg.cell (1 + 2 * m) 0 + nth s.img.cfg.cell (2 + 2 * m) 0 * 2 ^ 32

/-- The device holds the cell's epoch: it is the timing source, has joined, or is in no cell (R117, R320). -/
def State.hasJoined (s : State) : Bool :=
  s.get SAF_CELL.PRESENT == 0 || s.ownMember == s.timeSource || s.saf.joined

/-- What the device keeps of a sender. -/
def State.sender (s : State) (m : Nat) : Sender := tabGet (fun _ => {}) s.saf.senders m
def State.setSender (s : State) (m : Nat) (x : Sender) : State :=
  { s with saf := { s.saf with senders := tabSet (fun _ => {}) s.saf.senders m x } }

/-! ### Receiving (R320) -/

/-- How a received message is taken. -/
inductive MsgFate where
  | own       -- discarded: the receiver's own index
  | held      -- the device has not joined: it only serves R117
  | baseline  -- the first after an unseen spell
  | pass
  | fail
  deriving DecidableEq, Repr

/-- EPOCH is the receiver's own epoch or that epoch minus 1 (R26, R320). -/
def State.epochNear (s : State) (e : Nat) : Bool := (s.epoch + 2 ^ 32 - e % 2 ^ 32) % 2 ^ 32 ≤ 1

/-- TIME has advanced by T_F of the receiver within ±2 % (R320). -/
def State.timeStep (s : State) (t0 t : Nat) : Bool :=
  let d := (t + 2 ^ 32 - t0 % 2 ^ 32) % 2 ^ 32
  let tf := s.get CLK_FRAME_PER.PERIOD * 10
  50 * d ≤ 51 * tf && 49 * tf ≤ 50 * d

/-- The verdict on a received message (R117, R320). -/
def State.msgFate (s : State) (m : List Nat) : MsgFate :=
  if msgSrc m = s.ownMember then .own
  else if !s.hasJoined then .held
  else if !(msgCrcOk m && s.inCell (msgSrc m) && s.epochNear (msgEpoch m)) then .fail
  else
    let x := s.sender (msgSrc m)
    if !x.base then .baseline
    else if msgSeq m == (x.seq + 1) % 2 ^ 16 && s.timeStep x.time (msgTime m) then .pass
    else .fail

/-- A message is received: from HRL, or from the mailbox (R320, R390). -/
def State.msgReceive (s : State) (m : List Nat) : State :=
  let src := msgSrc m
  let fate := s.msgFate m
  let s := if fate != .own && msgCrcOk m && src == s.timeSource then
      s.setSender src { s.sender src with rawNow := some m }
    else s
  match fate with
  | .own => s
  | .held => s
  | .fail => s.raise 464 0 0
  | .baseline =>
    s.setSender src { s.sender src with base := true, basedNow := true, seq := msgSeq m, time := msgTime m }
  | .pass =>
    let s := s.setSender src { s.sender src with seq := msgSeq m, time := msgTime m, msg := some m }
    if s.fselSrc && src == s.fselSender then { s with saf := { s.saf with selMsg := some (msgReq m) } } else s

/-! ### Joining the cell's epoch (R117) -/

/-- The epoch that the device takes at this tick under R117, if it joins: two messages of the timing source in successive
frames, with SEQ and EPOCH one apart, in frame alignment and outside RUN and DEGRADED. A member that has joined and whose own increment
gives the same epoch does not join again (DESIGN CHOICE; log entry 100). -/
def State.joinEpoch (s : State) : Option Nat :=
  let x := s.sender s.timeSource
  match x.rawLast, x.rawNow with
  | some a, some b =>
    let e := (msgEpoch b + 1) % 2 ^ 32
    if s.get SAF_CELL.PRESENT != 0 && s.ownMember != s.timeSource && s.get CLK_SYNC_STAT.STATE == 2 &&
        (s.dev == .configured || s.dev == .safeStop || s.dev == .maintenance) &&
        msgSrc a == s.timeSource && msgSrc b == s.timeSource &&
        msgSeq b == (msgSeq a + 1) % 2 ^ 16 && msgEpoch b == (msgEpoch a + 1) % 2 ^ 32 &&
        (!s.saf.joined || e != (s.epoch + 1) % 2 ^ 32)
    then some e else none
  | _, _ => none

/-- The frame's messages of the timing source become those of the frame before. -/
def State.rotateRaw (s : State) : State :=
  { s with saf := { s.saf with
      senders := s.saf.senders.map (fun p => (p.1, { p.2 with rawLast := p.2.rawNow, rawNow := none }))
      selMsg := none } }

/-! ### Sending (R319, R389) -/

/-- The request that the device holds: the set that its last sampled code names (R305; log entry 16). -/
def State.ownRequest (s : State) : Option Nat :=
  if s.hasFsel && !s.fselSrc then
    match s.sel.fsel.last with
    | some (some code) => s.fselSet code
    | _ => none
  else none

/-- The words of the safety message of the last decision (R319). -/
def State.msgWords (s : State) : List Nat :=
  let d := s.sel.dec
  let cls := (List.range 8).foldl (fun v a => v + (s.axis a).cls * 2 ^ (3 * a)) 0
  let viol := maskOf 8 s.axisBad
  let req := match s.ownRequest with
    | some j => 2 ^ 25 + j * 2 ^ 19
    | none => 0
  let set := match s.sel.active with
    | some f => f.num
    | none => 0
  let dmin := (List.range 64).foldl (fun m z => min m (tabGet (fun _ => 0xFFFF) d.dmin z)) 0xFFFF
  let time := match s.saf.tick0 with
    | some t => (s.saf.decAt - t) / usLsb % 2 ^ 32
    | none => 0
  let ws := [0x3100_0000 + s.ownMember * 2 ^ 20 + s.dev.code * 2 ^ 16 + s.saf.seq, s.saf.decEpoch, time,
    d.pf % 2 ^ 32, d.pf / 2 ^ 32, d.wf1 % 2 ^ 32, d.wf1 / 2 ^ 32, d.wf2 % 2 ^ 32, d.wf2 / 2 ^ 32,
    viol * 2 ^ 24 + cls, set * 2 ^ 26 + req + s.pairState 0 * 8 + s.pairState 1, dmin * 2 ^ 16, 0, 0, 0]
  ws ++ [crcWords ws]

/-- MBX and LANES of ROUTE word 97 of the loaded image. -/
def State.msgMbx (s : State) : Bool := bit (nth s.img.cfg.route 97 0) 16
def State.msgLanes (s : State) : Nat := bitsOf (nth s.img.cfg.route 97 0) 15 0

/-- SAFETY_MESSAGE_SEND: the message of the decision goes to the mailbox registers, and to every cell port and
every port that holds a lane of ROUTE word 97 (R389, R458). -/
def State.msgSend (s : State) : State :=
  if !s.saf.toSend then s
  else
    let ws := s.msgWords
    let s := { s with saf := { s.saf with toSend := false, seq := (s.saf.seq + 1) % 2 ^ 16 } }
    let s := if s.msgMbx then s.each (List.range 16) (fun s i => s.put (GLB_MBX_TX.WORD i) (nth ws i 0)) else s
    s.lnkMessage ws none 0

/-! ### Commands -/

/-- SAFETY_MESSAGE_SEND. -/
def execSafetyMessageSend (dt : Nat) (s : State) : Host.Outcome State Fault Refusal := .next (s.advance dt).msgSend

/-- SAFETY_MESSAGE_RECEIVE. -/
def execSafetyMessageReceive (dt : Nat) (words : List Nat) (s : State) : Host.Outcome State Fault Refusal :=
  let s := s.advance dt
  .next (if s.dev.ticks then s.msgReceive words else s)

end Sys2Proof.Machine
end

