-- ==== Sys2Proof/Machine/Decision.lean ====
section
/-! DEFINITION. The frame decision (R300, R301) and what the safety core makes of it: lost channels and zones (R332, R333),
fusion (R343, R344), degraded operation (R338 to R341), RUN_BLOCK (R327), and the events of R322. -/

namespace Sys2Proof.Machine

/-- Every zone. -/
def allZones : Nat := 2 ^ 64 - 1

/-! ### Lost channels (R332) -/

/-- The enabled channels by 8 × tile + channel. -/
def State.enabledChs (s : State) : List Nat := (List.range 768).filter (fun k => s.chEn (k / 8) (k % 8))

/-- The proof outcome of a channel in the running frame is PASS (R141). -/
def State.proofPass (s : State) (k : Nat) : Bool := bit (s.get (T_PROOF_STAT.PASS (k / 8))) (k % 8)

/-- A proof failure loses a channel until 8 consecutive frames give it PASS (R332): the table after this frame, 1 + the frames
with PASS since. -/
def State.proofLostNext (s : State) : Tab Nat :=
  s.enabledChs.foldl (fun t k =>
    let n := tabGet (fun _ => 0) s.saf.proofLost k
    if !s.proofPass k then tabSet (fun _ => 0) t k 1
    else if n = 0 || 8 ≤ n then tabSet (fun _ => 0) t k 0
    else tabSet (fun _ => 0) t k (n + 1)) []

/-- A channel is lost in the frame (R332). -/
def State.chLostIn (s : State) (proofLost : Tab Nat) (k : Nat) : Bool :=
  let t := k / 8
  s.chEn t (k % 8) &&
    (tabGet (fun _ => 0) proofLost k != 0 || s.noSlice t (k % 8) || !s.flag (T_BIAS_STAT.BIAS_RDY t) ||
      (s.boundOuts t).any s.outBad)

/-! ### Fusion (R343, R344) -/

/-- What fusion over the cell gives: zones set by messages, zones of lost members, warning flags, classes to lower to by zone,
members fused and lost, and whether any member is unseen. -/
structure Fused where
  pf : Nat := 0
  lostZ : Nat := 0
  wf1 : Nat := 0
  wf2 : Nat := 0
  cls : Tab Nat := []
  fused : Nat := 0
  lostM : Nat := 0
  unseen : Bool := false
  deriving DecidableEq, Repr

/-- A sender at a decision (R344): seen when its newest message that passed carries epoch e − 1 or e. -/
def Sender.atDecision (x : Sender) (seen : Bool) : Sender :=
  if seen then
    let n := min 3 (x.seen + 1)
    { x with unseen := 0, seen := n, lost := x.lost && n < 3, basedNow := false }
  else
    let n := min 3 (x.unseen + 1)
    { x with unseen := n, seen := 0, lost := x.lost || n == 3, base := x.base && x.basedNow, basedNow := false }

/-- Whether a member is seen in the running frame (R344). -/
def State.memberSeen (s : State) (m : Nat) : Bool :=
  match (s.sender m).msg with
  | some w => s.epochNear (msgEpoch w)
  | none => false

/-- The other members of the cell. -/
def State.others (s : State) : List Nat := (List.range 16).filter (fun m => s.inCell m && m != s.ownMember)

/-- One member is fused. -/
def State.fuseOne (s : State) (r : Fused) (m : Nat) : Fused :=
  let x := s.sender m
  let c := s.cover m
  let r := if x.lost then { r with lostM := setBit r.lostM m true, lostZ := orN r.lostZ c } else r
  let r := if x.unseen = 0 then r else { r with unseen := true }
  match (if x.unseen < 3 then x.msg else none) with
  | none => r
  | some w =>
    let pf := andN c (msgPf w)
    let k := match s.sel.active with
      | some f => f.classOf (msgDmin w)
      | none => 0
    { r with
      pf := orN r.pf pf, wf1 := orN r.wf1 (andN c (msgWf1 w)), wf2 := orN r.wf2 (andN c (msgWf2 w))
      cls := (bitList 64 c).foldl (fun t z => tabMin 7 t z (if bit pf z then 0 else k)) r.cls
      fused := setBit r.fused m true }

/-- The senders are counted as seen or unseen, MEMBER_LOST (470) is raised for each that becomes lost, and the messages are
fused. -/
def State.fuseCell (s : State) : Fused × State :=
  let s := s.each s.others (fun s m =>
    let x := (s.sender m).atDecision (s.memberSeen m)
    let was := (s.sender m).lost
    let s := s.setSender m x
    if x.lost && !was then s.raise 470 0 0 else s)
  (s.others.foldl s.fuseOne {}, s)

/-! ### RUN_BLOCK (R327) -/

/-- The conditions of SAF_RUN_BLOCK that the present state gives: FIRE, FSET, PLUG, EDM, OSSD_FB, BIAS, TABLE and CAUSE. -/
def State.runBlockLive (s : State) : Nat :=
  let plug := s.flag SAF_PLUG.REQ && !(s.flag SAF_PLUG.PRESENT && s.flag SAF_PLUG.VALID && s.flag SAF_PLUG.MATCH)
  let edm := [0, 1].any (fun p => s.flag (SAF_OSSD_CFG.EDM_EN p) && !s.edmHigh p)
  b2n (!s.flag HED_CTL.FIRE_EN || s.flag EMD_STAT.CEIL_UNSET) * 2 ^ 10 +
    b2n (s.sel.active.isNone || s.flag SEL_FSET_STAT.ILLEGAL) * 2 ^ 9 + b2n plug * 2 ^ 7 + b2n edm * 2 ^ 6 +
    b2n (s.get SAF_OSSD_STAT.FB != 0) * 2 ^ 5 + b2n (!s.flag TRD_BIAS_STAT.SETTLED) * 2 ^ 4 +
    b2n (!s.flag HED_STAT.TABLE_VALID) * 2 ^ 3 + b2n ((s.word SAF_CAUSE.addr).toNat != 0)

/-- The word of SAF_RUN_BLOCK: LOST, MEMBER, DIAG and PROOF as of the latest decision, the other conditions live. -/
def State.runBlock (s : State) : Nat :=
  b2n (s.flag SAF_RUN_BLOCK.LOST) * 2 ^ 11 + b2n (s.flag SAF_RUN_BLOCK.MEMBER) * 2 ^ 8 +
    b2n (s.flag SAF_RUN_BLOCK.DIAG) * 2 ^ 2 + b2n (s.flag SAF_RUN_BLOCK.PROOF) * 2 + s.runBlockLive

/-- The diagnostics of the frame that block RUN (R327, R334). -/
def State.diagBlocks (s : State) : Bool :=
  !s.emd.diagRan || s.emd.walkBad || s.flag GLB_FRAME_STAT.DIAG_OVR

/-- An enabled channel of a tile with ZONE at 1 did not give PASS (R327, R358). -/
def State.proofBlocks (s : State) : Bool := s.enabledChs.any (fun k => s.zoneTile (k / 8) && !s.proofPass k)

/-! ### Degraded operation -/

/-- The effective T_deg in eighths of an LSB (R338). -/
def State.tDeg (s : State) : Nat :=
  let w := s.get SAF_DEG_CFG.T_DEG
  min w s.fuse.degCap * 8 * 1000 * usLsb

/-- Entry to DEGRADED (R338). -/
def State.enterDegraded (s : State) : State :=
  let s := { s with saf := { s.saf with clean := 0, backNext := false } }
  ((s.setDev .degraded 0x10).putB SAF_STAT.DEG true).raise 469 0 0

/-- The frames with DIAG_OVR in a row, the running one included (R334). -/
def State.diagFrames (s : State) : Nat :=
  if s.dev.running && s.flag GLB_FRAME_STAT.DIAG_OVR then s.saf.diagRun + 1 else 0

/-- DIAG_OVR in 3 consecutive frames of RUN or DEGRADED (R334). -/
def State.diagReact (s : State) : State := if 3 ≤ s.diagFrames then s.safeStop 0x0D else s

/-- Coverage loss in RUN (R338), and the clean decisions of DEGRADED (R341). -/
def State.degradedRules (s : State) (lostZ : Nat) : State :=
  let s := if s.dev == .run && lostZ != 0 && s.degAcc < s.tDeg then s.enterDegraded else s
  if s.dev == .degraded then
    let n := if lostZ = 0 then s.saf.clean + 1 else 0
    { s with saf := { s.saf with clean := n, backNext := decide (8 ≤ n) } }
  else s

/-! ### The decision -/

/-- The field-set CRC check of the frame fails or is not complete (R301). -/
def State.crcReact (s : State) (bad : Bool) : State :=
  if bad then ((s.putB SEL_FRAME.CRC_FAIL true).raise 467 0 0).reactS 0x05 else s.putB SEL_FRAME.CRC_FAIL false

/-- The zone flags, distances and classes of the frame (R299, R300, R333, R339, R343, R344) and the number of UNSEEN cells.
`forced`: every zone is violated. -/
def State.zoneResults (s : State) (forced : Bool) (lost : Nat → Bool) (fu : Fused) : Decision × Nat :=
  match s.sel.active with
  | none => ({ pf := allZones, wf1 := allZones, wf2 := allZones, dmin := [], cls := (List.range 64).map (fun z => (z, 0))
               lost := fu.lostZ }, 0)
  | some f =>
    let un := s.unseenCells f lost
    let rowLost := fun t => (List.range 8).any (fun c => lost (8 * t + c))
    let unZ := f.zonesOf un
    let unBad := f.zonesOf (un.filter (fun c => !rowLost (c / 1024)))
    let lostZ := orN (andNotN 64 unZ unBad) fu.lostZ
    let hard := orN (if forced then allZones else orN s.sel.pf (s.ignZones f)) fu.pf
    let soft := orN unZ fu.lostZ
    let spare := if s.dev == .degraded then andNotN 64 (andN lostZ soft) hard else 0
    let pf := andNotN 64 (orN hard soft) spare
    let warn := orN (orN hard soft) spare
    let cls := (List.range 64).map (fun z =>
      let k := min (f.classOf (tabGet (fun _ => 0xFFFF) s.sel.dmin z)) (tabGet (fun _ => 7) fu.cls z)
      (z, if bit pf z then 0 else if bit spare z then min f.degClass k else k))
    ({ pf := pf, wf1 := orN (orN s.sel.wf1 fu.wf1) warn, wf2 := orN (orN s.sel.wf2 fu.wf2) warn
       dmin := s.sel.dmin, cls := cls.filter (fun p => p.2 != 7), lost := lostZ }, un.length)

/-- K_z of a decision. -/
def Decision.classAt (d : Decision) (z : Nat) : Nat := tabGet (fun _ => 7) d.cls z

/-- A 64-bit mask in a LO and a HI register. -/
def State.put64 (s : State) (lo hi : Fld) (v : Nat) : State := (s.put lo v).put hi (v / 2 ^ 32)

/-- The registers of Selvedge for a decision, and SEL_VIOL (465) for each zone whose PF turns from clear to violated. -/
def State.publishZones (s : State) (d : Decision) (unseen : Nat) (forced : Bool) : State :=
  let new := bitList 64 (andNotN 64 d.pf s.sel.dec.pf)
  let s := { s with sel := { s.sel with dec := d } }
  if !s.domOn 121 then s
  else
    let s := s.put64 SEL_PF_LO.ZONES SEL_PF_HI.ZONES d.pf
    let s := s.put64 SEL_WF1_LO.ZONES SEL_WF1_HI.ZONES d.wf1
    let s := s.put64 SEL_WF2_LO.ZONES SEL_WF2_HI.ZONES d.wf2
    let s := (s.put SEL_FRAME.UNSEEN (satU 17 unseen)).putB SEL_FRAME.FORCED forced
    s.each new (fun s _ => s.raise 465 0 0)

/-- Lost channels at a decision: the records of R332, SAF_CH_LOST (468) for each that becomes lost, and PROOF_FR. -/
def State.takeLost (s : State) (proofLost : Tab Nat) (lost : Nat → Bool) : State :=
  let now := (List.range 768).filter lost
  let new := now.filter (fun k => !tabGet (fun _ => false) s.saf.chLost k)
  let s := if s.enabledChs.any (fun k => !s.proofPass k) then s.bump SAF_DIAG_CNT.PROOF_FR else s
  let s := { s with saf := { s.saf with proofLost := proofLost, chLost := now.map (fun k => (k, true)) } }
  let s := s.each [0, 1, 2] (fun s k =>
    s.put (SAF_LOST_TILE.TILE k) (maskOf 32 (fun b => now.any (fun c => c / 8 == 32 * k + b))))
  s.each new (fun s _ => s.raise 468 0 0)

/-- The registers of the safety core for a decision, and the conditions of RUN_BLOCK that it fixes. -/
def State.publishSafety (s : State) (d : Decision) (fu : Fused) (chLost : Bool) : State :=
  let s := s.put64 SAF_LOST_ZONE_LO.ZONES SAF_LOST_ZONE_HI.ZONES d.lost
  let s := s.putB SAF_STAT.LOST (d.lost != 0)
  let s := (s.put SAF_MEMBER_STAT.SEEN fu.fused).put SAF_MEMBER_STAT.LOST fu.lostM
  let s := (s.putB SAF_RUN_BLOCK.LOST (chLost || d.lost != 0)).putB SAF_RUN_BLOCK.MEMBER fu.unseen
  (s.putB SAF_RUN_BLOCK.DIAG s.diagBlocks).putB SAF_RUN_BLOCK.PROOF s.proofBlocks

/-- Whether a decision is violated for a pair (R302): a zone of its mask has PF set; with no active set every zone is taken as
violated. -/
def State.pairViolated (s : State) (d : Decision) (p : Nat) : Bool :=
  s.sel.active.isNone || andN d.pf (s.pairMask FieldSet.pairZones p) != 0

/-- The frame decision (R300 to R302, R309, R315, R332 to R344). `ovr`: none was issued in time, and the safety core takes a
violation over every zone (R20, R21). -/
def State.frameDecide (s : State) (ovr crcDone : Bool) : State :=
  let crcBad := s.sel.active.isSome && (!crcDone || s.sel.corrupt)
  let s := if ovr then s else s.crcReact crcBad
  let s := if s.flag SEL_FSET_STAT.ILLEGAL && s.domOn 121 then s.bump SEL_CNT.ILLEGAL else s
  let forced := ovr || s.sel.active.isNone || s.sel.midFrame || crcBad || s.flag SEL_FSET_STAT.ILLEGAL ||
    s.flag GLB_FRAME_STAT.INCOMPLETE
  let proofLost := s.proofLostNext
  let lostCh := s.chLostIn proofLost
  let (fu, s) := s.fuseCell
  let pre := (s.zoneResults forced lostCh fu).1
  let s := (s.diagReact).degradedRules pre.lost
  let (d, unseen) := s.zoneResults forced lostCh fu
  let s := { s with decided := true
                    saf := { s.saf with decAt := s.now, decEpoch := s.epoch, toSend := true, before := s.saf.pairs
                                        wasOn := maskOf 2 (fun p => s.pairState p == 2)
                                        axesBefore := s.saf.axes, forced := forced } }
  let s := s.publishZones d unseen forced
  let s := s.each (List.range 8) (fun s a => s.axisDecide a d.classAt)
  let s := s.each [0, 1] (fun s p => s.pairDecide p (s.pairViolated d p))
  let s := s.takeLost proofLost lostCh
  s.publishSafety d fu ((List.range 768).any lostCh)

/-- A pair retakes the running frame's outcome as violated: its history is that before the decision, and one that the decision has
turned ON goes OFF (R21). -/
def State.pairRetake (s : State) (p : Nat) : State :=
  let old := tabGet (fun _ => {}) s.saf.before p
  let x := { s.pair p with runV := old.runV, runC := old.runC, clear := old.clear, clearAt := old.clearAt }
  let s := s.setPair p x
  let s := if s.pairState p = 2 && !bit s.saf.wasOn p then s.pairGo p 0 1 else s
  s.pairDecide p true

/-- An axis retakes the running frame's zone class as 0, from its classes and ramp before the decision. -/
def State.axisRetake (s : State) (a : Nat) : State :=
  let old := tabGet (fun _ => {}) s.saf.axesBefore a
  (s.setAxis a { s.axis a with ks := old.ks, cls := old.cls, ramp := old.ramp }).axisDecide a (fun _ => 0)

/-- The frame has become incomplete after its decision: the safety core treats it as one whose decision is violated over every zone
(R21; log entry 82). -/
def State.retake (s : State) : State :=
  if !s.decided || s.saf.forced || !s.flag GLB_FRAME_STAT.INCOMPLETE then s
  else
    let s := { s with saf := { s.saf with forced := true } }
    let d : Decision := { s.sel.dec with pf := allZones, wf1 := allZones, wf2 := allZones
                                         cls := (List.range 64).map (fun z => (z, 0)) }
    let s := s.publishZones d (s.get SEL_FRAME.UNSEEN) true
    let s := s.each (List.range 8) State.axisRetake
    s.each [0, 1] State.pairRetake

end Sys2Proof.Machine
end

