-- ==== Sys2Proof/Machine/Supervise.lean ====
section
/-! DEFINITION. Supervisory measurement (R467 to R486). -/

namespace Sys2Proof.Machine

/-! ### The bank (R467, R468, R477) -/

/-- The registers that form a bank. -/
def supBankAddrs : List Nat :=
  [SUP_CTL.addr, SUP_BLANK.addr] ++ (List.range 4).map SUP_EXC.addr ++ (List.range 32).map SUP_ENT.addr

/-- The bank that the effective values give. -/
def State.supLandedBank (s : State) : Tab Word := s.regs.filter (fun p => supBankAddrs.contains p.1)

/-- A field of the active bank. -/
def State.supGet (s : State) (f : Fld) : Nat := getIn s.sup.bank f
def State.supFlag (s : State) (f : Fld) : Bool := s.supGet f != 0

/-- The converters run (R467). -/
def State.supRuns (s : State) : Bool := s.dev.fires && s.domOn 124 && s.supFlag SUP_CTL.EN

/-- The enabled slots of a converter in a bank, in ascending order (R468). -/
def supList (bank : Tab Word) (k : Nat) : List Nat :=
  ((List.range 16).map (fun i => 16 * k + i)).filter (fun i => getIn bank (SUP_ENT.EN i) != 0)

/-- A slot's state beyond its registers. -/
def State.supSlot (s : State) (i : Nat) : SupSlot := tabGet (fun _ => {}) s.sup.slots i
def State.setSupSlot (s : State) (i : Nat) (x : SupSlot) : State :=
  { s with sup := { s.sup with slots := tabSet (fun _ => {}) s.sup.slots i x } }

/-- M of R475. -/
def medLen (med : Nat) : Nat := if med = 1 then 3 else if med = 2 then 5 else 1

/-! ### The front end (R468 to R470) -/

/-- An input of a converter (R469): a ball against SV_COM, a pair of balls, a rail through its divider of 1/4 (numbered as in the table),
the shorted inputs, and the check reference of 0.625 V. -/
inductive SupInput where
  | single (n : Nat) | diff (j : Nat) | rail (n : Nat) | zero | check
  deriving DecidableEq, Repr

/-- The input that SEL selects; none for a reserved code. -/
def supInput (sel : Nat) : Option SupInput :=
  if sel < 0x20 then some (.single sel)
  else if sel < 0x30 then some (.diff (sel - 0x20))
  else if sel < 0x3A then some (.rail (sel - 0x30))
  else if sel = 0x40 then some .zero
  else if sel = 0x41 then some .check
  else none

/-- What a converter's front end puts through in a sub-slot: the input, whether against VREF_EXT in place of 1.250 V, the gain, and
whether the input is inverted ahead of the modulator. -/
structure SupPath where
  input : SupInput
  extRef : Bool
  gain : Nat
  inverted : Bool
  deriving DecidableEq, Repr

/-- The front end of converter `k` in sub-slot `m` of the period, of the 32 × n_k sub-slots: the rounds take the enabled entries in
ascending order, and odd rounds are chopped. -/
def State.supFrontEnd (s : State) (k m : Nat) : Option SupPath :=
  let l := supList s.sup.bank k
  let i := nth l (m % l.length) 0
  if l.isEmpty then none
  else (supInput (s.supGet (SUP_ENT.SEL i))).map (fun x =>
    ⟨x, s.supFlag (SUP_ENT.REF i), 2 ^ s.supGet (SUP_ENT.GAIN i), decide (m / l.length % 2 = 1)⟩)

/-! ### The filter chain (R471 to R474) -/

/-- One modulator bit enters the integrators. -/
def Cic.bit (c : Cic) (b : Bool) : Cic :=
  let i1 := (c.i1 + b2n b) % 65536
  let i2 := (c.i2 + i1) % 65536
  { c with i1 := i1, i2 := i2, i3 := (c.i3 + i2) % 65536 }

/-- The output after every 32nd bit. -/
def Cic.out (c : Cic) : Nat × Cic :=
  let d1 := (c.i3 + 65536 - c.c1) % 65536
  let d2 := (d1 + 65536 - c.c2) % 65536
  let d3 := (d2 + 65536 - c.c3) % 65536
  (d3, { c with c1 := c.i3, c2 := d1, c3 := d2 })

/-- `n` outputs of the decimator from a bitstream. -/
def Cic.run : Nat → Cic → List Bool → List Nat × Cic
  | 0, c, _ => ([], c)
  | n + 1, c, bits =>
    let (o, c) := ((bits.take 32).foldl Cic.bit c).out
    let (r, c) := Cic.run n c (bits.drop 32)
    (o :: r, c)

/-- A frame's blanking window is open during the 32 modulator cycles of output `k` of the period that ends now, of `n` entries; times are
multiplied by the 256 × n outputs of a period (R473; log entry 93). -/
def State.supInWindow (s : State) (n k : Nat) : Bool :=
  let d := 256 * n
  let ti := s.supGet SUP_CTL.TI * usLsb
  s.sup.ticks.any (fun t =>
    let a := t + s.supGet SUP_BLANK.BW_START * usLsb
    let b := a + s.supGet SUP_BLANK.BW_LEN * usLsb
    decide (d * (a + ti) < d * s.now + ti * (k + 1)) && decide (d * s.now + ti * k < d * (b + ti)))

/-- The sub-sample at position `q` of the sub-slot numbered `m` is blanked (R473). -/
def State.supBlanked (s : State) (p : SupPeriod) (n m q : Nat) : Bool :=
  (s.supFlag SUP_BLANK.BIN_EN && (if s.supFlag SUP_BLANK.BIN_POL then p.binLow else p.binHigh).contains (5 * m + q)) ||
    (s.supGet SUP_BLANK.BW_LEN != 0 && s.supInWindow n (8 * m + 3 + q))

/-- The raw result of an entry (R472, R473), from the decimator's outputs `o`, the `n` entries and its position `e`. None is
NO_DATA. -/
def State.supRaw (s : State) (p : SupPeriod) (o : List Nat) (n e : Nat) (blank : Bool) : Option (Int × Bool) :=
  let kept := fun r q => !blank || !(s.supBlanked p n (r / 2 * 2 * n + e) q || s.supBlanked p n ((r / 2 * 2 + 1) * n + e) q)
  let all := (List.range 32).flatMap (fun r => ((List.range 5).filter (kept r)).map (fun q =>
    let v := ((nth o (8 * (r * n + e) + 3 + q) 0 : Nat) : Int) - 16384
    if r % 2 = 0 then v else -v))
  let u := all.length
  if u = 0 then none else some (roundDivI (all.foldl (· + ·) 0 * 160) u, decide (u < 160))

/-- The middle of an odd number of values (R474). -/
def median (l : List Int) : Int := nth (sortBy (fun a b => decide (a < b)) l) (l.length / 2) 0

/-- The output of the chain of a slot for this period, before flags (R474): median and ALIGN. -/
def State.supChain (s : State) (i : Nat) (raw : Option (Int × Bool)) : SupOut × State :=
  let x := s.supSlot i
  let m := medLen (s.supGet (SUP_ENT.MED i))
  let hist := match raw with
    | some (r, _) => (r :: x.hist).take 5
    | none => x.hist
  let (n1, s) := s.fresh
  let (n2, s) := s.fresh
  let o : SupOut := match raw with
    | some (_, part) => ⟨if hist.length < m then Config.supOpen n1 else median (hist.take m), false, part⟩
    | none => ⟨Config.supOpen n1, true, false⟩
  let outs := (o :: x.outs).take 8
  (nth outs (s.supGet (SUP_ENT.ALIGN i)) ⟨Config.supOpen n2, false, false⟩, s.setSupSlot i { x with hist := hist, outs := outs })

/-! ### Delivery (R476, R478, R479, R481) -/

/-- The 48-bit sum of a slot. -/
def State.supSum (s : State) (i : Nat) : Int :=
  signed 48 (s.get (SUP_ACC_LO.SUM i) + s.get (SUP_ACC_HI.SUM i) * 2 ^ 32)

/-- The sum of a slot replaced. -/
def State.setSupSum (s : State) (i : Nat) (v : Int) : State :=
  let u := unsigned 48 v
  (s.put (SUP_ACC_LO.SUM i) u).put (SUP_ACC_HI.SUM i) (u / 2 ^ 32)

/-- The clear that a write of SUP_ACC_CLR asks for, of any slot, before the outputs of the boundary are taken (R479). -/
def State.supClear (s : State) (i : Nat) : State :=
  if !bit (s.get SUP_ACC_CLR.CLR) i then s
  else
    let s := (s.setSupSum i 0).put (SUP_ACC_CNT.COUNT i) 0
    let s := (s.put (SUP_MIN.VALUE i) 0x7F_FFFF).put (SUP_MAX.VALUE i) 0x80_0000
    s.put SUP_ACC_CLR.CLR (setBit (s.get SUP_ACC_CLR.CLR) i false)

/-- An output is taken into the accumulator and the trackers (R479). -/
def State.supTake (s : State) (i : Nat) (v : Int) : State :=
  let s := (s.setSupSum i (satS 48 (s.supSum i + v))).bump (SUP_ACC_CNT.COUNT i)
  let s := s.putI (SUP_MIN.VALUE i) (min (s.getI (SUP_MIN.VALUE i)) v)
  s.putI (SUP_MAX.VALUE i) (max (s.getI (SUP_MAX.VALUE i)) v)

/-- The output of a slot is delivered. -/
def State.supDeliver (s : State) (i : Nat) (o : SupOut) : State :=
  let x := s.supSlot i
  let uns := x.settle != 0
  let noData := o.noData || (s.supFlag (SUP_ENT.REF i) && !s.flag SUP_STAT.REF_OK)
  let s := (s.putI (SUP_RES.VALUE i) o.val).putB (SUP_RES.UNSETTLED i) uns
  let s := (s.putB (SUP_RES.NO_DATA i) noData).putB (SUP_RES.GAIN_CHG i) x.gainChg
  let s := s.putB (SUP_RES.PART_BLANK i) (o.part && !noData)
  let s := s.setSupSlot i { x with settle := x.settle - 1, gainChg := false }
  if noData || (uns && !s.supFlag (SUP_ENT.INCL_UNS i)) then s else s.supTake i (satS 24 o.val)

/-- Every enabled slot of a converter. -/
def State.supConverter (s : State) (k : Nat) (p : SupPeriod) : State :=
  let l := supList s.sup.bank k
  let n := l.length
  let (o, c) := Cic.run (256 * n) (tabGet (fun _ => {}) s.sup.cics k) p.bits
  let s := { s with sup := { s.sup with cics := tabSet (fun _ => {}) s.sup.cics k c } }
  s.each (l.zipIdx) (fun s ie =>
    let raw := s.supRaw p o n ie.2 (s.supFlag (SUP_ENT.MODE ie.1))
    let (out, s) := s.supChain ie.1 raw
    s.supDeliver ie.1 out)

/-! ### Windows (R482 to R485) -/

/-- Every slot that a window tests has delivered an output at the boundary; a window without one tests nothing (log entry 53). -/
def State.supHasOutput (s : State) (w : Nat) : Bool :=
  s.supFlag (SUP_ENT.EN (s.get (SUP_WIN_CFG.SRC_A w))) &&
    (!s.flag (SUP_WIN_CFG.MODE w) || s.supFlag (SUP_ENT.EN (s.get (SUP_WIN_CFG.SRC_B w))))

/-- What a window tests: the value, and whether it is NO_DATA or UNSETTLED. -/
def State.supTested (s : State) (w : Nat) : Int × Bool × Bool :=
  let a := s.get (SUP_WIN_CFG.SRC_A w)
  let b := s.get (SUP_WIN_CFG.SRC_B w)
  let v := s.getI (SUP_RES.VALUE a)
  let nd := s.flag (SUP_RES.NO_DATA a)
  let un := s.flag (SUP_RES.UNSETTLED a)
  if s.flag (SUP_WIN_CFG.MODE w) then
    (v - s.getI (SUP_RES.VALUE b), nd || s.flag (SUP_RES.NO_DATA b), un || s.flag (SUP_RES.UNSETTLED b))
  else (v, nd, un)

/-- A safety window or self-check window trips (R485). -/
def State.supSafeTrip (s : State) (detail : Nat) : State :=
  ((s.bump SUP_WIN_CNT.SAFE_TRIPS).raise 473 0 detail).reactS 0x08

/-- TRIPPED of a window. -/
def supTripped (w : Nat) : Fld := ⟨SUP_STAT.addr, w, w⟩

/-- The run of a window and its trip. -/
def State.supWinSet (s : State) (w run : Nat) (tripped : Bool) : State :=
  { s.putB (supTripped w) tripped with sup := { s.sup with wins := tabSet (fun _ => 0) s.sup.wins w run } }

/-- A window comparator at a boundary (R482, R483). -/
def State.supWindow (s : State) (w : Nat) : State :=
  let safe := s.flag (SUP_WIN_CFG.SAFE w)
  let n := if safe then 1 else s.get (SUP_WIN_CFG.N w)
  let (v, nd, un) := s.supTested w
  let was := s.flag (supTripped w)
  let lo := s.getI (SUP_WIN_LO.LIMIT w)
  let hi := s.getI (SUP_WIN_HI.LIMIT w)
  let h := ((s.get (SUP_WIN_CFG.HYST w) * 256 : Nat) : Int)
  let run := tabGet (fun _ => 0) s.sup.wins w
  if !s.flag (SUP_WIN_CFG.EN w) || !s.supHasOutput w || (nd && !safe) || (un && !safe && s.flag (SUP_WIN_CFG.IGN_UNS w)) then s
  else if was then
    let inside := !nd && decide (lo + h ≤ v) && decide (v ≤ hi - h)
    if !inside then s.supWinSet w 0 true
    else if run + 1 < n then s.supWinSet w (run + 1) true
    else s.supWinSet w 0 false
  else
    let out := nd || decide (v < lo) || decide (hi < v)
    if !out then s.supWinSet w 0 false
    else if run + 1 < n then s.supWinSet w (run + 1) false
    else
      let s := s.supWinSet w 0 true
      if safe then s.supSafeTrip w else (s.bump SUP_WIN_CNT.TRIPS).raise 576 0 w

/-- A converter serves a safety window (R483). -/
def State.supServesSafe (s : State) (k : Nat) : Bool :=
  (List.range 16).any (fun w =>
    s.flag (SUP_WIN_CFG.EN w) && s.flag (SUP_WIN_CFG.SAFE w) &&
      (s.get (SUP_WIN_CFG.SRC_A w) / 16 == k ||
        (s.flag (SUP_WIN_CFG.MODE w) && s.get (SUP_WIN_CFG.SRC_B w) / 16 == k)))

/-- The slot that reads an input for the self-check, with GAIN, REF, MED and ALIGN at 0 (R483). -/
def State.supCheckSlot (s : State) (k sel : Nat) : Option Nat :=
  (supList s.sup.bank k).find? (fun i => s.supGet (SUP_ENT.SEL i) == sel && s.supGet (SUP_ENT.GAIN i) == 0 &&
    s.supGet (SUP_ENT.REF i) == 0 && s.supGet (SUP_ENT.MED i) == 0 && s.supGet (SUP_ENT.ALIGN i) == 0)

/-- One test of the self-check window of a converter (R484): `j` 0 tests zero, 1 the check reference. -/
def State.supSelfTest (s : State) (k j : Nat) : State :=
  match s.supCheckSlot k (0x40 + j) with
  | none => s
  | some i =>
    let mid : Int := if j = 0 then 0 else 1310720
    let tol := if j = 0 then 2621 else 13107
    let out := s.flag (SUP_RES.NO_DATA i) || decide (tol < (s.getI (SUP_RES.VALUE i) - mid).natAbs)
    let was := bit s.sup.selfTrip (2 * k + j)
    let s := { s with sup := { s.sup with selfTrip := setBit s.sup.selfTrip (2 * k + j) out } }
    if out && !was then s.supSafeTrip (0x10 + k) else s

/-- The self-check windows of a converter that serves a safety window. -/
def State.supSelf (s : State) (k : Nat) : State :=
  if s.supServesSafe k then (s.supSelfTest k 0).supSelfTest k 1 else s

/-! ### Analog outputs (R486) -/

/-- The code of AOUT[n] replaced. -/
def State.setAout (s : State) (n code : Nat) : State :=
  { s with sup := { s.sup with aout := tabSet (fun _ => 0) s.sup.aout n code } }

/-- A mapped output at a boundary: a slot that delivered no settled output leaves it as it is. -/
def State.aoutMap (s : State) (n : Nat) : State :=
  let i := s.get (SUP_AOUT_CTL.SLOT n)
  if !s.flag (SUP_AOUT_CTL.MAP n) || !s.supFlag (SUP_ENT.EN i) || s.flag (SUP_RES.NO_DATA i) ||
      s.flag (SUP_RES.UNSETTLED i) then s
  else
    let v := Int.fdiv (s.getI (SUP_RES.VALUE i) * s.getI (SUP_AOUT_MAP.SCALE n)) (2 ^ 16)
    s.setAout n (clampI 0 65535 (((s.get (SUP_AOUT_MAP.OFS n) : Nat) : Int) + v)).toNat

/-- The code that drives AOUT[n]; none is 0 V. -/
def State.aoutDriven (s : State) (n : Nat) : Option Nat :=
  if s.domOn 124 && s.dev != .lockout && s.flag SUP_STAT.REF_OK then some (tabGet (fun _ => 0) s.sup.aout n) else none

/-! ### The swap (R475, R477, R478) -/

/-- φ_i in quarters of a µs (R475), for the active bank. -/
def State.supPhase (s : State) (i : Nat) : Nat :=
  let l := supList s.sup.bank (i / 16)
  let n := l.length
  let e := (l.filter (fun j => decide (j < i))).length
  let ti := s.supGet SUP_CTL.TI
  let m := medLen (s.supGet (SUP_ENT.MED i))
  if !l.contains i then 0
  else
    let whole := 2 * ti + 2 * (m - 1) * ti + 4 * s.supGet (SUP_ENT.ALIGN i) * ti
    openQuot (whole * 32 * n + 2 * n * ti - (4 * e + 2) * ti) (32 * n)

/-- A slot's settings differ between two banks in what R478 names. -/
def supDiffers (a b : Tab Word) (i : Nat) : Bool :=
  let k := i / 16
  let x := getIn b (SUP_ENT.EXC i)
  let excDiff := x != 0 && x ≤ 4 &&
    (getIn a (SUP_EXC.EN (x - 1)) != getIn b (SUP_EXC.EN (x - 1)) ||
      getIn a (SUP_EXC.ISET (x - 1)) != getIn b (SUP_EXC.ISET (x - 1)))
  (getIn a (SUP_ENT.EN i) == 0 && getIn b (SUP_ENT.EN i) != 0) || (supList a k).length != (supList b k).length || excDiff ||
    [SUP_ENT.SEL i, SUP_ENT.GAIN i, SUP_ENT.REF i, SUP_ENT.MODE i, SUP_ENT.MED i, SUP_ENT.ALIGN i, SUP_ENT.EXC i].any
      (fun f => getIn a f != getIn b f)

/-- The landed bank becomes the active one (R477): settle counters restart, and SUP_SWAP is raised. -/
def State.supSwap (s : State) (epoch : Nat) : State :=
  let a := s.sup.bank
  let b := s.supLandedBank
  let s := { s with sup := { s.sup with bank := b, landed := none } }
  let s := s.each (List.range 32) (fun s i =>
    if !supDiffers a b i then s
    else
      let u := medLen (getIn b (SUP_ENT.MED i)) + getIn b (SUP_ENT.ALIGN i)
      let x := s.supSlot i
      let g := getIn a (SUP_ENT.GAIN i) != getIn b (SUP_ENT.GAIN i)
      s.setSupSlot i { x with settle := u, gainChg := x.gainChg || g })
  let s := s.each (List.range 32) (fun s i => s.put (SUP_PHASE.PHASE i) (s.supPhase i))
  (s.put SUP_SWAP_EPOCH.EPOCH epoch).raise 578 0 0

/-! ### Boundaries and ticks -/

/-- An integration boundary (R472 to R486): the outputs of the period, windows and analog outputs, then a swap. -/
def State.supBoundary (s : State) (p0 p1 : SupPeriod) (refOk : Bool) : State :=
  if !s.supRuns then s
  else
    let was := s.flag SUP_STAT.REF_OK
    let s := s.putB SUP_STAT.REF_OK refOk
    let s := if was && !refOk then s.raise 577 0 0 else s
    let s := ((s.each (List.range 32) State.supClear).supConverter 0 p0).supConverter 1 p1
    let s := s.each (List.range 16) State.supWindow
    let s := (s.supSelf 0).supSelf 1
    let s := s.each (List.range 4) State.aoutMap
    let s := { s with sup := { s.sup with ticks := s.sup.ticks.filter (fun t => decide (s.now < t + 20000 * usLsb)) } }
    match s.sup.landed with
    | some e => s.supSwap e
    | none => s

/-- A tick opens a frame, whose blanking window may reach into periods that are yet to end (R473), of converters that have yet to
start too. RUN tells whether the converters run in the frame. -/
def State.supFrame (s : State) : State :=
  let l := (s.sup.ticks ++ [s.now]).filter (fun t => s.supRuns || decide (s.now ≤ t + 20000 * usLsb))
  let s := { s with sup := { s.sup with ticks := l } }
  if s.domOn 124 then s.putB SUP_STAT.RUN s.supRuns else s

/-- A tick: a bank that has landed waits for the next boundary, or starts converters that do not run; a code that has landed is
applied (R467, R477, R486). `written`: the registers that landed; the epoch is that of the landing tick. -/
def State.supLanded (s : State) (written : List Nat) : State :=
  let s := if supBankAddrs.any written.contains then { s with sup := { s.sup with landed := some s.epoch } } else s
  let s := match s.sup.landed with
    | some e => if s.supRuns then s else s.supSwap e
    | none => s
  s.each (List.range 4) (fun s n =>
    if written.contains (SUP_AOUT_CTL.addr n) && !s.flag (SUP_AOUT_CTL.MAP n) then s.setAout n (s.get (SUP_AOUT_CTL.CODE n))
    else s)

/-- A write of SUP_ACC_CLR (R479). -/
def State.supAccClr (s : State) (w : Word) : State :=
  s.put SUP_ACC_CLR.CLR (orN (s.get SUP_ACC_CLR.CLR) w.toNat)

/-! ### Commands -/

/-- INTEGRATION_BOUNDARY. -/
def execIntegrationBoundary (dt : Nat) (conv0 conv1 : SupPeriod) (refOk : Bool) (s : State) :
    Host.Outcome State Fault Refusal := .next ((s.advance dt).supBoundary conv0 conv1 refOk)

/-- SUP_ACC_CLR. -/
def execSupAccClr (dt : Nat) (clr : Word) (s : State) : Host.Outcome State Fault Refusal :=
  .next ((s.advance dt).hostReg SUP_ACC_CLR.addr (fun s => s.supAccClr clr))

end Sys2Proof.Machine
end

