-- ==== Sys2Proof/Machine/Thermal.lean ====
section
/-! DEFINITION. Thermal supervision (R487 to R492). -/

namespace Sys2Proof.Machine

/-- The neighbours of a sensor (R487). -/
def thmNeighbours (i : Nat) : List Nat :=
  if i < 96 then [i - 1, i + 1].filter (fun j => j != i && j < 96)
  else if i < 100 then [i - 1, i + 1].filter (fun j => 96 ≤ j && j < 100)
  else if i = 100 then [101, 102]
  else if i = 101 then [100, 102]
  else if i = 102 then [100, 101]
  else [47, 48]

/-- The temperature of a sensor in 0.25 °C. -/
def State.thmT (s : State) (i : Nat) : Int := s.getI (THM_T.T i)

/-- A sensor is implausible. -/
def State.thmImpl (s : State) (i : Nat) : Bool := s.flag (THM_T.IMPL i)

/-- The count of a sensor lies in the fused band. -/
def State.thmInBand (s : State) (i : Nat) : Bool :=
  let c := s.get (THM_T.COUNT i)
  decide (s.fuse.thmBandLo ≤ c) && decide (c ≤ s.fuse.thmBandHi)

/-- T_s departs from the median of these temperatures by more than XCHK (R488); the median of two is their mean. -/
def thmDeparts (t : Int) (l : List Int) (xchk : Nat) : Bool :=
  let m := sortBy (fun a b => decide (a < b)) l
  let n := m.length
  if n = 0 then false
  else
    let twice := if n % 2 = 1 then 2 * nth m (n / 2) 0 else nth m (n / 2 - 1) 0 + nth m (n / 2) 0
    decide (8 * xchk < (2 * t - twice).natAbs)

/-- A sensor becomes plausible or implausible (R488). -/
def State.thmSet (s : State) (i : Nat) (impl : Bool) : State :=
  if s.thmImpl i = impl then s else (s.putB (THM_T.IMPL i) impl).raise 581 0 i

/-- The plausibility of a sensor after a measurement (R488). `plaus`: the sensors that count as plausible neighbours. -/
def State.thmJudge (s : State) (plaus : List Nat) (i : Nat) : State :=
  let ns := (thmNeighbours i).filter plaus.contains
  let inBand := s.thmInBand i
  let departs := thmDeparts (s.thmT i) (ns.map s.thmT) (s.get THM_CTL.XCHK)
  let xf := if departs then min 3 (tabGet (fun _ => 0) s.thm.xfail i + 1) else 0
  let ok := if inBand && !departs then min 100 (tabGet (fun _ => 0) s.thm.pass i + 1) else 0
  let s := { s with thm := { s.thm with
    xfail := tabSet (fun _ => 0) s.thm.xfail i xf, pass := tabSet (fun _ => 0) s.thm.pass i ok } }
  if s.thmImpl i then (if ok = 100 then s.thmSet i false else s)
  else if !inBand || xf = 3 then s.thmSet i true
  else s

/-- The hottest plausible sensor; none with more than 8 implausible (R488). -/
def State.thmHottest (s : State) : Option Nat :=
  if 8 < ((List.range 104).filter s.thmImpl).length then none
  else
    ((List.range 104).filter (fun i => !s.thmImpl i)).foldl (fun r i =>
      match r with
      | none => some i
      | some j => if s.thmT j < s.thmT i then some i else r) none

/-- WARN (R490). -/
def State.thmWarn (s : State) (t : Int) : State :=
  let w : Int := ((4 * min (s.get THM_CTL.WARN) s.fuse.thmWarn : Nat) : Int)
  let h : Int := ((4 * s.fuse.thmHyst : Nat) : Int)
  if decide (w ≤ t) && !s.flag THM_STAT.WARN then (s.putB THM_STAT.WARN true).raise 579 0 0
  else if t < w - h then s.putB THM_STAT.WARN false
  else s

/-- L changes; THM_THROTTLE is raised when it leaves 0 and when it returns (R491). -/
def State.thmLevel (s : State) (l : Nat) : State :=
  let old := s.get THM_STAT.LEVEL
  let s := s.put THM_STAT.LEVEL l
  if (old == 0) != (l == 0) then s.raise 580 0 0 else s

/-- The throttle level and the pause that it asks for (R491). -/
def State.thmThrottle (s : State) (t : Int) : State :=
  let w : Int := ((4 * min (s.get THM_CTL.THR) s.fuse.thmThr : Nat) : Int)
  let h : Int := ((4 * s.fuse.thmHyst : Nat) : Int)
  let l := s.get THM_STAT.LEVEL
  let mayRise := s.thm.roseAt == 0 || decide (s.thm.roseAt - 1 + 1000 * usLsb ≤ s.now)
  let mayFall := s.thm.fellAt == 0 || decide (s.thm.fellAt - 1 + 10000 * usLsb ≤ s.now)
  let s := if decide (w ≤ t) && mayRise && decide (l < 7) then
      ({ s with thm := { s.thm with roseAt := s.now + 1 } } : State).thmLevel (l + 1)
    else if decide (t < w - h) && mayFall && decide (0 < l) then
      ({ s with thm := { s.thm with fellAt := s.now + 1 } } : State).thmLevel (l - 1)
    else s
  let l := s.get THM_STAT.LEVEL
  if l = 0 then s else (s.addSat THM_PAUSE_CNT.US (5 * l)).pauseAsk (5 * l * usLsb)

/-- Shutdown (R492): THERM_N is latched low, and the device enters LOCKOUT; in BOOT the boot stops. THM_SHUT_INFO keeps the sensor and
the temperature of the first. -/
def State.thmShutdown (s : State) (t : Int) (id : Nat) : State :=
  let s := if s.thm.shut then s else (s.put THM_SHUT_INFO.SENSOR id).putI THM_SHUT_INFO.T t
  let s := { s.putB THM_SHUT_INFO.SHUT true with thm := { s.thm with shut := true } }
  let s := (s.raise 474 0 id).hwUp SAF_CAUSE.THERMAL
  if s.dev == .boot then s.bootStop else s.lockout 0x09

/-- T_s of a sensor from its count (R487): the temperature that its trim gives, rounded to the nearest 0.25 °C with a half rounded up, as
far as the field holds it. -/
def State.thmConvert (s : State) (i count : Nat) : Int :=
  satS 12 ((Config.sensorTemp (tabGet (fun _ => 0) s.fuse.thmTrim i) count + 128) / 256)

/-- The second measurement in a row, or a later one, at or above T_SHUT (R492): the shutdown at the second; should the device then be in a
state that leads to LOCKOUT, or boot, the reaction follows at a later one. -/
def State.thmHot (s : State) (was : Nat) (t : Int) (id : Nat) : State :=
  if was = 1 then s.thmShutdown t id
  else if s.dev == .boot && !s.thm.bootHeld then s.bootStop
  else if s.dev.canLock then s.lockout 0x09
  else s

/-- The measurement (R487 to R492). -/
def State.thmMeasure (s : State) (counts : List Nat) : State :=
  if s.dev == .off || s.dev == .reset || !s.domOn 125 then s
  else
    let s := s.each (List.range 104) (fun s i =>
      (s.put (THM_T.COUNT i) (nth counts i 0)).putI (THM_T.T i) (s.thmConvert i (nth counts i 0 % 65536)))
    let plaus := (List.range 104).filter (fun i => !s.thmImpl i && s.thmInBand i)
    let s := s.each (List.range 104) (fun s i => s.thmJudge plaus i)
    let s := s.put THM_STAT.NIMPL ((List.range 104).filter s.thmImpl).length
    let hot := s.thmHottest
    let t := match hot with
      | some i => s.thmT i
      | none => ((4 * s.fuse.thmShut : Nat) : Int)
    let id := hot.getD 0x7F
    let s := ((s.putI THM_STAT.TMAX t).put THM_STAT.MAX_ID id).thmWarn t |>.thmThrottle t
    let was := s.thm.hot
    let n := if ((4 * s.fuse.thmShut : Nat) : Int) ≤ t then min 2 (was + 1) else 0
    let s := { s with thm := { s.thm with hot := n } }
    if n = 2 then s.thmHot was t id else s

/-- THERMAL_MEASUREMENT. -/
def execThermalMeasurement (dt : Nat) (tiles others : List Nat) (s : State) :
    Host.Outcome State Fault Refusal := .next ((s.advance dt).thmMeasure (tiles ++ others))

end Sys2Proof.Machine
end

