-- ==== Sys2Proof/Machine/Loupe.lean ====
section
/-! DEFINITION. The Loupe incident recorder (R495 to R508). -/

namespace Sys2Proof.Machine

/-! ### Settings (R505) -/

/-- The settings of Loupe: every RWS register of the block. -/
def lpeCfgAddr (a : Nat) : Bool :=
  a == LPE_CTL.addr || (decide (LPE_SAMP.addr ≤ a) && decide (a < LPE_CNT.addr))

/-- A setting in force. -/
def State.lpeGet (s : State) (f : Fld) : Nat := getIn s.lpe.cfg f
def State.lpeFlag (s : State) (f : Fld) : Bool := s.lpeGet f != 0

/-- P in µs, RED, and the length of a bucket in µs (R497, R501). -/
def State.lpeP (s : State) : Nat := s.lpeGet LPE_SAMP.DIV + 1
def State.lpeRed (s : State) : Nat := s.lpeGet LPE_SAMP.RED_M1 + 1
def State.lpeLen (s : State) : Nat := s.lpeP * s.lpeRed

/-- The enabled traces in ascending order. -/
def State.lpeTraces (s : State) : List Nat := (List.range 8).filter (fun t => s.lpeFlag (LPE_TRACE.EN t))

/-- Microseconds since the internal reset released, without the wrap of R399. -/
def State.lpeUs (s : State) : Nat := (s.now - s.releasedAt) / usLsb

/-- STATE of LPE_STAT. -/
def State.lpeShow (s : State) : State :=
  if s.get LPE_STAT.STATE = 3 then s
  else s.put LPE_STAT.STATE (if s.lpe.cap.isSome then 2 else if s.lpeFlag LPE_CTL.EN then 1 else 0)

/-- The on-chip history is emptied. -/
def State.lpeForget (s : State) : State :=
  { s with lpe := { s.lpe with changes := [], buckets := [], cur := none, last := [], whole := s.lpeUs } }

/-- The first instant after now of the grid from an anchor. -/
def State.gridAfter (s : State) (anchor : Nat) : Nat :=
  let p := s.lpeP * usLsb
  anchor + ((s.now - anchor) / p + 1) * p

/-- Settings that wait take effect. -/
def State.lpeApply (s : State) : State :=
  if !s.lpe.waits then s
  else
    let wasEn := s.lpeFlag LPE_CTL.EN
    let anchor := s.lpe.anchor
    let empty := s.lpe.empty
    let s := { s with lpe := { s.lpe with
      cfg := s.regs.filter (fun p => lpeCfgAddr p.1), waits := false, anchor := none, empty := false } }
    let s := if empty then s.lpeForget else s
    let s := match anchor with
      | some a => { s with lpe := { s.lpe with gridAt := if s.now = a then a else s.gridAfter a } }
      | none => s
    if !wasEn && s.lpeFlag LPE_CTL.EN then
      ({ s with lpe := { s.lpe with fired := 0 } } : State).put LPE_RING_HEAD.INDEX (s.get LPE_RING_TAIL.INDEX)
    else s

/-- Settings land at a tick: at once, or at the end of the running capture. `written`: the registers that landed. -/
def State.lpeLanded (s : State) (written : List Nat) : State :=
  if !written.any lpeCfgAddr then s
  else
    let samp := written.contains LPE_SAMP.addr
    let hist := samp || (List.range 8).any (fun t => written.contains (LPE_TRACE.addr t))
    let s := { s with lpe := { s.lpe with
      waits := true, anchor := if samp then some s.now else s.lpe.anchor, empty := s.lpe.empty || hist } }
    if s.lpe.cap.isSome then s else s.lpeApply.lpeShow

/-! ### What Loupe samples (R496, R497) -/

/-- Bits from a list, the first lowest. -/
def bitsFrom (l : List Bool) : Nat := l.foldr (fun b a => b2n b + 2 * a) 0

/-- The byte of a discrete source. -/
def State.lpeByte (s : State) (p : LoupePins) (src : Nat) : Nat :=
  if 0x05 ≤ src ∧ src ≤ 0x0C then s.sel.dec.pf / 2 ^ (8 * (src - 5)) % 256
  else if 0x0D ≤ src ∧ src ≤ 0x14 then s.sel.dec.lost / 2 ^ (8 * (src - 0x0D)) % 256
  else
    match src with
    | 0x00 => s.dev.code + 16 * s.get PWR_MODE.MODE
    | 0x01 => s.pairState 0 + 8 * s.pairState 1
    | 0x02 => maskOf 4 s.ballHigh + 16 * p.ossdFb.val
    | 0x03 => p.edm.val + 4 * p.safeIn.val + 64 * b2n p.restart + 128 * b2n p.teach
    | 0x04 => p.fsel.val
    | 0x15 => maskOf 8 s.axisBad
    | 0x16 => maskOf 8 (fun k => s.flag (TRD_STAT.FE k))
    | 0x17 => bitsFrom [bit (s.get TRD_ANG_STAT.ANGLE) 2, bit (s.get TRD_ANG_STAT.ANGLE) 3, s.flag EMD_STAT.STUCK_ON,
        s.flag EMD_STAT.GOV_RAMP, s.flag THM_STAT.WARN, s.flag THM_STAT.LEVEL, s.faultLow, s.flag SAF_PLUG.PRESENT]
    | 0x18 => s.get SAF_MEMBER_STAT.SEEN % 256
    | 0x19 => s.get SAF_MEMBER_STAT.SEEN / 256
    | 0x1A => s.get SEL_FSET_STAT.ACTIVE + 64 * s.get SEL_FSET_STAT.ILLEGAL
    | _ => 0

/-- The state vector. -/
def State.lpeVector (s : State) (p : LoupePins) : Nat :=
  let srcs := s.lpeGet LPE_SGRP_LO.SRC + s.lpeGet LPE_SGRP_HI.SRC * 2 ^ 32
  (List.range 8).foldl (fun a g => a + s.lpeByte p (srcs / 2 ^ (8 * g) % 256) * 2 ^ (8 * g)) 0

/-- The smallest DMIN of a decision over the zones, as safety messages carry it. -/
def Decision.dminAll (d : Decision) : Nat := (d.dmin.map (fun p => p.2)).foldl min 0xFFFF

/-- The sample of a continuous source; none is invalid. -/
def State.lpeValue (s : State) (src : Nat) : Option Int :=
  let k := src % 8
  if src < 0x20 then
    if s.domOn 124 && !s.flag (SUP_RES.NO_DATA src) then some (s.getI (SUP_RES.VALUE src)) else none
  else if src < 0x30 then
    if s.domOn 123 && (s.slot k).run then
      some (if src < 0x28 then s.getI (TRD_Y.Y k) else ((s.slotU k : Nat) : Int))
    else none
  else if src < 0x40 then
    if s.domOn 122 && s.flag (SAF_AXIS_CFG.EN k) then
      some (if src < 0x38 then s.getI (SAF_AXIS_VEL.VEL k) else s.getI (SAF_AXIS_POS.POS k))
    else none
  else if src = 0x40 then (if s.domOn 125 then some (s.getI THM_STAT.TMAX) else none)
  else if s.domOn 121 then some ((s.sel.dec.dminAll : Nat) : Int)
  else none

/-! ### Records (R503, R504) -/

/-- Word 0 of a record of `len` units. -/
def lpeHead (typ len low : Nat) : Nat := typ * 2 ^ 28 + len * 2 ^ 20 + low

/-- A record's words padded to whole units. -/
def lpePad (units : Nat) (ws : List Nat) : List Nat := (ws ++ List.replicate (4 * units - ws.length) 0).take (4 * units)

/-- TRACE. -/
def State.lpeTraceRec (s : State) (b : LpeBucket) : List Nat :=
  let ts := s.lpeTraces
  let n := 1 + (ts.length + 1) / 2
  let valid := maskOf 8 (fun t => b.vals.any (fun p => p.1 == t))
  let data := ts.flatMap (fun t =>
    let v := tabGet (fun _ => (0x7FFF_FFFF, -0x8000_0000)) b.vals t
    [unsigned 32 v.1, unsigned 32 v.2])
  lpePad n ([lpeHead 2 n (s.get LPE_STAT.SEQ), b.epoch, b.time % 2 ^ 32, valid] ++ data)

/-- CHANGE. -/
def State.lpeChangeRec (s : State) (c : LpeChange) : List Nat :=
  [lpeHead 3 2 (s.get LPE_STAT.SEQ), c.epoch, c.time % 2 ^ 32, 0, c.vec % 2 ^ 32, c.vec / 2 ^ 32, c.diff % 2 ^ 32,
    c.diff / 2 ^ 32]

/-- END. -/
def lpeEndRec (c : LpeCapture) : List Nat := [lpeHead 4 1 (satU 8 c.missed * 256), c.buckets, c.changes, c.dropped]

/-- GAP. -/
def LpeGap.words (g : LpeGap) : List Nat := [lpeHead 5 1 0, g.lost, g.first % 2 ^ 32, g.last % 2 ^ 32]

/-- One more loss. -/
def LpeGap.add (g : LpeGap) (n t : Nat) : LpeGap := ⟨g.lost + n, if g.lost = 0 then t else g.first, t⟩

/-- A record is dropped: it counts, and the first drop in a frame raises LPE_DROP. -/
def State.lpeDrop (s : State) : State :=
  let s := s.bump LPE_DROP_CNT.COUNT
  if s.lpe.dropRaised then s
  else ({ s with lpe := { s.lpe with dropRaised := true } } : State).raise 602 0 0

/-- TYPE of a record. -/
def lpeType (r : List Nat) : Nat := nth r 0 0 / 2 ^ 28

/-- SEQ of a header, a trace or a change record. -/
def lpeSeqOf (r : List Nat) : Nat := (if lpeType r = 1 then nth r 3 0 else nth r 0 0) % 2 ^ 16

/-- What the write queue takes on with a record: itself, behind the GAP record that a loss there calls for. -/
def State.lpeNew (s : State) (r : List Nat) : List (List Nat) := if s.lpe.gapQ.lost = 0 then [r] else [s.lpe.gapQ.words, r]

/-- The 16 KiB write queue has room for a record. -/
def State.lpeFits (s : State) (r : List Nat) : Bool :=
  decide (((s.lpe.queue ++ s.lpeNew r).map List.length).foldl (· + ·) 0 ≤ 4096)

/-- A record of the running capture enters the write queue, or is dropped. -/
def State.lpeQueue (s : State) (r : List Nat) : State :=
  if s.lpeFits r then { s with lpe := { s.lpe with queue := s.lpe.queue ++ s.lpeNew r, gapQ := {} } }
  else
    let s := s.lpeDrop
    { s with lpe := { s.lpe with
      gapQ := s.lpe.gapQ.add 1 s.lpeUs, cap := s.lpe.cap.map (fun c => { c with dropped := c.dropped + 1 }) } }

/-- A record of a type, counted as written by the running capture, is dropped at the ring. -/
def LpeCapture.lose (c : LpeCapture) (typ : Nat) : LpeCapture :=
  { c with
    buckets := c.buckets - b2n (typ == 2), changes := c.changes - b2n (typ == 3), dropped := c.dropped + 1 }

/-- The same in the END record of a capture that has ended: the first in the queue, before any header. -/
def lpeEndLose (typ : Nat) : List (List Nat) → List (List Nat)
  | [] => []
  | e :: rest =>
    if lpeType e = 4 then
      [nth e 0 0, nth e 1 0 - b2n (typ == 2), nth e 2 0 - b2n (typ == 3), nth e 3 0 + 1] :: rest
    else if lpeType e = 1 then e :: rest
    else e :: lpeEndLose typ rest

/-- A record dropped at the ring counts in the END record of its own capture: the one that runs, or the one whose END record waits. -/
def State.lpeLose (s : State) (r : List Nat) : State :=
  let typ := lpeType r
  if 4 ≤ typ then s
  else if s.lpe.cap.isSome && lpeSeqOf r == s.get LPE_STAT.SEQ then
    { s with lpe := { s.lpe with cap := s.lpe.cap.map (fun c => c.lose typ) } }
  else { s with lpe := { s.lpe with queue := lpeEndLose typ s.lpe.queue } }

/-- Units of the ring, and those in use. -/
def State.lpeSize (s : State) : Nat := 2 ^ s.get LPE_RING_CTL.SIZE_LOG2
def State.lpeUsed (s : State) : Nat :=
  (s.get LPE_RING_HEAD.INDEX + s.lpeSize - s.get LPE_RING_TAIL.INDEX % s.lpeSize) % s.lpeSize
def State.lpeBase (s : State) : Nat := s.get64 LPE_RING_BASE_LO.BASE LPE_RING_BASE_HI.BASE

/-- Field writes without those of LPE_CTL.EN at 1 that are ignored while the ring may not run (R504). -/
def State.lpeMayRun (s : State) (ws : List FieldWrite) : List FieldWrite :=
  if s.ringBarred s.lpeBase (16 * s.lpeSize) then ws.filter (fun w => w.fld != LPE_CTL.EN || w.val % 2 == 0) else ws

/-- The units of a record written at HEAD; a record that passes the end of the ring continues at its base. -/
def State.lpePut (s : State) (r : List Nat) : State :=
  let s := s.each (List.range (r.length / 4)) (fun s u =>
    s.dramPut (s.lpeBase + 16 * ((s.get LPE_RING_HEAD.INDEX + u) % s.lpeSize)) (bytesOfWords ((r.drop (4 * u)).take 4)))
  s.put LPE_RING_HEAD.INDEX ((s.get LPE_RING_HEAD.INDEX + r.length / 4) % s.lpeSize)

/-- The events of a written header or end record (R510). -/
def State.lpeWritten (s : State) (r : List Nat) : State :=
  match lpeType r with
  | 1 => s.raise 600 0 (bitsOf (nth r 0 0) 19 16)
  | 4 => s.raise 601 0 0
  | _ => s

/-- The oldest queued record is written behind the GAP record that a loss at the ring calls for, or, where it would reach TAIL,
dropped whole. A dropped GAP record hands on its losses. -/
def State.lpeWrite (s : State) : State :=
  match s.lpe.queue with
  | [] => s
  | r :: rest =>
    if !s.domOn 126 then s
    else
      let s := { s with lpe := { s.lpe with queue := rest } }
      let gap := s.lpe.gapR
      let units := r.length / 4 + b2n (gap.lost != 0)
      if s.lpeUsed + units < s.lpeSize then
        let s := if gap.lost = 0 then s else ({ s with lpe := { s.lpe with gapR := {} } } : State).lpePut gap.words
        (s.lpePut r).lpeWritten r
      else if lpeType r = 5 then
        { s with lpe := { s.lpe with gapR := ((gap.add (nth r 1 0) (nth r 2 0)).add 0 (nth r 3 0)) } }
      else
        let s := s.lpeDrop.lpeLose r
        { s with lpe := { s.lpe with gapR := gap.add 1 s.lpeUs } }

/-! ### Captures (R500 to R502) -/

/-- A capture ends: its end record follows the last bucket, and settings that landed during it take effect. -/
def State.lpeEnd (s : State) (endUs : Nat) : State :=
  match s.lpe.cap with
  | none => s
  | some c =>
    let s := s.lpeQueue (lpeEndRec c)
    let s := { s with lpe := { s.lpe with cap := none, prevEnd := endUs } }
    s.lpeApply.lpeShow

/-- The capture ends once no bucket is left. -/
def State.lpeMaybeEnd (s : State) (endUs : Nat) : State :=
  match s.lpe.cap with
  | some c => if c.left = 0 then s.lpeEnd endUs else s
  | none => s

/-- A trace record of the running capture. -/
def State.lpeCapBucket (s : State) (b : LpeBucket) : State :=
  let r := s.lpeTraceRec b
  let n := b2n (s.lpeFits r)
  let s := s.lpeQueue r
  { s with lpe := { s.lpe with cap := s.lpe.cap.map (fun c => { c with buckets := c.buckets + n }) } }

/-- A change record of the running capture. -/
def State.lpeCapChange (s : State) (x : LpeChange) : State :=
  let r := s.lpeChangeRec x
  let n := b2n (s.lpeFits r)
  let s := s.lpeQueue r
  { s with lpe := { s.lpe with cap := s.lpe.cap.map (fun c => { c with changes := c.changes + n }) } }

/-- The vector at a time that the history of changes reaches. -/
def vectorAt (t now : Nat) : List LpeChange → Nat
  | [] => now
  | c :: r =>
    if t < c.time then c.vec ^^^ c.diff
    else match r with
      | [] => c.vec
      | _ => vectorAt t now r

/-- The trigger bucket at a sample (R501): its start, and whether it is already in the history. -/
def State.lpeTrigBucket (s : State) : Nat × Bool :=
  match s.lpe.cur, s.lpe.buckets.getLast? with
  | some b, _ => (b.time, false)
  | none, some b => if s.lpeUs < b.time + s.lpeLen then (b.time, true) else (s.lpeUs, false)
  | none, none => (s.lpeUs, false)

/-- The held history of a capture in the order in which it became complete, a change first (R503). -/
def lpeHeld (bs : List LpeBucket) (cs : List LpeChange) : List (Sum LpeChange LpeBucket) :=
  let all := cs.map (fun c => (2 * c.time, Sum.inl c)) ++ bs.map (fun b => (2 * b.doneAt + 1, Sum.inr b))
  (sortBy (fun a b => decide (a.1 < b.1)) all).map (fun p => p.2)

/-- A capture starts (R500 to R503). `ep`, `us`: EPOCH and TIME of the header. Where the capture before took in the trigger bucket, the
window begins at its end. -/
def State.lpeStart (s : State) (trig also frac ep us : Nat) : State :=
  let (tb, heldTrig) := s.lpeTrigBucket
  let len := s.lpeLen
  let pre := s.lpeGet LPE_DEPTH.PRE
  let post := s.lpeGet LPE_DEPTH.POST
  let older := s.lpe.buckets.filter (fun b => decide (b.time < tb))
  let reach := if s.lpe.prevEnd = 0 then pre
    else ((List.range (pre + 1)).filter (fun n => decide (s.lpe.prevEnd + n * len ≤ tb))).length - 1
  let used := min reach (older.filter (fun b => decide (s.lpe.whole ≤ b.time))).length
  let moved := s.lpe.prevEnd != 0 && decide (tb < s.lpe.prevEnd)
  let ws := if moved then s.lpe.prevEnd else tb - used * len
  let seq := if s.get LPE_STAT.SEQ = 0xFFFF then 1 else s.get LPE_STAT.SEQ + 1
  let s := ((s.put LPE_STAT.SEQ seq).put LPE_STAT.TRIG trig).bump LPE_CNT.CAPTURES
  let vec := vectorAt ws (s.lpe.vec.getD 0) s.lpe.changes
  let flags := b2n (used < reach) * 2 + b2n (moved || decide (reach < pre))
  let head := lpePad 3 [lpeHead 1 3 (trig * 2 ^ 16 + also * 2 ^ 8 + flags), ep, us % 2 ^ 32, frac * 2 ^ 16 + seq,
    post * 2 ^ 16 + used, s.lpeGet LPE_SAMP.DIV * 2 ^ 16 + s.lpeGet LPE_SAMP.RED_M1 * 2 ^ 8 + bitsFrom ((List.range 8).map
      (fun t => s.lpeFlag (LPE_TRACE.EN t))), vec % 2 ^ 32, vec / 2 ^ 32, ws % 2 ^ 32]
  let cap : LpeCapture := { left := post - b2n heldTrig }
  let s := { s with lpe := { s.lpe with cap := some cap, starters := 1 + popBits 8 also } }
  let s := s.lpeQueue head
  let s := s.each (lpeHeld (s.lpe.buckets.filter (fun b => decide (ws ≤ b.time)))
      (s.lpe.changes.filter (fun c => decide (ws ≤ c.time)))) (fun s x =>
    match x with
    | .inl c => s.lpeCapChange c
    | .inr b => s.lpeCapBucket b)
  s.lpeShow.lpeMaybeEnd (tb + len)

/-! ### Triggers (R498 to R500, R507) -/

/-- A trigger that fires: number, FRAC, and EPOCH and TIME for the header. -/
structure LpeFire where
  trig : Nat
  frac : Nat
  epoch : Nat
  us : Nat
  deriving DecidableEq, Repr

/-- The pattern triggers that fire at a sample (R498). -/
def State.lpePatterns (s : State) (old : Option Nat) (vec : Nat) : List LpeFire :=
  (List.range 4).filterMap (fun n =>
    let mask := s.lpeGet (LPE_PAT_MASK_LO.BITS n) + s.lpeGet (LPE_PAT_MASK_HI.BITS n) * 2 ^ 32
    let val := s.lpeGet (LPE_PAT_VAL_LO.BITS n) + s.lpeGet (LPE_PAT_VAL_HI.BITS n) * 2 ^ 32
    let is := fun v => andN v mask == andN val mask
    match old with
    | none => none
    | some o =>
      if s.lpeFlag (LPE_PAT_CTL.EN n) &&
          (if s.lpeFlag (LPE_PAT_CTL.EDGE n) then is o && !is vec else is vec && !is o) then some ⟨n, 0, s.epoch, s.lpeUs⟩
      else none)

/-- A quotient rounded up, for a crossing's fraction. -/
def fracOf (a b : Int) : Nat := ceilDiv (256 * a.toNat) b.toNat

/-- One direction of a crossing trigger at sample `x` after `old` (R499): it re-arms, or fires. -/
def State.lpeCross (s : State) (m dir : Nat) (old : Option (Int × Nat × Nat)) (x : Int) : Option LpeFire × State :=
  let l := signed 32 (s.lpeGet (LPE_XING_LVL.VALUE m))
  let h : Int := ((s.lpeGet (LPE_XING_HYS.VALUE m) : Nat) : Int)
  let i := 2 * m + dir
  let rearm := if dir = 0 then decide (x ≤ l - h) else decide (l + h ≤ x)
  let s := if rearm then { s with lpe := { s.lpe with fired := setBit s.lpe.fired i false } } else s
  match old with
  | none => (none, s)
  | some (o, ep, us) =>
    let hit := if dir = 0 then decide (o < l) && decide (l ≤ x) else decide (l < o) && decide (x ≤ l)
    if hit && !bit s.lpe.fired i then
      (some ⟨4 + m, if dir = 0 then fracOf (l - o) (x - o) else fracOf (o - l) (o - x), ep, us⟩,
        { s with lpe := { s.lpe with fired := setBit s.lpe.fired i true } })
    else (none, s)

/-- The crossing triggers at a trace sample (R499), and the samples kept for the next. -/
def State.lpeCrossings (s : State) (vals : Tab Int) : List LpeFire × State :=
  let r := (List.range 4).foldl (fun (a : List LpeFire × State) m =>
    let s := a.2
    let t := s.lpeGet (LPE_XING_CTL.TRACE m)
    let dir := s.lpeGet (LPE_XING_CTL.DIR m)
    match (if s.lpeFlag (LPE_XING_CTL.EN m) && s.lpeFlag (LPE_TRACE.EN t) then vals.find? (fun p => p.1 == t) else none) with
    | none => a
    | some (_, x) =>
      let old := (s.lpe.last.find? (fun p => p.1 == t)).map (fun p => p.2)
      let (f0, s) := if bit dir 0 then s.lpeCross m 0 old x else (none, s)
      let (f1, s) := if bit dir 1 then s.lpeCross m 1 old x else (none, s)
      (a.1 ++ (f0.toList ++ f1.toList).take 1, s)) ([], s)
  let s := r.2
  (r.1, { s with lpe := { s.lpe with last := vals.map (fun p => (p.1, (p.2, s.epoch, s.lpeUs))) } })

/-- OUT of a trigger. -/
def State.lpeOut (s : State) (n : Nat) : Nat :=
  if n < 4 then s.lpeGet (LPE_PAT_CTL.OUT n) else s.lpeGet (LPE_XING_CTL.OUT (n - 4))

/-- The triggers of one sample: their outputs (R507), and the capture that the lowest starts, or misses (R500). -/
def State.lpeFires (s : State) (fs : List LpeFire) : State :=
  if !s.lpeFlag LPE_CTL.EN then s
  else
    match fs with
    | [] => s
    | f :: rest =>
      let s := s.each fs (fun s f =>
        let o := s.lpeOut f.trig
        if 1 ≤ o && o ≤ 4 && s.resHolder (resId 5 (o - 1)) == some 1 then s.emit (.ledPulse (7 + o) 10) else s)
      if s.lpe.cap.isSome || s.get LPE_STAT.STATE = 3 then
        let s := s.addSat LPE_CNT.MISSED fs.length
        { s with lpe := { s.lpe with cap := s.lpe.cap.map (fun c => { c with missed := c.missed + fs.length }) } }
      else s.lpeStart f.trig (rest.foldl (fun a g => orN a (2 ^ g.trig)) 0) f.frac f.epoch f.us

/-! ### The sample (R495, R497, R502) -/

/-- A trace sample joins the bucket in progress. -/
def State.lpeGather (s : State) (vals : Tab Int) : State :=
  let t := s.lpeUs
  let b := s.lpe.cur.getD ⟨s.epoch, t, t, 0, []⟩
  let add := fun (m : Tab (Int × Int)) (p : Nat × Int) =>
    match m.find? (fun q => q.1 == p.1) with
    | some q => (m.filter (fun q => q.1 != p.1)) ++ [(p.1, (min q.2.1 p.2, max q.2.2 p.2))]
    | none => m ++ [(p.1, (p.2, p.2))]
  let b := { b with doneAt := t, count := b.count + 1, vals := vals.foldl add b.vals }
  { s with lpe := { s.lpe with cur := some b, gridAt := s.gridAfter s.lpe.gridAt } }

/-- A bucket that has its last sample goes to the history and to the running capture. -/
def State.lpeBucketDone (s : State) : State :=
  match s.lpe.cur with
  | none => s
  | some b =>
    if b.count < s.lpeRed then s
    else
      let s := { s with lpe := { s.lpe with cur := none, buckets := keepLast 1024 (s.lpe.buckets ++ [b]) } }
      match s.lpe.cap with
      | none => s
      | some _ =>
        let s : State := s.lpeCapBucket b
        let s := { s with lpe := { s.lpe with cap := s.lpe.cap.map (fun (c : LpeCapture) => { c with left := c.left - 1 }) } }
        s.lpeMaybeEnd (b.time + s.lpeLen)

/-- A change of the vector goes to the history. -/
def State.lpeChange (s : State) (x : LpeChange) : State :=
  let l := s.lpe.changes ++ [x]
  let whole := if 512 < l.length then (match l with | c :: _ => c.time + 1 | [] => s.lpe.whole) else s.lpe.whole
  { s with lpe := { s.lpe with changes := keepLast 512 l, whole := whole } }

/-- LOUPE_SAMPLE: the vector is sampled, and the traces where the grid is due. -/
def State.loupeSample (s : State) (p : LoupePins) : State :=
  if !s.domOn 126 then s
  else
    let old := s.lpe.vec
    let vec := s.lpeVector p
    let s := { s with lpe := { s.lpe with vec := some vec } }
    let change : Option LpeChange :=
      match old with
      | some o => if o = vec then none else some ⟨s.epoch, s.lpeUs, vec, vec ^^^ o⟩
      | none => none
    let s : State := match change with
      | some c => s.lpeChange c
      | none => s
    let due := decide (s.lpe.gridAt ≤ s.now)
    let vals : Tab Int := if due then
        s.lpeTraces.filterMap (fun t => (s.lpeValue (s.lpeGet (LPE_TRACE.SRC t))).map (fun v => (t, v)))
      else []
    let s := if due then s.lpeGather vals else s
    let (xs, s) := if due then s.lpeCrossings vals else ([], s)
    let ran := s.lpe.cap.isSome
    let s := s.lpeFires (s.lpePatterns old vec ++ xs)
    let s := match change with
      | some c => if ran then s.lpeCapChange c else s
      | none => s
    if due then s.lpeBucketDone else s

/-! ### Clearing (R506) -/

/-- A capture that a trigger has started in this FCLK cycle is not one: with a clear in the cycle the trigger counts as missed (R506). -/
def State.lpeUnstart (s : State) : State :=
  if getIn s.cyc LPE_STAT.SEQ = s.get LPE_STAT.SEQ then s
  else
    let s := (s.put LPE_STAT.SEQ (getIn s.cyc LPE_STAT.SEQ)).put LPE_STAT.TRIG (getIn s.cyc LPE_STAT.TRIG)
    let s := (s.put LPE_CNT.CAPTURES (getIn s.cyc LPE_CNT.CAPTURES)).addSat LPE_CNT.MISSED s.lpe.starters
    { s with lpe := { s.lpe with cap := none } }

/-- A clear starts: the running capture ends without an end record, and history and queue are emptied. -/
def State.lpeClearStart (s : State) : State :=
  if s.get LPE_STAT.STATE = 3 then s
  else
    let s := s.lpeUnstart
    let s := { s with lpe := { s.lpe with
      cap := none, queue := [], gapQ := {}, gapR := {}, prevEnd := if s.lpe.cap.isSome then s.lpeUs else s.lpe.prevEnd } }
    (s.lpeApply.lpeForget.putB LPE_CTL.CLEAR true).put LPE_STAT.STATE 3

/-- RETAIN_H hours have passed without a capture. -/
def State.lpeRetain (s : State) : State :=
  if s.domOn 126 && s.lpeFlag LPE_CTL.RETAIN_H then s.lpeClearStart else s

/-- A clear ends: zeros over the whole ring, HEAD and TAIL at 0, the CLEARED record, and LPE_CLEARED. -/
def State.lpeClearDone (s : State) : State :=
  if s.get LPE_STAT.STATE != 3 then s
  else
    let s := s.dramZero s.lpeBase (s.lpeBase + 16 * s.lpeSize)
    let s := (s.put LPE_RING_HEAD.INDEX 0).put LPE_RING_TAIL.INDEX 0
    let s := s.lpePut [lpeHead 6 1 0, s.epoch, s.timeUs, 0]
    let s := ((s.putB LPE_CTL.CLEAR false).put LPE_STAT.STATE 0).lpeShow
    s.raise 603 0 0

/-! ### Commands -/

/-- LOUPE_SAMPLE. -/
def execLoupeSample (dt : Nat) (pins : LoupePins) (s : State) : Host.Outcome State Fault Refusal :=
  .next ((s.advance dt).loupeSample pins)

/-- LOUPE_RECORD_WRITE. -/
def execLoupeRecordWrite (dt : Nat) (s : State) : Host.Outcome State Fault Refusal := .next (s.advance dt).lpeWrite

/-- CLEAR. -/
def execLpeClear (dt : Nat) (s : State) : Host.Outcome State Fault Refusal := .next ((s.advance dt).hostReg LPE_CTL.addr (fun s => s.lpeClearStart))

/-- RETAIN_EXPIRY. -/
def execRetainExpiry (dt : Nat) (s : State) : Host.Outcome State Fault Refusal := .next (s.advance dt).lpeRetain

/-- LPE_CLEARED. -/
def execLpeCleared (dt : Nat) (s : State) : Host.Outcome State Fault Refusal := .next (s.advance dt).lpeClearDone

end Sys2Proof.Machine
end

