-- ==== Sys2Proof/Machine/Operator.lean ====
section
/-! DEFINITION. The Bead chain, the local LED sinks, the buttons, the sealed switches and the configuration plug (R347 to R350,
R511 to R522). -/

namespace Sys2Proof.Machine

/-! ### Fades (R515) -/

/-- A target lands with a fade of `fade` × 10 ms at an update interval of `unit` µs. -/
def Fade.land (f : Fade) (dst : List Nat) (fade unit : Nat) : Fade :=
  { f with src := f.cur, dst := dst, n := max 1 (ceilDiv (fade * 10000) unit), j := 0 }

/-- One component at update `j` of `n`. -/
def fadeAt (a b j n : Nat) : Nat :=
  ((a : Int) + Int.tdiv (((b : Int) - (a : Int)) * (j : Int)) (n : Int)).toNat

/-- An update. -/
def Fade.update (f : Fade) : Fade :=
  if f.n ≤ f.j then f
  else
    let j := f.j + 1
    { f with j := j, cur := (List.range f.dst.length).map (fun i => fadeAt (nth f.src i 0) (nth f.dst i 0) j f.n) }

/-- The fade of a node or a sink. -/
def State.nodeFade (s : State) (k : Nat) : Fade := tabGet (fun _ => {}) s.ind.nodes k
def State.sinkFade (s : State) (n : Nat) : Fade := tabGet (fun _ => {}) s.ind.sinks n

/-- Targets land at a tick. `written`: the registers that landed. -/
def State.indLanded (s : State) (written : List Nat) : State :=
  let s := s.each (List.range 64) (fun s k =>
    if !written.contains (IND_BEAD_COL.addr k) then s
    else
      let rgb := [s.get (IND_BEAD_COL.RED k), s.get (IND_BEAD_COL.GREEN k), s.get (IND_BEAD_COL.BLUE k)]
      let f := (s.nodeFade k).land rgb (s.get (IND_BEAD_COL.FADE k)) (s.get IND_BEAD_CTL.PER * 1000)
      { s with ind := { s.ind with nodes := tabSet (fun _ => {}) s.ind.nodes k f } })
  s.each (List.range 12) (fun s n =>
    if !written.contains (IND_LED_CTL.addr n) then s
    else
      let f := (s.sinkFade n).land [s.get (IND_LED_CTL.LEVEL n)] (s.get (IND_LED_CTL.FADE n)) 1040
      { s with ind := { s.ind with sinks := tabSet (fun _ => {}) s.ind.sinks n f } })

/-! ### The chain (R511 to R513) -/

/-- The share of a node. -/
def Fade.share (f : Fade) : Nat := nth f.cur 0 0 * 2 ^ 24 + nth f.cur 1 0 * 2 ^ 16 + nth f.cur 2 0 * 2 ^ 8

/-- The bits of a word, bit 31 first. -/
def bitsDown (w : Nat) : List Bool := (List.range 32).map (fun i => bit w (31 - i))

/-- A chain frame passes or fails (R513). -/
def State.beadJudge (s : State) (pass : Bool) : State :=
  let n := if pass then 0 else min 3 (s.ind.failed + 1)
  let s := { s with ind := { s.ind with failed := n } }
  if pass then s.putB IND_BEAD_STAT.FAULT false
  else
    let s := s.bump IND_BEAD_CNT.FAILED
    if n = 3 && !s.flag IND_BEAD_STAT.FAULT then (s.putB IND_BEAD_STAT.FAULT true).raise 616 0 0 else s

/-- A chain frame is sent, and `ret` comes back. -/
def State.chainFrame (s : State) (ret : List Bool) : State :=
  let nodes := s.get IND_BEAD_CTL.NODES
  if !(s.domOn 127 && s.flag IND_BEAD_CTL.EN && nodes != 0) then s
  else
    let s := s.each (List.range nodes) (fun s k =>
      { s with ind := { s.ind with nodes := tabMod (fun _ => {}) s.ind.nodes k Fade.update } })
    let check := 0xB3 * 2 ^ 24 + s.ind.frames % 65536
    let s := s.emit (.beadFrame ((List.range nodes).map (fun k => (s.nodeFade k).share) ++ [check]))
    let s := { s with ind := { s.ind with frames := (s.ind.frames + 1) % 65536 } }
    (s.put IND_BEAD_STAT.RET_BITS (satU 8 ret.length)).beadJudge (ret == bitsDown check)

/-! ### Local sinks (R516 to R518) -/

/-- The recorder owns the ball of a sink (R507, R516). -/
def State.ledRecorder (s : State) (n : Nat) : Bool := decide (8 ≤ n) && s.resHolder (resId 5 (n - 8)) == some 1

/-- A sink is enabled and takes part. -/
def State.ledEn (s : State) (n : Nat) : Bool := decide (n < 12) && s.flag (IND_LED_CTL.EN n) && !s.ledRecorder n

/-- The register bit of a mark: kinds 1 OPEN, 2 OUTWIN, 3 NSHORT, 4 SHUT. -/
def ledMark (kind n : Nat) : Fld :=
  let b := if kind = 1 || kind = 3 then 12 + n else n
  ⟨if kind ≤ 2 then IND_LED_STAT0.addr else IND_LED_STAT1.addr, b, b⟩

/-- A sink is marked; a new mark raises LED_FAULT (R518). -/
def State.ledSet (s : State) (kind n : Nat) : State :=
  if s.flag (ledMark kind n) then s else (s.putB (ledMark kind n) true).raise 617 0 (n + 16 * kind)

/-- A sink marked NSHORT or SHUT stays off. -/
def State.ledOff (s : State) (n : Nat) : Bool := s.flag (ledMark 3 n) || s.flag (ledMark 4 n)

/-- A sink conducts in the on-window, for LEVEL × 4 µs of its present level. -/
def State.ledDrives (s : State) (n : Nat) : Nat :=
  if s.domOn 127 && s.ledEn n && !s.ledOff n then 4 * nth (s.sinkFade n).cur 0 0 else 0

/-- A test result of a sink; the third of one kind in a row marks it (R517). Kind 0 is a pass. -/
def State.ledResult (s : State) (kind n : Nat) : State :=
  let r := tabGet (fun _ => (0, 0)) s.ind.runs n
  let k := if kind = 0 then 0 else if r.1 = kind then min 3 (r.2 + 1) else 1
  let s := { s with ind := { s.ind with runs := tabSet (fun _ => (0, 0)) s.ind.runs n (if k = 0 then (0, 0) else (kind, k)) } }
  if k = 3 then s.ledSet kind n else s

/-- The test of a sink (R517), from the pin voltages in 25 mV. -/
def State.ledTest (s : State) (n : Nat) (v : List Nat) : State :=
  let x := satU 8 (nth v n 0)
  let s := s.put (IND_LED_PIN.VPIN n) x
  let near := ([n - 1, n + 1].filter (fun m => m != n && s.ledEn m && decide (x ≤ satU 8 (nth v m 0) + 4) &&
    decide (satU 8 (nth v m 0) ≤ x + 4)))
  if x < 12 then s.ledResult 1 n
  else if x < s.get (IND_LED_PIN.PIN_LO n) || s.get (IND_LED_PIN.PIN_HI n) < x then s.ledResult 2 n
  else if near.isEmpty then s.ledResult 0 n
  else s.each (n :: near) (fun s m => s.ledResult 3 m)

/-- The sink under test in the running PWM period, if any (R517), by the LEVEL and TEST_DARK of the period's start (R515). -/
def State.ledTested (s : State) : Option Nat :=
  let n := s.ind.period % 12
  if s.ledEn n && !s.ledOff n && bit s.ind.lit n then some n else none

/-- The test window of the running PWM period: a pulse of 8 µs at the ISET in force at the start of the period (R517, R519). -/
def State.ledWindow (s : State) (v : List Nat) : State :=
  match s.ledTested with
  | some n => (s.emit (.ledTest n (tabGet (fun _ => 0) s.ind.iset n) 8)).ledTest n v
  | none => s

/-- The next PWM period starts: the levels of the sinks move, and it takes the ISET, LEVEL and TEST_DARK now in force (R515, R516). -/
def State.ledNext (s : State) : State :=
  let s := s.each (List.range 12) (fun s k =>
    { s with ind := { s.ind with sinks := tabMod (fun _ => {}) s.ind.sinks k Fade.update } })
  { s with ind := { s.ind with
      period := (s.ind.period + 1) % 12
      lit := maskOf 12 (fun k => s.flag (IND_LED_CTL.LEVEL k) || s.flag (IND_LED_CTL.TEST_DARK k))
      iset := (List.range 12).foldl (fun t k => tabSet (fun _ => 0) t k (s.get (IND_LED_CTL.ISET k))) [] } }

/-- A PWM period of the sinks runs to its end, with the test window of sink p mod 12, and the next one starts. -/
def State.ledPeriod (s : State) (v : List Nat) : State := if s.domOn 127 then (s.ledWindow v).ledNext else s

/-- A sink's detector trips, be the sink enabled or not (R518). -/
def State.ledTrip (s : State) (n : Nat) : State := if s.domOn 127 then s.ledSet 4 n else s

/-- A write of IND_LED_CMD with ACTION 1. The run of like test results goes on, so that a fault that persists is marked again by the
next test that covers it (R518). -/
def State.ledClear (s : State) (n : Nat) (quiet : Bool) : State :=
  if 12 ≤ n || (s.flag (ledMark 4 n) && !quiet) then s.hwUp IND_ERR.CMD_ERR
  else s.each [1, 2, 3, 4] (fun s k => s.putB (ledMark k n) false)

/-! ### Buttons (R315, R318, R326, R520) -/

/-- The press of a button. -/
def State.press (s : State) (teach : Bool) : Option Press := if teach then s.ind.teach else s.ind.restart
def State.setPress (s : State) (teach : Bool) (p : Option Press) : State :=
  let s := if teach then { s with ind := { s.ind with teach := p } } else { s with ind := { s.ind with restart := p } }
  let s := (s.putB IND_BTN_STAT.RESTART s.ind.restart.isSome).putB IND_BTN_STAT.TEACH s.ind.teach.isSome
  s.putB IND_BTN_STAT.STUCK ([s.ind.restart, s.ind.teach].any (fun p => (p.map Press.stuck).getD false))

/-- A button is taken low. -/
def State.buttonDown (s : State) (teach : Bool) : State :=
  if !s.domOn 122 || (s.press teach).isSome then s
  else
    let s := s.setPress (!teach) ((s.press (!teach)).map (fun p => { p with overlap := true }))
    s.setPress teach (some { at' := s.now, overlap := (s.press (!teach)).isSome })

/-- A read of the plug's record starts, with up to 3 attempts (R349, R521). -/
def State.plugRead (s : State) : State :=
  { s with saf := { s.saf with plugLeft := if s.flag SAF_PLUG.PRESENT then 3 else 0 } }

/-- A command RUN without a completion (R326, R385). -/
def State.buttonRun (s : State) : State :=
  let c : RunCmd := ⟨opRun, 0, s.dev, .runJudge, false⟩
  match s.cmdRefused opRun with
  | some st => s.cmdRefuse c st
  | none => s.plugRead.startCmd c

/-- A qualified release of RESTART_N, of a press that began at `at'`. -/
def State.restartRelease (s : State) (at' : Nat) : State :=
  let s := s.each [0, 1] (fun s p => if s.flag (SAF_OSSD_CFG.EN p) then s.pairRestart p at' else s)
  if s.dev == .safeStop && s.flag SAF_CTL.OP_RESUME then s.buttonRun else s

/-- A button is taken high: the press ends, and a qualified release acts. -/
def State.buttonUp (s : State) (teach : Bool) : State :=
  match s.press teach with
  | none => s
  | some p =>
    let s := s.setPress teach none
    let held := s.now - p.at'
    let ok := !p.overlap && !p.stuck && decide (s.get IND_BTN_CFG.MIN_PRESS * 10000 * usLsb ≤ held) &&
      decide (held ≤ s.get IND_BTN_CFG.MAX_PRESS * 1000000 * usLsb)
    if !ok then s
    else
      let s := (s.bump IND_BTN_STAT.QUAL).raise 618 0 (b2n teach)
      if teach then s.teachStart (s.get SEL_TEACH_CTL.FRAMES) else s.restartRelease p.at'

/-- A press reaches MAX_PRESS. -/
def State.buttonStuck (s : State) (teach : Bool) : State :=
  match s.press teach with
  | none => s
  | some p => if p.stuck then s else (s.setPress teach (some { p with stuck := true })).raise 619 0 0

/-! ### Sealed switches (R347, R348) -/

/-- The taken site code changes. -/
def State.sealSite (s : State) (site : Nat) : State :=
  if s.dev == .off || s.dev == .reset then s else s.put SAF_SEAL.NOW (site * 2 + s.get SAF_SEAL.NOW % 2)

/-- The taken level of the unlock bit changes; it takes effect at the next tick. -/
def State.sealUnlock (s : State) (unlock : Bool) : State :=
  if s.dev == .off || s.dev == .reset then s else s.put SAF_SEAL.NOW (s.get SAF_SEAL.NOW / 2 * 2 + b2n unlock)

/-- The comparison of a tick, and the unlock bit in effect from it. -/
def State.sealTick (s : State) : State :=
  let s := s.putB SAF_SEAL.UNLOCK (bit (s.get SAF_SEAL.NOW) 0)
  let diff := s.get SAF_SEAL.NOW / 2 != s.get SAF_SEAL.BOOT / 2
  let new := diff && !s.saf.sealDiff
  let s := { s with saf := { s.saf with sealDiff := diff } }
  if new then ((s.putB SAF_SEAL.CHANGED true).raise 471 0 0).reactS 0x0B else s

/-! ### The configuration plug (R349, R350, R521, R522) -/

/-- The plug comes or goes. -/
def State.plugChange (s : State) (present : Bool) : State :=
  if !s.domOn 122 then s
  else
    let s := ((s.putB SAF_PLUG.PRESENT present).putB SAF_PLUG.VALID false).putB SAF_PLUG.MATCH false
    (s.raise 528 0 0).plugRead

/-- A word of a plug record. -/
def pw (r : List Nat) (i : Nat) : Nat := nth r i 0 % 2 ^ 32

/-- MAGIC and CRC of a record are valid. -/
def plugValid (r : List Nat) : Bool := pw r 0 == 0x4E48_5031 && crcWords ((List.range 15).map (pw r)) == pw r 15

/-- SITE and SHASH of a record match the boot site code and the loaded image. -/
def State.plugMatches (s : State) (r : List Nat) : Bool :=
  bitsOf (pw r 1) 2 0 == s.get SAF_SEAL.BOOT / 2 && (List.range 8).all (fun i => pw r (2 + i) == s.get (IMG_ACT_SHASH.HASH i))

/-- A record has been read. -/
def State.plugTaken (s : State) (r : List Nat) : State :=
  let s := { s with saf := { s.saf with plugLeft := 0, plug := (List.range 16).map (pw r) } }
  (s.putB SAF_PLUG.VALID (plugValid r)).putB SAF_PLUG.MATCH (plugValid r && s.plugMatches r)

/-- The clock of the plug bus in kHz. -/
def State.plugKhz (s : State) : Nat := if s.flag IND_PLUG_CFG.FAST then 400 else 100

/-- The read of the whole record: its address, then 64 bytes (R521). -/
def plugReadOps : List PlugOp := [.write 0x52 [0, 0], .read 0x52 64]

/-- An attempt to read the record ends (R521). -/
def State.plugAttempt (s : State) (ending : PlugEnd) (r : List Nat) : State :=
  if s.saf.plugLeft = 0 || !s.domOn 122 then s
  else
    let s := s.emit (.plugBus s.plugKhz (plugReadOps ++
      match ending with
      | .sdaLow n => [.clocks n.val]
      | _ => []))
    if ending = .data then s.plugTaken r
    else ({ s with saf := { s.saf with plugLeft := s.saf.plugLeft - 1 } } : State).bump SAF_PLUG.READ_ERR

/-- The record that PLUG_WRITE writes (R350). -/
def State.plugRecord (s : State) : List Nat :=
  let r := [0x4E48_5031, s.get SAF_SEAL.BOOT / 2] ++ (List.range 8).map (fun i => s.get (IMG_ACT_SHASH.HASH i)) ++
    (List.range 4).map (fun i => s.get (IMG_ACT_ID.ID i)) ++ [0]
  r ++ [crcWords r]

/-- A 16-byte page of a record, behind its address in the part (R522). -/
def plugPage (r : List Nat) (p : Nat) : PlugOp :=
  .write 0x52 ([0, BitVec.ofNat 8 (16 * p)] ++ ((bytesOfWords r).drop (16 * p)).take 16)

/-- The pages of a record that leave: the first is written, and each after one that is acknowledged. -/
def plugPages (r : List Nat) (acks : List Bool) : List PlugOp :=
  ((List.range 4).filter (fun p => (List.range p).all (fun i => nth acks i false))).map (plugPage r)

/-- The record is written page by page, and read back where every page is acknowledged; the flag tells whether it stands (R522). -/
def State.plugSend (s : State) (part : PlugReply) : Bool × State :=
  let r := s.plugRecord
  let all := (List.range 4).all (fun p => nth part.acks p false)
  let s := s.emit (.plugBus s.plugKhz (plugPages r part.acks ++ if all then plugReadOps else []))
  (all && (List.range 16).map (pw part.back) == (List.range 16).map (pw r), s)

/-- PLUG_WRITE (R350, R522). -/
def State.plugWrite (s : State) (part : PlugReply) : State :=
  s.ringCmd opPlugWrite .plug (fun c _ s =>
    if !s.flag SAF_SEAL.UNLOCK then s.complete c stFailed 0x18
    else if !s.flag SAF_PLUG.PRESENT then s.complete c stFailed 0x1A
    else
      let (ok, s) := s.plugSend part
      if ok then (s.plugTaken part.back).complete c stOk 0 else s.complete c stFailed 0x1B)

/-! ### Commands -/

/-- CHAIN_FRAME. -/
def execChainFrame (dt : Nat) (ret : List Bool) (s : State) : Host.Outcome State Fault Refusal :=
  .next ((s.advance dt).chainFrame ret)

/-- LED_PWM_PERIOD. -/
def execLedPwmPeriod (dt : Nat) (vpin : List Nat) (s : State) : Host.Outcome State Fault Refusal :=
  .next ((s.advance dt).ledPeriod vpin)

/-- LED_THERMAL_TRIP. -/
def execLedThermalTrip (dt : Nat) (sink : Fin 12) (s : State) : Host.Outcome State Fault Refusal :=
  .next ((s.advance dt).ledTrip sink.val)

/-- LED_CLEAR. -/
def execLedClear (dt : Nat) (index : Fin 16) (quiet : Bool) (s : State) : Host.Outcome State Fault Refusal :=
  .next ((s.advance dt).hostReg IND_LED_CMD.addr (fun s => s.ledClear index.val quiet))

/-- BUTTON_PRESS. -/
def execButtonPress (dt : Nat) (teach : Bool) (s : State) : Host.Outcome State Fault Refusal :=
  .next ((s.advance dt).buttonDown teach)

/-- BUTTON. -/
def execButton (dt : Nat) (teach : Bool) (s : State) : Host.Outcome State Fault Refusal :=
  .next ((s.advance dt).buttonUp teach)

/-- BUTTON_STUCK. -/
def execButtonStuck (dt : Nat) (teach : Bool) (s : State) : Host.Outcome State Fault Refusal :=
  .next ((s.advance dt).buttonStuck teach)

/-- SEAL_CHANGE. -/
def execSealChange (dt : Nat) (site : Fin 8) (s : State) : Host.Outcome State Fault Refusal :=
  .next ((s.advance dt).sealSite site.val)

/-- CONFIG_UNLOCK_CHANGE. -/
def execConfigUnlockChange (dt : Nat) (unlock : Bool) (s : State) : Host.Outcome State Fault Refusal :=
  .next ((s.advance dt).sealUnlock unlock)

/-- PLUG_CHANGE. -/
def execPlugChange (dt : Nat) (present : Bool) (s : State) : Host.Outcome State Fault Refusal :=
  .next ((s.advance dt).plugChange present)

/-- PLUG_READ_ATTEMPT. -/
def execPlugReadAttempt (dt : Nat) (ending : PlugEnd) (words : List Nat) (s : State) : Host.Outcome State Fault Refusal :=
  .next ((s.advance dt).plugAttempt ending words)

/-- PLUG_WRITE. -/
def execPlugWrite (dt : Nat) (part : PlugReply) (s : State) : Host.Outcome State Fault Refusal :=
  .next ((s.advance dt).plugWrite part)

end Sys2Proof.Machine
end

