-- ==== Sys2Proof/Machine/Landed.lean ====
section
/-! DEFINITION. What the blocks do when configuration becomes effective: at a tick (R27), and where the loader writes effective
values directly (R364, R371). -/

namespace Sys2Proof.Machine

/-- A change of MODE of a tile lands, and its slices settle (R159). -/
def State.modeLanded (s : State) (t : Nat) : State :=
  if s.flag (T_TDC_CTL.MODE t) == s.flag (T_TDC_STAT.MODE_ACT t) then s
  else (s.putB (T_TDC_STAT.MODE_ACT t) (s.flag (T_TDC_CTL.MODE t))).putB (T_TDC_STAT.SETTLING t) true

/-- Values have become effective. `before`: the state just before; `written`: the registers that were written. -/
def State.landed (s before : State) (written : List Nat) : State :=
  let s := s.each s.tilesOn (fun s t => (s.reedLanded before t).modeLanded t)
  let s := (s.hedLanded before).clkLanded before written
  (((s.supLanded written).lpeLanded written).indLanded written).trdLanded before

end Sys2Proof.Machine
end

