-- ==== Sys2Proof/Machine/Image.lean ====
section
/-! DEFINITION. Loading, applying and swapping loom images (R358 to R371, R425, R426, R463), and the records of a domain that
wakes (R87, R561). -/

namespace Sys2Proof.Machine

/-! ### Slots (R359) -/

/-- The valid bit of a slot. -/
def slotFld (slot : Nat) : Fld := if slot = 0 then IMG_STAT.A_VALID else IMG_STAT.B_VALID

/-- A slot is VALID. -/
def State.imgValid (s : State) (slot : Nat) : Bool := s.flag (slotFld slot)

/-- The slot that is not active. -/
def State.idleSlot (s : State) : Nat := 1 - s.img.active

/-- The bytes of the image that a slot holds. -/
def State.slotBytes (s : State) (slot : Nat) : List Byte :=
  let base := slotBase s.dramCap slot
  s.dramRead base (imgLen (s.dramRead base 256))

/-- The records of the image that a slot holds. -/
def State.slotRecs (s : State) (slot : Nat) : List ImgRec := (imgScan (s.slotBytes slot)).recs

/-- FS_BASE of a slot. -/
def State.fsBase (s : State) (slot : Nat) : Nat := slotBase s.dramCap slot + 0x0800_0000

/-- The structure hash of the loaded image as its registers show it. -/
def State.actShash (s : State) : List Byte := bytesOfWords ((List.range 12).map (fun k => s.get (IMG_ACT_SHASH.HASH k)))

/-- SAME_STRUCT and IMG_IDLE_ID follow the idle slot. -/
def State.showIdle (s : State) : State :=
  let b := s.dramRead (slotBase s.dramCap s.idleSlot) 256
  let ok := s.imgValid s.idleSlot
  let s := s.putB IMG_STAT.SAME_STRUCT (ok && s.img.loaded && imgShash b == s.actShash)
  s.each (List.range 4) (fun s k => s.put (IMG_IDLE_ID.ID k) (if ok then wordAt b (0x10 + 4 * k) else 0))

/-- ACTIVE and the IMG_ACT registers show an image's header. -/
def State.showActive (s : State) (b : List Byte) : State :=
  let s := (s.put IMG_STAT.ACTIVE s.img.active).put IMG_ACT_SVN.SVN (imgSvn b)
  let s := s.each (List.range 4) (fun s k => s.put (IMG_ACT_ID.ID k) (wordAt b (0x10 + 4 * k)))
  s.each (List.range 12) (fun s k => s.put (IMG_ACT_SHASH.HASH k) (wordAt b (0x20 + 4 * k)))

/-! ### Applying records (R357, R358, R365, R366) -/

/-- SEL_FS_BASE shows the active slot's FS_BASE. -/
def State.showFsBase (s : State) : State :=
  if s.domOn 121 then
    let a := s.fsBase s.img.active
    (s.put SEL_FS_BASE_LO.BASE a).put SEL_FS_BASE_HI.BASE (a / 2 ^ 32)
  else s

/-- The active shot table, with its status (R177, R180). -/
def State.setTable (s : State) (tab : List Nat) : State :=
  let s := { s with hed := { s.hed with tab := tab, tabNext := none } }
  let s := (s.putB HED_STAT.TABLE_VALID (!tab.isEmpty)).put HED_STAT.ENTRIES (tabEntries tab)
  s.putB HED_STAT.DIAG_EN s.diagIn

/-- The resource table takes effect, and runtime claims end (R366, R367). -/
def State.setResources (s : State) (res : List (Nat × Nat)) : State :=
  let s := { s with img := { s.img with res := res, resLost := false, claims := [] } }
  s.each (res.filter (fun e => e.2 == 0xF && e.1 / 2 ^ 28 != 0xF)) (fun s e => s.refuseClaim (resOfWord e.1))

/-- A field set in DRAM may become active (R294, R428). -/
def State.fsetGood (s : State) (i : Nat) : Bool :=
  !s.fsetPoisoned i && (s.fsetInDram i).valid i (fun n => s.get (T_GATE_CTL.START n))

/-- INIT_SET becomes the active set, with SEL_FSET (R322); the flag says whether it passed R294. A frame that runs was not opened
against it (R300). -/
def State.installSet (s : State) : Bool × State :=
  let i := s.initSet
  if !s.domOn 121 then (true, s)
  else if s.fsetGood i then
    let x : Selv := { s.sel with
      active := some (s.fsetInDram i), loading := none, ready := none, corrupt := false, midFrame := s.dev.ticks }
    (true, ((({ s with sel := x } : State).put SEL_FSET_STAT.ACTIVE i).putB SEL_FSET_STAT.ILLEGAL false).raise 526 0 0)
  else (false, s.touchBursts (s.fsetBursts i))

/-- The records of the image in a slot are applied as effective values (R358, R364, R371); the flag says whether INIT_SET
passed its check. -/
def State.applyImage (s : State) (slot : Nat) : Bool × State :=
  let b := s.slotBytes slot
  let l := (imgScan b).recs
  let cfg := imgCfgOf l
  let s : State := { s with img := { s.img with
    cfg := { cfg with link := s.img.cfg.link }, active := slot, keyIdx := imgKey b, loaded := true } }
  let s := (s.applyLink cfg.link).setResources (resTableOf (bodyOf l 4))
  let s := s.each (List.range 136) (fun s d => s.putB ⟨PWR_DOM_REQD.addr (d / 32), d % 32, d % 32⟩ (requiredDoms l d))
  let before := s
  let ws := s.lpeMayRun ((imgWrites l).filter (fun w => s.domOn (blockDomain w.fld.addr)))
  let s : State := { s with regs := overlay s.regs ws }
  let s := if s.domOn 120 then s.setTable (bodyOf l 0x20) else s
  let s := s.showFsBase
  let (ok, s) := s.installSet
  (ok, (((s.showActive b).showIdle).landed before (addrsOf ws)).claimInForce)

/-! ### A load (R361 to R363) -/

/-- The flash address of a copy of the image (R363). -/
def flashAddr (copy : Nat) : Nat := copy * 0x0800_0000

/-- A source is denied in BEZ_ACCESS. -/
def State.srcDenied (s : State) (src : Nat) : Bool := bit s.fuse.accessBits src

/-- The fastest read with a quad data phase that the flash declares: 1-4-4, whose address takes a quarter of the clocks, before 1-1-4
(R363; log entry 91). -/
def State.flashMode (s : State) : Option FlashMode :=
  if s.pwr.quad144 then some .r144 else if s.pwr.quad114 then some .r114 else none

/-- A load begins: the target slot is invalidated (R359), and from QSPI, unless that source is denied, the flash is read, its SFDP first
where `sfdp` says so (R363, R364). -/
def State.startLoad (s : State) (src copy : Nat) (boot sfdp : Bool) : State :=
  let slot := if boot then 0 else s.idleSlot
  let s := { s with
    img := { s.img with load := some { src := src, copy := copy, slot := slot, boot := boot, bytes := [], feed := [], memDone := false } }
    lnk := { s.lnk with imgPort := none } }
  let s := if src = 0 && !s.srcDenied 0 then s.emit (.flashRead sfdp s.flashMode (flashAddr copy)) else s
  let s := (s.putB (slotFld slot) false).put IMG_STAT.PHASE 1
  ((s.putB IMG_FEED_STAT.OPEN (src == 1)).put IMG_FEED_STAT.SPACE 8192).showIdle

/-- The load in progress is the boot itself, not one that IMG_LOAD started. -/
def State.bootTry (s : State) : Bool := !s.cmds.any (fun c => c.wait == .image && c.op == opImgLoad)

/-- A load fails (R361, R364, R369): a QSPI boot from copy 0 goes on with copy 1, and any other boot has failed. -/
def State.loadFail (s : State) (x : LoadBad) : State :=
  match s.img.load with
  | none => s
  | some ld =>
    let s := (s.endLoad.putB (slotFld ld.slot) false).showIdle
    let s := ((s.put IMG_STAT.ERR x.code).put IMG_ERR_INFO.RECORD x.record).put IMG_ERR_INFO.REJ_CODE x.rej
    if ld.boot && s.bootTry && ld.src == 0 && ld.copy == 0 && x.code != 0x01 && x.code != 0x14 then s.startLoad 0 1 true false
    else
      let s := if ld.boot then { s with img := { s.img with bootFailed := true } } else s
      (s.raise 529 0 0).imgComplete opImgLoad stFailed x.code

/-- The mode-register writes of a MEMCFG body: register and value, in word order, words of 0 skipped (R425). -/
def modeWrites (m : List Nat) : List (Nat × Nat) :=
  (((m.take 32).drop 2).filter (· != 0)).map (fun w => (bitsOf w 15 8, bitsOf w 7 0))

/-- MEMCFG is applied (R362, R425, R426): the DRAM devices are initialised anew, and hold undefined contents. -/
def State.memApply (s : State) (m : List Nat) (ok : Bool) : State :=
  let (g, s) := s.fresh
  let s := { s with regs := overlay s.regs (memWrites m), dram := s.dram.forget 0 (2 ^ 40) g, mem := { s.mem with kept := [] } }
  let s := s.emit (.modeRegs (modeWrites m))
  s.putB MEM_CFG.INIT_OK ok

/-- PHASE of a load: header, streaming, verifying. -/
def loadPhase (b : List Byte) : Nat := if b.length < 256 then 1 else if b.length < imgLen b then 2 else 3

/-- MEMCFG has arrived: it is checked, at boot it is applied, and the bytes so far go into the slot. The flag tells whether the load goes
on. -/
def State.memStep (s : State) (ld : Load) (b : List Byte) (sc : Scan) (memOk : Bool) : Bool × State :=
  match sc.recs with
  | [] => (true, s)
  | r :: _ =>
    let bad : LoadBad := { code := 0x1C, record := 0 }
    if !memcfgOk r.body then (false, (s.putB MEM_CFG.INIT_OK false).loadFail bad)
    else
      let s := if ld.boot then s.memApply r.body memOk else s
      if ld.boot && !memOk then (false, s.loadFail bad)
      else
        let s := s.dramWrite (slotBase s.dramCap ld.slot) b
        (true, { s with img := { s.img with load := some { ld with bytes := b, memDone := true } } })

/-- Bytes of the stream arrive, and are checked up to the first failure (R361, R362); `memOk`: DRAM initialises, should they complete MEMCFG. -/
def State.loadTake (s : State) (new : List Byte) (memOk : Bool) : State :=
  match s.img.load with
  | none => s
  | some ld =>
    let b := ld.bytes ++ new
    let sc := imgScan b
    let ld' : Load := { ld with bytes := b }
    let s := { s with img := { s.img with load := some ld' } }
    let s := s.put IMG_STAT.PHASE (loadPhase b)
    let hdrOk := decide (256 ≤ b.length) && (s.hdrCode b).isNone
    let (ok, s) := if ld.memDone then (true, s.dramWrite (slotBase s.dramCap ld.slot + ld.bytes.length) new)
      else if hdrOk then s.memStep ld' b sc memOk
      else (true, s)
    if !ok then s
    else
      match s.streamBad b sc with
      | some x => s.loadFail x
      | none => s

/-- A word arrives at IMG_FEED (R363), after the loader has taken `drained` words. -/
def State.imgFeed (s : State) (word drained : Nat) (memOk : Bool) : State :=
  let open' := s.flag IMG_FEED_STAT.OPEN
  match s.img.load with
  | none => s
  | some ld =>
    if ld.src != 1 || !open' then s
    else
      let s := { s with img := { s.img with load := some { ld with feed := ld.feed.drop drained } } }
      let s := s.loadTake (bytesOfWords (ld.feed.take drained)) memOk
      match s.img.load with
      | none => s
      | some ld =>
        if ld.src != 1 then s
        else if 8192 ≤ ld.feed.length then (s.hwUp IMG_FEED_STAT.OVF).loadFail { code := 0x12 }
        else
          let feed := ld.feed ++ [word]
          let s := { s with img := { s.img with load := some { ld with feed := feed } } }
          let all := ld.bytes ++ bytesOfWords feed
          let s := s.put IMG_FEED_STAT.SPACE (8192 - feed.length)
          s.putB IMG_FEED_STAT.OPEN (decide (all.length < 256) || decide (all.length < imgLen all))

/-- The stream of a load stalls for 100 ms; with the HRL source, after its first byte (R361). -/
def State.imgTimeout (s : State) : State :=
  match s.img.load with
  | none => s
  | some ld =>
    if (ld.src == 2 && ld.bytes.isEmpty) || loadPhase ld.bytes == 3 then s else s.loadFail { code := 0x13 }

/-- A load that has passed every check: the sets are copied (R359). -/
def State.copySets (s : State) (slot : Nat) (l : List ImgRec) : State :=
  s.each (l.filter (fun r => r.typ == 0x22)) (fun s r =>
    s.dramWrite (s.fsBase slot + r.target * 0x20_0000) (bytesOfWords r.body))

/-- A boot, or a load in BOOT, has passed every check: the records are applied and the device enters CONFIGURED (R364), unless
PLL-T has not locked (R94) or the temperature has stopped the boot (R492). -/
def State.bootGood (s : State) (ld : Load) : State :=
  let (ok, s) := s.applyImage ld.slot
  if !ok then s.loadFail { code := 0x0F, record := idxOf (s.slotRecs ld.slot) 3 }
  else
    let s := (s.endLoad.putB (slotFld ld.slot) true).showIdle
    let ms := (s.now - s.img.bootAt) / (1000 * usLsb)
    let s := ((s.put IMG_BOOT.SRC ld.src).put IMG_BOOT.COPY (if ld.src = 0 then ld.copy else 0)).put IMG_BOOT.TIME_MS (satU 16 ms)
    let s := (s.raise 530 0 0).imgComplete opImgLoad stOk 0
    if s.flag CLK_STAT.PLLT_LOCK && !s.thm.bootHeld then
      let s := s.setDev .configured 0
      { s with clk := { s.clk with dueAt := s.now } }
    else s

/-- A runtime load has passed every check. -/
def State.loadGood (s : State) (ld : Load) : State :=
  let s := (s.endLoad.putB (slotFld ld.slot) true).showIdle
  (s.raise 530 0 0).imgComplete opImgLoad stOk 0

/-- The stream has ended and the checks that follow it are complete (R361). `stream`: what the flash delivered. -/
def State.imgVerify (s : State) (stream : List Byte) (memOk : Bool) : State :=
  match s.img.load with
  | none => s
  | some ld =>
    let new := if ld.src = 0 then stream else if ld.src = 1 then bytesOfWords ld.feed else []
    let b := ld.bytes ++ new
    let t := ({ s with img := { s.img with load := some { ld with feed := [] } } } : State).loadTake new memOk
    match t.img.load with
    | none => t
    | some ld' =>
      if ld'.copy != ld.copy then t
      else if loadPhase b != 3 then s
      else
        let s := t
        let sc := imgScan b
        if ld.src == 2 && b.length != imgLen b then s.loadFail { code := 0x04 }
        else match s.setsBad sc.recs with
        | some x => s.loadFail x
        | none =>
          match s.trailerCode b sc.structural with
          | some k => s.loadFail { code := k }
          | none =>
            match s.parseBad sc.recs with
            | some x => s.loadFail x
            | none =>
              let s := s.copySets ld.slot sc.recs
              if ld.boot then s.bootGood ld else s.loadGood ld

/-! ### Ring commands (R369) -/

/-- An image command whose conditions fail: ERR shows the code, and it completes with no side effect. -/
def State.imgRefuse (s : State) (c : RunCmd) (code : Nat) : State := (s.put IMG_STAT.ERR code).complete c stFailed code

/-- An image command is accepted. -/
def State.imgAccept (s : State) (c : RunCmd) : State := (s.put IMG_STAT.ERR 0).startCmd c

/-- IMG_LOAD. -/
def State.imgLoad (s : State) : State :=
  s.ringCmd opImgLoad .image (fun c arg s =>
    if s.srcDenied (arg % 4) || (s.dev != .boot && bit s.fuse.accessBits 4) then s.imgRefuse c 0x01
    else (s.imgAccept c).startLoad (arg % 4) (b2n (bit arg 4)) (s.dev == .boot) true)

/-- IMG_SWAP. -/
def State.imgSwap (s : State) : State :=
  s.ringCmd opImgSwap .image (fun c _ s =>
    let b := s.slotBytes s.idleSlot
    let sets := (imgCfgOf (imgScan b).recs).sets
    let held : Bool := match s.sel.active with
      | some f => sets.contains f.num
      | none => true
    if !(s.imgValid s.idleSlot && s.flag IMG_STAT.SAME_STRUCT) then s.imgRefuse c 0x16
    else match s.imgTrust b with
    | some k => s.imgRefuse c k
    | none =>
      if !held then s.imgRefuse c 0x17
      else if s.dev.running && bit s.fuse.accessBits 3 then s.imgRefuse c 0x01
      else
        let s := s.imgAccept c
        ({ s with img := { s.img with swap := some {} } } : State).put IMG_STAT.PHASE 5)

/-- IMG_APPLY. -/
def State.imgApply (s : State) : State :=
  s.ringCmd opImgApply .image (fun c _ s =>
    let cfg := imgCfgOf (s.slotRecs s.idleSlot)
    if !s.flag SAF_SEAL.UNLOCK then s.imgRefuse c 0x18
    else if !s.imgValid s.idleSlot then s.imgRefuse c 0x16
    else if cfg.memcfg != s.img.cfg.memcfg || cfg.link != s.img.cfg.link then s.imgRefuse c 0x15
    else
      let s := s.imgAccept c
      ({ s with img := { s.img with apply := some {} } } : State).put IMG_STAT.PHASE 4)

/-- A swap ends without landing. -/
def State.swapFail (s : State) (code rej : Nat) : State :=
  let s := { s with img := { s.img with swap := none } }
  let s := ((s.put IMG_STAT.PHASE 0).put IMG_STAT.ERR code).put IMG_ERR_INFO.REJ_CODE rej
  s.imgComplete opImgSwap stFailed code

/-- A swap whose preparation still runs. -/
def State.swapPreparing (s : State) : Bool :=
  match s.img.swap with
  | some w => !w.staged
  | none => false

/-- IMG_ABORT (R369). -/
def State.imgAbort (s : State) : State :=
  s.ringCmd opImgAbort .image (fun c _ s =>
    if s.img.load.isSome then ((s.put IMG_STAT.ERR 0).loadFail { code := 0x14 }).complete c stOk 0
    else if s.swapPreparing then (s.swapFail 0x14 0).complete c stOk 0
    else s.complete c stIdle 0)

/-! ### A swap (R370) -/

/-- Preparation of a swap ends: the new table, the new copy of the active set and the loader group are checked against what they
will meet, and staged. -/
def State.swapPrepared (s : State) : State :=
  match s.img.swap with
  | none => s
  | some w =>
    if w.staged || s.sel.loading.isSome || s.sel.ready.isSome then s
    else
      let slot := s.idleSlot
      let l := s.slotRecs slot
      let cfg := imgCfgOf l
      let ws := s.lpeMayRun ((regsWrites l).filter (fun w => s.domOn (blockDomain w.fld.addr)))
      let tab := if s.domOn 120 then bodyOf l 0x20 else []
      let regs := overlay s.regs (s.stage.landing ++ ws)
      let base : State := ({ s with img := { s.img with active := slot } } : State).showFsBase
      let set := s.sel.active.map (fun f => base.fsetInDram f.num)
      let setOk : Bool := match set with
        | some f => !base.fsetPoisoned f.num && f.valid f.num (fun n => getIn regs (T_GATE_CTL.START n))
        | none => true
      let bursts := match set with
        | some f => base.fsetBursts f.num
        | none => []
      if !setOk then (s.touchBursts bursts).swapFail 0x0F 0
      else
        let t : State := { s with
          sel := { s.sel with active := set }, img := { s.img with cfg := { s.img.cfg with fsel := cfg.fsel } } }
        match t.stageGroup .swap s.handingOver ws tab s.img.cfg.route (!tab.isEmpty) with
        | (some code, t) => ({ s with regs := t.regs } : State).swapFail 0x10 code
        | (none, t) =>
          let s := s.setStage t.stage
          let s := { s with
            img := { s.img with swap := some { staged := true, late := s.handingOver, tab := tab, set := set } }
            hed := { s.hed with tabNext := if s.domOn 120 then some tab else none } }
          s.put IMG_STAT.PHASE 6

/-- A staged swap lands at the coming tick. -/
def State.swapLands (s : State) : Bool :=
  match s.img.swap with
  | some w => w.staged && !w.late
  | none => false

/-- A staged swap lands whole (R370): table, set, slot roles and registers change together. The group's values have landed. -/
def State.swapLand (s : State) : State :=
  match s.img.swap with
  | none => s
  | some w =>
    if !w.staged then s
    else if w.late then { s with img := { s.img with swap := some { w with late := false } } }
    else
      let slot := s.idleSlot
      let b := s.slotBytes slot
      let cfg := imgCfgOf (imgScan b).recs
      let s := { s with img := { s.img with swap := none, active := slot, keyIdx := imgKey b, cfg := cfg, resLost := false, claims := [] } }
      let s := if s.domOn 120 then s.setTable w.tab else s
      let s := match w.set with
        | some f => if s.domOn 121 then { s with sel := { s.sel with active := some f, corrupt := false } } else s
        | none => s
      let s := (((s.showFsBase.showActive b).showIdle).put IMG_SWAP_EPOCH.EPOCH s.epoch).claimInForce
      ((s.put IMG_STAT.PHASE 0).raise 531 0 0).imgComplete opImgSwap stOk 0

/-! ### An apply (R371) -/

/-- The domains that an apply takes through Off. -/
def applyDoms : List Nat := List.range 96 ++ [120, 121, 123, 124, 126, 127, 128, 129, 130, 134]

/-- The first tick of an apply: Heddle stops, and the domains that are On go Off, once what they have in flight has drained (R82). -/
def State.applyTick (s : State) : State :=
  match s.img.apply with
  | none => s
  | some a =>
    if a.started then s
    else
      let doms := applyDoms.filter s.domOn
      let s := if s.domOn 120 then s.setTable [] else s
      let busy := doms.filter (fun d => !(s.inFlightOn d).isEmpty)
      let mask := maskOf 136 doms.contains
      let s := { s with
        pwr := { s.pwr with barred := orN s.pwr.barred mask }
        img := { s.img with apply := some { started := true, left := maskOf 136 busy.contains, doms := mask } } }
      s.each (doms.filter (fun d => !busy.contains d)) State.domainOff

/-- The apply finishes: the idle slot's records, or where a check fails those of the slot that was active, are applied, and the
slots exchange roles (R371). The governor takes its windows as full (R208). -/
def State.applyDone (s : State) : State :=
  match s.img.apply with
  | none => s
  | some a =>
    if !a.started || a.left != 0 then s
    else
      let s := s.each (bitList 136 a.doms) (fun s d => (s.resetDomain d).putB (domBit d) true)
      let s := s.each (bitList 96 a.doms) (fun s t => s.modTile t (fun x => { x with wokeAt := s.now }))
      let woken := fun (s : State) => if bit a.doms 120 then s.emdWake else s
      let old := s.img.active
      let bad := s.parseBad (s.slotRecs s.idleSlot)
      let s := { s with img := { s.img with apply := none } }
      let (ok, t) := s.applyImage s.idleSlot
      let t := (woken t).put IMG_STAT.PHASE 0
      if bad.isNone && ok then
        (t.put IMG_SWAP_EPOCH.EPOCH (t.epoch)).imgComplete opImgApply stOk 0
      else
        let rej := match bad with
          | some x => x.rej
          | none => 0
        let s := (woken (s.applyImage old).2).put IMG_STAT.PHASE 0
        ((s.put IMG_STAT.ERR 0x10).put IMG_ERR_INFO.REJ_CODE rej).imgComplete opImgApply stFailed 0x10

/-! ### A domain that wakes (R87, R561) -/

/-- The register writes of the loaded image's records for a domain. -/
def State.wakeWrites (s : State) (slot d : Nat) : List FieldWrite :=
  let l := s.slotRecs slot
  s.lpeMayRun (((if d = 131 then memWrites (bodyOf l 1) else []) ++ imgWrites l).filter (fun w => blockDomain w.fld.addr == d))

/-- A domain has become ready: its records are staged as one loader group (R87). The shot table, the LINK record and the active set's load
follow when it lands. -/
def State.wakeStage (s : State) (d : Nat) : State :=
  if !s.img.loaded then s
  else
    let ws := s.wakeWrites s.img.active d
    let tab := bodyOf (s.slotRecs s.img.active) 0x20
    let linked := !s.img.cfg.link.isEmpty && (d == 133 || (decide (96 ≤ d) && decide (d < 112)))
    if ws.isEmpty && (d != 120 || tab.isEmpty) && d != 121 && !linked then s
    else
      let tab' := if d = 120 then tab else s.tabNext
      match s.stageGroup (.domain d) s.handingOver ws tab' s.img.cfg.route (d == 120) with
      | (none, s) => s
      | (some _, s) => s

/-- The group of a domain has landed (R87, R561), and no longer stands in the store. -/
def State.wakeLanded (s : State) (d : Nat) : State :=
  let s := if d = 120 then s.setTable (bodyOf (s.slotRecs s.img.active) 0x20)
    else if d = 121 then s.showFsBase.startFsetLoad s.initSet true
    else if d = 131 then s.restoreMem
    else if d = 133 then s.showLink.lanesCheck
    else if 96 ≤ d ∧ d < 112 then s.lanesCheck
    else s
  s.raise 518 0 d

/-! ### Commands -/

/-- IMG_LOAD. -/
def execImgLoad (dt : Nat) (s : State) : Host.Outcome State Fault Refusal := .next (s.advance dt).imgLoad

/-- IMG_SWAP. -/
def execImgSwap (dt : Nat) (s : State) : Host.Outcome State Fault Refusal := .next (s.advance dt).imgSwap

/-- IMG_APPLY. -/
def execImgApply (dt : Nat) (s : State) : Host.Outcome State Fault Refusal := .next (s.advance dt).imgApply

/-- IMG_ABORT. -/
def execImgAbort (dt : Nat) (s : State) : Host.Outcome State Fault Refusal := .next (s.advance dt).imgAbort

/-- IMG_FEED. -/
def execImgFeed (dt : Nat) (word : Word) (drained : Nat) (memOk : Bool) (s : State) : Host.Outcome State Fault Refusal :=
  .next ((s.advance dt).hostReg (IMG_FEED.addr 0) (fun s => s.imgFeed word.toNat drained memOk))

/-- IMG_STREAM_TIMEOUT. -/
def execImgStreamTimeout (dt : Nat) (s : State) : Host.Outcome State Fault Refusal := .next (s.advance dt).imgTimeout

/-- IMG_VERIFY_DONE. -/
def execImgVerifyDone (dt : Nat) (stream : List Byte) (memOk : Bool) (s : State) : Host.Outcome State Fault Refusal :=
  .next ((s.advance dt).imgVerify stream memOk)

/-- SWAP_PREPARED. -/
def execSwapPrepared (dt : Nat) (_late : Bool) (s : State) : Host.Outcome State Fault Refusal :=
  .next (s.advance dt).swapPrepared

/-- APPLY_DONE. -/
def execApplyDone (dt : Nat) (s : State) : Host.Outcome State Fault Refusal := .next (s.advance dt).applyDone

end Sys2Proof.Machine
end

