-- ==== Sys2Proof/Machine/Flit.lean ====
section
/-! DEFINITION. Flits and bobbins of HRL (R451 to R459, R463): receiving, acknowledging, forwarding, sending. -/

namespace Sys2Proof.Machine

/-! ### Flits (R451) -/

def flitClass (h : Nat) : Nat := bitsOf h 9 8
def flitLen (h : Nat) : Nat := bitsOf h 14 10 + 1
def flitSeq (h : Nat) : Nat := bitsOf h 27 16
def flitHops (h : Nat) : Nat := bitsOf h 39 36

/-- The CRC of a flit, over the payload bytes of header and data picks. -/
def flitCrc (h : Nat) (data : List Nat) : Nat := crc32 ((h :: data).flatMap (bytesLE 8))

/-- The picks of a flit. -/
def flitPicks (cls seq stream hops : Nat) (padw : Bool) (data : List Nat) : List Nat :=
  let h := 0x66 + cls * 2 ^ 8 + (data.length - 1) * 2 ^ 10 + b2n padw * 2 ^ 15 + seq * 2 ^ 16 + stream * 2 ^ 28 + hops * 2 ^ 36
  h :: data ++ [0x33 + seq * 2 ^ 8 + flitCrc h data * 2 ^ 32]

/-- The picks of a flit as they go out: header and trailer are control picks, those between them data picks (R438, R451). -/
def flitWire (picks : List Nat) : List (Bool × Nat) :=
  picks.zipIdx.map (fun x => (x.2 == 0 || x.2 + 1 == picks.length, x.1))

/-- The receiver accepts a flit (R455). -/
def LnkPort.accepts (x : LnkPort) (h : Nat) (data : List Nat) (t : Nat) : Bool :=
  h % 256 == 0x66 && t % 256 == 0x33 && data.length == flitLen h && bitsOf t 63 32 == flitCrc h data &&
    bitsOf t 19 8 == flitSeq h && flitSeq h == x.seqRx

/-- The 32-bit words of data picks, and their bytes but for padding. -/
def pickWords (data : List Nat) : List Nat := data.flatMap (fun d => [d % 2 ^ 32, d / 2 ^ 32 % 2 ^ 32])
def pickBytes (padw : Bool) (data : List Nat) : List Byte :=
  (data.flatMap (bytesLE 8)).take (8 * data.length - (if padw then 4 else 0))

/-- An event of a port raised at most once a frame, whose counter counts every occurrence (R465): `bit'` is its place among them. -/
def State.portOnce (s : State) (p bit' src : Nat) : State :=
  let x := s.port p
  if !bit x.raised bit' then (s.setPort p { x with raised := setBit x.raised bit' true }).raise src 0 p
  else if s.domOn (evtDomain src) then s.bump (EVT_CNT.COUNT src)
  else s

/-- A flit is discarded and counted. -/
def State.flitDiscard (s : State) (p : Nat) : State := s.bump (LNK_PORT_CNT2.DISCARD p)

/-- A discarded flit of class 0, 1 or 3 that raises HRL_DISCARD. -/
def State.flitIgnore (s : State) (p : Nat) : State := (s.flitDiscard p).portOnce p 0 566

/-- SEQ is newer than the last taken from a sender (R458). -/
def State.seqNewer (s : State) (src seq : Nat) : Bool :=
  match tabGet (fun _ => none) s.lnk.lastSeq src with
  | some last => let d := (seq + 2 ^ 16 - last) % 2 ^ 16; decide (1 ≤ d) && decide (d ≤ 0x7FFF)
  | none => true

/-- A class 0 flit on a cell port (R458). -/
def State.flitMessage (s : State) (p hops : Nat) (ws : List Nat) : State :=
  if s.flag (LNK_PORT_STAT.PEER_ERR p) then s.flitDiscard p
  else if msgSrc ws = s.ownMember then s.flitDiscard p
  else if !s.seqNewer (msgSrc ws) (msgSeq ws) then (s.bump LNK_FWD_CNT.DUP).flitDiscard p
  else
    let s := { s with lnk := { s.lnk with lastSeq := tabSet (fun _ => none) s.lnk.lastSeq (msgSrc ws) (some (msgSeq ws)) } }
    let s := if s.dev.ticks then s.msgReceive ws else s
    if hops = 15 then s.portOnce p 1 568
    else
      let others := allPorts.any (fun q => q != p && portCellIn s.img.cfg.link q && s.portUp q &&
        !s.flag (LNK_PORT_STAT.PEER_ERR q))
      (if others then s.bump LNK_FWD_CNT.FWD else s).lnkMessage ws (some p) (hops + 1)

/-- A class 2 flit (R463). -/
def State.flitImage (s : State) (p h : Nat) (data : List Nat) (memOk : Bool) : State :=
  let sof := bit h 34
  match s.img.load with
  | none => (s.flitDiscard p).raise 567 0 p
  | some ld =>
    let first := s.lnk.imgPort.isNone
    if ld.src != 2 || !(if first then sof else s.lnk.imgPort == some p) then (s.flitDiscard p).raise 567 0 p
    else if !first && sof then s.loadFail { code := 0x04 }
    else
      let s := { s with lnk := { s.lnk with imgPort := some p } }
      let s := s.loadTake (pickBytes (bit h 15) data) memOk
      match s.img.load with
      | some ld => if bit h 35 && !(loadPhase ld.bytes == 3 && ld.bytes.length == imgLen ld.bytes) then
          s.loadFail { code := 0x04 } else s
      | none => s

/-- A flit is received (R452, R454, R455). -/
def State.flitTake (s : State) (p h : Nat) (data : List Nat) (t : Nat) (memOk : Bool) : State :=
  if !s.portRuns p then s
  else
    let x := s.port p
    let cls := flitClass h
    let room := tabGet (fun _ => 0) x.granted cls
    if !x.accepts h data t then (s.bump (LNK_PORT_CNT.CRC_ERR p)).setPort p { x with nakDue := true }
    else if room < flitLen h then (s.raise 564 0 p).portRetrain p
    else
      let s := s.setPort p { x with
        seqRx := (x.seqRx + 1) % 4096, ackDue := true, nakDue := false
        granted := tabSet (fun _ => 0) x.granted cls (room - flitLen h)
        freed := tabMod (fun _ => 0) x.freed cls (· + flitLen h) }
      match cls with
      | 0 => if portCellIn s.img.cfg.link p then s.flitMessage p (flitHops h) (pickWords data) else s.flitIgnore p
      | 2 => s.flitImage p h data memOk
      | _ => s.flitIgnore p

/-! ### Bobbins (R454, R455) -/

/-- The register that holds the sender's bobbins of a class. -/
def bobFld (p : Nat) : Nat → Fld
  | 0 => LNK_PORT_BOB0.C0 p
  | 1 => LNK_PORT_BOB0.C1 p
  | _ => LNK_PORT_BOB1.C3 p

/-- The flits of a replay buffer that remain after an acknowledgement. -/
def replayAfter (l : List TxFlit) (ack : Nat) : List TxFlit :=
  match l.findIdx? (fun f => f.seq == ack) with
  | some i => l.drop (i + 1)
  | none => l

/-- A BOBBIN pick is received. -/
def State.bobbinTake (s : State) (p cls : Nat) (init : Bool) (count : Nat) (ackV nak : Bool) (ackSeq : Nat) : State :=
  if !s.portRuns p then s
  else
    let s := if cls = 2 then s
      else if init then s.put (bobFld p cls) count
      else s.addSat (bobFld p cls) count
    let x := s.port p
    let l := if ackV || nak then replayAfter x.replay ackSeq else x.replay
    let s := s.setPort p { x with replay := l, resend := if nak then l.length else min x.resend l.length }
    if nak && l.any (fun f => decide (8 ≤ f.sends)) then (s.raise 563 0 p).portRetrain p else s

/-- A BOBBIN pick is sent: freed bobbins of a class, the acknowledgement or the NAK. -/
def State.bobbinReturn (s : State) (p cls : Nat) : State :=
  if !s.portRuns p then s
  else
    let x := s.port p
    let n := tabGet (fun _ => 0) x.freed cls
    let s := s.setPort p { x with
      freed := tabSet (fun _ => 0) x.freed cls 0, granted := tabMod (fun _ => 0) x.granted cls (· + n)
      ackDue := false, nakDue := false }
    s.sendStream p [(true, bobbinPick cls false x.ackDue x.nakDue n ((x.seqRx + 4095) % 4096))]

/-! ### Sending (R452, R453, R455) -/

/-- Picks in a replay buffer. -/
def replayPicks (l : List TxFlit) : Nat := (l.map (fun f => f.picks.length)).foldl (· + ·) 0

/-- The bytes that a stream can send next: at most 32 picks of its staged records. -/
def State.streamBytes (s : State) (c : Nat) : List Byte :=
  let x := s.chan c
  ((bytesOfWords (x.staged.flatMap (fun r => r.words))).drop x.fill).take 256

/-- Records of which every byte has been sent leave staging. -/
def dropSent : List StreamRec → Nat → List StreamRec × Nat
  | [], _ => ([], 0)
  | r :: rest, n => if r.bytes ≤ n then dropSent rest (n - r.bytes) else (r :: rest, n)

/-- A stream-link channel of a port and class has a flit ready for the bobbins held. -/
def State.streamReady (s : State) (p cls c : Nat) : Bool :=
  s.streamWaits p c && streamClass s.img.cfg.link c == cls && !(s.streamBytes c).isEmpty &&
    decide (ceilDiv (s.streamBytes c).length 8 ≤ s.get (bobFld p cls))

/-- The streams of a class that are ready on a port. -/
def State.readyStreams (s : State) (p cls : Nat) : List Nat := (List.range 64).filter (s.streamReady p cls)

/-- A new flit is sent and kept for replay. -/
def State.flitStart (s : State) (p cls stream hops : Nat) (padw : Bool) (data : List Nat) : State :=
  let x := s.port p
  let picks := flitPicks cls x.seqTx stream hops padw data
  if 8192 < replayPicks x.replay + picks.length then s
  else
    let s := s.put (bobFld p cls) (s.get (bobFld p cls) - data.length)
    let s := s.setPort p { x with seqTx := (x.seqTx + 1) % 4096, replay := x.replay ++ [⟨x.seqTx, picks, 1⟩] }
    s.sendStream p (flitWire picks)

/-- The replay buffer has room for a flit of `n` data picks. -/
def LnkPort.room (x : LnkPort) (n : Nat) : Bool := decide (replayPicks x.replay + n + 2 ≤ 8192)

/-- A flit of a stream is sent. -/
def State.streamSend (s : State) (p cls c : Nat) : State :=
  let b := s.streamBytes c
  let data := (List.range (ceilDiv b.length 8)).map (fun i => natOfBytes ((b.drop (8 * i)).take 8))
  if !(s.port p).room data.length then s
  else
    let x := s.chan c
    let (rest, fill) := dropSent x.staged (x.fill + b.length)
    let s := s.setChan c { x with staged := rest, fill := fill }
    let s := s.flitStart p cls c 0 (b.length % 8 == 4) data
    let y := s.port p
    let waiting := cls != 3 && !(s.readyStreams p 3).isEmpty
    s.setPort p { y with low := if waiting then y.low + 1 else 0 }

/-- The class 0 message at the head of a port's queue is sent. -/
def State.messageSend (s : State) (p : Nat) : State :=
  let x := s.port p
  match x.q0 with
  | [] => s
  | (ws, hops) :: rest =>
    if !x.room 8 then s
    else
      let data := (List.range 8).map (fun i => nth ws (2 * i) 0 + nth ws (2 * i + 1) 0 * 2 ^ 32)
      let s := (s.setPort p { x with q0 := rest }).flitStart p 0 0 hops false data
      let y := s.port p
      s.setPort p { y with low := if (s.readyStreams p 3).isEmpty then 0 else y.low + 1 }

/-- The stream that is served among the ready ones of a class. -/
def pickStream (l : List Nat) (chan : Nat) : Option Nat := if l.contains chan then some chan else l.head?

/-- A flit starts: a replay first, then the highest-priority class that is ready, class 3 after 63 flits that went before
it. -/
def State.flitSend (s : State) (p chan : Nat) : State :=
  let x := s.port p
  if !s.portRuns p then s
  else if 0 < x.resend then
    let i := x.replay.length - x.resend
    match x.replay[i]? with
    | some f =>
      let s := (s.bump (LNK_PORT_CNT.REPLAY p)).setPort p { x with
        resend := x.resend - 1, replay := x.replay.set i { f with sends := f.sends + 1 } }
      s.sendStream p (flitWire f.picks)
    | none => s
  else
    let r1 := pickStream (s.readyStreams p 1) chan
    let r3 := pickStream (s.readyStreams p 3) chan
    let msg := !x.q0.isEmpty && !s.flag (LNK_PORT_STAT.PEER_ERR p) && decide (8 ≤ s.get (LNK_PORT_BOB0.C0 p))
    match r3, r1 with
    | some c, r1 =>
      if 63 ≤ x.low then s.streamSend p 3 c
      else if msg then s.messageSend p
      else match r1 with
        | some c => s.streamSend p 1 c
        | none => s.streamSend p 3 c
    | none, some c => if msg then s.messageSend p else s.streamSend p 1 c
    | none, none => if msg then s.messageSend p else s

/-- The events of R465 may be raised again in a new frame. -/
def State.lnkTick (s : State) : State :=
  s.each allPorts (fun s p =>
    let x := s.port p
    if x.raised = 0 then s else s.setPort p { x with raised := 0 })

/-! ### Commands -/

/-- FLIT. -/
def execFlit (dt : Nat) (port : Fin 16) (header : Nat) (data : List Nat) (trailer : Nat) (memOk : Bool) (s : State) :
    Host.Outcome State Fault Refusal := .next ((s.advance dt).flitTake port.val header data trailer memOk)

/-- BOBBIN. -/
def execBobbin (dt : Nat) (port : Fin 16) (cls : Fin 4) (init : Bool) (count : Fin 65536) (ackV nak : Bool)
    (ackSeq : Fin 4096) (s : State) : Host.Outcome State Fault Refusal :=
  .next ((s.advance dt).bobbinTake port.val cls.val init count.val ackV nak ackSeq.val)

/-- BOBBIN_RETURN. -/
def execBobbinReturn (dt : Nat) (port : Fin 16) (cls : Fin 4) (s : State) : Host.Outcome State Fault Refusal :=
  .next ((s.advance dt).bobbinReturn port.val cls.val)

/-- FLIT_SEND. -/
def execFlitSend (dt : Nat) (port : Fin 16) (chan : Fin 64) (s : State) : Host.Outcome State Fault Refusal :=
  .next ((s.advance dt).flitSend port.val chan.val)

end Sys2Proof.Machine
end

