-- ==== Sys2Proof/Machine/Lists.lean ====
section
/-! DEFINITION. Photon lists (R160 to R164): wrap fills, gap entries, the list port, and the lists at a tick. -/

namespace Sys2Proof.Machine

/-- A gap entry (kind 1) or a wrap fill (2) takes the place reserved for one, or an unreserved place while an earlier one has it (R163). -/
def ListQ.place (q : ListQ) (wraps word kind : Nat) : Option ListQ :=
  if !q.q.any (fun e => e.2 == kind) then some (q.add wraps word kind)
  else if q.used < 62 then some (q.add wraps word 0)
  else none

/-- The word of a wrap fill. -/
def fillWord : Nat := 2 ^ 30 + 2

/-- A wrap fill, which is never lost: one that finds no place awaits it (R163; DESIGN CHOICE, log entry 85). -/
def ListQ.fill (q : ListQ) (wraps : Nat) : ListQ :=
  ((if q.owed = 0 then q.place wraps fillWord 2 else none)).getD { q with owed := q.owed + 1 }

/-- When COARSE[23] rises, each enabled list with no entry since the last wrap gets a wrap fill (R162). -/
def State.wrapFill (s : State) : State :=
  if !bit s.coarse 23 then s
  else
    s.each s.tilesOn (fun s t =>
      (s.gatesNow t).each (List.range 8) (fun s c =>
        let q := s.listQ t c
        if q.on && q.wraps != s.wraps then s.setList t c (q.fill s.wraps) else s))

/-- A wrap fill that awaits a place takes one. -/
def ListQ.fillOwed (q : ListQ) : ListQ :=
  match q.place (q.wraps + 1) fillWord 2 with
  | some q' => if q.owed = 0 then q else { q' with owed := q.owed - 1 }
  | none => q

/-- After a place frees, the gap entry is written before any other (R163). Wrap fills that await a place follow; of so many wraps the gap
entry shows the first (DESIGN CHOICE, log entry 85). -/
def ListQ.gap (q : ListQ) (wraps : Nat) : ListQ :=
  let word := 2 ^ 30 + min q.lost 0xFFF_FFFF * 4 + 1
  if q.lost = 0 then (List.range q.owed).foldl (fun q _ => q.fillOwed) q
  else
    match q.place (if q.owed = 0 then wraps else q.wraps + 1) word 1 with
    | some q' => (List.range (q.owed - 1)).foldl (fun q _ => q.fillOwed) { q' with lost := 0, owed := q.owed - 1 }
    | none => q

/-- The list port passes the next entry, in round-robin order, to the channel's staging, if that takes it (R164). -/
def State.listDrain (s : State) (t : Nat) : State :=
  if !s.domOn t || !s.domOn 128 then s
  else
    let s := s.gatesNow t
    let turn := (s.tileSt t).listTurn
    let order := (List.range 8).map (fun i => (turn + 1 + i) % 8)
    match order.find? (fun c => s.listOn t c && !(s.listQ t c).q.isEmpty), s.listRoute t with
    | some c, some ch =>
      let q := s.listQ t c
      match q.q with
      | [] => s
      | e :: rest =>
        let x := s.chan ch
        let used := (x.staged.map StreamRec.bytes).foldl (· + ·) 0
        if s.quota ch < used + 4 then s
        else
          let s := s.setChan ch { x with staged := x.staged ++ [⟨ch, .list, s.epoch, t, [e.1]⟩] }
          let s := s.setList t c (({ q with q := rest } : ListQ).gap s.wraps)
          (s.modTile t (fun y => { y with listTurn := c })).chanIssue ch 1
    | _, _ => s

/-- At a tick, LIST_EN takes effect and each enabled list gets a frame entry, its first one with WRAP at 0 (R160, R162). A list that
is enabled begins empty (DESIGN CHOICE, log entry 85). -/
def State.listTick (s : State) (t : Nat) : State :=
  s.each (List.range 8) (fun s c =>
    let q := s.listQ t c
    if bit (s.get (T_TDC_CTL.LIST_EN t)) c then
      let q : ListQ := if q.on then q else { on := true, wraps := s.wraps }
      (s.setList t c q).listPut t c s.wraps (frameWord s.epoch)
    else if q.on then s.setList t c { q with on := false } else s)

/-! ### Commands -/

/-- LIST_WRAP_FILL. -/
def execListWrapFill (dt : Nat) (s : State) : Host.Outcome State Fault Refusal := .next (s.advance dt).wrapFill

/-- LIST_PORT_DRAIN. -/
def execListPortDrain (dt : Nat) (tile : Fin 96) (s : State) : Host.Outcome State Fault Refusal :=
  .next ((s.advance dt).listDrain tile.val)

end Sys2Proof.Machine
end

