-- ==== Sys2Proof/Machine/Power.lean ====
section
/-! DEFINITION. Rails and resets, the entry to BOOT, power domains and the power modes (R61, R68 to R90, R364, R557). -/

namespace Sys2Proof.Machine

/-! ### Rails and reset (R68 to R75, R557) -/

/-- Every rail is good. -/
def railsAll : Nat := 0x3FF

/-- The bits of PWR_RST_CAUSE that a brownout of a rail sets; VDD_AON has none. -/
def railCause (rail : Nat) : Nat := if rail < 9 then 2 ^ rail else 0

/-- A bit field of PWR_RST_CAUSE is set. -/
def State.setCause (s : State) (n : Nat) : State :=
  s.setWord PWR_RST_CAUSE.addr (BitVec.ofNat 32 (orN (s.word PWR_RST_CAUSE.addr).toNat n))

/-- Everything that a reset by rails or PORST_N leaves: registers and units as at reset, DRAM undefined. PWR_RST_CAUSE keeps its
bits, the fuses are not volatile, and the levels of balls stay what they are. -/
def State.cold (s : State) : State :=
  let (g, s) := s.fresh
  { pending := s.pending, now := s.now, out := s.out, freeCount := s.freeCount
    regs := s.regs.filter (fun p => p.1 == PWR_RST_CAUSE.addr || (p.1 == THM_SHUT_INFO.addr && s.thm.shut))
    dram := s.dram.forget 0 (2 ^ 40) g
    fuse := { s.fuse with burn := none, stage := [], tap := 0, ceilEff := s.fuse.ceilRead }
    lnk := { sref := s.lnk.sref }
    encIn := s.encIn
    thm := { shut := s.thm.shut }
    pwr := { rails := s.pwr.rails, porstHigh := s.pwr.porstHigh, resetHigh := s.pwr.resetHigh, timer := false
             fromLockout := s.pwr.fromLockout, bootSrc := s.pwr.bootSrc
             quad114 := s.pwr.quad114, quad144 := s.pwr.quad144 } }

/-- The rising edge of PORST_N, or what counts as one (R61, R71, R72): the straps are sampled and the release timer starts. -/
def State.porstRise (s : State) (bootSrc : Nat) : State :=
  { s with pwr := { s.pwr with porstHigh := true, bootSrc := bootSrc, timer := true, released := false } }

/-- A rail becomes good (R68, R71, R72). VDD_AON sets AON_FIRST alone; the last rail ends OFF. -/
def State.railGood (s : State) (rail : Nat) (porst : Bool) (bootSrc : Nat) : State :=
  if bit s.pwr.rails rail then s
  else
    let s := { s with pwr := { s.pwr with rails := setBit s.pwr.rails rail true } }
    let s := if rail = 9 then s.setWord PWR_RST_CAUSE.addr 0x400#32 else s
    if s.dev != .off || s.pwr.rails != railsAll then s
    else
      let s := if s.pwr.fromLockout then s.setCause (2 ^ 13) else s
      let s := { s with dev := .reset, pwr := { s.pwr with fromLockout := false, porstHigh := porst } }
      if porst then s.porstRise bootSrc else s

/-- A low pulse of `ns` ns is taken as a reset (R73, log entry 8). -/
def State.takesPulse (s : State) (ns : Nat) : Bool × State :=
  if ns < 100 then (false, s)
  else if 10000 ≤ ns then (true, s)
  else
    let (n, s) := s.fresh
    (Config.takesPulse n, s)

/-- A low pulse on PORST_N ends (R71 to R73, R557). One that began before the rails were good sets no cause. -/
def State.porstPulse (s : State) (ns bootSrc : Nat) : State :=
  if s.dev == .off || s.dev == .lockout then s
  else if !s.pwr.porstHigh then s.porstRise bootSrc
  else
    let (taken, s) := s.takesPulse ns
    if taken then ((s.cold).setCause (2 ^ 11)).porstRise bootSrc else s

/-- RESET_N goes low: a warm reset, outside LOCKOUT and with PORST_N high (R75, R557). The always-on domain goes on; every
switchable domain passes through Off. -/
def State.warmReset (s : State) (ns : Nat) : State :=
  let (taken, s) := s.takesPulse ns
  if !taken then s
  else
    let s := { s with pwr := { s.pwr with resetHigh := false } }
    if s.dev == .off || s.dev == .lockout || !s.pwr.porstHigh then s
    else
      let s := (s.setCause (2 ^ 12)).setDev .reset 0
      let s := s.each (List.range 136) State.resetDomain
      let s := s.each (List.range 136) (fun s d => s.putB (domBit d) true)
      let s := s.each (List.range 136) (fun s d =>
        s.putB ⟨PWR_DOM_REQD.addr (d / 32), d % 32, d % 32⟩ ([120, 121, 122, 125].contains d))
      let s := ((s.put PWR_MODE.MODE 0).putB PWR_DOM_STAT.BUSY false).put GLB_EPOCH.EPOCH 0
      let (g, s) := s.fresh
      { s with
        acqOpen := false, decided := false, frm := {}, img := {}, mem := {}
        dram := s.dram.forget 0 (2 ^ 40) g
        pwr := { s.pwr with released := false, waking := 2 ^ 136 - 1, barred := 0, req := none, stbyOff := 0, stbyLeft := 0
                            stbyFail := false } }

/-- The internal reset releases (R71, R24, R399): every switchable domain begins to wake. -/
def State.release (s : State) : State :=
  let s := s.put GLB_EPOCH.EPOCH 0
  { s with releasedAt := s.now, lpe := { gridAt := s.now }, pwr := { s.pwr with released := true, timer := false } }

/-- The 1.0 ms timer expires; while RESET_N is low the reset is still held (R71). -/
def State.timerExpires (s : State) : State :=
  if s.dev != .reset || !s.pwr.timer || !s.pwr.porstHigh then s
  else if s.pwr.resetHigh then s.release
  else { s with pwr := { s.pwr with timer := false } }

/-- RESET_N rises (R61, R71). -/
def State.resetRise (s : State) (bootSrc : Nat) : State :=
  if s.pwr.resetHigh then s
  else
    let s := { s with pwr := { s.pwr with resetHigh := true } }
    if s.dev != .reset || !s.pwr.porstHigh then s
    else
      let s := { s with pwr := { s.pwr with bootSrc := bootSrc } }
      if s.pwr.timer then s else s.release

/-- A rail stays below its brownout threshold for `ns` ns (R74). -/
def State.brownout (s : State) (rail ns : Nat) : State :=
  if ns < 1000 || !bit s.pwr.rails rail then s
  else
    let lock := s.dev == .lockout
    let was := s.dev
    let s := { s with pwr := { s.pwr with rails := setBit s.pwr.rails rail false } }
    let s : State :=
      if was == .off then s
      else
        let s := ({ s with thm := { s.thm with shut := false } } : State).cold
        let s := s.setCause (railCause rail)
        { s with dev := .off, pwr := { s.pwr with fromLockout := lock, released := false } }
    if rail = 9 then { s with pwr := { s.pwr with fromLockout := false } } else s

/-! ### Entry to BOOT (R88, R94, R347, R364, R373) -/

/-- The boot starts from the strapped source. With FACT_OK at 0, or BOOT_SRC 0b11, none is attempted. -/
def State.bootStart (s : State) : State :=
  let src := s.pwr.bootSrc
  if !s.fuse.factOk then s
  else if src = 3 then { s with img := { s.img with bootFailed := true } }
  else
    let s := s.startLoad src 0 true true
    if s.srcDenied src then s.loadFail { code := 0x01 } else s

/-- Every domain has woken, and the device enters BOOT; `sealSw`: the level of SEAL_SW. PLL-T starts to lock, and TCLK is stopped
until it has (R94). -/
def State.bootEntry (s : State) (sealSw : Nat) : State :=
  if s.dev != .reset || !s.pwr.released then s
  else
    let s := { s with pwr := { s.pwr with waking := 0 }, img := { s.img with bootAt := s.now }
                      clk := { s.clk with tDead := false, tclkOff := some (s.clk.tclkOff.getD s.now) } }
    let s := s.each (List.range 96) (fun s t => s.modTile t (fun x => { x with wokeAt := s.now }))
    let s := (s.putB CLK_STAT.PLLT_LOCK false).putB CLK_STAT.PLLT_BYP false
    let s := ((s.put SAF_SEAL.BOOT sealSw).put SAF_SEAL.NOW sealSw).putB SAF_SEAL.UNLOCK (bit sealSw 0)
    ((s.emdWake.showLink).setDev .boot 0).lanesCheck.bootStart

/-! ### Domain requests (R76 to R84) -/

/-- A domain that goes Off takes its lanes with it; a DRAM channel's devices go into self-refresh first (R431, R440). -/
def State.switchOff (s : State) (d : Nat) : State :=
  let s := s.domainOff d
  let s := if 112 ≤ d ∧ d < 120 then { s with mem := { s.mem with selfRef := setBit s.mem.selfRef (d - 112) true } } else s
  if 96 ≤ d ∧ d < 112 then s.lanesCheck else s

/-- BOOT before a boot has failed, or while a load runs (R78). -/
def State.booting (s : State) : Bool := s.dev == .boot && (!s.img.bootFailed || s.img.load.isSome)

/-- Results of a request. -/
def domOk : Nat := 0
def domBusy : Nat := 1
def domRequired : Nat := 2
def domDrainTimeout : Nat := 3
def domForced : Nat := 4
def domBadId : Nat := 5
def domNoChange : Nat := 6
def domLockedOn : Nat := 7
def domLockedOff : Nat := 8
def domBooting : Nat := 9

/-- The result that refuses a request while none is in progress (R77 to R80). A request to switch off a required domain that is Off already
meets both R78 and R80, which state no order: it answers NO_CHANGE (DESIGN CHOICE; log entry 87). So does one for an ID above 135 while the
device boots: it answers BOOTING (DESIGN CHOICE; log entry 100). -/
def State.domRefused (s : State) (d : Nat) (on : Bool) : Option Nat :=
  let full := s.dev == .run || s.dev == .degraded || s.dev == .safeStop
  firstCode [
    (!on && (d == 122 || d == 125), domLockedOn),
    (s.booting, domBooting),
    (decide (136 ≤ d), domBadId),
    (!on && s.dev == .boot && d == 135, domRequired),
    (on && s.heldOff d, domLockedOff),
    (s.domBitOn d == on, domNoChange),
    (!on && full && s.domReqd d, domRequired)]

/-- A request ends. -/
def State.domEnd (s : State) (r : Nat) : State :=
  (({ s with pwr := { s.pwr with req := none } } : State).putB PWR_DOM_STAT.BUSY false).put PWR_DOM_STAT.RESULT r

/-- A write of PWR_DOM_CTL (R80). While BUSY is 1 every request answers BUSY, one to switch off 122 or 125 (R77) too (DESIGN CHOICE; log entry
100). -/
def State.domRequest (s : State) (d : Nat) (on force : Bool) : State :=
  if s.pwr.req.isSome then s.put PWR_DOM_STAT.RESULT domBusy
  else
    let s := s.put PWR_DOM_STAT.LAST_ID d
    match s.domRefused d on with
    | some r => s.put PWR_DOM_STAT.RESULT r
    | none =>
      let s := s.putB PWR_DOM_STAT.BUSY true
      if on then ({ s with pwr := { s.pwr with req := some (.wake d) } } : State).switchOn d
      else { s with pwr := { s.pwr with req := some (.drain d force), barred := setBit s.pwr.barred d true } }

/-- The apply in progress waits for a domain to drain (R371). -/
def State.applyDrains (s : State) (d : Nat) : Bool := s.img.apply.any (fun a => bit a.left d)

/-- A domain that an apply takes through Off goes Off. -/
def State.applyOff (s : State) (d : Nat) : State :=
  let s := s.domainOff d
  { s with img := { s.img with apply := s.img.apply.map (fun a => { a with left := setBit a.left d false }) } }

/-- Every transfer that touches a domain being switched off has drained (R82, R89, R371). -/
def State.drainDone (s : State) (d : Nat) : State :=
  if !(s.inFlightOn d).isEmpty then s
  else
    let asked : Bool := match s.pwr.req with
      | some (.drain e _) => e == d
      | _ => false
    if asked then (s.switchOff d).domEnd domOk
    else if bit s.pwr.stbyLeft d then
      let s := s.switchOff d
      { s with pwr := { s.pwr with stbyLeft := setBit s.pwr.stbyLeft d false, stbyOff := setBit s.pwr.stbyOff d true } }
    else if s.applyDrains d then s.applyOff d
    else s

/-- A domain that could not drain stays On (R83). -/
def State.drainGivenUp (s : State) (d : Nat) : State :=
  ({ s with pwr := { s.pwr with barred := setBit s.pwr.barred d false } } : State).shuKick.raise 519 0 d

/-- The 100 µs drain timer of a domain expires with transfers in flight (R83, R84, R89, R371). -/
def State.drainTimeout (s : State) (d : Nat) : State :=
  if (s.inFlightOn d).isEmpty then s
  else
    let asked : Option Bool := match s.pwr.req with
      | some (.drain e f) => if e == d then some f else none
      | _ => none
    match asked with
    | some true => (s.switchOff d).domEnd domForced
    | some false => (s.drainGivenUp d).domEnd domDrainTimeout
    | none =>
      if bit s.pwr.stbyLeft d then
        let s := s.drainGivenUp d
        { s with pwr := { s.pwr with stbyLeft := setBit s.pwr.stbyLeft d false, stbyFail := true } }
      else if s.applyDrains d then s.applyOff d
      else s

/-- What a domain does beyond its registers when it reports ready. -/
def State.domHook (s : State) (d : Nat) : State :=
  if d < 96 then s.modTile d (fun x => { x with wokeAt := s.now })
  else if 112 ≤ d ∧ d < 120 then { s with mem := { s.mem with selfRef := setBit s.mem.selfRef (d - 112) false } }
  else if d = 120 then s.emdWake
  else s

/-- Lanes and engine that the loaded image does not configure go to work with readiness. -/
def State.lanesReady (s : State) (d : Nat) : State :=
  if s.awaitsGroup d then s
  else if d = 133 then s.showLink.lanesCheck
  else if 96 ≤ d ∧ d < 112 then s.lanesCheck
  else s

/-- A domain reports ready (R86, R87). A wake that LOCKOUT has undone ends with LOCKED_OFF (R79). -/
def State.domReady (s : State) (d : Nat) : State :=
  let asked := s.pwr.req == some (.wake d)
  if s.dev == .off || s.dev == .reset then s
  else if !s.domBitOn d then (if asked then s.domEnd domLockedOff else s)
  else if !bit s.pwr.waking d then s
  else
    let s := { s with pwr := { s.pwr with waking := setBit s.pwr.waking d false } }
    let s := ((s.domHook d).wakeStage d).lanesReady d
    if asked then s.domEnd domOk else s

/-! ### Power modes (R88 to R90) -/

/-- A lane that stays On in STANDBY: PCI Express, a cell port, or marked in ROUTE word 97 (R89). -/
def State.laneStays (s : State) (n : Nat) : Bool :=
  quadModeIn s.img.cfg.link (n / 4) == 1 || bit (nth s.img.cfg.route 97 0) n ||
    allPorts.any (fun p => portValid s.img.cfg.link p && portCellIn s.img.cfg.link p && (s.portLanes p).contains n)

/-- The domains that STANDBY switches off (R89). -/
def State.standbyDoms (s : State) : List Nat :=
  List.range 96 ++ [120, 123, 126] ++ ((List.range 16).filter (fun n => !s.laneStays n)).map (fun n => 96 + n)

/-- STANDBY (R89): the domains begin to drain, and every DRAM channel goes into self-refresh. -/
def State.standby (s : State) : State :=
  s.ringCmd opStandby .standby (fun c _ s =>
    let doms := s.standbyDoms.filter s.domBitOn
    let left := maskOf 136 doms.contains
    let s := { s with
      pwr := { s.pwr with stbyLeft := left, barred := orN s.pwr.barred left, stbyOff := 0, stbyFail := false }
      mem := { s.mem with selfRef := orN s.mem.selfRef s.onChannels } }
    (s.put PWR_MODE.MODE 1).startCmd c)

/-- Entry to STANDBY ends (R89, R90). A domain that did not drain rolls it back. -/
def State.standbyEnd (s : State) : State :=
  if s.get PWR_MODE.MODE != 1 then s
  else if s.pwr.stbyFail then
    s.standbyUndo.completeAll (fun c => c.wait == .standby) stFailed domDrainTimeout
  else if s.pwr.stbyLeft != 0 then s
  else (s.put PWR_MODE.MODE 2).completeAll (fun c => c.wait == .standby) stOk 0

/-- WAKE (R90). -/
def State.wake (s : State) : State :=
  s.ringCmd opWake .wake (fun c _ s => (s.standbyBack.put PWR_MODE.MODE 3).startCmd c)

/-- The woken domains are back, each with its records landed (R87, R90). -/
def State.wakeDone (s : State) : State :=
  if s.get PWR_MODE.MODE != 3 || (bitList 136 s.pwr.stbyOff).any (fun d => bit s.pwr.waking d || s.awaitsGroup d) then s
  else
    let s := ({ s with pwr := { s.pwr with stbyOff := 0 } } : State).put PWR_MODE.MODE 0
    s.completeAll (fun c => c.wait == .wake) stOk 0

/-! ### Commands -/

/-- RAIL_GOOD. -/
def execRailGood (dt : Nat) (rail : Fin 10) (porst : Bool) (bootSrc : Fin 4) (s : State) : Host.Outcome State Fault Refusal :=
  .next ((s.advance dt).railGood rail.val porst bootSrc.val)

/-- VDD_AON_GOOD. -/
def execVddAonGood (dt : Nat) (porst : Bool) (bootSrc : Fin 4) (s : State) : Host.Outcome State Fault Refusal :=
  .next ((s.advance dt).railGood 9 porst bootSrc.val)

/-- RESET_RELEASE. -/
def execResetRelease (dt : Nat) (s : State) : Host.Outcome State Fault Refusal := .next (s.advance dt).timerExpires

/-- BOOT_ENTRY. -/
def execBootEntry (dt : Nat) (sealSw : Fin 16) (s : State) : Host.Outcome State Fault Refusal :=
  .next ((s.advance dt).bootEntry sealSw.val)

/-- PORST_N_ASSERT. -/
def execPorstNAssert (dt lowNs : Nat) (bootSrc : Fin 4) (s : State) : Host.Outcome State Fault Refusal :=
  .next ((s.advance dt).porstPulse lowNs bootSrc.val)

/-- WARM_RESET. -/
def execWarmReset (dt lowNs : Nat) (s : State) : Host.Outcome State Fault Refusal := .next ((s.advance dt).warmReset lowNs)

/-- RESET_N_RELEASE. -/
def execResetNRelease (dt : Nat) (bootSrc : Fin 4) (s : State) : Host.Outcome State Fault Refusal :=
  .next ((s.advance dt).resetRise bootSrc.val)

/-- BROWNOUT. -/
def execBrownout (dt : Nat) (rail : Fin 10) (lowNs : Nat) (s : State) : Host.Outcome State Fault Refusal :=
  .next ((s.advance dt).brownout rail.val lowNs)

/-- POWER_DOMAIN_REQUEST. -/
def execPowerDomainRequest (dt : Nat) (id : Fin 256) (on force : Bool) (s : State) : Host.Outcome State Fault Refusal :=
  .next ((s.advance dt).hostReg PWR_DOM_CTL.addr (fun s => s.domRequest id.val on force))

/-- DOMAIN_DRAIN_DONE. -/
def execDomainDrainDone (dt : Nat) (id : Fin 136) (s : State) : Host.Outcome State Fault Refusal :=
  .next ((s.advance dt).drainDone id.val)

/-- DRAIN_TIMEOUT. -/
def execDrainTimeout (dt : Nat) (id : Fin 136) (s : State) : Host.Outcome State Fault Refusal :=
  .next ((s.advance dt).drainTimeout id.val)

/-- DOM_READY. -/
def execDomReady (dt : Nat) (id : Fin 136) (_late : Bool) (s : State) : Host.Outcome State Fault Refusal :=
  .next ((s.advance dt).domReady id.val)

/-- STANDBY. -/
def execStandby (dt : Nat) (s : State) : Host.Outcome State Fault Refusal := .next (s.advance dt).standby

/-- STANDBY_ENTRY_DONE. -/
def execStandbyEntryDone (dt : Nat) (s : State) : Host.Outcome State Fault Refusal := .next (s.advance dt).standbyEnd

/-- WAKE. -/
def execWake (dt : Nat) (s : State) : Host.Outcome State Fault Refusal := .next (s.advance dt).wake

/-- WAKE_DONE. -/
def execWakeDone (dt : Nat) (s : State) : Host.Outcome State Fault Refusal := .next (s.advance dt).wakeDone

end Sys2Proof.Machine
end

