-- ==== Sys2Proof/Machine/Frame.lean ====
section
/-! DEFINITION. The frame: the tick, the view, the close of the acquisition window, the frame decision, and the changes of state
that they bring (R15 to R39, R300, R326 to R341). -/

namespace Sys2Proof.Machine

/-! ### The end of a frame (R20, R37) -/

/-- An audit phase of a tile has not reached its verdict (R20). -/
def State.auditLate (s : State) (t : Nat) : Bool := s.domOn t && (s.tileSt t).aud.run && !(s.tileSt t).aud.made

/-- The window sums and suppressed shots of the emitter groups, as a view holds them (R37, R205). -/
def State.groupSums (s : State) : Tab Nat :=
  let sums := (List.range 24).flatMap (fun g => (List.range 4).map (fun w => (winKey w g, s.winSum w g)))
  let supp := (List.range 24).map (fun g => (128 + g, tabGet (fun _ => 0) s.emd.supp g))
  (sortBy (fun a b => decide (a.1 < b.1)) (sums ++ supp)).filter (fun p => p.2 != 0)

/-- The degraded timer in ms. -/
def State.degMs (s : State) : Nat := s.degAcc / (8 * 1000 * usLsb)

/-- The frame in progress ends: what has not completed is reported, and its status is taken for publication. `off`: the tick is out of
bounds, and LOCKOUT takes the place of a SAFE_STOP (R328). -/
def State.frameEnd (s : State) (off : Bool) : State :=
  let s := (if (List.range 96).any s.auditLate then s.diagOverrun else s).recordsEnd.retake
  let n := s.diagFrames
  let s := { s with saf := { s.saf with diagRun := n } }
  let s := if 3 ≤ n && !off then s.safeStop 0x0D else s
  let s := s.pauseEnd.teachFrame
  let s := (s.put SAF_STAT.STATE s.dev.code).put SAF_STAT.DEG_TMR s.degMs
  let s := if s.domOn 123 then s.putB TRD_BIAS_STAT.SOURCE s.trd.target.isSome else s
  let s := if s.supRuns then s.putB SUP_STAT.RUN true else s
  { s with closing := { epoch := s.epoch, regs := s.regs, dec := s.sel.dec, sums := s.groupSums }, viewDue := true }

/-- What a frame counts or reports once starts anew. -/
def State.frameBegin (s : State) : State :=
  let s := { s with
    acqOpen := true, decided := false, incRaised := false, dataOvrRaised := false, frm := {}
    shu := s.shu.map (fun (p : Nat × ShuChan) => (p.1, { p.2 with dropRaised := false }))
    mem := { s.mem with ceRaised := 0 }, lpe := { s.lpe with dropRaised := false } }
  let s := { s with saf := { s.saf with tick0 := some (s.saf.tick0.getD s.now) } }
  (s.setWord GLB_FRAME_STAT.addr 0).lnkTick

/-- The epoch that a tick opens (R11, R24), or that of the cell (R117). -/
def State.nextEpoch (s : State) : State :=
  match s.joinEpoch with
  | some e =>
    let s := ({ s with saf := { s.saf with joined := true } } : State).put GLB_EPOCH.EPOCH e
    s.raise 523 0 0
  | none => s.put GLB_EPOCH.EPOCH ((s.epoch + 1) % 2 ^ 32)

/-! ### Landing (R27 to R36, R87, R370) -/

/-- Where a swap lands at the tick, the groups of domains that wake bring the new image's values (R370). -/
def State.swapGroups (s : State) : State :=
  if !s.swapLands then s
  else
    let slot := s.idleSlot
    { s with stage := { s.stage with groups := s.stage.groups.map (fun g =>
        match g.kind with
        | .domain d => if g.late then g else { g with writes := s.wakeWrites slot d }
        | _ => g) } }

/-- A domain whose group has landed goes to work. -/
def State.groupLanded (s : State) (k : GroupKind) : State :=
  match k with
  | .domain d => if s.domOn d then (s.wakeLanded d).claimWoken d else s
  | _ => s

/-- Staged configuration becomes effective. -/
def State.landAll (s : State) : State :=
  let s := s.swapGroups
  let before := s
  let written := s.landingAddrs
  let kinds := s.stage.landKinds
  let s := (s.landStage s.epoch).landed before written
  s.swapLand.each kinds State.groupLanded

/-! ### The blocks at a tick -/

/-- A tile at a tick. `before`: the state before the landing. -/
def State.tileTick (before : State) (s : State) (t : Nat) : State :=
  let s := s.rxTick before t
  let s := (s.autoSub t (before.flag (T_SLICE_MAP.SUB_EN t)) (before.hostStaged (T_SLICE_MAP.SUB_EN t).addr)).sliceTick t
  (((s.auditTick t).listTick t).reedTick t).retTick t

/-- The accepted RUN, or the return from DEGRADED, takes effect (R327, R328, R341). -/
def State.runTick (s : State) : State :=
  if s.saf.runNext && (s.dev == .configured || s.dev == .safeStop) then
    let l := s.cmds.filter (fun c => c.wait == .runTick)
    let s := { s with cmds := s.cmds.filter (fun c => c.wait != CmdWait.runTick), degAcc := 0
                      saf := { s.saf with runNext := false, diagRun := 0 } }
    let s := s.setDev .run 0
    let s := s.each l (fun s c => s.complete c stOk 0)
    s.pairsEnterRun.axesZero
  else if s.saf.backNext && s.dev == .degraded then
    (({ s with saf := { s.saf with backNext := false } } : State).setDev .run 0)
  else s

/-- MAINT and LEAVE_MAINT take effect (R326, R386). -/
def State.maintTick (s : State) : State :=
  let l := s.cmds.filter (fun c => c.wait == .tick)
  let s := { s with cmds := s.cmds.filter (fun c => c.wait != CmdWait.tick) }
  s.each l (fun s c => (s.setDev (if c.op = opMaint then .maintenance else .configured) 0).complete c stOk 0)

/-- A monitor of program flow or sequence finds a fault (R331, R335): LOCKOUT with cause FLOW. -/
def State.flowFault (s : State) : State := s.lockout 0x06

/-- The tick (R11, R15, R16, R27): `fsel` is the taken code of the FSEL balls. -/
def State.frameTick (s : State) (fsel : Nat) : State :=
  if !s.dev.ticks then s
  else
    let off := s.tickOff
    let s := (s.settleAll.frameEnd off).nextEpoch.frameBegin
    let s := if off then s.flowFault else s
    let before := s
    let s := s.landAll.ceilTick
    let s := s.supFrame.hedTick
    let s := s.each s.tilesOn (State.tileTick before)
    let s := (s.countMissing 3).clkTick
    let s := if s.flag CLK_STAT.PLLT_BYP then s.clkTFrame else s
    let s := s.sealTick
    let s := s.runTick.maintTick
    let s := s.selTick fsel s.saf.selMsg before.img.swap.isSome
    let s := s.rotateRaw.applyTick
    let s := s.trdTick
    let s := (s.each (List.range 8) State.axisTick).biasRefresh
    s.putB SAF_STAT.DEG (s.dev == .degraded)

/-! ### The rest of the frame -/

/-- The published view switches (R37); during a hold the switch is counted, and a hold placed in the cycle of the switch holds the
new view (R391). -/
def State.viewSwitch (s : State) : State :=
  if !s.viewDue then s
  else
    let s := { s with view := s.closing, viewDue := false }
    if s.held.isNone then s
    else if s.snapNow then { s with held := some s.view }
    else s.bump CLP_STAT.SKIPPED

/-- The acquisition window closes (R17, R20, R151, R199). -/
def State.acqClose (s : State) : State :=
  if !s.dev.ticks || !s.acqOpen then s
  else
    let s := s.hedClose
    let s := { s with acqOpen := false }
    s.sumCheck.each s.tilesOn State.dllClose

/-- The commands RUN that wait are judged at a decision (R327). -/
def State.runJudge (s : State) : State :=
  let l := s.cmds.filter (fun c => c.wait == .runJudge)
  if l.isEmpty then s
  else if s.runBlock = 0 then
    { s with
      cmds := s.cmds.map (fun c => if c.wait == .runJudge then { c with wait := .runTick } else c)
      saf := { s.saf with runNext := true } }
  else s.completeAll (fun c => c.wait == .runJudge) stNotReady 0

/-- Selvedge issues the frame decision (R300). With domain 121 Off there is none. -/
def State.decision (s : State) (safeIn edm : Nat) (crcDone : Bool) : State :=
  if !s.dev.ticks || s.acqOpen || s.decided || !s.domOn 121 then s
  else
    let s := { s with saf := { s.saf with safeIn := safeIn } }
    ((s.put SAF_OSSD_STAT.EDM edm).frameDecide false crcDone).runJudge

/-- 20 µs before the tick (R20): returns still pending leave the safety path, and without a decision the safety core takes a
violation. -/
def State.deadline (s : State) : State :=
  if !s.dev.ticks || s.acqOpen then s
  else
    let s := s.extractDeadline
    if s.decided then s.retake else (s.selOverrun.frameDecide true false).runJudge

/-- The degraded timer reaches the effective T_deg (R340). -/
def State.degExpires (s : State) : State :=
  if s.dev == .degraded && decide (s.tDeg ≤ s.degAcc) then s.safeStop 0x02 else s

/-- An SRAM error (R336). -/
def State.eccError (s : State) (corrected selvedge : Bool) : State :=
  if s.dev == .off || s.dev == .reset then s
  else if corrected then (s.bump SAF_DIAG_CNT.ECC_CORR).raise 527 0 0
  else if selvedge then { s with sel := { s.sel with corrupt := true } }
  else s.lockout 0x0C

/-! ### Commands -/

/-- FRAME_TICK. -/
def execFrameTick (dt : Nat) (fsel : Fin 256) (s : State) : Host.Outcome State Fault Refusal :=
  .next ((s.advance dt).frameTick fsel.val)

/-- VIEW_SWITCH. -/
def execViewSwitch (dt : Nat) (s : State) : Host.Outcome State Fault Refusal := .next (s.advance dt).viewSwitch

/-- ACQ_WINDOW_CLOSE. -/
def execAcqWindowClose (dt : Nat) (s : State) : Host.Outcome State Fault Refusal := .next (s.advance dt).acqClose

/-- DECISION_DEADLINE. -/
def execDecisionDeadline (dt : Nat) (s : State) : Host.Outcome State Fault Refusal := .next (s.advance dt).deadline

/-- FRAME_DECISION. -/
def execFrameDecision (dt : Nat) (safeIn : Fin 16) (edm : Fin 4) (crcDone : Bool) (s : State) :
    Host.Outcome State Fault Refusal := .next ((s.advance dt).decision safeIn.val edm.val crcDone)

/-- DEG_TIMER_EXPIRY. -/
def execDegTimerExpiry (dt : Nat) (s : State) : Host.Outcome State Fault Refusal := .next (s.advance dt).degExpires

/-- FLOW_FAULT. -/
def execFlowFault (dt : Nat) (s : State) : Host.Outcome State Fault Refusal := .next (s.advance dt).flowFault

/-- ECC_ERROR. -/
def execEccError (dt : Nat) (corrected selvedge : Bool) (s : State) : Host.Outcome State Fault Refusal :=
  .next ((s.advance dt).eccError corrected selvedge)

end Sys2Proof.Machine
end

