-- ==== Sys2Proof/Machine/Operands.lean ====
section
/-! DEFINITION. How operands are read: the time that a command carries, and the addresses of registers that come in arrays. -/

namespace Sys2Proof.Machine

/-- The time since the command before, which every command carries, in LSB of the TDC (log entry 2). -/
def timeOf : Instr → Nat
  | .railGood dt _ _ _ => dt
  | .resetRelease dt => dt
  | .bootEntry dt _ => dt
  | .porstNAssert dt _ _ => dt
  | .warmReset dt _ => dt
  | .brownout dt _ _ => dt
  | .powerDomainRequest dt _ _ _ => dt
  | .domainDrainDone dt _ => dt
  | .drainTimeout dt _ => dt
  | .domReady dt _ _ => dt
  | .standby dt => dt
  | .standbyEntryDone dt => dt
  | .wake dt => dt
  | .pllTLock dt => dt
  | .pllTLockTimeout dt => dt
  | .pllFLockAttempt dt _ _ _ => dt
  | .pllFBypass dt => dt
  | .pllFRetry dt => dt
  | .clkTFail dt => dt
  | .refclkLoss dt _ => dt
  | .clockMonitorFault dt _ => dt
  | .syncInEdge dt _ _ => dt
  | .syncLost dt => dt
  | .frameTick dt _ => dt
  | .viewSwitch dt => dt
  | .acqWindowClose dt => dt
  | .decisionDeadline dt => dt
  | .frameDecision dt _ _ _ => dt
  | .safetyMessageSend dt => dt
  | .frameCloseRecord dt => dt
  | .degTimerExpiry dt => dt
  | .flowFault dt => dt
  | .eccError dt _ _ => dt
  | .glbShadowOpen dt _ => dt
  | .glbShadowClose dt _ => dt
  | .glbShadowAbort dt => dt
  | .rwsWrite dt _ _ _ => dt
  | .registerWrite dt _ _ _ _ _ => dt
  | .snap dt _ => dt
  | .clpRelease dt => dt
  | .claspTimeout dt => dt
  | .nop dt => dt
  | .runCmd dt => dt
  | .stop dt => dt
  | .maint dt => dt
  | .leaveMaint dt => dt
  | .imgLoad dt => dt
  | .imgSwap dt => dt
  | .imgApply dt => dt
  | .imgAbort dt => dt
  | .plugWrite dt _ => dt
  | .cplHeadAdvance dt _ => dt
  | .mailboxPost dt => dt
  | .holdoffExpiry dt _ => dt
  | .msixUnmask dt _ => dt
  | .logDrain dt => dt
  | .logCoalesce dt => dt
  | .logEnable dt _ => dt
  | .hostReset dt _ => dt
  | .hostPowerState dt _ _ => dt
  | .bar4Access dt _ _ _ => dt
  | .bar2Access dt _ _ _ _ => dt
  | .biasMeasurement dt _ _ _ => dt
  | .hvOv dt => dt
  | .avalanche dt _ _ _ _ _ => dt
  | .pointIntervalEnd dt _ => dt
  | .seeding dt _ => dt
  | .extractHalf dt _ _ => dt
  | .exportDrain dt _ => dt
  | .dllUnlock dt _ _ => dt
  | .dllLock dt _ _ => dt
  | .sliceMarkTimeout dt _ _ => dt
  | .auditVerdict dt _ _ => dt
  | .sliceMark dt _ _ _ _ => dt
  | .sliceUnmark dt _ _ => dt
  | .listWrapFill dt => dt
  | .listPortDrain dt _ => dt
  | .shotSlotCommit dt _ => dt
  | .mpdIntegrationEnd dt _ _ _ => dt
  | .govBucketRoll dt _ => dt
  | .proofTrigger dt _ => dt
  | .diagSlot dt _ => dt
  | .driverTrip dt _ => dt
  | .emdStuckOn dt => dt
  | .clearOutputMarks dt _ _ => dt
  | .clearMpdFault dt _ => dt
  | .clearStuckOn dt => dt
  | .throttlePauseStart dt => dt
  | .thermalMeasurement dt _ _ => dt
  | .treadleSample dt _ _ => dt
  | .trdStart dt _ => dt
  | .encoderEdge dt _ _ _ _ _ => dt
  | .clrFe dt _ => dt
  | .rstI dt _ => dt
  | .clrHvOv dt _ => dt
  | .clrEnc dt _ => dt
  | .axisSpeedEval dt _ => dt
  | .safeInLow dt _ => dt
  | .ossdTestPulse dt _ => dt
  | .ossdReadbackSample dt _ => dt
  | .edmTimeout dt _ _ _ => dt
  | .ss1StopDone dt _ => dt
  | .button dt _ => dt
  | .buttonStuck dt _ => dt
  | .sealChange dt _ => dt
  | .plugChange dt _ => dt
  | .plugReadAttempt dt _ _ => dt
  | .fieldSetLoadDone dt _ _ => dt
  | .teachStart dt _ => dt
  | .teachAbort dt => dt
  | .teachDone dt => dt
  | .safetyMessageReceive dt _ => dt
  | .imgFeed dt _ _ _ => dt
  | .imgStreamTimeout dt => dt
  | .imgVerifyDone dt _ _ => dt
  | .swapPrepared dt _ => dt
  | .applyDone dt => dt
  | .burn dt _ => dt
  | .revoke dt _ => dt
  | .raiseSvn dt _ => dt
  | .burnDone dt _ _ => dt
  | .tapInstruction dt _ => dt
  | .integrationBoundary dt _ _ _ => dt
  | .supAccClr dt _ => dt
  | .loupeSample dt _ => dt
  | .loupeRecordWrite dt => dt
  | .lpeClear dt => dt
  | .retainExpiry dt => dt
  | .lpeCleared dt => dt
  | .chainFrame dt _ => dt
  | .ledPwmPeriod dt _ => dt
  | .ledThermalTrip dt _ => dt
  | .ledClear dt _ _ => dt
  | .descriptorTake dt _ _ _ => dt
  | .descriptorComplete dt _ => dt
  | .shuPause dt _ _ _ => dt
  | .shuAbort dt _ => dt
  | .streamRecordStage dt => dt
  | .streamFlushTimeout dt _ => dt
  | .atomicAdd dt => dt
  | .atomicCas dt => dt
  | .scrubStep dt _ _ => dt
  | .memSpared dt _ _ => dt
  | .laneDetectProbe dt _ _ => dt
  | .blockLock dt _ _ _ _ => dt
  | .adaptPresetStep dt _ _ => dt
  | .trainStepTimeout dt _ => dt
  | .trainTo dt _ => dt
  | .backoffExpiry dt _ => dt
  | .retrain dt _ => dt
  | .srefChange dt _ _ => dt
  | .train dt _ _ _ _ _ => dt
  | .align dt _ _ _ _ _ => dt
  | .portUp dt _ => dt
  | .portDown dt _ => dt
  | .flit dt _ _ _ _ _ => dt
  | .bobbin dt _ _ _ _ _ _ _ => dt
  | .flitSend dt _ _ => dt
  | .doze dt _ _ => dt
  | .dozeIdleTimeout dt _ => dt
  | .deepIdleTimeout dt _ => dt
  | .resetNRelease dt _ => dt
  | .vddAonGood dt _ _ => dt
  | .refclkReturn dt _ => dt
  | .sliceSettleDone dt _ => dt
  | .throttlePauseEnd dt => dt
  | .encoderShortPulse dt _ _ _ => dt
  | .configUnlockChange dt _ => dt
  | .shuttleRequestDone dt _ _ _ _ _ _ _ => dt
  | .badCommand dt => dt
  | .registerRead dt _ => dt
  | .alignColumnMissing dt _ => dt
  | .dozeExit dt _ => dt
  | .deepExit dt _ => dt
  | .controlColumnSend dt _ _ => dt
  | .bobbinReturn dt _ _ => dt
  | .wakeDone dt => dt
  | .buttonPress dt _ => dt

/-- The address is, in some tile, that of the register that tile 0 has at `a0` (R526). -/
def isTileReg (addr a0 : Nat) : Bool := decide (0x100_0000 ≤ addr) && addr % 0x1_0000 == a0 % 0x1_0000

/-- The tile of a tile register's address (R525). -/
def tileOfAddr (addr : Nat) : Nat := (addr - 0x100_0000) / 0x1_0000

/-- The slot and the bank, A 0 or B 1, of a coefficient register of Treadle (R275). -/
def trdBankOf (addr : Nat) : Option (Nat × Nat) :=
  if addr < 0xC_0100 ∨ 0xC_0500 ≤ addr then none
  else
    let k := (addr - 0xC_0100) / 128
    let r := (addr - 0xC_0100) % 128
    if 0x20 ≤ r ∧ r < 0x38 then some (k, 0) else if 0x40 ≤ r ∧ r < 0x58 then some (k, 1) else none

end Sys2Proof.Machine
end

