-- ==== Sys2Proof/Machine/Host.lean ====
section
/-! DEFINITION. The host interface: writes and reads of BAR0 (R8 to R10, R81, R379 to R381, R528, R529), the Clasp hold (R391, R392),
the commands of the ring that have no chapter of their own (R384, R385), the mailbox (R390), vectors (R395), the log ring
(R398) and the host resets (R377, R378). -/

namespace Sys2Proof.Machine

/-! ### Clasp (R391, R392) -/

/-- A write of SNAP. -/
def State.snap (s : State) : State :=
  if s.held.isSome then s.hwUp CLP_STAT.NEST
  else ({ s with held := some s.view, snapNow := true } : State).put CLP_STAT.SKIPPED 0

/-- A write of RELEASE. -/
def State.unhold (s : State) : State := if s.held.isSome then { s with held := none } else s.hwUp CLP_STAT.NEST

/-- A hold has lasted CLP_CFG.TIMEOUT ms. -/
def State.holdTimeout (s : State) : State :=
  if s.held.isSome && s.get CLP_CFG.TIMEOUT != 0 then
    (({ s with held := none } : State).hwUp CLP_STAT.TIMED_OUT).raise 514 0 0
  else s

/-- A write of CLP_CMD: with both bits, the release comes first. -/
def State.clpCmd (s : State) (snap rel : Bool) : State :=
  let s := if rel then s.unhold else s
  if snap then s.snap else s

/-! ### Vectors (R395) -/

/-- The vectors that are unmasked with their PBA bit set send their message, or wait for their holdoff. -/
def State.vecUnmasked (s : State) (v : Nat) : State :=
  if !s.pci.msixEn || s.vecMasked v || !s.flag (pbaBit v) then s else (s.putB (pbaBit v) false).vecTrigger v

/-- The message control of MSI-X is written in the configuration space, which is reached while there is a host link (R435). -/
def State.msixControl (s : State) (en funcMask : Bool) : State :=
  if !s.hostLink then s
  else ({ s with pci := { s.pci with msixEn := en, funcMask := funcMask } } : State).each (List.range 512) State.vecUnmasked

/-- A vector's holdoff ends. -/
def State.holdoffEnd (s : State) (v : Nat) : State :=
  if !s.evt.holdoff.contains v then s
  else
    let trig := s.evt.heldTrig.contains v
    let s := { s with evt := { s.evt with
      holdoff := s.evt.holdoff.filter (fun x => x != v)
      heldTrig := s.evt.heldTrig.filter (fun x => x != v) } }
    if trig then s.vecTrigger v else s

/-! ### The log ring (R398) -/

/-- A write of EVT_LOG_CTL. -/
def State.logCtl (s : State) (en : Bool) (size : Nat) : State :=
  let was := s.flag EVT_LOG_CTL.EN
  let s := if !was && decide (8 ≤ size) && decide (size ≤ 20) then s.put EVT_LOG_CTL.SIZE_LOG2 size else s
  if !en then s.putB EVT_LOG_CTL.EN false
  else if was || s.ringBarred (s.get64 EVT_LOG_BASE_LO.BASE EVT_LOG_BASE_HI.BASE) (32 * s.logSize) then s
  else (s.put EVT_LOG_HEAD.INDEX (s.get EVT_LOG_TAIL.INDEX)).putB EVT_LOG_CTL.EN true

/-! ### Completions and the mailbox -/

/-- A write of GLB_CPL_PTR.HEAD (R388). -/
def State.cplHead (s : State) (h : Nat) : State :=
  let s := s.put GLB_CPL_PTR.HEAD h
  (s.cplRelease s.heldCpl.length).showStall

/-- The posted message (R390). A message that only sets a baseline fails no check; one that meets a device which has not joined is
not checked. -/
def State.mailboxPost (s : State) : State :=
  let m := (List.range 16).map (fun k => s.get (GLB_MBX_RX.WORD k))
  let fate := s.msgFate m
  let s := s.putB GLB_MBX_RX_STAT.PASS (fate == .pass || fate == .baseline)
  let s := if fate == .fail then s.bump GLB_MBX_RX_STAT.FAIL_CNT else s
  s.msgReceive m

/-! ### Writes -/

/-- Fields of one access type of the register at an address. -/
def fieldsOf (addr : Nat) (acc : Access) : List Fld :=
  match regAt addr with
  | some r => (r.fields.filter (fun f => f.acc == acc)).map (fun f => f.at' addr)
  | none => []

/-- The bits of a W1C field that hardware has set in the running cycle (R10): those that cyc does not hold (State.hwUp), and the
pending bits of the sources that have raised in it. -/
def State.hwSet (s : State) (f : Fld) : Nat :=
  let pend := maskOf 32 (fun b => s.evt.raised.any (fun r => evtPend r.1 == ⟨f.addr, b, b⟩))
  orN (andNotN (f.hi + 1 - f.lo) (s.get f) (getIn s.cyc f)) (bitsOf pend f.hi f.lo)

/-- RW fields take their bits, and W1C fields lose the bits written as 1, but for those that hardware sets in the same cycle
(R8, R10; log entry 80). -/
def State.writePlain (s : State) (addr : Nat) (data : Word) : State :=
  let s := s.each (fieldsOf addr .rw) (fun s f => s.put f (wordBits data f.hi f.lo))
  s.each (fieldsOf addr .w1c) (fun s f =>
    let n := f.hi + 1 - f.lo
    s.put f (andNotN n (s.get f) (andNotN n (wordBits data f.hi f.lo) (s.hwSet f))))

/-- A clear of the first-error record of a class: the lowest ID that raises in the same cycle is recorded (R397). -/
def State.firstWrite (s : State) (addr : Nat) (data : Word) : State :=
  let k := (addr - EVT_FIRST_SRC.addr 0) / 8
  let l := sortBy (fun a b => decide (a.1 < b.1)) (s.evt.raised.filter (fun r => evtClass r.1 == k))
  let s := s.writePlain addr data
  match l.head? with
  | some r => if bit data.toNat 31 then s.putFirst r.1 r.2.1 r.2.2 else s
  | none => s

/-- RWS fields are staged. A write of LPE_CTL.EN at 1 is ignored while the ring may not run (R504). -/
def State.writeStaged (s : State) (addr : Nat) (data : Word) : State :=
  s.stageWrites (s.lpeMayRun (fieldWrites addr data))

/-- A clear of SAF_CAUSE (R329): ignored in RUN and DEGRADED, and never of SEAL and CLOCK. -/
def State.writeCause (s : State) (data : Word) : State :=
  if s.dev.running then s else s.writePlain SAF_CAUSE.addr (data &&& 0xFFFF_FEEF#32)

/-- EMD_CMD (R202, R203). -/
def State.emdCmd (s : State) (data : Word) (ext : Bool) : State :=
  let i := wordBits data 6 0
  match wordBits data 31 30 with
  | 1 => s.clearOut i ext
  | 2 => s.clearMpd i
  | 3 => s.clearStuck
  | _ => s

/-- TRD_CMD (R290). -/
def State.trdCmd (s : State) (data : Word) (ext : Bool) : State :=
  let i := wordBits data 2 0
  match wordBits data 31 28 with
  | 1 => s.trdClrFe i
  | 2 => s.trdRstI i
  | 3 => s.trdClrHvOv ext
  | 4 => s.trdClrEnc i
  | _ => s.trdRefuse

/-- A write of a coefficient register (R275): ignored for the active bank, and for a clamp with UMIN above UMAX. -/
def State.trdBankWrite (s : State) (k b addr : Nat) (data : Word) : State :=
  let lim := addr == TRD_LIM_A.addr k || addr == TRD_LIM_B.addr k
  let bad := lim && decide (wordBits data 31 16 < wordBits data 15 0)
  if s.get (TRD_CTL.BANK k) = b || bad then s.hwUp TRD_ERR.BANK_ERR else s.writePlain addr data

/-- SEL_TEACH_CTL (R318); with both bits the abort comes first. -/
def State.teachCtl (s : State) (data : Word) : State :=
  let s := (if bit data.toNat 30 then s.teachAbort else s).teachFrames (wordBits data 7 0)
  if bit data.toNat 31 then s.teachStart (wordBits data 7 0) else s

/-- BEZ_PROG_CMD (R374). -/
def State.progCmd (s : State) (data : Word) : State :=
  let key := wordBits data 31 16
  match wordBits data 1 0 with
  | 1 => s.burn key
  | 2 => s.burnRevoke key
  | 3 => s.burnSvn key
  | _ => s

/-- BEZ_PROG_DATA: the staging word that BEZ_PROG_SEL addresses. -/
def State.progData (s : State) (data : Word) : State :=
  { s with fuse := { s.fuse with stage := tabSet (fun _ => 0) s.fuse.stage (s.get BEZ_PROG_SEL.WORD) data.toNat } }

/-- SPD_ATOM_CMD (R422). -/
def State.atomCmd (s : State) (data : Word) : State :=
  match wordBits data 1 0 with
  | 1 => s.atomicAdd
  | 2 => s.atomicCas
  | _ => s

/-- SHU_CTL of a channel (R413, R414). -/
def State.shuCtl (s : State) (c : Nat) (data : Word) : State :=
  let p := bit data.toNat 0
  let s := if p == s.flag (SHU_CTL.PAUSE c) then s else s.shuPause c p 1
  if bit data.toNat 1 then s.shuAbort c else s

/-- A write of a ring's base or size (R398, R504): ignored while EN is 1, and for a size outside its range. -/
def State.ringWrite (s : State) (addr : Nat) (data : Word) (en : Fld) (lo hi : Nat) : State :=
  if s.flag en || decide (wordBits data 4 0 < lo) || decide (hi < wordBits data 4 0) then s else s.writePlain addr data

/-- A write in the MSI-X table: where it unmasks a vector with its PBA bit set, the message is sent (R395). -/
def State.msixWrite (s : State) (addr : Nat) (data : Word) : State :=
  let v := (addr - EVT_MSIX_TABLE.addr 0) / 16
  let s := s.writePlain addr data
  if addr % 16 = 12 then s.vecUnmasked v else s

/-- Writes of the registers of the always-on domain whose effect is not that of their access types alone. -/
def State.writeAon (s : State) (addr : Nat) (data : Word) : Option State :=
  if addr = GLB_SHADOW_OPEN.addr then some (s.shadowOpen (wordBits data 7 0))
  else if addr = GLB_SHADOW_CLOSE.addr then some (if bit data.toNat 0 then s.shadowClose else s)
  else if addr = GLB_SHADOW_ABORT.addr then some (if bit data.toNat 0 then s.shadowAbort else s)
  else if addr = GLB_BAR4_BASE.addr then some (if 191 < wordBits data 7 0 then s else s.writePlain addr data)
  else if addr = GLB_CPL_PTR.addr then some (s.cplHead (wordBits data 5 0))
  else if addr = GLB_MBX_RX_CTL.addr then some (if bit data.toNat 31 then s.mailboxPost else s)
  else if addr = CLP_CMD.addr then some (s.clpCmd (bit data.toNat 0) (bit data.toNat 1))
  else if addr = EVT_LOG_BASE_LO.addr ∨ addr = EVT_LOG_BASE_HI.addr then
    some (if s.flag EVT_LOG_CTL.EN then s else s.writePlain addr data)
  else if addr = EVT_LOG_CTL.addr then some (s.logCtl (bit data.toNat 31) (wordBits data 4 0))
  else if EVT_MSIX_TABLE.addr 0 ≤ addr ∧ addr < EVT_MSIX_PBA.addr 0 then some (s.msixWrite addr data)
  else if EVT_FIRST_SRC.addr 0 ≤ addr ∧ addr < EVT_FIRST_SRC.addr 5 ∧ addr % 8 = 0 then some (s.firstWrite addr data)
  else if addr = PWR_DOM_CTL.addr then some (s.domRequest (wordBits data 7 0) (bit data.toNat 8) (bit data.toNat 9))
  else if addr = CLK_OUT_CTL.addr 0 then some (s.writeClkOut 0 data)
  else if addr = CLK_OUT_CTL.addr 1 then some (s.writeClkOut 1 data)
  else if addr = BEZ_PROG_DATA.addr then some (s.progData data)
  else if addr = BEZ_PROG_CMD.addr then some (s.progCmd data)
  else none

/-- Writes of the registers of switchable domains whose effect is not that of their access types alone. -/
def State.writeDom (s : State) (addr : Nat) (data : Word) (ext : Bool) : Option State :=
  if IMG_FEED.addr 0 ≤ addr ∧ addr < 0x7_0000 then some (s.imgFeed data.toNat 0 ext)
  else if addr = EMD_CMD.addr then some (s.emdCmd data ext)
  else if addr = SEL_TEACH_CTL.addr then some (s.teachCtl data)
  else if addr = SAF_CAUSE.addr then some (s.writeCause data)
  else if addr = TRD_CMD.addr then some (s.trdCmd data ext)
  else if addr = SUP_ACC_CLR.addr then some (s.supAccClr data)
  else if addr = LPE_CTL.addr then
    let s := s.writeStaged addr data
    some (if bit data.toNat 30 then s.lpeClearStart else s)
  else if addr = LPE_RING_BASE_LO.addr ∨ addr = LPE_RING_BASE_HI.addr then
    some (if s.flag LPE_CTL.EN then s else s.writePlain addr data)
  else if addr = LPE_RING_CTL.addr then some (s.ringWrite addr data LPE_CTL.EN 12 24)
  else if addr = IND_LED_CMD.addr then some (if wordBits data 31 30 = 1 then s.ledClear (wordBits data 3 0) ext else s)
  else if addr = SPD_ATOM_CMD.addr then some (s.atomCmd data)
  else if SHU_PTR.addr 0 ≤ addr ∧ addr < SHU_PTR.addr 64 ∧ addr % 64 = SHU_PTR.addr 0 % 64 then
    some (s.shuTail ((addr - SHU_PTR.addr 0) / 64) (wordBits data 15 0))
  else if SHU_CTL.addr 0 ≤ addr ∧ addr < SHU_CTL.addr 64 ∧ addr % 64 = SHU_CTL.addr 0 % 64 then
    some (s.shuCtl ((addr - SHU_CTL.addr 0) / 64) data)
  else if LNK_LANE_CTL.addr 0 ≤ addr ∧ addr < LNK_LANE_CTL.addr 16 ∧ addr % 32 = LNK_LANE_CTL.addr 0 % 32 then
    some (s.laneCtl ((addr - LNK_LANE_CTL.addr 0) / 32) (bit data.toNat 31) (bit data.toNat 30))
  else if isTileReg addr (T_TDC_CMD.addr 0) then
    some (s.tdcCmd (tileOfAddr addr) (wordBits data 3 0) (bit data.toNat 8) (bit data.toNat 9))
  else
    match trdBankOf addr with
    | some (k, b) => some (s.trdBankWrite k b addr data)
    | none => none

/-- The effect of a whole DWORD written to a register, by its address or else by the access types of its fields. -/
def State.regWrite (s : State) (addr : Nat) (data : Word) (ext : Bool) : State :=
  match s.writeAon addr data with
  | some s' => s'
  | none =>
    match s.writeDom addr data ext with
    | some s' => s'
    | none => (s.writePlain addr data).writeStaged addr data

/-- A host write of a DWORD with byte enables (R81, R379): an unassigned offset, an Off domain, then a partial write. -/
def State.hostWrite (s : State) (addr : Nat) (data : Word) (be : Nat) (ext : Bool) : State :=
  if !s.barOpen then s
  else if (regAt addr).isNone then (s.touch addr).accError 1
  else s.hostReg addr (fun s => if be != 0xF then s.accError 2 else s.regWrite addr data ext)

/-! ### Reads -/

/-- The word that BEZ_KEY_SEL selects (R373): 0 where the copies of the hash differ. -/
def State.keyWord (s : State) : Nat :=
  let k := s.fuse.key (s.get BEZ_KEY_SEL.KEY)
  let w := s.get BEZ_KEY_SEL.WORD
  if k.agree && decide (w < 12) then k.a / 2 ^ (32 * w) % 2 ^ 32 else 0

/-- BEZ_STAT but for TAP_REFUSED. -/
def State.bezStat (s : State) : Nat :=
  b2n s.fuse.factOk * 2 ^ 31 + s.fuse.grade % 4 * 2 ^ 29 + b2n s.fuse.dbgLocked * 2 ^ 28 +
    maskOf 4 s.fuse.keyValid * 2 ^ 24 + s.fuse.revoked * 2 ^ 20 + b2n (!s.fuse.allAgree) * 2 ^ 19

/-- The window sum or suppression count that EMD_GRP_SEL selects, in the view. -/
def State.grpSum (s : State) : Nat :=
  let g := s.get EMD_GRP_SEL.GROUP
  if 23 < g then 0 else tabGet (fun _ => 0) s.readView.sums (winKey (s.get EMD_GRP_SEL.WIN) g)
def State.grpSupp (s : State) : Nat :=
  let g := s.get EMD_GRP_SEL.GROUP
  if 23 < g then 0 else tabGet (fun _ => 0) s.readView.sums (128 + g)

/-- SEL_ZONE_DATA of the zone that SEL_ZONE_SEL selects, in the view. -/
def State.zoneData (s : State) : Nat :=
  let z := s.get SEL_ZONE_SEL.ZONE
  let d := s.readView.dec
  tabGet (fun _ => 0xFFFF) d.dmin z % 2 ^ 16 * 2 ^ 16 + d.classAt z % 8 * 2 ^ 13 + b2n (bit d.pf z) * 2 ^ 12 +
    b2n (bit d.wf1 z) * 2 ^ 11 + b2n (bit d.wf2 z) * 2 ^ 10

/-- IMG_RES_DATA of the entry that IMG_RES_SEL selects, with its present owner; 0 where the loader has lost the table (R85). -/
def State.resData (s : State) : Nat :=
  match (if s.img.resLost then none else s.img.res[s.get IMG_RES_SEL.ENTRY]?) with
  | some e => e.2 * 2 ^ 28 + e.1 % 2 ^ 28
  | none => 0

/-- EVT_LOG_STAT (R398, R400). -/
def State.logStat (s : State) : Nat :=
  b2n (!s.evt.used.isEmpty) * 2 ^ 31 + b2n s.logFull * 2 ^ 30 + s.evt.used.length * 2 ^ 24 + s.evt.fifo.length

/-- A trim of a slice of a tile (R152). A SLICE above 8 names none and reads 0 (DESIGN CHOICE; log entry 94). -/
def State.tdcTrimRead (s : State) (t : Nat) : Nat :=
  let i := s.get (T_TDC_TRIM_SEL.SLICE t)
  let e := s.get (T_TDC_TRIM_SEL.ENTRY t)
  if 8 < i ∨ 65 < e then 0
  else
    let v := tabGet (fun _ => 0) s.fuse.tdcTrim ((t * 9 + i) * 66 + e)
    if e < 64 then v % 16 else v % 256

/-- What the RO and ROE fields of a tile register read as where they show something else than stored status. -/
def State.derivedTile (s : State) (addr : Nat) : Option Nat :=
  let t := tileOfAddr addr
  if isTileReg addr (T_TDC_COARSE.addr 0) then some s.coarse
  else if isTileReg addr (T_TDC_TRIM_DATA.addr 0) then some (s.tdcTrimRead t)
  else if isTileReg addr (T_RET_LEDDLY.addr 0) then some (tabGet (fun _ => 0) s.fuse.ledDly t)
  else
    (List.range 8).findSome? (fun c => if addr = T_SPAD_MASK.addr t c then some (s.nEn t c * 2 ^ 24) else none)

/-- What the RO and ROE fields of a Bezel register read as (R372, R373). -/
def State.derivedBez (s : State) (addr : Nat) : Option Nat :=
  if addr = BEZ_STAT.addr then some s.bezStat
  else if addr = BEZ_UNIT_ID_LO.addr then some (s.fuse.unitId % 2 ^ 32)
  else if addr = BEZ_UNIT_ID_HI.addr then some (s.fuse.unitId / 2 ^ 32)
  else if addr = BEZ_ACCESS.addr then some (s.fuse.accessBits % 64)
  else if addr = BEZ_CAPS.addr then some (s.fuse.capPeriod * 2 ^ 21 + s.fuse.capM * 2 ^ 18 + s.fuse.capLim)
  else if addr = BEZ_SVN.addr then some s.fuse.svnFloor
  else if addr = BEZ_KEY_DATA.addr then some s.keyWord
  else none

/-- What the RO and ROE fields of the emitter, fuse and status registers read as. -/
def State.derivedBlk (s : State) (addr : Nat) : Option Nat :=
  if addr = HED_TAB_DATA.addr then some (Machine.entWord s.hed.tab (s.get HED_TAB_SEL.ENTRY) (s.get HED_TAB_SEL.WORD))
  else if addr = EMD_GRP_SUM_LO.addr then some (s.grpSum % 2 ^ 32)
  else if addr = EMD_GRP_SUM_HI.addr then some (s.grpSum / 2 ^ 32 % 2 ^ 16)
  else if addr = EMD_GRP_SUPP.addr then some s.grpSupp
  else if addr = EMD_CEIL_CFG.addr then some s.fuse.ceilBkt
  else if addr = EMD_CEIL_LIM_LO.addr then some (s.fuse.ceilLim % 2 ^ 32)
  else if addr = EMD_CEIL_LIM_HI.addr then some (s.fuse.ceilLim / 2 ^ 32)
  else if addr = EMD_CEIL_SHOT.addr then some s.fuse.ceilShot
  else if EMD_MPD_GAIN.addr 0 ≤ addr ∧ addr < EMD_MPD_GAIN.addr 24 then some (s.fuse.gain ((addr - EMD_MPD_GAIN.addr 0) / 4))
  else if addr = SEL_ZONE_DATA.addr then some s.zoneData
  else if addr = SAF_RUN_BLOCK.addr then some s.runBlock
  else if addr = SAF_DEG_CFG.addr then some (s.fuse.degCap * 2 ^ 16 + s.get SAF_DEG_CFG.T_DEG)
  else if addr = THM_FUSE.addr then
    some (s.fuse.thmShut % 256 * 2 ^ 24 + s.fuse.thmThr % 256 * 2 ^ 16 + s.fuse.thmWarn % 256 * 2 ^ 8 + s.fuse.thmHyst % 256)
  else if addr = IMG_RES_DATA.addr then some s.resData
  else if addr = SHU_STAT.addr then some (s.tagCount % 2 ^ 15 * 2 ^ 16 + s.inFlightCount % 2 ^ 16)
  else ((List.range 8).find? (fun k => addr == TRD_U.addr k)).map s.slotU

/-- What the RO and ROE fields of a register read as where they show something else than stored status. -/
def State.derived (s : State) (addr : Nat) : Option Nat :=
  if 0x100_0000 ≤ addr then s.derivedTile addr
  else if addr / 0x1_0000 = 0x05 then s.derivedBez addr
  else if addr = GLB_VIEW_EPOCH.addr then some s.readView.epoch
  else if addr = CLP_STAT.addr then some (b2n s.held.isSome * 2 ^ 31 + s.get CLP_STAT.SKIPPED)
  else if addr = EVT_LOG_STAT.addr then some s.logStat
  else if GLB_MBX_TX.addr 0 ≤ addr ∧ addr < GLB_MBX_TX.addr 16 then (if s.msgMbx then none else some 0)
  else if PWR_DOM_ON.addr 0 ≤ addr ∧ addr < PWR_DOM_ON.addr 5 then
    let k := (addr - PWR_DOM_ON.addr 0) / 4
    some (maskOf 32 (fun i => decide (32 * k + i < 136) && s.domOn (32 * k + i)))
  else s.derivedBlk addr

/-- SHU_CFG.TC of a stream channel, which reads 1 (R404). -/
def State.streamTc (s : State) (f : Fld) : Bool :=
  (List.range 64).any (fun c => f == SHU_CFG.TC c && s.chanMode c != 0)

/-- What an RC field reads as: its value but for what hardware has added in the running cycle, which is kept (R381). -/
def State.rcValue (s : State) (f : Fld) : Nat := min (s.get f) (getIn s.cyc f)

/-- An RC field has been read. -/
def State.rcTake (s : State) (f : Fld) : State := { s.put f (s.get f - s.rcValue f) with cyc := putIn s.cyc f 0 }

/-- What a field reads as under its access type (R8, R528, R556). -/
def State.fieldRead (s : State) (addr : Nat) (f : FieldRow) : Nat :=
  match f.acc with
  | .rsv | .wo => 0
  | .rws => if s.streamTc (f.at' addr) then 1 else s.pendingVal (f.at' addr)
  | .rw => if addr = BEZ_PROG_DATA.addr then s.fuse.stageWord (s.get BEZ_PROG_SEL.WORD) else s.get (f.at' addr)
  | .w1c | .w1s => s.get (f.at' addr)
  | .rc => s.rcValue (f.at' addr)
  | .ro =>
    match s.derived addr with
    | some w => bitsOf w f.hi f.lo
    | none => s.get (f.at' addr)
  | .roe =>
    match s.derived addr with
    | some w => bitsOf w f.hi f.lo
    | none => getIn s.readView.regs (f.at' addr)

/-- The word that a register reads as. -/
def State.regRead (s : State) (addr : Nat) (r : RegRow) : Nat :=
  (r.fields.map (fun f => s.fieldRead addr f * 2 ^ f.lo)).foldl (· + ·) 0

/-- The HI register whose half a read of this LO register latches (R529). -/
def hiOf (addr : Nat) : Option Nat :=
  if addr = MEM_UE_ADDR_LO.addr then some MEM_UE_ADDR_HI.addr
  else if SHU_LAST_LO.addr 0 ≤ addr ∧ addr < SHU_LAST_LO.addr 64 ∧ addr % 64 = SHU_LAST_LO.addr 0 % 64 then some (addr + 4)
  else none

/-- A register is read: its data leave, its RC fields clear (R528), and a LO register latches the HI half (R529). A read of
CLK_SYNC_CNT finds the reference periods counted that have gone by (R114). -/
def State.readReg (s : State) (addr : Nat) (r : RegRow) : State :=
  let s := if addr = CLK_SYNC_CNT.addr then s.countMissing 3 else s
  let v := (s.hiLatch.find? (fun p => p.1 == addr)).elim (s.regRead addr r) (fun p => p.2)
  let s := (s.touch addr).emit (.readData v)
  let s := s.each (fieldsOf addr .rc) State.rcTake
  match hiOf addr with
  | some hi => { s with hiLatch := s.hiLatch ++ [(hi, (s.word hi).toNat)] }
  | none => s

/-- A host read of a DWORD (R81, R379). -/
def State.hostRead (s : State) (addr : Nat) : State :=
  if !s.barOpen then s
  else
    match regAt addr with
    | none => ((s.touch addr).emit (.readData 0)).accError 1
    | some r =>
      if s.domOn (blockDomain addr) then s.readReg addr r
      else ((s.touch addr).emit (.readData 0)).bump PWR_OFF_ACC.COUNT

/-! ### Ring commands without a chapter of their own (R385) -/

/-- NOP. -/
def State.cmdNop (s : State) : State := s.ringCmd opNop .tick (fun c _ s => s.complete c stOk 0)

/-- RUN: the plug is read, and the command waits for a frame decision (R327, R349). -/
def State.cmdRun (s : State) : State := s.ringCmd opRun .runJudge (fun c _ s => s.plugRead.startCmd c)

/-- STOP. -/
def State.cmdStop (s : State) : State := s.ringCmd opStop .tick (fun c _ s => (s.safeStop 0x01).complete c stOk 0)

/-- MAINT and LEAVE_MAINT wait for the tick. -/
def State.cmdAtTick (s : State) (op : Nat) : State := s.ringCmd op .tick (fun c _ s => s.startCmd c)

/-- An entry whose CRC, opcode, reserved words or ARG0 fail (R384). -/
def State.cmdBad (s : State) : State :=
  if !s.ringReady || (s.entCrcOk && s.entFormOk) then s
  else
    let c : RunCmd := ⟨s.entOp, s.entTag, s.dev, .tick, true⟩
    let st := if s.entCrcOk then stBadCommand else stBadCrc
    (s.ringTake.bump GLB_CMD_CNT.BAD).complete c st 0

/-! ### Host resets and power states (R377, R378) -/

/-- Registers from `lo` up to `hi` at their reset values. -/
def State.resetRange (s : State) (lo hi : Nat) : State :=
  { s with regs := s.regs.filter (fun (p : Nat × Word) => decide (p.1 < lo) || decide (hi ≤ p.1)) }

/-- PERST_N, a hot reset or a function level reset (R377). -/
def State.hostReset (s : State) : State :=
  let s := s.shadowAbort
  let s := { s with
    held := none, heldCpl := [], pci := {}
    cmds := s.cmds.map (fun (c : RunCmd) => { c with cpl := false }) }
  let s := s.resetRange GLB_CMD_PTR.addr (GLB_CPL_PTR.addr + 4)
  (s.resetRange (EVT_MSIX_TABLE.addr 0) (EVT_MSIX_PBA.addr 0 + 64)).showStall

/-- A host reset arrives: PERST_N at its ball, the others over the host link (R435). -/
def State.hostResetBy (s : State) (how : HostReset) : State :=
  if how = .perst || s.hostLink then s.hostReset else s

/-- The device serial number of the endpoint (R376). -/
def State.serialNumber (s : State) : Nat := s.fuse.unitId

/-- The function enters or leaves D3hot, by a configuration write over the host link (R378, R435). -/
def State.hostPower (s : State) (d3hot pmeEn : Bool) : State :=
  if !s.hostLink then s
  else { s with pci := { s.pci with d3hot := d3hot, pmeEn := pmeEn, wakeLow := s.pci.wakeLow && d3hot } }

/-! ### Commands -/

/-- RWS_WRITE. -/
def execRwsWrite (dt addr : Nat) (data : Word) (_late : Bool) (s : State) : Host.Outcome State Fault Refusal :=
  let s := s.advance dt
  .next (if (rwsFields addr).isEmpty then s else s.hostWrite addr data 0xF false)

/-- REGISTER_WRITE. -/
def execRegisterWrite (dt addr : Nat) (data : Word) (be : Fin 16) (_late ext : Bool) (s : State) :
    Host.Outcome State Fault Refusal := .next ((s.advance dt).hostWrite addr data be.val ext)

/-- REGISTER_READ. -/
def execRegisterRead (dt addr : Nat) (s : State) : Host.Outcome State Fault Refusal := .next ((s.advance dt).hostRead addr)

/-- SNAP. -/
def execSnap (dt : Nat) (andRelease : Bool) (s : State) : Host.Outcome State Fault Refusal :=
  .next ((s.advance dt).hostReg CLP_CMD.addr (fun s => s.clpCmd true andRelease))

/-- RELEASE. -/
def execClpRelease (dt : Nat) (s : State) : Host.Outcome State Fault Refusal :=
  .next ((s.advance dt).hostReg CLP_CMD.addr (fun s => s.clpCmd false true))

/-- CLASP_TIMEOUT. -/
def execClaspTimeout (dt : Nat) (s : State) : Host.Outcome State Fault Refusal := .next (s.advance dt).holdTimeout

/-- NOP. -/
def execNop (dt : Nat) (s : State) : Host.Outcome State Fault Refusal := .next (s.advance dt).cmdNop

/-- RUN. -/
def execRunCmd (dt : Nat) (s : State) : Host.Outcome State Fault Refusal := .next (s.advance dt).cmdRun

/-- STOP. -/
def execStop (dt : Nat) (s : State) : Host.Outcome State Fault Refusal := .next (s.advance dt).cmdStop

/-- MAINT. -/
def execMaint (dt : Nat) (s : State) : Host.Outcome State Fault Refusal := .next ((s.advance dt).cmdAtTick opMaint)

/-- LEAVE_MAINT. -/
def execLeaveMaint (dt : Nat) (s : State) : Host.Outcome State Fault Refusal := .next ((s.advance dt).cmdAtTick opLeaveMaint)

/-- BAD_COMMAND. -/
def execBadCommand (dt : Nat) (s : State) : Host.Outcome State Fault Refusal := .next (s.advance dt).cmdBad

/-- CPL_HEAD_ADVANCE. -/
def execCplHeadAdvance (dt : Nat) (head : Fin 64) (s : State) : Host.Outcome State Fault Refusal :=
  .next ((s.advance dt).hostReg GLB_CPL_PTR.addr (fun s => s.cplHead head.val))

/-- MAILBOX_POST. -/
def execMailboxPost (dt : Nat) (s : State) : Host.Outcome State Fault Refusal :=
  .next ((s.advance dt).hostReg GLB_MBX_RX_CTL.addr State.mailboxPost)

/-- HOLDOFF_EXPIRY. -/
def execHoldoffExpiry (dt : Nat) (vec : Fin 512) (s : State) : Host.Outcome State Fault Refusal :=
  .next ((s.advance dt).holdoffEnd vec.val)

/-- MSIX_UNMASK. -/
def execMsixUnmask (dt : Nat) (what : Unmask) (s : State) : Host.Outcome State Fault Refusal :=
  let s := s.advance dt
  .next (match what with
    | .entry v => s.hostReg (EVT_MSIX_TABLE.addr (4 * v.val + 3)) (fun s =>
        (s.put ⟨EVT_MSIX_TABLE.addr (4 * v.val + 3), 0, 0⟩ 0).vecUnmasked v.val)
    | .control enable funcMask => s.msixControl enable funcMask)

/-- LOG_DRAIN. -/
def execLogDrain (dt : Nat) (s : State) : Host.Outcome State Fault Refusal := .next (s.advance dt).logDrain

/-- LOG_COALESCE. -/
def execLogCoalesce (dt : Nat) (s : State) : Host.Outcome State Fault Refusal := .next (s.advance dt).coalesce

/-- LOG_ENABLE. -/
def execLogEnable (dt : Nat) (sizeLog2 : Fin 32) (s : State) : Host.Outcome State Fault Refusal :=
  .next ((s.advance dt).hostReg EVT_LOG_CTL.addr (fun s => s.logCtl true sizeLog2.val))

/-- HOST_RESET. -/
def execHostReset (dt : Nat) (how : HostReset) (s : State) : Host.Outcome State Fault Refusal :=
  .next ((s.advance dt).hostResetBy how)

/-- HOST_POWER_STATE. -/
def execHostPowerState (dt : Nat) (d3hot pmeEn : Bool) (s : State) : Host.Outcome State Fault Refusal :=
  .next ((s.advance dt).hostPower d3hot pmeEn)

end Sys2Proof.Machine
end

