-- ==== Sys2Proof/Machine/Dispatch.lean ====
section
/-! DEFINITION. The dispatcher: one arm per command of the table. -/

namespace Sys2Proof.Machine

/-- The effect of a command on everything but the queue. -/
def exec (i : Instr) (s : State) : Host.Outcome State Fault Refusal :=
  match i with
  | .railGood dt rail porst bootSrc => Sys2Proof.Machine.execRailGood dt rail porst bootSrc s
  | .resetRelease dt => Sys2Proof.Machine.execResetRelease dt s
  | .bootEntry dt sealSw => Sys2Proof.Machine.execBootEntry dt sealSw s
  | .porstNAssert dt lowNs bootSrc => Sys2Proof.Machine.execPorstNAssert dt lowNs bootSrc s
  | .warmReset dt lowNs => Sys2Proof.Machine.execWarmReset dt lowNs s
  | .brownout dt rail lowNs => Sys2Proof.Machine.execBrownout dt rail lowNs s
  | .powerDomainRequest dt id on force => Sys2Proof.Machine.execPowerDomainRequest dt id on force s
  | .domainDrainDone dt id => Sys2Proof.Machine.execDomainDrainDone dt id s
  | .drainTimeout dt id => Sys2Proof.Machine.execDrainTimeout dt id s
  | .domReady dt id late => Sys2Proof.Machine.execDomReady dt id late s
  | .standby dt => Sys2Proof.Machine.execStandby dt s
  | .standbyEntryDone dt => Sys2Proof.Machine.execStandbyEntryDone dt s
  | .wake dt => Sys2Proof.Machine.execWake dt s
  | .pllTLock dt => Sys2Proof.Machine.execPllTLock dt s
  | .pllTLockTimeout dt => Sys2Proof.Machine.execPllTLockTimeout dt s
  | .pllFLockAttempt dt tableOk search band => Sys2Proof.Machine.execPllFLockAttempt dt tableOk search band s
  | .pllFBypass dt => Sys2Proof.Machine.execPllFBypass dt s
  | .pllFRetry dt => Sys2Proof.Machine.execPllFRetry dt s
  | .clkTFail dt => Sys2Proof.Machine.execClkTFail dt s
  | .refclkLoss dt refF => Sys2Proof.Machine.execRefclkLoss dt refF s
  | .clockMonitorFault dt clk => Sys2Proof.Machine.execClockMonitorFault dt clk s
  | .syncInEdge dt falling heldNs => Sys2Proof.Machine.execSyncInEdge dt falling heldNs s
  | .syncLost dt => Sys2Proof.Machine.execSyncLost dt s
  | .frameTick dt fsel => Sys2Proof.Machine.execFrameTick dt fsel s
  | .viewSwitch dt => Sys2Proof.Machine.execViewSwitch dt s
  | .acqWindowClose dt => Sys2Proof.Machine.execAcqWindowClose dt s
  | .decisionDeadline dt => Sys2Proof.Machine.execDecisionDeadline dt s
  | .frameDecision dt safeIn edm crcDone => Sys2Proof.Machine.execFrameDecision dt safeIn edm crcDone s
  | .safetyMessageSend dt => Sys2Proof.Machine.execSafetyMessageSend dt s
  | .frameCloseRecord dt => Sys2Proof.Machine.execFrameCloseRecord dt s
  | .degTimerExpiry dt => Sys2Proof.Machine.execDegTimerExpiry dt s
  | .flowFault dt => Sys2Proof.Machine.execFlowFault dt s
  | .eccError dt corrected selvedge => Sys2Proof.Machine.execEccError dt corrected selvedge s
  | .glbShadowOpen dt tag => Sys2Proof.Machine.execGlbShadowOpen dt tag s
  | .glbShadowClose dt late => Sys2Proof.Machine.execGlbShadowClose dt late s
  | .glbShadowAbort dt => Sys2Proof.Machine.execGlbShadowAbort dt s
  | .rwsWrite dt addr data late => Sys2Proof.Machine.execRwsWrite dt addr data late s
  | .registerWrite dt addr data be late ext => Sys2Proof.Machine.execRegisterWrite dt addr data be late ext s
  | .snap dt andRelease => Sys2Proof.Machine.execSnap dt andRelease s
  | .clpRelease dt => Sys2Proof.Machine.execClpRelease dt s
  | .claspTimeout dt => Sys2Proof.Machine.execClaspTimeout dt s
  | .nop dt => Sys2Proof.Machine.execNop dt s
  | .runCmd dt => Sys2Proof.Machine.execRunCmd dt s
  | .stop dt => Sys2Proof.Machine.execStop dt s
  | .maint dt => Sys2Proof.Machine.execMaint dt s
  | .leaveMaint dt => Sys2Proof.Machine.execLeaveMaint dt s
  | .imgLoad dt => Sys2Proof.Machine.execImgLoad dt s
  | .imgSwap dt => Sys2Proof.Machine.execImgSwap dt s
  | .imgApply dt => Sys2Proof.Machine.execImgApply dt s
  | .imgAbort dt => Sys2Proof.Machine.execImgAbort dt s
  | .plugWrite dt part => Sys2Proof.Machine.execPlugWrite dt part s
  | .cplHeadAdvance dt head => Sys2Proof.Machine.execCplHeadAdvance dt head s
  | .mailboxPost dt => Sys2Proof.Machine.execMailboxPost dt s
  | .holdoffExpiry dt vec => Sys2Proof.Machine.execHoldoffExpiry dt vec s
  | .msixUnmask dt what => Sys2Proof.Machine.execMsixUnmask dt what s
  | .logDrain dt => Sys2Proof.Machine.execLogDrain dt s
  | .logCoalesce dt => Sys2Proof.Machine.execLogCoalesce dt s
  | .logEnable dt sizeLog2 => Sys2Proof.Machine.execLogEnable dt sizeLog2 s
  | .hostReset dt how => Sys2Proof.Machine.execHostReset dt how s
  | .hostPowerState dt d3hot pmeEn => Sys2Proof.Machine.execHostPowerState dt d3hot pmeEn s
  | .bar4Access dt off wr bad => Sys2Proof.Machine.execBar4Access dt off wr bad s
  | .bar2Access dt off wr be lost => Sys2Proof.Machine.execBar2Access dt off wr be lost s
  | .biasMeasurement dt tile hits vex => Sys2Proof.Machine.execBiasMeasurement dt tile hits vex s
  | .hvOv dt => Sys2Proof.Machine.execHvOv dt s
  | .avalanche dt tile ch spad code code8 => Sys2Proof.Machine.execAvalanche dt tile ch spad code code8 s
  | .pointIntervalEnd dt tile => Sys2Proof.Machine.execPointIntervalEnd dt tile s
  | .seeding dt tile => Sys2Proof.Machine.execSeeding dt tile s
  | .extractHalf dt tile ch => Sys2Proof.Machine.execExtractHalf dt tile ch s
  | .exportDrain dt tile => Sys2Proof.Machine.execExportDrain dt tile s
  | .dllUnlock dt tile slice => Sys2Proof.Machine.execDllUnlock dt tile slice s
  | .dllLock dt tile slice => Sys2Proof.Machine.execDllLock dt tile slice s
  | .sliceMarkTimeout dt tile slice => Sys2Proof.Machine.execSliceMarkTimeout dt tile slice s
  | .auditVerdict dt tile hist => Sys2Proof.Machine.execAuditVerdict dt tile hist s
  | .sliceMark dt tile slice unmark late => Sys2Proof.Machine.execSliceMark dt tile slice unmark late s
  | .sliceUnmark dt tile slice => Sys2Proof.Machine.execSliceUnmark dt tile slice s
  | .listWrapFill dt => Sys2Proof.Machine.execListWrapFill dt s
  | .listPortDrain dt tile => Sys2Proof.Machine.execListPortDrain dt tile s
  | .shotSlotCommit dt entry => Sys2Proof.Machine.execShotSlotCommit dt entry s
  | .mpdIntegrationEnd dt out q isense => Sys2Proof.Machine.execMpdIntegrationEnd dt out q isense s
  | .govBucketRoll dt win => Sys2Proof.Machine.execGovBucketRoll dt win s
  | .proofTrigger dt entry => Sys2Proof.Machine.execProofTrigger dt entry s
  | .diagSlot dt walk => Sys2Proof.Machine.execDiagSlot dt walk s
  | .driverTrip dt out => Sys2Proof.Machine.execDriverTrip dt out s
  | .emdStuckOn dt => Sys2Proof.Machine.execEmdStuckOn dt s
  | .clearOutputMarks dt index quiet => Sys2Proof.Machine.execClearOutputMarks dt index quiet s
  | .clearMpdFault dt index => Sys2Proof.Machine.execClearMpdFault dt index s
  | .clearStuckOn dt => Sys2Proof.Machine.execClearStuckOn dt s
  | .throttlePauseStart dt => Sys2Proof.Machine.execThrottlePauseStart dt s
  | .thermalMeasurement dt tiles others => Sys2Proof.Machine.execThermalMeasurement dt tiles others s
  | .treadleSample dt slot uv => Sys2Proof.Machine.execTreadleSample dt slot uv s
  | .trdStart dt slot => Sys2Proof.Machine.execTrdStart dt slot s
  | .encoderEdge dt who a b z held => Sys2Proof.Machine.execEncoderEdge dt who a b z held s
  | .clrFe dt slot => Sys2Proof.Machine.execClrFe dt slot s
  | .rstI dt slot => Sys2Proof.Machine.execRstI dt slot s
  | .clrHvOv dt low => Sys2Proof.Machine.execClrHvOv dt low s
  | .clrEnc dt enc => Sys2Proof.Machine.execClrEnc dt enc s
  | .axisSpeedEval dt axis => Sys2Proof.Machine.execAxisSpeedEval dt axis s
  | .safeInLow dt pin => Sys2Proof.Machine.execSafeInLow dt pin s
  | .ossdTestPulse dt ball => Sys2Proof.Machine.execOssdTestPulse dt ball s
  | .ossdReadbackSample dt fb => Sys2Proof.Machine.execOssdReadbackSample dt fb s
  | .edmTimeout dt pair edm second => Sys2Proof.Machine.execEdmTimeout dt pair edm second s
  | .ss1StopDone dt pair => Sys2Proof.Machine.execSs1StopDone dt pair s
  | .button dt teach => Sys2Proof.Machine.execButton dt teach s
  | .buttonStuck dt teach => Sys2Proof.Machine.execButtonStuck dt teach s
  | .sealChange dt site => Sys2Proof.Machine.execSealChange dt site s
  | .plugChange dt present => Sys2Proof.Machine.execPlugChange dt present s
  | .plugReadAttempt dt ending words => Sys2Proof.Machine.execPlugReadAttempt dt ending words s
  | .fieldSetLoadDone dt late bad => Sys2Proof.Machine.execFieldSetLoadDone dt late bad s
  | .teachStart dt frames => Sys2Proof.Machine.execTeachStart dt frames s
  | .teachAbort dt => Sys2Proof.Machine.execTeachAbort dt s
  | .teachDone dt => Sys2Proof.Machine.execTeachDone dt s
  | .safetyMessageReceive dt words => Sys2Proof.Machine.execSafetyMessageReceive dt words s
  | .imgFeed dt word drained memOk => Sys2Proof.Machine.execImgFeed dt word drained memOk s
  | .imgStreamTimeout dt => Sys2Proof.Machine.execImgStreamTimeout dt s
  | .imgVerifyDone dt stream memOk => Sys2Proof.Machine.execImgVerifyDone dt stream memOk s
  | .swapPrepared dt late => Sys2Proof.Machine.execSwapPrepared dt late s
  | .applyDone dt => Sys2Proof.Machine.execApplyDone dt s
  | .burn dt key => Sys2Proof.Machine.execBurn dt key s
  | .revoke dt key => Sys2Proof.Machine.execRevoke dt key s
  | .raiseSvn dt key => Sys2Proof.Machine.execRaiseSvn dt key s
  | .burnDone dt copyA copyB => Sys2Proof.Machine.execBurnDone dt copyA copyB s
  | .tapInstruction dt tap => Sys2Proof.Machine.execTapInstruction dt tap s
  | .integrationBoundary dt conv0 conv1 refOk => Sys2Proof.Machine.execIntegrationBoundary dt conv0 conv1 refOk s
  | .supAccClr dt clr => Sys2Proof.Machine.execSupAccClr dt clr s
  | .loupeSample dt pins => Sys2Proof.Machine.execLoupeSample dt pins s
  | .loupeRecordWrite dt => Sys2Proof.Machine.execLoupeRecordWrite dt s
  | .lpeClear dt => Sys2Proof.Machine.execLpeClear dt s
  | .retainExpiry dt => Sys2Proof.Machine.execRetainExpiry dt s
  | .lpeCleared dt => Sys2Proof.Machine.execLpeCleared dt s
  | .chainFrame dt ret => Sys2Proof.Machine.execChainFrame dt ret s
  | .ledPwmPeriod dt vpin => Sys2Proof.Machine.execLedPwmPeriod dt vpin s
  | .ledThermalTrip dt sink => Sys2Proof.Machine.execLedThermalTrip dt sink s
  | .ledClear dt index quiet => Sys2Proof.Machine.execLedClear dt index quiet s
  | .descriptorTake dt ch host issued => Sys2Proof.Machine.execDescriptorTake dt ch host issued s
  | .descriptorComplete dt ch => Sys2Proof.Machine.execDescriptorComplete dt ch s
  | .shuPause dt ch pause issued => Sys2Proof.Machine.execShuPause dt ch pause issued s
  | .shuAbort dt ch => Sys2Proof.Machine.execShuAbort dt ch s
  | .streamRecordStage dt => Sys2Proof.Machine.execStreamRecordStage dt s
  | .streamFlushTimeout dt ch => Sys2Proof.Machine.execStreamFlushTimeout dt ch s
  | .atomicAdd dt => Sys2Proof.Machine.execAtomicAdd dt s
  | .atomicCas dt => Sys2Proof.Machine.execAtomicCas dt s
  | .scrubStep dt ch bad => Sys2Proof.Machine.execScrubStep dt ch bad s
  | .memSpared dt ch stripe => Sys2Proof.Machine.execMemSpared dt ch stripe s
  | .laneDetectProbe dt lane found => Sys2Proof.Machine.execLaneDetectProbe dt lane found s
  | .blockLock dt lane gained inverted bad => Sys2Proof.Machine.execBlockLock dt lane gained inverted bad s
  | .adaptPresetStep dt lane fom => Sys2Proof.Machine.execAdaptPresetStep dt lane fom s
  | .trainStepTimeout dt lane => Sys2Proof.Machine.execTrainStepTimeout dt lane s
  | .trainTo dt lane => Sys2Proof.Machine.execTrainTo dt lane s
  | .backoffExpiry dt lane => Sys2Proof.Machine.execBackoffExpiry dt lane s
  | .retrain dt lane => Sys2Proof.Machine.execRetrain dt lane s
  | .srefChange dt quad ok => Sys2Proof.Machine.execSrefChange dt quad ok s
  | .train dt lane plane step done rest => Sys2Proof.Machine.execTrain dt lane plane step done rest s
  | .align dt port active member cell late => Sys2Proof.Machine.execAlign dt port active member cell late s
  | .portUp dt port => Sys2Proof.Machine.execPortUp dt port s
  | .portDown dt port => Sys2Proof.Machine.execPortDown dt port s
  | .flit dt port header data trailer memOk => Sys2Proof.Machine.execFlit dt port header data trailer memOk s
  | .bobbin dt port cls init count ackV nak ackSeq => Sys2Proof.Machine.execBobbin dt port cls init count ackV nak ackSeq s
  | .flitSend dt port chan => Sys2Proof.Machine.execFlitSend dt port chan s
  | .doze dt port ack => Sys2Proof.Machine.execDoze dt port ack s
  | .dozeIdleTimeout dt port => Sys2Proof.Machine.execDozeIdleTimeout dt port s
  | .deepIdleTimeout dt port => Sys2Proof.Machine.execDeepIdleTimeout dt port s
  | .resetNRelease dt bootSrc => Sys2Proof.Machine.execResetNRelease dt bootSrc s
  | .vddAonGood dt porst bootSrc => Sys2Proof.Machine.execVddAonGood dt porst bootSrc s
  | .refclkReturn dt refF => Sys2Proof.Machine.execRefclkReturn dt refF s
  | .sliceSettleDone dt tile => Sys2Proof.Machine.execSliceSettleDone dt tile s
  | .throttlePauseEnd dt => Sys2Proof.Machine.execThrottlePauseEnd dt s
  | .encoderShortPulse dt who input held => Sys2Proof.Machine.execEncoderShortPulse dt who input held s
  | .configUnlockChange dt unlock => Sys2Proof.Machine.execConfigUnlockChange dt unlock s
  | .shuttleRequestDone dt ch len left host hostErr lost bad => Sys2Proof.Machine.execShuttleRequestDone dt ch len left host hostErr lost bad s
  | .badCommand dt => Sys2Proof.Machine.execBadCommand dt s
  | .registerRead dt addr => Sys2Proof.Machine.execRegisterRead dt addr s
  | .alignColumnMissing dt lane => Sys2Proof.Machine.execAlignColumnMissing dt lane s
  | .dozeExit dt port => Sys2Proof.Machine.execDozeExit dt port s
  | .deepExit dt port => Sys2Proof.Machine.execDeepExit dt port s
  | .controlColumnSend dt port align => Sys2Proof.Machine.execControlColumnSend dt port align s
  | .bobbinReturn dt port cls => Sys2Proof.Machine.execBobbinReturn dt port cls s
  | .wakeDone dt => Sys2Proof.Machine.execWakeDone dt s
  | .buttonPress dt teach => Sys2Proof.Machine.execButtonPress dt teach s

end Sys2Proof.Machine
end

