-- ==== Sys2Proof/Safety.lean ====
section
/-! DEFINITION. What counts as a safe state and a safe run, in the terms that claims use. -/

namespace Sys2Proof

open Sys2Proof.Machine

/-- The memories are in canonical form: cells strictly rising, and none that equals what an unlisted address reads as. -/
abbrev MemoryWf (s : State) : Prop := s.dram.wf = true ∧ s.spd.wf = true

/-- An OSSD pair is high only in RUN or DEGRADED (R314, R315). -/
abbrev PairsSafe (s : State) : Prop := ∀ p < 2, s.pairHigh p = true → s.dev.running = true

/-- Two register fields share no bit. -/
def FieldsApart (f g : Fld) : Prop := f.addr ≠ g.addr ∨ f.hi < g.lo ∨ g.hi < f.lo

/-- `t` is `u` but for registers, and of these every field that shares no bit with those listed is as in `u`, at the beginning of the
FCLK cycle too: all of memory, every unit and the queue are as in `u`. -/
def OnlyFields (fs : List Fld) (u t : State) : Prop :=
  t = { u with regs := t.regs, cyc := t.cyc } ∧
  ∀ g : Fld, g.hi < 32 → (∀ f ∈ fs, FieldsApart f g) → t.get g = u.get g ∧ getIn t.cyc g = getIn u.cyc g

/-- `t` is `u` but for what the raising of events changes (the registers of the block EVT, the event logic, what leaves the part,
and WAKE_N) and for registers, of which every field outside EVT that shares no bit with those listed is as in `u`. -/
def OnlyFieldsEv (fs : List Fld) (u t : State) : Prop :=
  t = { u with regs := t.regs, cyc := t.cyc, evt := t.evt, out := t.out, pci := { u.pci with wakeLow := t.pci.wakeLow } } ∧
  ∀ g : Fld, g.hi < 32 → g.addr / 0x1_0000 ≠ 2 → (∀ f ∈ fs, FieldsApart f g) →
    t.get g = u.get g ∧ getIn t.cyc g = getIn u.cyc g

/-- Every byte of DRAM and of the scratchpads reads as before. -/
def SameMemory (s t : State) : Prop := (∀ a, t.dram.read a = s.dram.read a) ∧ ∀ a, t.spd.read a = s.spd.read a

/-- Of the fuses `f`, `g` keeps the factory fields and every burned bit of every integrator field (R374). -/
def FusesKept (f g : Fuses) : Prop :=
  g.unitId = f.unitId ∧ g.grade = f.grade ∧ g.factOk = f.factOk ∧
  ∀ id i, ((f.field id).a.testBit i = true → (g.field id).a.testBit i = true) ∧
    ((f.field id).b.testBit i = true → (g.field id).b.testBit i = true)

/-- `t` is `u` but for lane `n` (its work, its STATE and the register fields listed) and what the raising of events changes: every
other lane is as in `u` (R443). -/
def OnlyLane (n : Nat) (fs : List Fld) (u t : State) : Prop :=
  OnlyFieldsEv (LNK_LANE_STAT.STATE n :: fs) { u with lnk := { u.lnk with lanes := t.lnk.lanes } } t ∧
  ∀ m, m ≠ n → t.lane m = u.lane m

/-- `t` is `u` but for port `p` and the register fields listed, and what the raising of events changes. -/
def OnlyPort (p : Nat) (fs : List Fld) (u t : State) : Prop :=
  OnlyFieldsEv fs { u with lnk := { u.lnk with ports := t.lnk.ports } } t ∧ ∀ q, q ≠ p → t.port q = u.port q

/-- The function answers and the block of the register at an address is On: a host access reaches the register (R81, R378). -/
abbrev HostOpen (s : State) (addr : Nat) : Prop := s.barOpen = true ∧ s.domOn (blockDomain addr) = true

/-- A source of the event table raises that is neither pending nor masked, its domain On, where no coalescing record goes before it
(R393, R400). -/
abbrev RaisesAnew (s : State) (src : Nat) : Prop :=
  src < 640 ∧ s.domOn (evtDomain src) = true ∧ s.coalDue = false ∧ s.flag (evtPend src) = false ∧ s.flag (EVT_SRC.MASK src) = false

/-- The command ring holds at its HEAD a well-formed command of opcode `op`, and no condition refuses it (R383 to R386). -/
abbrev Taken (s : State) (op : Nat) : Prop :=
  s.ringReady = true ∧ s.entCrcOk = true ∧ s.entFormOk = true ∧ s.entOp = op ∧ s.cmdRefused op = none

/-- The completion ring has a free entry and holds nothing back (R388). -/
abbrev CplFree (s : State) : Prop := s.cplStalled = false ∧ s.heldCpl = []

/-- `t` has taken the command at the HEAD of the command ring of `s`. -/
abbrev HeadTaken (s t : State) : Prop := t.get GLB_CMD_PTR.HEAD = (s.get GLB_CMD_PTR.HEAD + 1) % 64

/-- `t` holds, where the TAIL of the completion ring of `s` was, the completion of a command with these fields, and TAIL has moved
past it (R387). -/
abbrev CplWritten (s t : State) (op tag status detail : Nat) : Prop :=
  let n := 4 * s.get GLB_CPL_PTR.TAIL
  t.get GLB_CPL_PTR.TAIL = (s.get GLB_CPL_PTR.TAIL + 1) % 64 ∧
  t.get (GLB_CPL_ENT.WORD n) = op * 2 ^ 24 + status * 2 ^ 16 + tag ∧ t.get (GLB_CPL_ENT.WORD (n + 1)) = detail ∧
  t.get (GLB_CPL_ENT.WORD (n + 2)) = s.epoch ∧
  t.get (GLB_CPL_ENT.WORD (n + 3)) = crcWords [op * 2 ^ 24 + status * 2 ^ 16 + tag, detail, s.epoch]

/-- Domain `d` is On, and not because STANDBY waits to switch it off: a required one never is (R78, R89). -/
abbrev KeptOn (s : State) (d : Nat) : Prop := s.domOn d = true ∧ bit s.pwr.stbyOff d = false

/-- No STANDBY, WAKE or IMG_APPLY waits, which a change of the device state would undo (R386). -/
abbrev NoneUndone (s : State) : Prop := s.cmds.any (fun c => [opStandby, opWake, opImgApply].contains c.op) = false

/-- A command goes on: it is answered by a next state, not by a fault or a refusal. -/
def Completes (c : Instr) (s : State) : Prop := ∃ t, exec c s = .next t

/-- A run of steps from `s` to `t`. -/
inductive Steps : State → State → Prop where
  | refl (s : State) : Steps s s
  | step {s t u : State} : Machine.step s = .next t → Steps t u → Steps s u

end Sys2Proof
end

