-- ==== Sys2Proof/WellFormed.lean ====
section
/-! DEFINITION. Which commands are well formed: an operand whose type does not bound it lies in the range that the spec gives
the thing it stands for. Operands of a bounded type need no check. -/

namespace Sys2Proof

/-- The address of a DWORD of BAR0: aligned (R379) and inside its 64 MiB (R376). -/
def isRegAddr (a : Nat) : Bool := a % 4 == 0 && decide (a < 2 ^ 26)

/-- `n` words of 32 bits. -/
def isWords (n : Nat) (l : List Nat) : Bool := l.length == n && l.all (fun w => decide (w < 2 ^ 32))

/-- A command is well formed: register addresses (R379), offsets in BAR2 and BAR4 (R376), a swing in the range of VEX (R121),
codes of a slice (R157), the codes of a density phase (R170), the sensors of a measurement (R487), a plug record (R350), a
safety message (R319), a burned field (R372), the LED pins (R516), a descriptor (R407), a request's bytes (R410), the picks
of a flit (R438, R451) and UNIT_ID (R372). -/
def Instr.wf : Instr → Bool
  | .railGood _ _ _ _ => true
  | .resetRelease _ => true
  | .bootEntry _ _ => true
  | .porstNAssert _ _ _ => true
  | .warmReset _ _ => true
  | .brownout _ _ _ => true
  | .powerDomainRequest _ _ _ _ => true
  | .domainDrainDone _ _ => true
  | .drainTimeout _ _ => true
  | .domReady _ _ _ => true
  | .standby _ => true
  | .standbyEntryDone _ => true
  | .wake _ => true
  | .pllTLock _ => true
  | .pllTLockTimeout _ => true
  | .pllFLockAttempt _ _ _ _ => true
  | .pllFBypass _ => true
  | .pllFRetry _ => true
  | .clkTFail _ => true
  | .refclkLoss _ _ => true
  | .clockMonitorFault _ _ => true
  | .syncInEdge _ _ _ => true
  | .syncLost _ => true
  | .frameTick _ _ => true
  | .viewSwitch _ => true
  | .acqWindowClose _ => true
  | .decisionDeadline _ => true
  | .frameDecision _ _ _ _ => true
  | .safetyMessageSend _ => true
  | .frameCloseRecord _ => true
  | .degTimerExpiry _ => true
  | .flowFault _ => true
  | .eccError _ _ _ => true
  | .glbShadowOpen _ _ => true
  | .glbShadowClose _ _ => true
  | .glbShadowAbort _ => true
  | .rwsWrite _ addr _ _ => isRegAddr addr
  | .registerWrite _ addr _ _ _ _ => isRegAddr addr
  | .snap _ _ => true
  | .clpRelease _ => true
  | .claspTimeout _ => true
  | .nop _ => true
  | .runCmd _ => true
  | .stop _ => true
  | .maint _ => true
  | .leaveMaint _ => true
  | .imgLoad _ => true
  | .imgSwap _ => true
  | .imgApply _ => true
  | .imgAbort _ => true
  | .plugWrite _ part => isWords 16 part.back && part.acks.length == 4
  | .cplHeadAdvance _ _ => true
  | .mailboxPost _ => true
  | .holdoffExpiry _ _ => true
  | .msixUnmask _ _ => true
  | .logDrain _ => true
  | .logCoalesce _ => true
  | .logEnable _ _ => true
  | .hostReset _ _ => true
  | .hostPowerState _ _ _ => true
  | .bar4Access _ off _ _ => off % 4 == 0 && decide (off < 2 ^ 36)
  | .bar2Access _ off _ _ _ => off % 4 == 0 && decide (off < 2 ^ 22)
  | .biasMeasurement _ _ _ vex => decide (vex < 1024)
  | .hvOv _ => true
  | .avalanche _ _ _ _ code code8 => decide (code < 1024) && decide (code8 < 1024)
  | .pointIntervalEnd _ _ => true
  | .seeding _ _ => true
  | .extractHalf _ _ _ => true
  | .exportDrain _ _ => true
  | .dllUnlock _ _ _ => true
  | .dllLock _ _ _ => true
  | .sliceMarkTimeout _ _ _ => true
  | .auditVerdict _ _ hist => hist.isEmpty || hist.length == 64
  | .sliceMark _ _ _ _ _ => true
  | .sliceUnmark _ _ _ => true
  | .listWrapFill _ => true
  | .listPortDrain _ _ => true
  | .shotSlotCommit _ _ => true
  | .mpdIntegrationEnd _ _ _ _ => true
  | .govBucketRoll _ _ => true
  | .proofTrigger _ _ => true
  | .diagSlot _ _ => true
  | .driverTrip _ _ => true
  | .emdStuckOn _ => true
  | .clearOutputMarks _ _ _ => true
  | .clearMpdFault _ _ => true
  | .clearStuckOn _ => true
  | .throttlePauseStart _ => true
  | .thermalMeasurement _ tiles others => tiles.length == 96 && others.length == 8
  | .treadleSample _ _ _ => true
  | .trdStart _ _ => true
  | .encoderEdge _ _ _ _ _ _ => true
  | .clrFe _ _ => true
  | .rstI _ _ => true
  | .clrHvOv _ _ => true
  | .clrEnc _ _ => true
  | .axisSpeedEval _ _ => true
  | .safeInLow _ _ => true
  | .ossdTestPulse _ _ => true
  | .ossdReadbackSample _ _ => true
  | .edmTimeout _ _ _ _ => true
  | .ss1StopDone _ _ => true
  | .button _ _ => true
  | .buttonStuck _ _ => true
  | .sealChange _ _ => true
  | .plugChange _ _ => true
  | .plugReadAttempt _ ending words => ending != .data || isWords 16 words
  | .fieldSetLoadDone _ _ _ => true
  | .teachStart _ _ => true
  | .teachAbort _ => true
  | .teachDone _ => true
  | .safetyMessageReceive _ words => isWords 16 words
  | .imgFeed _ _ _ _ => true
  | .imgStreamTimeout _ => true
  | .imgVerifyDone _ _ _ => true
  | .swapPrepared _ _ => true
  | .applyDone _ => true
  | .burn _ _ => true
  | .revoke _ _ => true
  | .raiseSvn _ _ => true
  | .burnDone _ copyA copyB => decide (copyA < 2 ^ 384) && decide (copyB < 2 ^ 384)
  | .tapInstruction _ _ => true
  | .integrationBoundary _ _ _ _ => true
  | .supAccClr _ _ => true
  | .loupeSample _ _ => true
  | .loupeRecordWrite _ => true
  | .lpeClear _ => true
  | .retainExpiry _ => true
  | .lpeCleared _ => true
  | .chainFrame _ _ => true
  | .ledPwmPeriod _ vpin => vpin.length == 12
  | .ledThermalTrip _ _ => true
  | .ledClear _ _ _ => true
  | .descriptorTake _ _ host _ => host.isEmpty || isWords 16 host
  | .descriptorComplete _ _ => true
  | .shuPause _ _ _ _ => true
  | .shuAbort _ _ => true
  | .streamRecordStage _ => true
  | .streamFlushTimeout _ _ => true
  | .atomicAdd _ => true
  | .atomicCas _ => true
  | .scrubStep _ _ _ => true
  | .memSpared _ _ _ => true
  | .laneDetectProbe _ _ _ => true
  | .blockLock _ _ _ _ _ => true
  | .adaptPresetStep _ _ _ => true
  | .trainStepTimeout _ _ => true
  | .trainTo _ _ => true
  | .backoffExpiry _ _ => true
  | .retrain _ _ => true
  | .srefChange _ _ _ => true
  | .train _ _ _ _ _ _ => true
  | .align _ _ _ _ _ _ => true
  | .portUp _ _ => true
  | .portDown _ _ => true
  | .flit _ _ header data trailer _ => decide (header < 2 ^ 64) && data.all (fun x => decide (x < 2 ^ 64)) && decide (trailer < 2 ^ 64)
  | .bobbin _ _ _ _ _ _ _ _ => true
  | .flitSend _ _ _ => true
  | .doze _ _ _ => true
  | .dozeIdleTimeout _ _ => true
  | .deepIdleTimeout _ _ => true
  | .resetNRelease _ _ => true
  | .vddAonGood _ _ _ => true
  | .refclkReturn _ _ => true
  | .sliceSettleDone _ _ => true
  | .throttlePauseEnd _ => true
  | .encoderShortPulse _ _ _ _ => true
  | .configUnlockChange _ _ => true
  | .shuttleRequestDone _ _ len _ host _ _ _ => decide (0 < len) && (host.isEmpty || host.length == len)
  | .badCommand _ => true
  | .registerRead _ addr => isRegAddr addr
  | .alignColumnMissing _ _ => true
  | .dozeExit _ _ => true
  | .deepExit _ _ => true
  | .controlColumnSend _ _ _ => true
  | .bobbinReturn _ _ _ => true
  | .wakeDone _ => true
  | .buttonPress _ _ => true

end Sys2Proof
end

