-- ==== Sys2Proof/Certificates/Slice0/Obligations.lean ====
section
/-! DEFINITION. The statements for the provers. Each conjunct of a statement is one case of what a command does; a witness for the
hypotheses of each stands in Tests/Slice0.lean. A statement that says it derives from the model's own choice names its log
entry. -/

open Sys2Proof Sys2Proof.Machine

/-- A step is exec of the front command; idling on an empty queue is the model's choice (log entry 1). -/
def Obligations.StepTakesTheFront : Prop :=
  (∀ (c : Instr) (rest : List Instr) (s : State), s.pending = c :: rest → step s = exec c { s with pending := rest }) ∧
  (∀ s : State, s.pending = [] → step s = .next s)

/-- The reset values of the register tables, one or more of every block. -/
def Obligations.ResetValues : Prop :=
  (let s := State.reset
   s.pending = [] ∧ s.get GLB_EPOCH.EPOCH = 0 ∧ s.get GLB_ID.PART = 0x8640 ∧ s.get GLB_ID.STEP = 0xB1 ∧
   s.get CLK_FRAME_PER.PERIOD = 250 ∧ s.get CLK_STEER_LIM.LIM = 200 ∧ s.get CLK_STEER_LIM.STEP = 100 ∧
   (∀ t < 96, s.get (T_GATE_CTL.LEN_M1 t) = 255 ∧ s.get (T_COINC_CTL.K_FIX t) = 2 ∧ s.get (T_PROOF_CTL.WIDTH t) = 2 ∧
     s.get (T_REED_CTL.SEP t) = 4 ∧ s.get (T_RET_CTL.THR_SIG t) = 20 ∧ s.get (T_TDC_AUDIT_STAT.PHASE t) = 15) ∧
   s.get EMD_CTL.OPEN_N = 4 ∧ s.flag EMD_STAT.CEIL_UNSET = true ∧ s.get TRD_PWM_CTL.PER = 4000 ∧
   s.get SEL_CTL.M_M1 = 1 ∧ s.get SAF_OSSD_TIM.EDM_T = 30 ∧ (∀ p < 2, s.flag (SAF_OSSD_CFG.RESTART p) = true) ∧
   s.get SAF_OSSD_STAT.STATE1 = 0 ∧ s.get SAF_OSSD_STAT.STATE2 = 0 ∧ s.get SAF_STATE.STATE = 1 ∧
   (∀ i < 640, s.flag (EVT_SRC.MASK i) = true ∧ s.flag (evtPend i) = false ∧ s.get (EVT_CNT.COUNT i) = 0) ∧
   s.get EVT_LOG_CTL.SIZE_LOG2 = 8 ∧
   (∀ c < 64, s.get (SHU_CFG.TC c) = 2 ∧ s.flag (SHU_CFG.EN c) = false ∧ s.get (SHU_LIM.OUT_M1 c) = 63) ∧
   s.get MEM_SCRUB.SCRUB_H = 24 ∧ s.get LNK_CFG.FOM_MIN = 64 ∧ (∀ p < 16, s.get (LNK_PORT_CTL.DOZE_IDLE p) = 100) ∧
   s.get SUP_CTL.TI = 20000 ∧ s.get THM_CTL.WARN = 255 ∧ s.get LPE_SAMP.DIV = 9 ∧ s.get IND_BEAD_CTL.PER = 20)

/-- The invariants hold at reset. -/
def Obligations.ResetInvariants : Prop :=
  (MemoryWf State.reset ∧ PairsSafe State.reset) ∧
  (State.reset.dev.running = false ∧ (∀ p < 2, State.reset.pairHigh p = false))

/-- The canonical form of memory, the model's own representation, is kept by every step. -/
def Obligations.MemoryStaysCanonical : Prop :=
  (∀ s t : State, MemoryWf s → step s = .next t → MemoryWf t)

/-- Fuses only ever gain bits, over runs of any length. -/
def Obligations.FusesNeverUnburn : Prop :=
  (∀ s t : State, Steps s t → FusesKept s.fuse t.fuse)

/-- Every waiting command is executed, with the time that its interval gives (log entry 2). -/
def Obligations.EveryQueueDrains : Prop :=
  (∀ (c : Instr) (rest : List Instr) (s t : State), s.pending = c :: rest → step s = .next t →
    t.pending = rest ∧ t.now = s.now + timeOf c) ∧
  (∀ s : State, ∃ t : State, Steps s t ∧ t.pending = [] ∧ t.now = s.now + ((s.pending.map timeOf).foldl (· + ·) 0) ∧
    FusesKept s.fuse t.fuse ∧ (MemoryWf s → MemoryWf t))

/-- R393 and R81: the one operation that every event goes through. -/
def Obligations.RaiseEvent : Prop :=
  (∀ (src cause detail : Nat) (s : State), src < 640 → s.domOn (evtDomain src) = true → s.coalDue = false →
    (let t := s.raise src cause detail
     t.get (EVT_CNT.COUNT src) = min (s.get (EVT_CNT.COUNT src) + 1) (2 ^ ((EVT_CNT.COUNT src).hi + 1 - (EVT_CNT.COUNT src).lo) - 1) ∧
     t.flag (evtPend src) = true ∧
     (∀ i < 640, i ≠ src → t.flag (evtPend i) = s.flag (evtPend i) ∧ t.get (EVT_CNT.COUNT i) = s.get (EVT_CNT.COUNT i)) ∧
     OnlyFieldsEv [] s t)) ∧
  (∀ (src cause detail : Nat) (s : State), src < 640 → s.domOn (evtDomain src) = true → s.coalDue = false →
    s.flag (EVT_FIRST_SRC.VALID (evtClass src)) = false →
    (let t := s.raise src cause detail
     t.flag (EVT_FIRST_SRC.VALID (evtClass src)) = true ∧ t.get (EVT_FIRST_SRC.SOURCE (evtClass src)) = src ∧
     t.get (EVT_FIRST_SRC.CAUSE (evtClass src)) = cause % 256 ∧ t.get (EVT_FIRST_EP.EPOCH (evtClass src)) = s.epoch)) ∧
  (∀ (src cause detail : Nat) (s : State), src < 640 → s.domOn (evtDomain src) = true → s.coalDue = false →
    s.flag (EVT_FIRST_SRC.VALID (evtClass src)) = true →
    (bit s.evt.firsts (evtClass src) = false ∨ s.get (EVT_FIRST_SRC.SOURCE (evtClass src)) ≤ src) →
    (let t := s.raise src cause detail
     t.word (EVT_FIRST_SRC.addr (evtClass src)) = s.word (EVT_FIRST_SRC.addr (evtClass src)) ∧
     t.word (EVT_FIRST_EP.addr (evtClass src)) = s.word (EVT_FIRST_EP.addr (evtClass src)))) ∧
  (∀ (src cause detail : Nat) (s : State), src < 640 → s.domOn (evtDomain src) = true →
    s.logEvents < 224 → s.evt.used = [] → s.evt.recs = 0 →
    (s.raise src cause detail).evt.fifo = s.evt.fifo ++ [.event src cause s.epoch s.timeUs detail]) ∧
  (∀ (src cause detail : Nat) (s : State), src < 640 → s.domOn (evtDomain src) = true → s.coalDue = false →
    (s.flag (evtPend src) = true ∨ s.flag (EVT_SRC.MASK src) = true) →
    (s.raise src cause detail).out = s.out ∧ (s.raise src cause detail).pci = s.pci) ∧
  (∀ (src cause detail : Nat) (s : State), RaisesAnew s src → s.pci.msixEn = true → s.hostLink = true →
    s.vecMasked (s.get (EVT_SRC.VEC src)) = true →
    (s.raise src cause detail).flag (pbaBit (s.get (EVT_SRC.VEC src))) = true ∧ (s.raise src cause detail).out = s.out) ∧
  (∀ (src cause detail : Nat) (s : State), RaisesAnew s src → s.pci.msixEn = true → s.hostLink = true →
    s.vecMasked (s.get (EVT_SRC.VEC src)) = false → s.evt.holdoff.contains (s.get (EVT_SRC.VEC src)) = true →
    (s.raise src cause detail).evt.heldTrig.contains (s.get (EVT_SRC.VEC src)) = true ∧ (s.raise src cause detail).out = s.out) ∧
  (∀ (src cause detail : Nat) (s : State), RaisesAnew s src → s.pci.msixEn = true → s.hostLink = true →
    s.vecMasked (s.get (EVT_SRC.VEC src)) = false → s.evt.holdoff.contains (s.get (EVT_SRC.VEC src)) = false →
    (let t := s.raise src cause detail
     let v := s.get (EVT_SRC.VEC src)
     t.out = s.out ++ [.msi v (s.msixWord v 0 + s.msixWord v 1 * 2 ^ 32) (s.msixWord v 2)] ∧
     t.evt.holdoff = s.evt.holdoff ++ (if s.get EVT_INT_CTL.HOLDOFF = 0 then [] else [v]))) ∧
  (∀ (src cause detail : Nat) (s : State), RaisesAnew s src → (s.pci.msixEn = false ∨ s.hostLink = false) →
    (s.raise src cause detail).out = s.out) ∧
  (∀ (src cause detail : Nat) (s : State), RaisesAnew s src → s.pci.d3hot = true → s.pci.pmeEn = true →
    (s.raise src cause detail).pci.wakeLow = true) ∧
  (∀ (src cause detail : Nat) (s : State), s.domOn (evtDomain src) = false → s.raise src cause detail = s)

/-- R33, whole. -/
def Obligations.ShadowNesting : Prop :=
  (∀ (dt : Nat) (tag : Fin 256) (s : State), HostOpen s GLB_SHADOW_OPEN.addr → s.stage.openGrp ≠ none →
    ∃ t, exec (.glbShadowOpen dt tag) s = .next t ∧ t.flag GLB_SHADOW_STAT.NEST = true ∧
      OnlyFields [GLB_SHADOW_STAT.NEST] ((s.advance dt).touch GLB_SHADOW_OPEN.addr) t) ∧
  (∀ (dt : Nat) (late : Bool) (s : State), HostOpen s GLB_SHADOW_CLOSE.addr → s.stage.openGrp = none →
    ∃ t, exec (.glbShadowClose dt late) s = .next t ∧ t.flag GLB_SHADOW_STAT.NEST = true ∧
      OnlyFields [GLB_SHADOW_STAT.NEST] ((s.advance dt).touch GLB_SHADOW_CLOSE.addr) t) ∧
  (∀ (dt : Nat) (s : State), HostOpen s GLB_SHADOW_ABORT.addr →
    ∃ t, exec (.glbShadowAbort dt) s = .next t ∧ t.stage.openGrp = none ∧ t.stage.groups = s.stage.groups ∧
      t.stage.single = s.stage.single ∧ t.flag GLB_SHADOW_STAT.OPEN = false ∧
      OnlyFields [⟨GLB_SHADOW_STAT.addr, 31, 30⟩, GLB_SHADOW_CNT.COUNT]
        { (s.advance dt).touch GLB_SHADOW_ABORT.addr with stage := t.stage } t)

/-- R527, whole. -/
def Obligations.AtomicWhileOff : Prop :=
  (blockDomain SPD_ATOM_CMD.addr = 129 ∧ blockDomain SPD_ATOM_STAT.addr = 129 ∧ blockDomain SPD_ATOM_RES.addr = 129) ∧
  (∀ (dt : Nat) (s : State), HostOpen s SPD_ATOM_CMD.addr → s.domOn 130 = false →
    8 * 2 ^ 18 ≤ s.get SPD_ATOM_ADDR.ADDR * 4 → s.get SPD_ATOM_ADDR.ADDR * 4 < 16 * 2 ^ 18 →
    (∃ t, exec (.atomicAdd dt) s = .next t ∧ t.flag SPD_ATOM_STAT.SUCCESS = false ∧
      t.flag SPD_ATOM_STAT.DENIED = true ∧ t.word SPD_ATOM_RES.addr = 0#32 ∧ SameMemory s t ∧
      OnlyFields [SPD_ATOM_STAT.SUCCESS, SPD_ATOM_STAT.DENIED, SPD_ATOM_RES.OLD] ((s.advance dt).touch SPD_ATOM_CMD.addr) t) ∧
    exec (.atomicCas dt) s = exec (.atomicAdd dt) s)

/-- R16, whole. Where a clause has only time pass since its event cannot occur in the state, that is the model's choice (log 3).
-/
def Obligations.TicksByState : Prop :=
  (∀ (dt : Nat) (fsel : Fin 256) (s : State),
    (s.dev = .configured ∨ s.dev = .run ∨ s.dev = .degraded ∨ s.dev = .safeStop ∨ s.dev = .maintenance ∨ s.dev = .lockout) →
    ∃ t, exec (.frameTick dt fsel) s = .next t ∧ t.clk.tickAt = s.now + dt ∧ t.acqOpen = true ∧ t.decided = false ∧
      t.viewDue = true ∧ t.closing.epoch = s.get GLB_EPOCH.EPOCH) ∧
  (∀ (dt : Nat) (fsel : Fin 256) (s : State), (s.dev = .off ∨ s.dev = .reset ∨ s.dev = .boot) →
    exec (.frameTick dt fsel) s = .next (s.advance dt))

/-- R71 and R72: a rail becomes good, and the last one ends OFF. -/
def Obligations.RailsEndOff : Prop :=
  (∀ (dt : Nat) (rail : Fin 10) (porst : Bool) (src : Fin 4) (s : State), bit s.pwr.rails rail.val = false → rail.val ≠ 9 →
    (s.dev ≠ .off ∨ setBit s.pwr.rails rail.val true ≠ railsAll) →
    exec (.railGood dt rail porst src) s = .next
      { s.advance dt with pwr := { s.pwr with rails := setBit s.pwr.rails rail.val true } }) ∧
  (∀ (dt : Nat) (rail : Fin 10) (src : Fin 4) (s : State), bit s.pwr.rails rail.val = false → rail.val ≠ 9 →
    s.dev = .off → setBit s.pwr.rails rail.val true = railsAll → s.pwr.fromLockout = false →
    exec (.railGood dt rail true src) s = .next
      { s.advance dt with dev := .reset, pwr := { s.pwr with
          rails := railsAll, porstHigh := true, bootSrc := src.val, timer := true, released := false } } ∧
    exec (.railGood dt rail false src) s = .next
      { s.advance dt with dev := .reset, pwr := { s.pwr with rails := railsAll, porstHigh := false } }) ∧
  (∀ (dt : Nat) (rail : Fin 10) (src : Fin 4) (s : State), bit s.pwr.rails rail.val = false → rail.val ≠ 9 →
    s.dev = .off → setBit s.pwr.rails rail.val true = railsAll → s.pwr.fromLockout = true →
    ∃ t, exec (.railGood dt rail true src) s = .next t ∧ t.dev = .reset ∧ t.pwr.fromLockout = false ∧
      t.word PWR_RST_CAUSE.addr = BitVec.ofNat 32 ((s.word PWR_RST_CAUSE.addr).toNat ||| 2 ^ 13)) ∧
  (∀ (dt : Nat) (porst : Bool) (src : Fin 4) (s : State), bit s.pwr.rails 9 = false →
    (s.dev ≠ .off ∨ setBit s.pwr.rails 9 true ≠ railsAll) →
    exec (.vddAonGood dt porst src) s = .next
      ({ s.advance dt with pwr := { s.pwr with rails := setBit s.pwr.rails 9 true } }.setWord PWR_RST_CAUSE.addr 0x400#32)) ∧
  (∀ (dt : Nat) (src : Fin 4) (s : State), bit s.pwr.rails 9 = false →
    s.dev = .off → setBit s.pwr.rails 9 true = railsAll → s.pwr.fromLockout = false →
    exec (.vddAonGood dt true src) s = .next
      ({ s.advance dt with dev := .reset, pwr := { s.pwr with
          rails := railsAll, porstHigh := true, bootSrc := src.val, timer := true, released := false } }.setWord
        PWR_RST_CAUSE.addr 0x400#32))

/-- R71, R61 and R364: from RESET to BOOT. -/
def Obligations.ReleaseEndsReset : Prop :=
  (∀ (dt : Nat) (s : State), s.dev = .reset → s.pwr.timer = true → s.pwr.porstHigh = true → s.pwr.resetHigh = true →
    exec (.resetRelease dt) s = .next
      { (s.advance dt).put GLB_EPOCH.EPOCH 0 with
        releasedAt := s.now + dt, lpe := { gridAt := s.now + dt }, pwr := { s.pwr with released := true, timer := false } }) ∧
  (∀ (dt : Nat) (s : State), s.dev = .reset → s.pwr.timer = true → s.pwr.porstHigh = true → s.pwr.resetHigh = false →
    exec (.resetRelease dt) s = .next { s.advance dt with pwr := { s.pwr with timer := false } }) ∧
  (∀ (dt : Nat) (src : Fin 4) (s : State), s.dev = .reset → s.pwr.resetHigh = false → s.pwr.porstHigh = true →
    s.pwr.timer = false →
    exec (.resetNRelease dt src) s = .next
      { (s.advance dt).put GLB_EPOCH.EPOCH 0 with
        releasedAt := s.now + dt, lpe := { gridAt := s.now + dt }
        pwr := { s.pwr with resetHigh := true, bootSrc := src.val, released := true, timer := false } }) ∧
  (∀ (dt : Nat) (src : Fin 4) (s : State), s.dev = .reset → s.pwr.resetHigh = false → s.pwr.porstHigh = true →
    s.pwr.timer = true →
    exec (.resetNRelease dt src) s = .next
      { s.advance dt with pwr := { s.pwr with resetHigh := true, bootSrc := src.val } }) ∧
  (∀ (dt : Nat) (sw : Fin 16) (s : State), s.dev = .reset → s.pwr.released = true → s.pwr.bootSrc = 3 → s.fuse.factOk = true →
    s.flag (domBit 122) = true → s.cmds = [] →
    ∃ t, exec (.bootEntry dt sw) s = .next t ∧ t.dev = .boot ∧ t.pwr.waking = 0 ∧ t.img.bootFailed = true ∧
      t.img.bootAt = s.now + dt ∧ t.get SAF_STATE.STATE = 2 ∧ t.get SAF_STATE.PREV = 1 ∧ t.get SAF_SEAL.BOOT = sw.val ∧
      t.get SAF_SEAL.NOW = sw.val ∧ t.flag CLK_STAT.PLLT_LOCK = false ∧ t.flag (evtPend 472) = true ∧ SameMemory s t) ∧
  (∀ (dt : Nat) (sw : Fin 16) (s : State), s.dev = .reset → s.pwr.released = true → s.pwr.bootSrc = 1 → s.fuse.factOk = true →
    s.srcDenied 1 = false → s.cmds = [] →
    ∃ t, exec (.bootEntry dt sw) s = .next t ∧ t.dev = .boot ∧ t.img.bootFailed = s.img.bootFailed ∧
      t.img.load = some { src := 1, copy := 0, slot := 0, boot := true, bytes := [], feed := [], memDone := false } ∧
      t.flag IMG_FEED_STAT.OPEN = true ∧ t.get IMG_STAT.PHASE = 1 ∧ SameMemory s t)

/-- R73, R74, R75 and R557: the resets. That the cause bits before PORST_N are kept beside bit 11 is the model's choice (log 28).
Where a clause has only time pass since its event cannot occur in the state, that is the model's choice (log 3). -/
def Obligations.ResetBallsAndBrownout : Prop :=
  (∀ (dt lowNs : Nat) (src : Fin 4) (s : State), s.dev ≠ .off → s.dev ≠ .lockout → s.pwr.porstHigh = true → 10000 ≤ lowNs →
    ∃ t, exec (.porstNAssert dt lowNs src) s = .next t ∧ t.dev = .reset ∧ t.pwr.bootSrc = src.val ∧ t.pwr.timer = true ∧
      t.pwr.released = false ∧ t.pwr.rails = s.pwr.rails ∧
      t.word PWR_RST_CAUSE.addr = BitVec.ofNat 32 ((s.word PWR_RST_CAUSE.addr).toNat ||| 2 ^ 11) ∧
      (∀ a, a ≠ PWR_RST_CAUSE.addr → a ≠ THM_SHUT_INFO.addr → t.word a = resetWord a) ∧
      (∀ a, a < 2 ^ 40 → t.dram.read a = Config.freeByte s.freeCount a) ∧ ∀ a, t.spd.read a = 0) ∧
  (∀ (dt lowNs : Nat) (s : State), s.dev ≠ .off → s.dev ≠ .lockout → s.pwr.porstHigh = true → 10000 ≤ lowNs →
    ∃ t, exec (.warmReset dt lowNs) s = .next t ∧ t.dev = .reset ∧ t.pwr.resetHigh = false ∧ t.pwr.released = false ∧
      t.pwr.waking = 2 ^ 136 - 1 ∧ t.get GLB_EPOCH.EPOCH = 0 ∧ bit (t.word PWR_RST_CAUSE.addr).toNat 12 = true ∧
      (∀ d, d < 136 → t.flag (domBit d) = true) ∧
      (∃ g, ∀ a, a < 2 ^ 40 → t.dram.read a = Config.freeByte g a)) ∧
  (∀ (dt ns : Nat) (rail : Fin 10) (s : State), 1000 ≤ ns → bit s.pwr.rails rail.val = true → s.dev ≠ .off →
    ∃ t, exec (.brownout dt rail ns) s = .next t ∧ t.dev = .off ∧ t.pwr.rails = setBit s.pwr.rails rail.val false ∧
      t.pwr.fromLockout = (s.dev == .lockout && rail.val != 9) ∧
      t.word PWR_RST_CAUSE.addr = BitVec.ofNat 32 ((s.word PWR_RST_CAUSE.addr).toNat ||| railCause rail.val) ∧
      (∀ a, a ≠ PWR_RST_CAUSE.addr → t.word a = resetWord a) ∧
      (∀ a, a < 2 ^ 40 → t.dram.read a = Config.freeByte s.freeCount a)) ∧
  (∀ (dt ns : Nat) (rail : Fin 10) (s : State), ns < 1000 → exec (.brownout dt rail ns) s = .next (s.advance dt)) ∧
  (∀ (dt lowNs : Nat) (src : Fin 4) (s : State), s.dev = .lockout →
    exec (.porstNAssert dt lowNs src) s = .next (s.advance dt) ∧
    ∃ t, exec (.warmReset dt lowNs) s = .next t ∧ t.dev = .lockout ∧ t.regs = s.regs ∧ SameMemory s t)

/-- R76 to R86: the life of a domain request. -/
def Obligations.DomainRequests : Prop :=
  (∀ (dt : Nat) (id : Fin 256) (force : Bool) (s : State), s.barOpen = true → s.dev ≠ .off → s.pwr.req = none →
    s.domRefused id.val false = none →
    ∃ t, exec (.powerDomainRequest dt id false force) s = .next t ∧
      OnlyFields [PWR_DOM_STAT.LAST_ID, PWR_DOM_STAT.BUSY]
        { (s.advance dt).touch PWR_DOM_CTL.addr with
          pwr := { s.pwr with req := some (.drain id.val force), barred := setBit s.pwr.barred id.val true } } t ∧
      t.get PWR_DOM_STAT.LAST_ID = id.val ∧ t.flag PWR_DOM_STAT.BUSY = true) ∧
  (∀ (dt : Nat) (id : Fin 256) (force : Bool) (s : State), s.barOpen = true → s.dev ≠ .off → s.pwr.req = none →
    s.domRefused id.val true = none →
    ∃ t, exec (.powerDomainRequest dt id true force) s = .next t ∧ t.pwr.req = some (.wake id.val) ∧
      bit t.pwr.waking id.val = true ∧ t.flag (domBit id.val) = true ∧ t.domOn id.val = false ∧
      t.get PWR_DOM_STAT.LAST_ID = id.val ∧ t.flag PWR_DOM_STAT.BUSY = true) ∧
  (∀ (dt : Nat) (id : Fin 256) (on force : Bool) (s : State), s.barOpen = true → s.dev ≠ .off → s.pwr.req ≠ none →
    exec (.powerDomainRequest dt id on force) s =
      .next (((s.advance dt).touch PWR_DOM_CTL.addr).put PWR_DOM_STAT.RESULT 1)) ∧
  (∀ (dt : Nat) (id : Fin 136) (force : Bool) (s : State), s.inFlightOn id.val = [] → s.pwr.req = some (.drain id.val force) →
    ∃ t, exec (.domainDrainDone dt id) s = .next t ∧ t.pwr.req = none ∧ t.flag (domBit id.val) = false ∧
      bit t.pwr.barred id.val = false ∧ t.get PWR_DOM_STAT.RESULT = 0 ∧ t.flag PWR_DOM_STAT.BUSY = false) ∧
  (∀ (dt : Nat) (id : Fin 136) (s : State), s.inFlightOn id.val ≠ [] → s.pwr.req = some (.drain id.val false) → s.dev ≠ .off →
    ∃ t, exec (.drainTimeout dt id) s = .next t ∧
      OnlyFieldsEv [PWR_DOM_STAT.RESULT, PWR_DOM_STAT.BUSY] { s.advance dt with pwr := t.pwr, shu := t.shu } t ∧
      t.pwr = { s.pwr with req := none, barred := setBit s.pwr.barred id.val false } ∧
      t.get PWR_DOM_STAT.RESULT = 3 ∧ t.flag PWR_DOM_STAT.BUSY = false ∧ t.flag (evtPend 519) = true) ∧
  (∀ (dt : Nat) (id : Fin 136) (s : State), s.inFlightOn id.val ≠ [] → s.pwr.req = some (.drain id.val true) →
    ∃ t, exec (.drainTimeout dt id) s = .next t ∧ t.pwr.req = none ∧ t.flag (domBit id.val) = false ∧
      t.get PWR_DOM_STAT.RESULT = 4 ∧ t.flag PWR_DOM_STAT.BUSY = false) ∧
  (∀ (dt : Nat) (id : Fin 136) (late : Bool) (s : State), s.dev ≠ .off → s.dev ≠ .reset → s.flag (domBit id.val) = true →
    bit s.pwr.waking id.val = true →
    ∃ t, exec (.domReady dt id late) s = .next t ∧ t.domOn id.val = true ∧
      (s.pwr.req = some (.wake id.val) → t.pwr.req = none ∧ t.get PWR_DOM_STAT.RESULT = 0 ∧
        t.flag PWR_DOM_STAT.BUSY = false) ∧
      (s.pwr.req ≠ some (.wake id.val) → t.pwr.req = s.pwr.req))

/-- R89 and R90: entry to STANDBY and the way back. -/
def Obligations.PowerModes : Prop :=
  (∀ (dt : Nat) (s : State), Taken s opStandby →
    ∃ t, exec (.standby dt) s = .next t ∧ HeadTaken s t ∧ t.get PWR_MODE.MODE = 1 ∧
      OnlyFields [GLB_CMD_PTR.HEAD, PWR_MODE.MODE] { s.advance dt with pwr := t.pwr, mem := t.mem, cmds := t.cmds } t ∧
      t.cmds = s.cmds ++ [⟨opStandby, s.entTag, s.dev, .standby, true⟩] ∧
      (∀ d, d < 136 → (s.standbyDoms.contains d && s.flag (domBit d)) = true → bit t.pwr.stbyLeft d = true ∧ bit t.pwr.barred d = true) ∧
      (∀ c, c < 8 → s.domOn (112 + c) = true → bit t.mem.selfRef c = true)) ∧
  (∀ (dt tag : Nat) (s : State), s.get PWR_MODE.MODE = 1 → s.pwr.stbyFail = false → s.pwr.stbyLeft = 0 → CplFree s →
    s.dev ≠ .off → s.cmds = [⟨opStandby, tag, s.dev, .standby, true⟩] → tag < 2 ^ 16 →
    ∃ t, exec (.standbyEntryDone dt) s = .next t ∧ t.get PWR_MODE.MODE = 2 ∧ t.cmds = [] ∧
      CplWritten s t opStandby tag stOk 0 ∧ t.flag (evtPend 512) = true ∧ t.pwr = s.pwr ∧ SameMemory s t) ∧
  (∀ (dt tag : Nat) (s : State), s.get PWR_MODE.MODE = 1 → s.pwr.stbyFail = true → s.pwr.stbyOff = 0 → CplFree s →
    s.dev ≠ .off → s.cmds = [⟨opStandby, tag, s.dev, .standby, true⟩] → tag < 2 ^ 16 →
    ∃ t, exec (.standbyEntryDone dt) s = .next t ∧ t.get PWR_MODE.MODE = 0 ∧ t.cmds = [] ∧ t.pwr.stbyFail = false ∧
      t.pwr.stbyLeft = 0 ∧ CplWritten s t opStandby tag stFailed 3) ∧
  (∀ (dt : Nat) (s : State), Taken s opWake → (∀ d, d < 136 → bit s.pwr.stbyOff d = true → d ≠ 122 ∧ d ≠ 135) →
    ∃ t, exec (.wake dt) s = .next t ∧ HeadTaken s t ∧ t.get PWR_MODE.MODE = 3 ∧
      t.cmds = s.cmds ++ [⟨opWake, s.entTag, s.dev, .wake, true⟩] ∧
      ∀ d, d < 136 → bit s.pwr.stbyOff d = true → s.flag (domBit d) = false → s.heldOff d = false →
        t.flag (domBit d) = true ∧ bit t.pwr.waking d = true) ∧
  (∀ (dt tag : Nat) (s : State), s.get PWR_MODE.MODE = 3 → (∀ d, d < 136 → bit s.pwr.stbyOff d = true →
      bit s.pwr.waking d = false ∧ s.awaitsGroup d = false) → CplFree s → s.dev ≠ .off → s.cmds = [⟨opWake, tag, s.dev, .wake, true⟩] → tag < 2 ^ 16 →
    ∃ t, exec (.wakeDone dt) s = .next t ∧ t.get PWR_MODE.MODE = 0 ∧ t.pwr.stbyOff = 0 ∧ t.cmds = [] ∧
      CplWritten s t opWake tag stOk 0)

/-- R94, R105 and R107: PLL-T and the reference clocks. -/
def Obligations.PllT : Prop :=
  (∀ (dt : Nat) (s : State), s.dev = .boot → s.clk.tDead = false → s.flag CLK_STAT.PLLT_BYP = false →
    ∃ t, exec (.pllTLock dt) s = .next t ∧ t.flag CLK_STAT.PLLT_LOCK = true ∧ t.flag CLK_STAT.REFT_OK = true ∧ t.dev = .boot ∧
      SameMemory s t) ∧
  (∀ (dt : Nat) (s : State), s.dev = .boot → s.flag CLK_STAT.PLLT_LOCK = false →
    exec (.pllTLockTimeout dt) s = .next { s.advance dt with clk := { s.clk with tDead := true } } ∧
    (∀ dt' : Nat, ∀ t, exec (.pllTLockTimeout dt) s = .next t → exec (.pllTLock dt') t = .next (t.advance dt'))) ∧
  (∀ (dt : Nat) (s : State), s.dev.running = true → s.flag CLK_STAT.PLLT_BYP = false → KeptOn s 122 →
    ∃ t, exec (.clkTFail dt) s = .next t ∧ t.dev = .safeStop ∧ t.flag CLK_STAT.PLLT_BYP = true ∧
      t.flag CLK_STAT.PLLT_LOCK = false ∧ t.flag HED_STAT.RUNNING = false ∧ t.flag SAF_CAUSE.CLOCK = true ∧
      t.get SAF_STATE.STATE = 6 ∧ t.flag (evtPend 449) = true ∧ t.pairHigh 0 = false ∧ t.pairHigh 1 = false) ∧
  (∀ (dt : Nat) (refF : Bool) (s : State),
    exec (.refclkLoss dt refF) s = .next ((s.advance dt).putB (if refF then CLK_STAT.REFF_OK else CLK_STAT.REFT_OK) false) ∧
    exec (.refclkReturn dt refF) s = .next ((s.advance dt).putB (if refF then CLK_STAT.REFF_OK else CLK_STAT.REFT_OK) true))

/-- R100 and R106: PLL-F. -/
def Obligations.PllF : Prop :=
  (∀ (dt b : Nat) (search : Bool) (band : Fin 64) (s : State), s.flag CLK_PLLF_CFG.BAND_SRC = false → s.tableBand = some b →
    ∃ t, exec (.pllFLockAttempt dt true search band) s = .next t ∧
      OnlyFields [CLK_STEER_STAT.EFF, CLK_STAT.REFF_ACT, CLK_STAT.PLLF_LOCK, CLK_STAT.BAND, CLK_STAT.BAND_AUTO]
        { s.advance dt with clk := { s.clk with exitByp := s.flag CLK_STAT.PLLF_BYP } } t ∧
      t.flag CLK_STAT.PLLF_LOCK = true ∧ t.get CLK_STAT.BAND = b ∧ t.flag CLK_STAT.BAND_AUTO = false ∧
      t.getI CLK_STEER_STAT.EFF = 0 ∧ t.flag CLK_STAT.REFF_ACT = s.usesRefF) ∧
  (∀ (dt : Nat) (tableOk : Bool) (band : Fin 64) (s : State),
    (s.flag CLK_PLLF_CFG.BAND_SRC = true ∨ tableOk = false ∨ s.tableBand = none) →
    ∃ t, exec (.pllFLockAttempt dt tableOk true band) s = .next t ∧
      OnlyFields [CLK_STEER_STAT.EFF, CLK_STAT.REFF_ACT, CLK_STAT.PLLF_LOCK, CLK_STAT.BAND, CLK_STAT.BAND_AUTO]
        { s.advance dt with clk := { s.clk with exitByp := s.flag CLK_STAT.PLLF_BYP } } t ∧
      t.flag CLK_STAT.PLLF_LOCK = true ∧ t.get CLK_STAT.BAND = band.val ∧ t.flag CLK_STAT.BAND_AUTO = true) ∧
  (∀ (dt : Nat) (tableOk : Bool) (band : Fin 64) (s : State),
    (s.flag CLK_PLLF_CFG.BAND_SRC = true ∨ tableOk = false ∨ s.tableBand = none) →
    ∃ t, exec (.pllFLockAttempt dt tableOk false band) s = .next t ∧
      OnlyFields [CLK_STEER_STAT.EFF, CLK_STAT.REFF_ACT, CLK_STAT.PLLF_LOCK] (s.advance dt) t ∧
      t.flag CLK_STAT.PLLF_LOCK = false) ∧
  (∀ (dt : Nat) (s : State), s.flag CLK_STAT.PLLF_BYP = false → s.dev ≠ .off →
    ∃ t, exec (.pllFBypass dt) s = .next t ∧ t.flag CLK_STAT.PLLF_BYP = true ∧ t.flag CLK_STAT.PLLF_LOCK = false ∧
      t.getI CLK_STEER_STAT.EFF = 0 ∧ t.get CLK_SYNC_STAT.STATE = 0 ∧ t.flag (evtPend 520) = true ∧
      t.flag CLK_STAT.REFF_ACT = (s.flag CLK_STAT.REFF_ACT && s.flag CLK_STAT.REFF_OK) ∧
      OnlyFieldsEv [CLK_STEER_STAT.EFF, CLK_STAT.PLLF_LOCK, CLK_STAT.REFF_ACT, CLK_STAT.PLLF_BYP, CLK_SYNC_STAT.STATE]
        { s.advance dt with clk := t.clk } t) ∧
  (∀ (dt : Nat) (s : State), s.flag CLK_STAT.PLLF_BYP = false → s.dev ≠ .off →
    ∃ t, exec (.clockMonitorFault dt 3) s = .next t ∧ t.flag CLK_STAT.MON_FAIL = true ∧ t.flag CLK_STAT.PLLF_BYP = true ∧
      t.flag (evtPend 520) = true ∧ t.dev = s.dev ∧ SameMemory s t) ∧
  (∀ (dt : Nat) (clk : Fin 4) (s : State), clk.val ≠ 3 → s.dev.running = true → s.flag CLK_STAT.PLLT_BYP = false → KeptOn s 122 →
    ∃ t, exec (.clockMonitorFault dt clk) s = .next t ∧ t.flag CLK_STAT.MON_FAIL = true ∧ t.flag CLK_STAT.PLLT_BYP = true ∧
      t.dev = .safeStop ∧ t.flag SAF_CAUSE.CLOCK = true) ∧
  (∀ (dt : Nat) (s : State), s.flag CLK_STAT.PLLF_BYP = true →
    ∃ t, exec (.pllFRetry dt) s = .next t ∧ OnlyFields [CLK_STEER_STAT.EFF, CLK_STAT.REFF_ACT] (s.advance dt) t ∧
      t.getI CLK_STEER_STAT.EFF = 0 ∧ t.flag CLK_STAT.REFF_ACT = s.usesRefF)

/-- R112 to R115: the alignment to SYNC_IN. That the window of R114 applies after the division by d_S (log 51), and that the relay
runs with alignment off (log 52), are the model's choices. Where a clause has only time pass since its event cannot occur in the
state, that is the model's choice (log 3). -/
def Obligations.FrameAlignment : Prop :=
  (∀ (dt heldNs : Nat) (falling : Bool) (s : State), (heldNs < 40 ∨ falling ≠ s.flag CLK_SYNC_CTL.EDGE) →
    exec (.syncInEdge dt falling heldNs) s = .next (s.advance dt)) ∧
  (∀ (dt heldNs : Nat) (s : State), 40 ≤ heldNs → s.get CLK_SYNC_OUT.MODE ≠ 2 → s.get CLK_SYNC_CTL.MODE ≠ 0 →
    s.dev.ticks = true → s.flag CLK_STAT.PLLF_BYP = false → s.get CLK_SYNC_STAT.STATE = 0 →
    ∃ t, exec (.syncInEdge dt (s.flag CLK_SYNC_CTL.EDGE) heldNs) s = .next t ∧ t.get CLK_SYNC_STAT.STATE ≠ 0 ∧
      t.clk.refAt = s.now + dt ∧ t.clk.edges = 0 ∧ t.flag (evtPend 522) = true ∧
      t.get CLK_SYNC_STAT.PHASE_ERR = unsigned 24 (s.advance dt).phaseErr ∧
      OnlyFieldsEv [CLK_SYNC_STAT.PHASE_ERR, CLK_SYNC_STAT.STATE] { s.advance dt with clk := t.clk, freeCount := t.freeCount } t) ∧
  (∀ (dt heldNs : Nat) (s : State), 40 ≤ heldNs → s.get CLK_SYNC_OUT.MODE ≠ 2 → s.get CLK_SYNC_CTL.MODE ≠ 0 →
    s.dev.ticks = true → s.flag CLK_STAT.PLLF_BYP = false → s.get CLK_SYNC_STAT.STATE ≠ 0 →
    s.clk.edges < s.get CLK_SYNC_CTL.DIV_M1 →
    ∃ t, exec (.syncInEdge dt (s.flag CLK_SYNC_CTL.EDGE) heldNs) s = .next t ∧ t.clk.edges = s.clk.edges + 1 ∧
      OnlyFields [CLK_SYNC_CNT.MISSING] { s.advance dt with clk := t.clk } t) ∧
  (∀ (dt heldNs : Nat) (s : State), 40 ≤ heldNs → s.get CLK_SYNC_OUT.MODE = 2 → s.domOn 134 = true → s.get CLK_SYNC_CTL.MODE = 0 →
    exec (.syncInEdge dt (s.flag CLK_SYNC_CTL.EDGE) heldNs) s =
      .next ((s.advance dt).emit (.syncPulse 0 0 (100 * max 1 (s.get CLK_SYNC_OUT.WIDTH))))) ∧
  (∀ (dt heldNs : Nat) (s : State),
    let p := s.refPeriod
    let d := s.now + dt - s.clk.refAt
    40 ≤ heldNs → s.get CLK_SYNC_OUT.MODE ≠ 2 → s.get CLK_SYNC_CTL.MODE ≠ 0 → s.dev.ticks = true →
    s.flag CLK_STAT.PLLF_BYP = false → s.get CLK_SYNC_STAT.STATE ≠ 0 → s.get CLK_SYNC_CTL.DIV_M1 ≤ s.clk.edges →
    s.clk.refAt ≤ s.now → p < 4 * ((d : Int) - (max 1 (roundDivN d p) * p : Nat)).natAbs →
    ∃ t, exec (.syncInEdge dt (s.flag CLK_SYNC_CTL.EDGE) heldNs) s = .next t ∧ t.clk.refAt = s.clk.refAt ∧
      t.clk.edges = s.clk.edges ∧
      t.get CLK_SYNC_CNT.SPURIOUS =
        satU (CLK_SYNC_CNT.SPURIOUS.hi + 1 - CLK_SYNC_CNT.SPURIOUS.lo) (s.get CLK_SYNC_CNT.SPURIOUS + 1) ∧
      OnlyFields [CLK_SYNC_CNT.MISSING, CLK_SYNC_CNT.SPURIOUS] { s.advance dt with clk := t.clk } t) ∧
  (∀ (dt : Nat) (s : State), s.get CLK_SYNC_STAT.STATE ≠ 0 → s.dev ≠ .off →
    ∃ t, exec (.syncLost dt) s = .next t ∧ t.get CLK_SYNC_STAT.STATE = 0 ∧
      t.get CLK_SYNC_CNT.MISSING = satU (CLK_SYNC_CNT.MISSING.hi + 1 - CLK_SYNC_CNT.MISSING.lo)
        (s.get CLK_SYNC_CNT.MISSING + (4 - s.clk.missed)) ∧
      t.flag (evtPend 521) = true ∧ t.flag (evtPend 522) = true ∧ t.clk.want = s.steer ∧ t.steer = s.steer ∧
      OnlyFieldsEv [CLK_SYNC_CNT.MISSING, CLK_SYNC_STAT.STATE] { s.advance dt with clk := t.clk } t)

/-- R11, R16, R17 and R37: the frame. Where a clause has only time pass since its event cannot occur in the state, that is the
model's choice (log 3). -/
def Obligations.FrameTick : Prop :=
  (∀ (dt : Nat) (fsel : Fin 256) (s : State), s.dev.ticks = true → s.get SAF_CELL.PRESENT = 0 →
    s.swapLands = false → (∀ w ∈ s.stage.due false, w.fld.addr ≠ GLB_EPOCH.addr) →
    ∃ t, exec (.frameTick dt fsel) s = .next t ∧ t.get GLB_EPOCH.EPOCH = (s.get GLB_EPOCH.EPOCH + 1) % 2 ^ 32 ∧
      t.acqOpen = true ∧ t.decided = false ∧ t.viewDue = true ∧ t.closing.epoch = s.get GLB_EPOCH.EPOCH ∧
      t.clk.tickAt = s.now + dt) ∧
  (∀ (dt : Nat) (fsel : Fin 256) (s : State), s.dev.ticks = false →
    exec (.frameTick dt fsel) s = .next (s.advance dt)) ∧
  (∀ (dt : Nat) (s : State), s.viewDue = true → s.held = none →
    exec (.viewSwitch dt) s = .next { s.advance dt with view := s.closing, viewDue := false }) ∧
  (∀ (dt : Nat) (s : State), s.viewDue = true → s.held ≠ none →
    (s.advance dt).snapNow = false →
    exec (.viewSwitch dt) s = .next (({ s.advance dt with view := s.closing, viewDue := false } : State).bump CLP_STAT.SKIPPED)) ∧
  (∀ (dt : Nat) (s : State), s.dev.ticks = true → s.acqOpen = true →
    ∃ t, exec (.acqWindowClose dt) s = .next t ∧ t.acqOpen = false ∧ t.get GLB_EPOCH.EPOCH = s.get GLB_EPOCH.EPOCH ∧
      SameMemory s t) ∧
  (∀ (dt : Nat) (s : State), (s.dev.ticks = false ∨ s.acqOpen = false) →
    exec (.acqWindowClose dt) s = .next (s.advance dt)) ∧
  (∀ (dt : Nat) (fsel : Fin 256) (a b : List Nat) (s : State),
    s.dev = .configured ∨ s.dev = .safeStop ∨ s.dev = .maintenance → s.get SAF_CELL.PRESENT ≠ 0 → s.ownMember ≠ s.timeSource →
    s.get CLK_SYNC_STAT.STATE = 2 → s.saf.joined = false → s.cmds = [] →
    (s.sender s.timeSource).rawLast = some a → (s.sender s.timeSource).rawNow = some b →
    msgSrc a = s.timeSource → msgSrc b = s.timeSource → msgSeq b = (msgSeq a + 1) % 2 ^ 16 →
    msgEpoch b = (msgEpoch a + 1) % 2 ^ 32 → s.swapLands = false → (∀ w ∈ s.stage.due false, w.fld.addr ≠ GLB_EPOCH.addr) →
    ∃ t, exec (.frameTick dt fsel) s = .next t ∧ t.get GLB_EPOCH.EPOCH = (msgEpoch b + 1) % 2 ^ 32 ∧ t.saf.joined = true ∧
      t.flag (evtPend 523) = true ∧ t.acqOpen = true ∧ t.decided = false ∧ t.viewDue = true ∧
      t.closing.epoch = s.get GLB_EPOCH.EPOCH) ∧
  (∀ (dt : Nat) (fsel : Fin 256) (w : Swap) (s : State), s.dev.ticks = true → (s.advance dt).tickOff = false →
    s.img.swap = some w → w.staged = true → w.late = false → s.sel.ready = none → s.img.apply = none →
    ∃ t, exec (.frameTick dt fsel) s = .next t ∧ t.img.swap = none ∧ t.img.active = s.idleSlot ∧
      t.get IMG_SWAP_EPOCH.EPOCH = t.get GLB_EPOCH.EPOCH ∧ t.get IMG_STAT.PHASE = 0 ∧
      (s.domOn 120 = true → t.hed.tab = w.tab) ∧ (∀ f, w.set = some f → s.domOn 121 = true → t.sel.active = some f) ∧
      (s.domOn 135 = true → t.flag (evtPend 531) = true) ∧ t.acqOpen = true ∧ t.viewDue = true)

/-- R20, R300 and R302: the decision of a frame. Where a clause has only time pass since its event cannot occur in the state, that
is the model's choice (log 3). -/
def Obligations.FrameDecision : Prop :=
  (∀ (dt : Nat) (safeIn : Fin 16) (edm : Fin 4) (crcDone : Bool) (s : State), s.dev.ticks = true → s.acqOpen = false →
    s.decided = false → KeptOn s 121 → KeptOn s 122 →
    ∃ t, exec (.frameDecision dt safeIn edm crcDone) s = .next t ∧ t.decided = true ∧ t.saf.safeIn = safeIn.val ∧
      t.get SAF_OSSD_STAT.EDM = edm.val ∧ t.saf.decEpoch = s.get GLB_EPOCH.EPOCH ∧ t.saf.decAt = s.now + dt ∧
      t.saf.toSend = true ∧ (∀ z, z < 64 → s.sel.pf.testBit z = true → t.sel.dec.pf.testBit z = true) ∧
      (s.sel.active = none → t.get SEL_PF_LO.ZONES = 2 ^ 32 - 1 ∧ t.get SEL_PF_HI.ZONES = 2 ^ 32 - 1 ∧
        t.flag SEL_FRAME.FORCED = true)) ∧
  (∀ (dt : Nat) (s : State), s.dev.ticks = true → s.acqOpen = false → s.decided = false → KeptOn s 121 → KeptOn s 122 →
    ∃ t, exec (.decisionDeadline dt) s = .next t ∧ t.decided = true ∧ t.flag GLB_FRAME_STAT.SEL_OVR = true ∧
      t.flag GLB_FRAME_STAT.INCOMPLETE = true ∧ t.get SEL_PF_LO.ZONES = 2 ^ 32 - 1 ∧ t.get SEL_PF_HI.ZONES = 2 ^ 32 - 1 ∧
      t.flag SEL_FRAME.FORCED = true ∧ t.saf.toSend = true ∧ t.saf.forced = true ∧ t.saf.decEpoch = s.get GLB_EPOCH.EPOCH) ∧
  (∀ (dt : Nat) (safeIn : Fin 16) (edm : Fin 4) (crcDone : Bool) (s : State), (s.acqOpen = true ∨ s.decided = true) →
    exec (.frameDecision dt safeIn edm crcDone) s = .next (s.advance dt))

/-- R263, R319 and R320: what a decision sends, and what is received. Where a clause has only time pass since its event cannot
occur in the state, that is the model's choice (log 3). -/
def Obligations.RecordAndMessages : Prop :=
  (∀ (dt ch : Nat) (s : State), s.decided = true → s.frm.closed = false → s.recordsWait = false → s.closeChan = some ch →
    exec (.frameCloseRecord dt) s = .next
      { s.advance dt with
        frm := { s.frm with closed := true }
        toStage := s.toStage ++ [⟨ch, .frameClose, s.get GLB_EPOCH.EPOCH, 255, s.closeWords⟩] }) ∧
  (∀ (dt : Nat) (s : State), s.decided = true → s.frm.closed = false → s.recordsWait = false → s.closeChan = none →
    exec (.frameCloseRecord dt) s = .next { s.advance dt with frm := { s.frm with closed := true } }) ∧
  (∀ (dt : Nat) (s : State), (s.decided = false ∨ s.frm.closed = true ∨ s.recordsWait = true) →
    exec (.frameCloseRecord dt) s = .next (s.advance dt)) ∧
  (∀ (dt : Nat) (s : State), s.saf.toSend = true →
    ∃ t, exec (.safetyMessageSend dt) s = .next t ∧ t.saf.toSend = false ∧ t.saf.seq = (s.saf.seq + 1) % 2 ^ 16 ∧
      (s.msgMbx = true → ∀ i, i < 16 → t.get (GLB_MBX_TX.WORD i) = nth s.msgWords i 0 % 2 ^ 32) ∧ SameMemory s t) ∧
  (∀ (dt : Nat) (m : List Nat) (s : State), msgSrc m = s.ownMember →
    exec (.safetyMessageReceive dt m) s = .next (s.advance dt)) ∧
  (∀ (dt : Nat) (m : List Nat) (s : State), s.dev.ticks = true → s.msgFate m = .pass →
    ∃ t, exec (.safetyMessageReceive dt m) s = .next t ∧ (t.sender (msgSrc m)).msg = some m ∧
      (t.sender (msgSrc m)).seq = msgSeq m ∧ (t.sender (msgSrc m)).time = msgTime m ∧
      t = { s.advance dt with saf := t.saf } ∧
      (msgCrcOk m = true → msgSrc m = s.timeSource → (t.sender (msgSrc m)).rawNow = some m)) ∧
  (∀ (dt : Nat) (m : List Nat) (s : State), s.dev.ticks = true → s.msgFate m = .baseline →
    ∃ t, exec (.safetyMessageReceive dt m) s = .next t ∧ (t.sender (msgSrc m)).base = true ∧
      (t.sender (msgSrc m)).seq = msgSeq m ∧ (t.sender (msgSrc m)).msg = (s.sender (msgSrc m)).msg ∧
      t = { s.advance dt with saf := t.saf }) ∧
  (∀ (dt : Nat) (m : List Nat) (s : State), s.dev.ticks = true → s.msgFate m = .fail → s.domOn 122 = true →
    ∃ t, exec (.safetyMessageReceive dt m) s = .next t ∧ t.flag (evtPend 464) = true ∧
      (t.sender (msgSrc m)).msg = (s.sender (msgSrc m)).msg ∧
      OnlyFieldsEv [] { s.advance dt with saf := t.saf } t)

/-- R331, R335, R336 and R340: reactions of the safety core. Where a clause has only time pass since its event cannot occur in the
state, that is the model's choice (log 3). -/
def Obligations.SafetyReactions : Prop :=
  (∀ (dt : Nat) (s : State), s.dev = .degraded → s.tDeg ≤ (s.advance dt).degAcc → KeptOn s 122 → NoneUndone s →
    ∃ t, exec (.degTimerExpiry dt) s = .next t ∧ t.dev = .safeStop ∧ t.flag SAF_CAUSE.DEG_EXPIRED = true ∧
      t.get SAF_STATE.STATE = 6 ∧ t.get SAF_STATE.PREV = 5 ∧ t.get SAF_STATE.CAUSE = 2 ∧
      t.pairHigh 0 = false ∧ t.pairHigh 1 = false ∧ SameMemory s t) ∧
  (∀ (dt : Nat) (s : State), (s.dev ≠ .degraded ∨ (s.advance dt).degAcc < s.tDeg) →
    exec (.degTimerExpiry dt) s = .next (s.advance dt)) ∧
  (∀ (dt : Nat) (s : State), s.dev.canLock = true → KeptOn s 122 →
    ∃ t, exec (.flowFault dt) s = .next t ∧ t.dev = .lockout ∧ t.flag SAF_CAUSE.FLOW = true ∧ t.get SAF_STATE.STATE = 8 ∧
      t.get SAF_STATE.PREV = s.dev.code ∧ t.pairHigh 0 = false ∧ t.pairHigh 1 = false ∧
      (∀ d, d < 136 → lockoutHeld d = true → t.domOn d = false)) ∧
  (∀ (dt : Nat) (s : State), s.dev.canLock = true → KeptOn s 122 →
    ∃ t, exec (.eccError dt false false) s = .next t ∧ t.dev = .lockout ∧ t.flag SAF_CAUSE.MEM = true ∧
      (∀ d, d < 136 → lockoutHeld d = true → t.domOn d = false)) ∧
  (∀ (dt : Nat) (selvedge : Bool) (s : State), s.dev ≠ .off → s.dev ≠ .reset → s.domOn 122 = true →
    ∃ t, exec (.eccError dt true selvedge) s = .next t ∧
      OnlyFieldsEv [SAF_DIAG_CNT.ECC_CORR] (s.advance dt) t ∧ t.flag (evtPend 527) = true ∧
      t.get SAF_DIAG_CNT.ECC_CORR = min (s.get SAF_DIAG_CNT.ECC_CORR + 1) 0xFFFF) ∧
  (∀ (dt : Nat) (s : State), s.dev ≠ .off → s.dev ≠ .reset →
    exec (.eccError dt false true) s = .next { s.advance dt with sel := { s.sel with corrupt := true } })

/-- R29 to R33: staging by the host. -/
def Obligations.HostStaging : Prop :=
  (∀ (dt : Nat) (tag : Fin 256) (s : State), HostOpen s GLB_SHADOW_OPEN.addr → s.stage.openGrp = none → tag.val ≠ 0 →
    ∃ t, exec (.glbShadowOpen dt tag) s = .next t ∧
      OnlyFields [⟨GLB_SHADOW_STAT.addr, 31, 30⟩, GLB_SHADOW_CNT.COUNT]
        { (s.advance dt).touch GLB_SHADOW_OPEN.addr with stage := { s.stage with openGrp := some ⟨tag.val, [], false⟩ } } t ∧
      t.flag GLB_SHADOW_STAT.OPEN = true ∧ t.get GLB_SHADOW_CNT.COUNT = 0) ∧
  (∀ (dt : Nat) (tag : Fin 256) (s : State), HostOpen s GLB_SHADOW_OPEN.addr → (s.stage.openGrp ≠ none ∨ tag.val = 0) →
    exec (.glbShadowOpen dt tag) s =
      .next (((s.advance dt).touch GLB_SHADOW_OPEN.addr).hwUp GLB_SHADOW_STAT.NEST)) ∧
  (∀ (dt addr : Nat) (data : Word) (o : OpenGroup) (late : Bool) (s : State), HostOpen s addr → addr ≠ LPE_CTL.addr →
    rwsFields addr ≠ [] → s.stage.openGrp = some o → s.stageFull o.writes (fieldWrites addr data) = false →
    ∃ t, exec (.rwsWrite dt addr data late) s = .next t ∧
      t.stage = { s.stage with openGrp := some { o with writes := putWrites o.writes (fieldWrites addr data) } } ∧
      OnlyFields [⟨GLB_SHADOW_STAT.addr, 31, 30⟩, GLB_SHADOW_CNT.COUNT] { (s.advance dt).touch addr with stage := t.stage } t) ∧
  (∀ (dt addr : Nat) (data : Word) (o : OpenGroup) (late : Bool) (s : State), HostOpen s addr → addr ≠ LPE_CTL.addr →
    rwsFields addr ≠ [] → s.stage.openGrp = some o → s.stageFull o.writes (fieldWrites addr data) = true →
    ∃ t, exec (.rwsWrite dt addr data late) s = .next t ∧
      t.stage = { s.stage with openGrp := some { o with ovf := true } } ∧ t.flag GLB_SHADOW_STAT.OVF = true ∧
      OnlyFields [⟨GLB_SHADOW_STAT.addr, 31, 0⟩, GLB_SHADOW_CNT.COUNT] { (s.advance dt).touch addr with stage := t.stage } t) ∧
  (∀ (dt : Nat) (o : OpenGroup) (late : Bool) (s : State), HostOpen s GLB_SHADOW_CLOSE.addr → s.stage.openGrp = some o →
    o.ovf = false →
    (let u := (s.advance dt).touch GLB_SHADOW_CLOSE.addr;
     u.hostCode (u.candOf { s.stage with
      openGrp := none, groups := s.stage.groups ++ [⟨.host o.tag, (s.now + dt) / fclkLsb, (s.advance dt).handingOver, o.writes⟩] } true o.writes)) = none →
    ∃ t, exec (.glbShadowClose dt late) s = .next t ∧
      t.stage = { s.stage with
        openGrp := none, groups := s.stage.groups ++ [⟨.host o.tag, (s.now + dt) / fclkLsb, (s.advance dt).handingOver, o.writes⟩] } ∧
      t.flag GLB_SHADOW_STAT.OPEN = false ∧
      OnlyFields [⟨GLB_SHADOW_STAT.addr, 31, 30⟩, GLB_SHADOW_CNT.COUNT]
        { (s.advance dt).touch GLB_SHADOW_CLOSE.addr with stage := t.stage, img := t.img } t) ∧
  (∀ (dt code : Nat) (o : OpenGroup) (late : Bool) (s : State), HostOpen s GLB_SHADOW_CLOSE.addr → s.stage.openGrp = some o →
    o.ovf = false → code < 256 →
    (let u := (s.advance dt).touch GLB_SHADOW_CLOSE.addr;
     u.hostCode (u.candOf { s.stage with
      openGrp := none, groups := s.stage.groups ++ [⟨.host o.tag, (s.now + dt) / fclkLsb, (s.advance dt).handingOver, o.writes⟩] } true o.writes)) = some code →
    ∃ t, exec (.glbShadowClose dt late) s = .next t ∧ t.stage = { s.stage with openGrp := none } ∧
      t.flag GLB_SHADOW_STAT.REJ = true ∧ t.get GLB_SHADOW_STAT.REJ_CODE = code ∧
      OnlyFieldsEv [⟨GLB_SHADOW_STAT.addr, 31, 0⟩, GLB_SHADOW_CNT.COUNT, IMG_RES_CNT.REFUSED, IMG_RES_CNT.LAST_ID]
        { (s.advance dt).touch GLB_SHADOW_CLOSE.addr with stage := t.stage } t) ∧
  (∀ (dt : Nat) (s : State), HostOpen s GLB_SHADOW_ABORT.addr →
    ∃ t, exec (.glbShadowAbort dt) s = .next t ∧
      OnlyFields [⟨GLB_SHADOW_STAT.addr, 31, 30⟩, GLB_SHADOW_CNT.COUNT]
        { (s.advance dt).touch GLB_SHADOW_ABORT.addr with stage := { s.stage with openGrp := none } } t ∧
      t.flag GLB_SHADOW_STAT.OPEN = false) ∧
  (∀ (dt addr : Nat) (data : Word) (late : Bool) (s : State), HostOpen s addr → addr ≠ LPE_CTL.addr → rwsFields addr ≠ [] →
    s.stage.openGrp = none →
    (let u := (s.advance dt).touch addr
     let ws := fieldWrites addr data
     let g := s.stage.setSingles u.handingOver (putWrites (s.stage.singles u.handingOver) ws)
     s.stageFull (s.stage.singles u.handingOver) ws = false → u.hostCode (u.candOf g true ws) = none →
     ∃ t, exec (.rwsWrite dt addr data late) s = .next t ∧ t.stage = g ∧
      OnlyFields [⟨GLB_SHADOW_STAT.addr, 31, 30⟩, GLB_SHADOW_CNT.COUNT] { u with stage := g, img := t.img } t)) ∧
  (∀ (dt addr code : Nat) (data : Word) (late : Bool) (s : State), HostOpen s addr → addr ≠ LPE_CTL.addr → rwsFields addr ≠ [] →
    s.stage.openGrp = none → code < 256 →
    (let u := (s.advance dt).touch addr
     let ws := fieldWrites addr data
     let g := s.stage.setSingles u.handingOver (putWrites (s.stage.singles u.handingOver) ws)
     s.stageFull (s.stage.singles u.handingOver) ws = false → u.hostCode (u.candOf g true ws) = some code →
     ∃ t, exec (.rwsWrite dt addr data late) s = .next t ∧ t.stage = s.stage ∧ t.flag GLB_SHADOW_STAT.REJ = true ∧
      t.get GLB_SHADOW_STAT.REJ_CODE = code ∧
      OnlyFieldsEv [⟨GLB_SHADOW_STAT.addr, 31, 0⟩, GLB_SHADOW_CNT.COUNT, IMG_RES_CNT.REFUSED, IMG_RES_CNT.LAST_ID] u t))

/-- R8, R81, R379 and R528: host accesses. Where a clause has only time pass since its event cannot occur in the state, that is
the model's choice (log 3). -/
def Obligations.HostRegisters : Prop :=
  (∀ (dt addr : Nat) (data : Word) (be : Fin 16) (ext : Bool) (late : Bool) (s : State), s.barOpen = false →
    exec (.registerWrite dt addr data be late ext) s = .next (s.advance dt) ∧
    exec (.registerRead dt addr) s = .next (s.advance dt)) ∧
  (∀ (dt addr : Nat) (data : Word) (be : Fin 16) (ext : Bool) (late : Bool) (s : State), s.barOpen = true → s.dev ≠ .off →
    regAt addr = none →
    ∃ t, exec (.registerWrite dt addr data be late ext) s = .next t ∧
      OnlyFieldsEv [⟨GLB_ACC_ERR.addr, 31, 0⟩] ((s.advance dt).touch addr) t ∧ t.flag (evtPend 516) = true) ∧
  (∀ (dt addr : Nat) (data : Word) (be : Fin 16) (ext : Bool) (late : Bool) (s : State), HostOpen s addr → s.dev ≠ .off →
    regAt addr ≠ none → be.val ≠ 15 →
    ∃ t, exec (.registerWrite dt addr data be late ext) s = .next t ∧
      OnlyFieldsEv [⟨GLB_ACC_ERR.addr, 31, 0⟩] ((s.advance dt).touch addr) t ∧ t.flag (evtPend 516) = true) ∧
  (∀ (dt addr : Nat) (data : Word) (be : Fin 16) (ext : Bool) (late : Bool) (s : State), s.barOpen = true →
    s.domOn (blockDomain addr) = false → regAt addr ≠ none →
    exec (.registerWrite dt addr data be late ext) s = .next (((s.advance dt).touch addr).bump PWR_OFF_ACC.COUNT) ∧
    exec (.registerRead dt addr) s =
      .next ((((s.advance dt).touch addr).emit (.readData 0)).bump PWR_OFF_ACC.COUNT)) ∧
  (∀ (dt i : Nat) (data : Word) (ext : Bool) (late : Bool) (s : State), i < 16 → HostOpen s (GLB_MBX_RX.addr i) →
    ∃ t, exec (.registerWrite dt (GLB_MBX_RX.addr i) data 15 late ext) s = .next t ∧ t.word (GLB_MBX_RX.addr i) = data ∧
      OnlyFields [GLB_MBX_RX.WORD i] ((s.advance dt).touch (GLB_MBX_RX.addr i)) t) ∧
  (∀ (dt : Nat) (data : Word) (ext : Bool) (late : Bool) (s : State), HostOpen s CLP_STAT.addr → s.sameCycle dt = false →
    ∃ t, exec (.registerWrite dt CLP_STAT.addr data 15 late ext) s = .next t ∧
      t.flag CLP_STAT.NEST = (s.flag CLP_STAT.NEST && !bit data.toNat 30) ∧
      t.flag CLP_STAT.TIMED_OUT = (s.flag CLP_STAT.TIMED_OUT && !bit data.toNat 29) ∧
      OnlyFields [CLP_STAT.NEST, CLP_STAT.TIMED_OUT] ((s.advance dt).touch CLP_STAT.addr) t) ∧
  (∀ (dt : Nat) (data : Word) (ext : Bool) (late : Bool) (s : State), HostOpen s CLP_STAT.addr → s.sameCycle dt = true →
    getIn s.cyc CLP_STAT.NEST = 0 →
    ∃ t, exec (.registerWrite dt CLP_STAT.addr data 15 late ext) s = .next t ∧ t.flag CLP_STAT.NEST = s.flag CLP_STAT.NEST) ∧
  (∀ (dt i : Nat) (s : State), i < 16 → HostOpen s (GLB_MBX_RX.addr i) → (∀ q ∈ s.hiLatch, q.1 ≠ GLB_MBX_RX.addr i) →
    exec (.registerRead dt (GLB_MBX_RX.addr i)) s =
      .next (((s.advance dt).touch (GLB_MBX_RX.addr i)).emit (.readData (s.word (GLB_MBX_RX.addr i)).toNat))) ∧
  (∀ (dt : Nat) (s : State), HostOpen s SUP_STAT.addr → (∀ q ∈ s.hiLatch, q.1 ≠ SUP_STAT.addr) →
    (let v := match s.held with
      | some h => h
      | none => s.view
     exec (.registerRead dt SUP_STAT.addr) s = .next (((s.advance dt).touch SUP_STAT.addr).emit (.readData
      (getIn v.regs SUP_STAT.RUN * 2 ^ 31 + getIn v.regs SUP_STAT.REF_OK * 2 ^ 30 + getIn v.regs SUP_STAT.TRIPPED))))) ∧
  (∀ (dt i : Nat) (s : State), i < 640 → HostOpen s (EVT_CNT.addr i) → (∀ q ∈ s.hiLatch, q.1 ≠ EVT_CNT.addr i) →
    s.sameCycle dt = false →
    ∃ t, exec (.registerRead dt (EVT_CNT.addr i)) s = .next t ∧ t.out = [.readData (s.get (EVT_CNT.COUNT i))] ∧
      t.get (EVT_CNT.COUNT i) = 0 ∧
      OnlyFields [EVT_CNT.COUNT i] { (s.advance dt).touch (EVT_CNT.addr i) with out := t.out } t) ∧
  (∀ (dt i : Nat) (s : State), i < 640 → HostOpen s (EVT_CNT.addr i) → (∀ q ∈ s.hiLatch, q.1 ≠ EVT_CNT.addr i) →
    s.sameCycle dt = true →
    (let n := min (s.get (EVT_CNT.COUNT i)) (getIn s.cyc (EVT_CNT.COUNT i))
     ∃ t, exec (.registerRead dt (EVT_CNT.addr i)) s = .next t ∧ t.out = [.readData n] ∧
      t.get (EVT_CNT.COUNT i) = s.get (EVT_CNT.COUNT i) - n ∧
      OnlyFields [EVT_CNT.COUNT i] { (s.advance dt).touch (EVT_CNT.addr i) with out := t.out } t)) ∧
  (∀ (dt : Nat) (data : Word) (ext : Bool) (late : Bool) (s : State), HostOpen s SUP_ACC_CLR.addr →
    exec (.registerWrite dt SUP_ACC_CLR.addr data 15 late ext) s = .next (((s.advance dt).touch SUP_ACC_CLR.addr).put
      SUP_ACC_CLR.CLR (orN (s.get SUP_ACC_CLR.CLR) data.toNat))) ∧
  (∀ (dt addr : Nat) (data : Word) (late : Bool) (s : State), rwsFields addr ≠ [] →
    exec (.registerWrite dt addr data 15 late false) s = exec (.rwsWrite dt addr data late) s) ∧
  (∀ (dt addr : Nat) (s : State), s.barOpen = true → s.dev ≠ .off → regAt addr = none →
    ∃ t, exec (.registerRead dt addr) s = .next t ∧ t.out.head? = some (.readData 0) ∧ t.flag (evtPend 516) = true ∧
      OnlyFieldsEv [⟨GLB_ACC_ERR.addr, 31, 0⟩] ((s.advance dt).touch addr) t)

/-- R391 and R392: Clasp. That RELEASE with SNAP and no hold sets NEST is the model's choice (log entry 70), and so is that only time passes
at a timeout without its cause (log entry 3). -/
def Obligations.ClaspHold : Prop :=
  (∀ (dt : Nat) (s : State), HostOpen s CLP_CMD.addr → s.held = none →
    exec (.snap dt false) s =
      .next (({ (s.advance dt).touch CLP_CMD.addr with held := some s.view, snapNow := true } : State).put CLP_STAT.SKIPPED 0) ∧
    exec (.snap dt true) s =
      .next (({ ((s.advance dt).touch CLP_CMD.addr).hwUp CLP_STAT.NEST with held := some s.view, snapNow := true } : State).put
        CLP_STAT.SKIPPED 0)) ∧
  (∀ (dt : Nat) (s : State), HostOpen s CLP_CMD.addr → s.held ≠ none →
    exec (.snap dt false) s = .next (((s.advance dt).touch CLP_CMD.addr).hwUp CLP_STAT.NEST) ∧
    exec (.snap dt true) s =
      .next (({ (s.advance dt).touch CLP_CMD.addr with held := some s.view, snapNow := true } : State).put CLP_STAT.SKIPPED 0) ∧
    exec (.clpRelease dt) s = .next { (s.advance dt).touch CLP_CMD.addr with held := none }) ∧
  (∀ (dt : Nat) (s : State), HostOpen s CLP_CMD.addr → s.held = none →
    exec (.clpRelease dt) s = .next (((s.advance dt).touch CLP_CMD.addr).hwUp CLP_STAT.NEST)) ∧
  (∀ (dt : Nat) (s : State), s.held ≠ none → s.get CLP_CFG.TIMEOUT ≠ 0 → s.dev ≠ .off →
    ∃ t, exec (.claspTimeout dt) s = .next t ∧ t.held = none ∧ t.flag CLP_STAT.TIMED_OUT = true ∧
      t.flag (evtPend 514) = true ∧ OnlyFieldsEv [CLP_STAT.TIMED_OUT] { s.advance dt with held := none } t) ∧
  (∀ (dt : Nat) (s : State), (s.held = none ∨ s.get CLP_CFG.TIMEOUT = 0) →
    exec (.claspTimeout dt) s = .next (s.advance dt)) ∧
  (∀ (dt : Nat) (s : State), s.sameCycle dt = true → s.snapNow = true → s.held ≠ none → s.viewDue = true →
    exec (.viewSwitch dt) s = .next { s.advance dt with view := s.closing, viewDue := false, held := some s.closing })

/-- R384 to R388: what the ring's own commands do. -/
def Obligations.RingCommands : Prop :=
  (∀ (dt : Nat) (s : State), Taken s opNop → CplFree s →
    ∃ t, exec (.nop dt) s = .next t ∧ HeadTaken s t ∧ CplWritten s t opNop s.entTag stOk 0 ∧ t.flag (evtPend 512) = true ∧
      t.dev = s.dev ∧ t.cmds = s.cmds ∧ SameMemory s t) ∧
  (∀ (dt : Nat) (s : State), Taken s opStop → CplFree s → KeptOn s 122 →
    ∃ t, exec (.stop dt) s = .next t ∧ HeadTaken s t ∧ t.dev = .safeStop ∧ t.flag SAF_CAUSE.STOP_CMD = true ∧
      t.get SAF_STATE.STATE = 6 ∧ t.get SAF_STATE.PREV = s.dev.code ∧ t.get SAF_STATE.CAUSE = 1 ∧
      t.pairHigh 0 = false ∧ t.pairHigh 1 = false ∧ (s.cmds = [] → CplWritten s t opStop s.entTag stOk 0)) ∧
  (∀ (dt : Nat) (s : State), Taken s opRun →
    exec (.runCmd dt) s = .next
      { (s.advance dt).put GLB_CMD_PTR.HEAD ((s.get GLB_CMD_PTR.HEAD + 1) % 64) with
        saf := { s.saf with plugLeft := if s.flag SAF_PLUG.PRESENT then 3 else 0 }
        cmds := s.cmds ++ [⟨opRun, s.entTag, s.dev, .runJudge, true⟩] }) ∧
  (∀ (dt : Nat) (s : State), Taken s opMaint →
    exec (.maint dt) s = .next
      { (s.advance dt).put GLB_CMD_PTR.HEAD ((s.get GLB_CMD_PTR.HEAD + 1) % 64) with
        cmds := s.cmds ++ [⟨opMaint, s.entTag, s.dev, .tick, true⟩] }) ∧
  (∀ (dt : Nat) (s : State), Taken s opLeaveMaint →
    exec (.leaveMaint dt) s = .next
      { (s.advance dt).put GLB_CMD_PTR.HEAD ((s.get GLB_CMD_PTR.HEAD + 1) % 64) with
        cmds := s.cmds ++ [⟨opLeaveMaint, s.entTag, s.dev, .tick, true⟩] }) ∧
  (∀ (dt : Nat) (s : State), s.ringReady = true → (s.entCrcOk = false ∨ s.entFormOk = false) → CplFree s →
    ∃ t, exec (.badCommand dt) s = .next t ∧ HeadTaken s t ∧
      CplWritten s t s.entOp s.entTag (if s.entCrcOk then stBadCommand else stBadCrc) 0 ∧
      t.get GLB_CMD_CNT.BAD = min (s.get GLB_CMD_CNT.BAD + 1) 0xFFF ∧ t.dev = s.dev ∧ SameMemory s t) ∧
  (∀ (dt op : Nat) (c : Instr) (s : State),
    (op, c) ∈ [(opRun, .runCmd dt), (opStop, .stop dt), (opMaint, .maint dt), (opLeaveMaint, .leaveMaint dt)] →
    s.ringReady = true → s.entCrcOk = true → s.entFormOk = true → s.entOp = op → CplFree s →
    (s.get PWR_MODE.MODE = 2 ∨ s.get PWR_MODE.MODE = 0 ∧ (op, s.dev) ∉ [(opRun, .configured), (opRun, .safeStop), (opStop, .run),
      (opStop, .degraded), (opMaint, .configured), (opMaint, .safeStop), (opLeaveMaint, .maintenance)]) →
    ∃ t, exec c s = .next t ∧ HeadTaken s t ∧ CplWritten s t op s.entTag stConflict 0 ∧
      t.get GLB_CMD_CNT.CONFLICT = min (s.get GLB_CMD_CNT.CONFLICT + 1) 0xFFF ∧ t.flag (evtPend 513) = true ∧
      t.dev = s.dev ∧ t.cmds = s.cmds ∧ t.saf = s.saf ∧ SameMemory s t) ∧
  (∀ (dt op : Nat) (c : Instr) (s : State),
    (op, c) ∈ [(opRun, .runCmd dt), (opStop, .stop dt), (opMaint, .maint dt), (opLeaveMaint, .leaveMaint dt)] →
    s.ringReady = true → s.entCrcOk = true → s.entFormOk = true → s.entOp = op → CplFree s →
    (s.get PWR_MODE.MODE = 1 ∨ s.get PWR_MODE.MODE = 3 ∨
      s.get PWR_MODE.MODE = 0 ∧ (op, s.dev) ∈ [(opRun, .configured), (opRun, .safeStop), (opStop, .run), (opStop, .degraded),
        (opMaint, .configured), (opMaint, .safeStop), (opLeaveMaint, .maintenance)] ∧
      ∃ w ∈ s.cmds, w.op ∈ [opRun, opStop, opMaint, opLeaveMaint, opStandby, opWake, opImgApply]) →
    ∃ t, exec c s = .next t ∧ HeadTaken s t ∧ CplWritten s t op s.entTag stBusy 0 ∧
      t.get GLB_CMD_CNT.CONFLICT = s.get GLB_CMD_CNT.CONFLICT ∧ t.dev = s.dev ∧ t.cmds = s.cmds ∧ t.saf = s.saf ∧
      SameMemory s t)

/-- R388 and R390: completions and the mailbox. That a message which only sets a baseline records PASS 1 is the model's choice
(log 69). -/
def Obligations.CompletionsAndMailbox : Prop :=
  (∀ (dt : Nat) (h : Fin 64) (s : State), HostOpen s GLB_CPL_PTR.addr → s.heldCpl = [] →
    ∃ t, exec (.cplHeadAdvance dt h) s = .next t ∧ t.get GLB_CPL_PTR.HEAD = h.val ∧
      t.flag GLB_CMD_CNT.STALL = ((s.get GLB_CPL_PTR.TAIL + 1) % 64 == h.val) ∧
      OnlyFields [GLB_CPL_PTR.HEAD, GLB_CMD_CNT.STALL] ((s.advance dt).touch GLB_CPL_PTR.addr) t) ∧
  (∀ (dt : Nat) (h : Fin 64) (c : Completion) (s : State), HostOpen s GLB_CPL_PTR.addr → s.heldCpl = [c] →
    (s.get GLB_CPL_PTR.TAIL + 1) % 64 ≠ h.val → c.epoch < 2 ^ 32 → c.detail < 2 ^ 32 → c.op < 256 → c.status < 256 → c.tag < 2 ^ 16 →
    ∃ t, exec (.cplHeadAdvance dt h) s = .next t ∧ t.heldCpl = [] ∧ t.get GLB_CPL_PTR.HEAD = h.val ∧
      t.get GLB_CPL_PTR.TAIL = (s.get GLB_CPL_PTR.TAIL + 1) % 64 ∧
      t.get (GLB_CPL_ENT.WORD (4 * s.get GLB_CPL_PTR.TAIL)) = c.op * 2 ^ 24 + c.status * 2 ^ 16 + c.tag ∧
      t.get (GLB_CPL_ENT.WORD (4 * s.get GLB_CPL_PTR.TAIL + 2)) = c.epoch) ∧
  (∀ (dt : Nat) (s : State), HostOpen s GLB_MBX_RX_CTL.addr →
    (s.msgFate ((List.range 16).map (fun k => s.get (GLB_MBX_RX.WORD k))) = .pass ∨
      s.msgFate ((List.range 16).map (fun k => s.get (GLB_MBX_RX.WORD k))) = .baseline) →
    ∃ t, exec (.mailboxPost dt) s = .next t ∧ t.flag GLB_MBX_RX_STAT.PASS = true ∧
      OnlyFields [GLB_MBX_RX_STAT.PASS] { (s.advance dt).touch GLB_MBX_RX_CTL.addr with saf := t.saf } t) ∧
  (∀ (dt : Nat) (s : State), HostOpen s GLB_MBX_RX_CTL.addr → s.domOn 122 = true →
    s.msgFate ((List.range 16).map (fun k => s.get (GLB_MBX_RX.WORD k))) = .fail →
    ∃ t, exec (.mailboxPost dt) s = .next t ∧ t.flag GLB_MBX_RX_STAT.PASS = false ∧
      t.get GLB_MBX_RX_STAT.FAIL_CNT = min (s.get GLB_MBX_RX_STAT.FAIL_CNT + 1) 0xFFFF ∧ t.flag (evtPend 464) = true ∧
      OnlyFieldsEv [GLB_MBX_RX_STAT.PASS, GLB_MBX_RX_STAT.FAIL_CNT]
        { (s.advance dt).touch GLB_MBX_RX_CTL.addr with saf := t.saf } t)

/-- R395, R398 and R400: vectors and the error log. -/
def Obligations.VectorsAndLog : Prop :=
  (∀ (dt : Nat) (v : Fin 512) (s : State), s.evt.holdoff.contains v.val = true → s.evt.heldTrig.contains v.val = false →
    exec (.holdoffExpiry dt v) s = .next { s.advance dt with evt := { s.evt with
      holdoff := s.evt.holdoff.filter (fun x => x != v.val), heldTrig := s.evt.heldTrig.filter (fun x => x != v.val) } }) ∧
  (∀ (dt : Nat) (v : Fin 512) (s : State), s.evt.holdoff.contains v.val = true → s.evt.heldTrig.contains v.val = true →
    s.pci.msixEn = true → s.vecMasked v.val = false → s.get EVT_INT_CTL.HOLDOFF ≠ 0 →
    ∃ t, exec (.holdoffExpiry dt v) s = .next t ∧ t.regs = s.regs ∧ t.evt.holdoff.contains v.val = true ∧
      t.evt.heldTrig.contains v.val = false ∧
      t.out = [.msi v.val (s.msixWord v.val 0 + s.msixWord v.val 1 * 2 ^ 32) (s.msixWord v.val 2)]) ∧
  (∀ (dt : Nat) (v : Fin 512) (s : State), HostOpen s (EVT_MSIX_TABLE.addr 0) → s.pci.msixEn = true → s.pci.funcMask = false →
    s.flag (pbaBit v.val) = true → s.evt.holdoff.contains v.val = false →
    ∃ t, exec (.msixUnmask dt (.entry v)) s = .next t ∧ t.flag (pbaBit v.val) = false ∧
      t.get ⟨EVT_MSIX_TABLE.addr (4 * v.val + 3), 0, 0⟩ = 0 ∧
      t.out = [.msi v.val (s.msixWord v.val 0 + s.msixWord v.val 1 * 2 ^ 32) (s.msixWord v.val 2)]) ∧
  (∀ (dt : Nat) (v : Fin 512) (s : State), HostOpen s (EVT_MSIX_TABLE.addr 0) → s.flag (pbaBit v.val) = false →
    ∃ t, exec (.msixUnmask dt (.entry v)) s = .next t ∧ t.out = [] ∧
      t.get ⟨EVT_MSIX_TABLE.addr (4 * v.val + 3), 0, 0⟩ = 0) ∧
  (∀ (dt : Nat) (en mask : Bool) (s : State),
    ∃ t, exec (.msixUnmask dt (.control en mask)) s = .next t ∧ t.pci = { s.pci with msixEn := en, funcMask := mask } ∧
      (en = false ∨ mask = true → t = { s.advance dt with pci := { s.pci with msixEn := en, funcMask := mask } })) ∧
  (∀ (dt : Nat) (z : Fin 32) (s : State), HostOpen s EVT_LOG_CTL.addr → s.flag EVT_LOG_CTL.EN = false → 8 ≤ z.val → z.val ≤ 20 →
    s.flag MEM_CFG.INIT_OK = true →
    s.overSlots (s.get64 EVT_LOG_BASE_LO.BASE EVT_LOG_BASE_HI.BASE) (32 * 2 ^ z.val) = false →
    ∃ t, exec (.logEnable dt z) s = .next t ∧ t.flag EVT_LOG_CTL.EN = true ∧ t.get EVT_LOG_CTL.SIZE_LOG2 = z.val ∧
      t.get EVT_LOG_HEAD.INDEX = s.get EVT_LOG_TAIL.INDEX ∧
      OnlyFields [EVT_LOG_CTL.EN, EVT_LOG_CTL.SIZE_LOG2, EVT_LOG_HEAD.INDEX] ((s.advance dt).touch EVT_LOG_CTL.addr) t) ∧
  (∀ (dt : Nat) (s : State), HostOpen s EVT_LOG_CTL.addr → s.flag EVT_LOG_CTL.EN = false → s.flag MEM_CFG.INIT_OK = false →
    ∀ z : Fin 32, ∃ t, exec (.logEnable dt z) s = .next t ∧ t.flag EVT_LOG_CTL.EN = false) ∧
  (∀ (dt : Nat) (r : LogRec) (rest : List LogRec) (s : State), s.flag EVT_LOG_CTL.EN = true → s.logFull = false →
    s.evt.fifo = r :: rest → s.mem.poison = [] →
    ∃ t, exec (.logDrain dt) s = .next t ∧ t.evt = { s.evt with fifo := rest } ∧
      t.get EVT_LOG_HEAD.INDEX = (s.get EVT_LOG_HEAD.INDEX % s.logSize + 1) % s.logSize % 2 ^ 20 ∧
      (let b := s.get64 EVT_LOG_BASE_LO.BASE EVT_LOG_BASE_HI.BASE + 32 * (s.get EVT_LOG_HEAD.INDEX % s.logSize)
       (∀ i, i < 32 → t.dram.read (b + i) = nth (bytesOfWords r.words) i 0) ∧
       ∀ a, (a < b ∨ b + 32 ≤ a) → t.dram.read a = s.dram.read a)) ∧
  (∀ (dt : Nat) (s : State), s.coalDue = true → s.dev ≠ .off →
    ∃ t, exec (.logCoalesce dt) s = .next t ∧ t.evt.coal = [] ∧ t.evt.coalOvf = none ∧ t.flag (evtPend 515) = true ∧
      (∃ r, t.evt.fifo = s.evt.fifo ++ s.evt.used.map CoalEntry.record ++ r) ∧ OnlyFieldsEv [] (s.advance dt) t)

/-- R377 and R378: host resets and power states. -/
def Obligations.HostResetAndPower : Prop :=
  (∀ (dt : Nat) (how : HostReset) (s : State),
    ∃ t, exec (.hostReset dt how) s = .next t ∧ t.stage.openGrp = none ∧ t.stage.groups = s.stage.groups ∧
      t.stage.single = s.stage.single ∧ t.held = none ∧ t.heldCpl = [] ∧ t.pci = {} ∧
      t.word GLB_CMD_PTR.addr = 0#32 ∧ t.word GLB_CPL_PTR.addr = 0#32 ∧
      t.cmds = s.cmds.map (fun c => { c with cpl := false }) ∧ t.dev = s.dev ∧ t.saf = s.saf ∧
      t.evt.fifo = s.evt.fifo ∧ t.evt.coal = s.evt.coal ∧ t.get GLB_EPOCH.EPOCH = s.get GLB_EPOCH.EPOCH ∧
      (∀ i, i < 640 → t.flag (evtPend i) = s.flag (evtPend i) ∧ t.get (EVT_CNT.COUNT i) = s.get (EVT_CNT.COUNT i) ∧
        t.word (EVT_SRC.addr i) = s.word (EVT_SRC.addr i)) ∧
      (∀ i, i < 2048 → t.word (EVT_MSIX_TABLE.addr i) = resetWord (EVT_MSIX_TABLE.addr i)) ∧ SameMemory s t) ∧
  (∀ (dt : Nat) (d3hot pmeEn : Bool) (s : State),
    ∃ t, exec (.hostPowerState dt d3hot pmeEn) s = .next t ∧
      t = { s.advance dt with pci := { s.pci with d3hot := d3hot, pmeEn := pmeEn, wakeLow := s.pci.wakeLow && d3hot } } ∧
      (d3hot = true → t.barOpen = false))

/-- R382, R421 to R424 and R428: the apertures and the atomic unit. -/
def Obligations.Apertures : Prop :=
  (∀ (dt off : Nat) (s : State),
    let a := s.get GLB_BAR4_BASE.BASE * 2 ^ 30 + off / 4 * 4
    s.barOpen = true → a < s.dramCap → s.domOn (112 + (s.dramPlace a).1) = true → s.domOn 131 = true →
    bit s.mem.selfRef (s.dramPlace a).1 = false → s.poisoned a = false →
    exec (.bar4Access dt off none 0) s = .next ((s.advance dt).emit (.memData (s.dram.readList a 4)))) ∧
  (∀ (dt off : Nat) (w : Word) (s : State),
    let a := s.get GLB_BAR4_BASE.BASE * 2 ^ 30 + off / 4 * 4
    s.barOpen = true → a < s.dramCap → s.domOn (112 + (s.dramPlace a).1) = true → s.domOn 131 = true →
    bit s.mem.selfRef (s.dramPlace a).1 = false → s.poisoned a = false → s.inSlots a = false →
    ∃ t, exec (.bar4Access dt off (some w) 0) s = .next t ∧
      (∀ i, i < 4 → t.dram.read (a + i) = BitVec.ofNat 8 (w.toNat / 256 ^ i)) ∧
      (∀ x, (x < a ∨ a + 4 ≤ x) → t.dram.read x = s.dram.read x) ∧ t.regs = s.regs ∧ t.spd = s.spd) ∧
  (∀ (dt off bad : Nat) (w : Word) (s : State),
    let a := s.get GLB_BAR4_BASE.BASE * 2 ^ 30 + off / 4 * 4
    s.barOpen = true → a < s.dramCap → s.domOn (112 + (s.dramPlace a).1) = true → s.domOn 131 = true →
    bit s.mem.selfRef (s.dramPlace a).1 = false → s.inSlots a = true →
    exec (.bar4Access dt off (some w) bad) s = .next ((s.advance dt).bump IMG_PROT_CNT.COUNT)) ∧
  (∀ (dt off bad : Nat) (wr : Option Word) (s : State), s.barOpen = true → s.dev ≠ .off →
    s.dramCap ≤ s.get GLB_BAR4_BASE.BASE * 2 ^ 30 + off / 4 * 4 →
    ∃ t, exec (.bar4Access dt off wr bad) s = .next t ∧ t.get GLB_ACC_ERR.LAST_CAUSE = 3 ∧ t.flag (evtPend 516) = true ∧
      OnlyFieldsEv [⟨GLB_ACC_ERR.addr, 31, 0⟩] (s.advance dt) t) ∧
  (∀ (dt off : Nat) (be : Fin 16) (lost : Bool) (s : State), s.barOpen = true → off < 0x40_0000 →
    s.domOn (spdDomain (off / 4 * 4)) = true →
    exec (.bar2Access dt off none be lost) s =
      .next ((s.advance dt).emit (.memData (((s.advance dt).spdSee hostRank).readList (off / 4 * 4) 4))) ∧
    (s.sameCycle dt = false →
      exec (.bar2Access dt off none be lost) s = .next ((s.advance dt).emit (.memData (s.spd.readList (off / 4 * 4) 4))))) ∧
  (∀ (dt off : Nat) (w : Word) (be : Fin 16) (lost : Bool) (s : State), s.barOpen = true → off < 0x40_0000 →
    s.domOn (spdDomain (off / 4 * 4)) = true → s.spdOwned (off / 4 * 4) = false → s.sameCycle dt = false →
    ∃ t, exec (.bar2Access dt off (some w) be lost) s = .next t ∧
      (∀ i, i < 4 → t.spd.read (off / 4 * 4 + i) =
        if bit be.val i then BitVec.ofNat 8 (w.toNat / 256 ^ i) else s.spd.read (off / 4 * 4 + i)) ∧
      (∀ x, (x < off / 4 * 4 ∨ off / 4 * 4 + 4 ≤ x) → t.spd.read x = s.spd.read x) ∧ t = { s.advance dt with spd := t.spd, spdPort := t.spdPort }) ∧
  (∀ (dt off : Nat) (w : Word) (be : Fin 16) (e : PortWord) (o : PortOp) (lost : Bool) (s : State), s.barOpen = true →
    off < 0x40_0000 → s.domOn (spdDomain (off / 4 * 4)) = true → s.domOn 129 = true → s.spdOwned (off / 4 * 4) = false →
    s.sameCycle dt = true → s.portWord (off / 4) = some e → e.winner = some o → o.rank = hostRank →
    ∃ t, exec (.bar2Access dt off (some w) be lost) s = .next t ∧ t.flag SPD_LOSS.VALID = true ∧
      t.get SPD_LOSS.ADDR = off / 4 ∧ t.flag (evtPend 550) = true ∧ SameMemory s t ∧
      OnlyFieldsEv [SPD_LOSS.VALID, SPD_LOSS.ADDR, SPD_CNT.LOST] (s.advance dt) t) ∧
  (∀ (dt off : Nat) (w : Word) (be : Fin 16) (lost : Bool) (s : State), s.barOpen = true → off < 0x40_0000 →
    s.domOn (spdDomain (off / 4 * 4)) = true → s.domOn 129 = true → s.spdOwned (off / 4 * 4) = true →
    ∃ t, exec (.bar2Access dt off (some w) be lost) s = .next t ∧ OnlyFieldsEv [SPD_CNT.PROT] (s.advance dt) t ∧
      t.flag (evtPend 551) = true ∧ SameMemory s t) ∧
  (∀ (dt : Nat) (s : State),
    let n := s.get SPD_ATOM_ADDR.ADDR
    HostOpen s SPD_ATOM_CMD.addr → s.domOn (spdDomain (4 * n)) = true → s.spdOwned (4 * n) = false →
    (s.advance dt).portWord n = none →
    ∃ t, exec (.atomicAdd dt) s = .next t ∧ t.get SPD_ATOM_RES.OLD = s.spd.word n ∧ t.flag SPD_ATOM_STAT.SUCCESS = true ∧
      t.flag SPD_ATOM_STAT.DENIED = false ∧ t.spd.word n = (s.spd.word n + s.get SPD_ATOM_OPND.VALUE) % 2 ^ 32 ∧
      (∀ x, (x < 4 * n ∨ 4 * n + 4 ≤ x) → t.spd.read x = s.spd.read x) ∧
      OnlyFields [SPD_ATOM_RES.OLD, SPD_ATOM_STAT.SUCCESS, SPD_ATOM_STAT.DENIED]
        { (s.advance dt).touch SPD_ATOM_CMD.addr with spd := t.spd, spdPort := t.spdPort } t) ∧
  (∀ (dt : Nat) (s : State),
    let n := s.get SPD_ATOM_ADDR.ADDR
    HostOpen s SPD_ATOM_CMD.addr → s.domOn (spdDomain (4 * n)) = true → s.spdOwned (4 * n) = false →
    (s.advance dt).portWord n = none →
    ∃ t, exec (.atomicCas dt) s = .next t ∧ t.get SPD_ATOM_RES.OLD = s.spd.word n ∧
      t.flag SPD_ATOM_STAT.SUCCESS = (s.spd.word n == s.get SPD_ATOM_EXP.VALUE) ∧
      t.spd.word n = (if s.spd.word n = s.get SPD_ATOM_EXP.VALUE then s.get SPD_ATOM_OPND.VALUE else s.spd.word n) ∧
      (∀ x, (x < 4 * n ∨ 4 * n + 4 ≤ x) → t.spd.read x = s.spd.read x) ∧
      OnlyFields [SPD_ATOM_RES.OLD, SPD_ATOM_STAT.SUCCESS, SPD_ATOM_STAT.DENIED]
        { (s.advance dt).touch SPD_ATOM_CMD.addr with spd := t.spd, spdPort := t.spdPort } t) ∧
  (∀ (dt : Nat) (cas : Bool) (e : PortWord) (s : State),
    let n := s.get SPD_ATOM_ADDR.ADDR
    let act := if cas then PortAct.cas (s.get SPD_ATOM_EXP.VALUE) (s.get SPD_ATOM_OPND.VALUE) else .add (s.get SPD_ATOM_OPND.VALUE)
    let old := (e.replay (e.ops.filter (fun o => o.rank ≤ atomRank)) s.spd).word n
    HostOpen s SPD_ATOM_CMD.addr → s.domOn (spdDomain (4 * n)) = true → s.spdOwned (4 * n) = false →
    (s.advance dt).portWord n = some e → e.ops.Pairwise (fun o p => o.rank ≤ p.rank) →
    ∃ t, exec (if cas then .atomicCas dt else .atomicAdd dt) s = .next t ∧ t.get SPD_ATOM_RES.OLD = old ∧
      t.flag SPD_ATOM_STAT.SUCCESS = (act.result old).isSome ∧ t.flag SPD_ATOM_STAT.DENIED = false ∧
      t.spd = e.replay (portIns ⟨atomRank, none, act⟩ e.ops) s.spd ∧
      OnlyFields [SPD_ATOM_RES.OLD, SPD_ATOM_STAT.SUCCESS, SPD_ATOM_STAT.DENIED]
        { (s.advance dt).touch SPD_ATOM_CMD.addr with spd := t.spd, spdPort := t.spdPort } t) ∧
  (∀ (dt off c : Nat) (w : Word) (be : Fin 16) (e : PortWord) (o : PortOp) (lost : Bool) (s : State), s.barOpen = true →
    off < 0x40_0000 → s.domOn (spdDomain (off / 4 * 4)) = true → s.spdOwned (off / 4 * 4) = false → s.sameCycle dt = true →
    s.portWord (off / 4) = some e → e.winner = some o → hostRank < o.rank → o.chan = some c →
    ∃ t, exec (.bar2Access dt off (some w) be lost) s = .next t ∧ (t.chan c).lost = true ∧
      t.spd = e.replay (portIns ⟨hostRank, none,
          .put ((bitList 4 be.val).map (fun i => (off / 4 * 4 + i, BitVec.ofNat 8 (w.toNat / 256 ^ i))))⟩
        (e.ops.filter (fun p => p.rank != o.rank || match p.act with | .put _ => false | _ => true))) s.spd)

/-- R369: the four image commands. That 0x17 does not block a swap while no set is active is the model's choice (log 64). -/
def Obligations.ImageCommands : Prop :=
  (∀ (dt : Nat) (s : State), Taken s opImgLoad → s.srcDenied (s.entArg % 4) = false →
    (s.dev = .boot ∨ bit s.fuse.accessBits 4 = false) →
    (let slot := if s.dev = .boot then 0 else s.idleSlot
     ∃ t, exec (.imgLoad dt) s = .next t ∧ HeadTaken s t ∧
      t.img.load = some ⟨s.entArg % 4, b2n (bit s.entArg 4), slot, s.dev == .boot, [], [], false⟩ ∧
      t.imgValid slot = false ∧ t.get IMG_STAT.PHASE = 1 ∧ t.get IMG_STAT.ERR = 0 ∧
      t.flag IMG_FEED_STAT.OPEN = (s.entArg % 4 == 1) ∧ t.get IMG_FEED_STAT.SPACE = 8192 ∧
      t.cmds = s.cmds ++ [⟨opImgLoad, s.entTag, s.dev, .image, true⟩] ∧ t.dev = s.dev ∧ SameMemory s t)) ∧
  (∀ (dt : Nat) (s : State), Taken s opImgLoad → s.srcDenied (s.entArg % 4) = true → CplFree s →
    ∃ t, exec (.imgLoad dt) s = .next t ∧ HeadTaken s t ∧ CplWritten s t opImgLoad s.entTag stFailed 1 ∧
      t.get IMG_STAT.ERR = 1 ∧ t.img = s.img ∧ t.cmds = s.cmds ∧ t.dev = s.dev ∧ SameMemory s t) ∧
  (∀ (dt : Nat) (f : FieldSet) (s : State), Taken s opImgSwap → s.imgValid s.idleSlot = true →
    s.flag IMG_STAT.SAME_STRUCT = true → s.imgTrust (s.slotBytes s.idleSlot) = none →
    (s.sel.active = none ∨ s.sel.active = some f ∧ f.num ∈ (imgCfgOf (imgScan (s.slotBytes s.idleSlot)).recs).sets) →
    (s.dev.running = true → bit s.fuse.accessBits 3 = false) →
    ∃ t, exec (.imgSwap dt) s = .next t ∧
      OnlyFields [GLB_CMD_PTR.HEAD, IMG_STAT.ERR, IMG_STAT.PHASE]
        { s.advance dt with
          img := { s.img with swap := some {} }, cmds := s.cmds ++ [⟨opImgSwap, s.entTag, s.dev, .image, true⟩] } t ∧
      HeadTaken s t ∧ t.get IMG_STAT.PHASE = 5 ∧ t.get IMG_STAT.ERR = 0) ∧
  (∀ (dt : Nat) (s : State), Taken s opImgApply → s.flag SAF_SEAL.UNLOCK = true → s.imgValid s.idleSlot = true →
    (imgCfgOf (s.slotRecs s.idleSlot)).memcfg = s.img.cfg.memcfg → (imgCfgOf (s.slotRecs s.idleSlot)).link = s.img.cfg.link →
    ∃ t, exec (.imgApply dt) s = .next t ∧
      OnlyFields [GLB_CMD_PTR.HEAD, IMG_STAT.ERR, IMG_STAT.PHASE]
        { s.advance dt with
          img := { s.img with apply := some {} }, cmds := s.cmds ++ [⟨opImgApply, s.entTag, s.dev, .image, true⟩] } t ∧
      HeadTaken s t ∧ t.get IMG_STAT.PHASE = 4 ∧ t.get IMG_STAT.ERR = 0) ∧
  (∀ (dt : Nat) (ld : Load) (s : State), Taken s opImgAbort → s.img.load = some ld → ld.slot < 2 →
    ∃ t, exec (.imgAbort dt) s = .next t ∧ HeadTaken s t ∧ t.img.load = none ∧ t.imgValid ld.slot = false ∧
      t.get IMG_STAT.PHASE = 0 ∧ t.get IMG_STAT.ERR = 0x14 ∧ t.flag IMG_FEED_STAT.OPEN = false ∧ t.dev = s.dev ∧
      (∀ c ∈ t.cmds, ¬ (c.wait = .image ∧ c.op = opImgLoad)) ∧ SameMemory s t) ∧
  (∀ (dt : Nat) (s : State), Taken s opImgAbort → s.img.load = none → s.swapPreparing = false → CplFree s →
    ∃ t, exec (.imgAbort dt) s = .next t ∧ HeadTaken s t ∧ CplWritten s t opImgAbort s.entTag stIdle 0 ∧ t.img = s.img ∧
      t.dev = s.dev ∧ SameMemory s t)

/-- R361, R363, R370, R371: how a load, a swap's preparation and an apply go on and end. That IMG_SWAP_EPOCH at an apply is the
current epoch (log 64), and that the domains are back On at its end (log 65), are the model's choices. -/
def Obligations.ImageStreams : Prop :=
  (∀ (dt drained : Nat) (word : Word) (memOk : Bool) (ld : Load) (s : State), HostOpen s (IMG_FEED.addr 0) →
    s.img.load = some ld → ld.src = 1 → s.flag IMG_FEED_STAT.OPEN = true → ld.bytes.length + 4 * ld.feed.length < 252 →
    drained = 0 →
    ∃ t, exec (.imgFeed dt word drained memOk) s = .next t ∧
      t.img = { s.img with load := some { ld with feed := ld.feed ++ [word.toNat] } } ∧
      t.get IMG_FEED_STAT.SPACE = 8192 - (ld.feed.length + 1) ∧ t.flag IMG_FEED_STAT.OPEN = true ∧ t.dev = s.dev ∧
      SameMemory s t) ∧
  (∀ (dt : Nat) (word : Word) (memOk : Bool) (ld : Load) (s : State), HostOpen s (IMG_FEED.addr 0) →
    s.img.load = some ld → ld.src = 1 → s.flag IMG_FEED_STAT.OPEN = true → ld.boot = false → ld.bytes = [] → ld.memDone = false →
    8192 ≤ ld.feed.length →
    ∃ t, exec (.imgFeed dt word 0 memOk) s = .next t ∧ t.img.load = none ∧ t.imgValid ld.slot = false ∧
      t.flag IMG_FEED_STAT.OVF = true ∧ t.get IMG_STAT.ERR = 0x12 ∧ t.flag IMG_FEED_STAT.OPEN = false ∧
      t.flag (evtPend 529) = true ∧ t.dev = s.dev ∧ SameMemory s t) ∧
  (∀ (dt : Nat) (ld : Load) (s : State), s.img.load = some ld → (ld.src ≠ 2 ∨ ld.bytes ≠ []) →
    loadPhase ld.bytes ≠ 3 → (ld.boot = false ∨ ld.src ≠ 0 ∨ ld.copy ≠ 0) →
    ∃ t, exec (.imgStreamTimeout dt) s = .next t ∧ t.img.load = none ∧ t.imgValid ld.slot = false ∧
      t.get IMG_STAT.ERR = 0x13 ∧ t.get IMG_STAT.PHASE = 0 ∧ (s.domOn 135 = true → t.flag (evtPend 529) = true) ∧
      t.img.bootFailed = (ld.boot || s.img.bootFailed) ∧ t.dev = s.dev ∧ SameMemory s t) ∧
  (∀ (dt : Nat) (stream : List Byte) (memOk : Bool) (ld : Load) (s : State), s.img.load = some ld → ld.boot = false →
    (let b := ld.bytes ++ (if ld.src = 0 then stream else if ld.src = 1 then bytesOfWords ld.feed else [])
     let u := ({ s.advance dt with img := { s.img with load := some { ld with feed := [] } } } : State).loadTake
      (if ld.src = 0 then stream else if ld.src = 1 then bytesOfWords ld.feed else []) memOk
     loadPhase b = 3 → (ld.src = 2 → b.length = imgLen b) →
     ∃ t, exec (.imgVerifyDone dt stream memOk) s = .next t ∧ t.img.load = none ∧ t.get IMG_STAT.PHASE = 0 ∧ t.dev = s.dev ∧
      (t.imgValid ld.slot = true ↔ u.img.load ≠ none ∧ u.setsBad (imgScan b).recs = none ∧
        u.trailerCode b (imgScan b).structural = none ∧ u.parseBad (imgScan b).recs = none) ∧
      (t.imgValid ld.slot = true → s.domOn 135 = true → t.flag (evtPend 530) = true) ∧
      (t.imgValid ld.slot = false → t.get IMG_STAT.ERR ≠ 0 ∧ (s.domOn 135 = true → t.flag (evtPend 529) = true)))) ∧
  (∀ (dt : Nat) (stream : List Byte) (memOk : Bool) (ld : Load) (s : State), s.img.load = some ld → ld.boot = true →
    s.dev = .boot →
    (let new := if ld.src = 0 then stream else if ld.src = 1 then bytesOfWords ld.feed else []
     let b := ld.bytes ++ new
     let u := ({ s.advance dt with img := { s.img with load := some { ld with feed := [] } } } : State).loadTake new memOk
     ∃ t, exec (.imgVerifyDone dt stream memOk) s = .next t ∧
      (t.dev = .configured → loadPhase b = 3 ∧ u.img.load ≠ none ∧ u.setsBad (imgScan b).recs = none ∧
        u.trailerCode b (imgScan b).structural = none ∧ u.parseBad (imgScan b).recs = none))) ∧
  (∀ (dt : Nat) (late : Bool) (s : State), s.img.swap = some {} → s.sel.active = none → s.sel.loading = none →
    s.sel.ready = none →
    (let l := s.slotRecs s.idleSlot
     let ws := (regsWrites l).filter (fun w => s.domOn (blockDomain w.fld.addr))
     let tab := if s.domOn 120 then bodyOf l 0x20 else []
     let w := (s.advance dt).handingOver
     let u := { s.advance dt with img := { s.img with cfg := { s.img.cfg with fsel := (imgCfgOf l).fsel } } }
     ∃ t, exec (.swapPrepared dt late) s = .next t ∧ SameMemory s t ∧ t.dev = s.dev ∧ t.img.active = s.img.active ∧
      t.imgValid 0 = s.imgValid 0 ∧ t.imgValid 1 = s.imgValid 1 ∧
      ((u.stageGroup .swap w ws tab s.img.cfg.route (!tab.isEmpty)).1 = none →
        t.img.swap = some ⟨true, w, tab, none⟩ ∧ t.get IMG_STAT.PHASE = 6 ∧
        t.stage = { s.stage with groups := s.stage.groups ++ [⟨.swap, (s.now + dt) / fclkLsb, w, putWrites [] ws⟩] }) ∧
      ((u.stageGroup .swap w ws tab s.img.cfg.route (!tab.isEmpty)).1 ≠ none →
        t.img.swap = none ∧ t.stage = s.stage ∧ t.get IMG_STAT.ERR = 0x10 ∧ t.get IMG_STAT.PHASE = 0))) ∧
  (∀ (dt : Nat) (a : Apply) (s : State), s.img.apply = some a → a.started = true → a.left = 0 →
    (∀ d, d < 136 → bit a.doms d = true → d ∈ applyDoms) →
    s.img.active < 2 →
    ∃ t, exec (.applyDone dt) s = .next t ∧ t.img.apply = none ∧ t.get IMG_STAT.PHASE = 0 ∧ t.dev = s.dev ∧
      (∀ d, d < 136 → bit a.doms d = true → t.flag (domBit d) = true) ∧ t.imgValid 0 = s.imgValid 0 ∧ t.imgValid 1 = s.imgValid 1 ∧
      (t.img.active = s.idleSlot ∧ t.get IMG_SWAP_EPOCH.EPOCH = s.epoch ∨
        t.img.active = s.img.active ∧ t.get IMG_STAT.ERR = 0x10))

/-- R374, R375. -/
def Obligations.Fuses : Prop :=
  (∀ (dt n mask : Nat) (s : State), HostOpen s BEZ_PROG_CMD.addr → s.flag BEZ_PROG_STAT.BUSY = false →
    burnBits (s.get BEZ_PROG_SEL.FIELD) = some (n, mask) →
    (s.virgin = true ∨ s.unlocked = true ∧ bit s.fuse.accessBits 5 = false) → s.fuse.blank (s.get BEZ_PROG_SEL.FIELD) = true →
    ∃ t, exec (.burn dt 0xF05E) s = .next t ∧ t.flag BEZ_PROG_STAT.BUSY = true ∧
      OnlyFields [BEZ_PROG_STAT.BUSY]
        { (s.advance dt).touch BEZ_PROG_CMD.addr with
          fuse := { s.fuse with burn := some (1, s.get BEZ_PROG_SEL.FIELD, andN (s.fuse.stageVal n) mask) } } t) ∧
  (∀ (dt : Nat) (s : State), HostOpen s BEZ_PROG_CMD.addr → s.flag BEZ_PROG_STAT.BUSY = false → s.unlocked = true →
    s.usedKey ≠ some (s.fuse.stageWord 0 % 4) →
    ∃ t, exec (.revoke dt 0xF05E) s = .next t ∧ t.flag BEZ_PROG_STAT.BUSY = true ∧
      OnlyFields [BEZ_PROG_STAT.BUSY]
        { (s.advance dt).touch BEZ_PROG_CMD.addr with
          fuse := { s.fuse with burn := some (2, 0x30, 2 ^ (s.fuse.stageWord 0 % 4)) } } t) ∧
  (∀ (dt : Nat) (s : State), HostOpen s BEZ_PROG_CMD.addr → s.flag BEZ_PROG_STAT.BUSY = false → s.unlocked = true →
    s.fuse.stageWord 0 % 128 ≤ 64 →
    ∃ t, exec (.raiseSvn dt 0xF05E) s = .next t ∧ t.flag BEZ_PROG_STAT.BUSY = true ∧
      OnlyFields [BEZ_PROG_STAT.BUSY]
        { (s.advance dt).touch BEZ_PROG_CMD.addr with
          fuse := { s.fuse with burn := some (3, 0x31, 2 ^ (s.fuse.stageWord 0 % 128) - 1) } } t) ∧
  (∀ (dt : Nat) (key : Fin 65536) (s : State), HostOpen s BEZ_PROG_CMD.addr → key.val ≠ 0xF05E →
    exec (.burn dt key) s = .next ((s.advance dt).touch BEZ_PROG_CMD.addr) ∧
    exec (.revoke dt key) s = .next ((s.advance dt).touch BEZ_PROG_CMD.addr) ∧
    exec (.raiseSvn dt key) s = .next ((s.advance dt).touch BEZ_PROG_CMD.addr)) ∧
  (∀ (dt a b action id val : Nat) (s : State), s.fuse.burn = some (action, id, val) →
    (let new : Fuse2 := ⟨orN (s.fuse.field id).a (andN a val), orN (s.fuse.field id).b (andN b val)⟩
     ∃ t, exec (.burnDone dt a b) s = .next t ∧ t.flag BEZ_PROG_STAT.BUSY = false ∧
      t.get BEZ_PROG_STAT.RESULT = (if new.agree then 0 else 3) ∧ t.fuse.field id = new ∧ FusesKept s.fuse t.fuse ∧
      OnlyFields [BEZ_PROG_STAT.BUSY, BEZ_PROG_STAT.RESULT]
        { s.advance dt with fuse := { s.fuse.setField id new with burn := none } } t)) ∧
  (∀ (dt : Nat) (i : TapInstr) (s : State), s.tapAccepts i = true →
    exec (.tapInstruction dt i) s = .next { s.advance dt with fuse := { s.fuse with tap := tapCode i } }) ∧
  (∀ (dt : Nat) (i : TapInstr) (s : State), s.tapAccepts i = false →
    exec (.tapInstruction dt i) s =
      .next (({ s.advance dt with fuse := { s.fuse with tap := 0 } } : State).hwUp BEZ_STAT.TAP_REFUSED))

/-- R347 to R350, R521, R522. -/
def Obligations.SealsAndPlug : Prop :=
  (∀ (dt : Nat) (site : Fin 8) (s : State), s.dev ≠ .off → s.dev ≠ .reset →
    ∃ t, exec (.sealChange dt site) s = .next t ∧ OnlyFields [SAF_SEAL.NOW] (s.advance dt) t ∧
      t.get SAF_SEAL.NOW = 2 * site.val + s.get SAF_SEAL.NOW % 2) ∧
  (∀ (dt : Nat) (unlock : Bool) (s : State), s.dev ≠ .off → s.dev ≠ .reset →
    ∃ t, exec (.configUnlockChange dt unlock) s = .next t ∧ OnlyFields [SAF_SEAL.NOW] (s.advance dt) t ∧
      t.get SAF_SEAL.NOW = 2 * (s.get SAF_SEAL.NOW / 2) + b2n unlock ∧ t.flag SAF_SEAL.UNLOCK = s.flag SAF_SEAL.UNLOCK) ∧
  (∀ (dt : Nat) (present : Bool) (s : State), s.domOn 122 = true →
    ∃ t, exec (.plugChange dt present) s = .next t ∧ t.flag SAF_PLUG.PRESENT = present ∧ t.flag SAF_PLUG.VALID = false ∧
      t.flag SAF_PLUG.MATCH = false ∧ t.flag (evtPend 528) = true ∧
      OnlyFieldsEv [SAF_PLUG.PRESENT, SAF_PLUG.VALID, SAF_PLUG.MATCH]
        { s.advance dt with saf := { s.saf with plugLeft := if present then 3 else 0 } } t) ∧
  (∀ (dt : Nat) (words : List Nat) (s : State), s.domOn 122 = true → s.saf.plugLeft ≠ 0 →
    ∃ t, exec (.plugReadAttempt dt .data words) s = .next t ∧ t.flag SAF_PLUG.VALID = plugValid words ∧
      t.flag SAF_PLUG.MATCH = (plugValid words && s.plugMatches words) ∧
      OnlyFields [SAF_PLUG.VALID, SAF_PLUG.MATCH]
        { (s.advance dt).emit (.plugBus s.plugKhz [.write 0x52 [0, 0], .read 0x52 64]) with
          saf := { s.saf with plugLeft := 0, plug := (List.range 16).map (pw words) } } t) ∧
  (∀ (dt : Nat) (words : List Nat) (ending : PlugEnd) (s : State), s.domOn 122 = true → s.saf.plugLeft ≠ 0 → ending ≠ .data →
    ∃ t, exec (.plugReadAttempt dt ending words) s = .next t ∧
      t.get SAF_PLUG.READ_ERR = min (s.get SAF_PLUG.READ_ERR + 1) 255 ∧
      OnlyFields [SAF_PLUG.READ_ERR]
        { (s.advance dt).emit (.plugBus s.plugKhz ([.write 0x52 [0, 0], .read 0x52 64] ++
            match ending with
            | .sdaLow n => [.clocks n.val]
            | _ => [])) with
          saf := { s.saf with plugLeft := s.saf.plugLeft - 1 } } t) ∧
  (∀ (dt : Nat) (part : PlugReply) (s : State), Taken s opPlugWrite → CplFree s → s.flag SAF_SEAL.UNLOCK = true →
    s.flag SAF_PLUG.PRESENT = true → (∀ p, p < 4 → nth part.acks p false = true) →
    (List.range 16).map (pw part.back) = s.plugRecord →
    ∃ t, exec (.plugWrite dt part) s = .next t ∧ HeadTaken s t ∧ CplWritten s t opPlugWrite s.entTag stOk 0 ∧
      .plugBus s.plugKhz ((List.range 4).map (plugPage s.plugRecord) ++ [.write 0x52 [0, 0], .read 0x52 64]) ∈ t.out ∧
      t.saf = { s.saf with plugLeft := 0, plug := s.plugRecord } ∧ t.flag SAF_PLUG.VALID = true ∧ t.flag SAF_PLUG.MATCH = true ∧
      t.dev = s.dev ∧ SameMemory s t) ∧
  (∀ (dt : Nat) (part : PlugReply) (s : State), Taken s opPlugWrite → CplFree s → s.flag SAF_SEAL.UNLOCK = true →
    s.flag SAF_PLUG.PRESENT = true →
    ((∃ p, p < 4 ∧ nth part.acks p false = false) ∨ (List.range 16).map (pw part.back) ≠ s.plugRecord) →
    ∃ t, exec (.plugWrite dt part) s = .next t ∧ HeadTaken s t ∧ CplWritten s t opPlugWrite s.entTag stFailed 0x1B ∧
      t.saf = s.saf ∧ t.get SAF_PLUG.VALID = s.get SAF_PLUG.VALID ∧ t.get SAF_PLUG.MATCH = s.get SAF_PLUG.MATCH ∧
      t.dev = s.dev ∧ SameMemory s t)

/-- R511 to R518. -/
def Obligations.Indicators : Prop :=
  (∀ (dt : Nat) (ret : List Bool) (s : State), s.domOn 127 = true → s.flag IND_BEAD_CTL.EN = true →
    s.get IND_BEAD_CTL.NODES ≠ 0 →
    (let n := s.get IND_BEAD_CTL.NODES
     let check := 0xB3 * 2 ^ 24 + s.ind.frames % 65536
     let pass := ret == bitsDown check
     ∃ t, exec (.chainFrame dt ret) s = .next t ∧
      Output.beadFrame ((List.range n).map (fun k => ((s.nodeFade k).update).share) ++ [check]) ∈ t.out ∧
      (∀ k < n, t.nodeFade k = (s.nodeFade k).update) ∧ t.ind.frames = (s.ind.frames + 1) % 65536 ∧
      t.get IND_BEAD_STAT.RET_BITS = min ret.length 255 ∧
      t.ind.failed = (if pass then 0 else min 3 (s.ind.failed + 1)) ∧
      t.flag IND_BEAD_STAT.FAULT = (!pass && (s.flag IND_BEAD_STAT.FAULT || decide (2 ≤ s.ind.failed))) ∧
      t.get IND_BEAD_CNT.FAILED = (if pass then s.get IND_BEAD_CNT.FAILED else min (s.get IND_BEAD_CNT.FAILED + 1) (2 ^ 32 - 1)) ∧
      t.dev = s.dev ∧ SameMemory s t)) ∧
  (∀ (dt : Nat) (vpin : List Nat) (s : State), s.domOn 127 = true →
    ∃ t, exec (.ledPwmPeriod dt vpin) s = .next t ∧ t.ind.period = (s.ind.period + 1) % 12 ∧
      (∀ k < 12, t.sinkFade k = (s.sinkFade k).update ∧
        tabGet (fun _ => 0) t.ind.iset k = s.get (IND_LED_CTL.ISET k) ∧
        bit t.ind.lit k = (s.flag (IND_LED_CTL.LEVEL k) || s.flag (IND_LED_CTL.TEST_DARK k))) ∧ t.dev = s.dev ∧ SameMemory s t ∧
      (let n := s.ind.period % 12
       let v := min (nth vpin n 0) 255
       let alone := ∀ m, m < 12 → (m + 1 = n ∨ m = n + 1) → s.ledEn m = false
       s.ledEn n = true → s.ledOff n = false → bit s.ind.lit n = true →
        t.get (IND_LED_PIN.VPIN n) = v ∧ Output.ledTest n (tabGet (fun _ => 0) s.ind.iset n) 8 ∈ t.out ∧
        (12 ≤ v → s.get (IND_LED_PIN.PIN_LO n) ≤ v → v ≤ s.get (IND_LED_PIN.PIN_HI n) → alone →
          tabGet (fun _ => (0, 0)) t.ind.runs n = (0, 0)) ∧
        (v < 12 → tabGet (fun _ => (0, 0)) s.ind.runs n = (1, 2) → t.flag (ledMark 1 n) = true))) ∧
  (∀ (dt : Nat) (sink : Fin 12) (s : State), s.domOn 127 = true →
    ∃ t, exec (.ledThermalTrip dt sink) s = .next t ∧ t.flag (ledMark 4 sink.val) = true ∧ t.ledDrives sink.val = 0 ∧
      (s.flag (ledMark 4 sink.val) = false → s.dev ≠ .off → t.flag (evtPend 617) = true) ∧
      OnlyFieldsEv [ledMark 4 sink.val] (s.advance dt) t) ∧
  (∀ (dt : Nat) (index : Fin 16) (quiet : Bool) (s : State), HostOpen s IND_LED_CMD.addr → index.val < 12 →
    (s.flag (ledMark 4 index.val) = true → quiet = true) →
    ∃ t, exec (.ledClear dt index quiet) s = .next t ∧ (∀ k, k < 5 → 1 ≤ k → t.flag (ledMark k index.val) = false) ∧
      OnlyFields ([1, 2, 3, 4].map (fun k => ledMark k index.val)) ((s.advance dt).touch IND_LED_CMD.addr) t) ∧
  (∀ (dt : Nat) (index : Fin 16) (quiet : Bool) (s : State), HostOpen s IND_LED_CMD.addr →
    (12 ≤ index.val ∨ s.flag (ledMark 4 index.val) = true ∧ quiet = false) →
    ∃ t, exec (.ledClear dt index quiet) s = .next t ∧ t.flag IND_ERR.CMD_ERR = true ∧
      OnlyFields [IND_ERR.CMD_ERR] ((s.advance dt).touch IND_LED_CMD.addr) t)

/-- R520, with R326 on the restart. That TEACH_N begins a running teach anew is the model's choice (log 15). -/
def Obligations.Buttons : Prop :=
  (∀ (dt : Nat) (teach : Bool) (s : State), s.domOn 122 = true → s.press teach = none →
    ∃ t, exec (.buttonPress dt teach) s = .next t ∧
      t.press teach = some { at' := s.now + dt, overlap := (s.press (!teach)).isSome } ∧
      t.press (!teach) = (s.press (!teach)).map (fun p => { p with overlap := true }) ∧
      (if teach then t.flag IND_BTN_STAT.TEACH else t.flag IND_BTN_STAT.RESTART) = true ∧
      OnlyFields [IND_BTN_STAT.RESTART, IND_BTN_STAT.TEACH, IND_BTN_STAT.STUCK] { s.advance dt with ind := t.ind } t) ∧
  (∀ (dt : Nat) (teach : Bool) (p : Press) (s : State), s.press teach = some p → p.stuck = false →
    ∃ t, exec (.buttonStuck dt teach) s = .next t ∧ t.press teach = some { p with stuck := true } ∧
      t.press (!teach) = s.press (!teach) ∧ t.flag IND_BTN_STAT.STUCK = true ∧ (s.dev ≠ .off → t.flag (evtPend 619) = true) ∧
      OnlyFieldsEv [IND_BTN_STAT.RESTART, IND_BTN_STAT.TEACH, IND_BTN_STAT.STUCK] { s.advance dt with ind := t.ind } t) ∧
  (∀ (dt : Nat) (teach : Bool) (p : Press) (s : State), s.press teach = some p →
    (p.overlap = true ∨ p.stuck = true ∨ s.now + dt - p.at' < s.get IND_BTN_CFG.MIN_PRESS * 10000 * usLsb ∨
      s.get IND_BTN_CFG.MAX_PRESS * 1000000 * usLsb < s.now + dt - p.at') →
    ∃ t, exec (.button dt teach) s = .next t ∧ t.press teach = none ∧ t.press (!teach) = s.press (!teach) ∧
      OnlyFields [IND_BTN_STAT.RESTART, IND_BTN_STAT.TEACH, IND_BTN_STAT.STUCK] { s.advance dt with ind := t.ind } t) ∧
  (∀ (dt : Nat) (p : Press) (s : State), s.press false = some p → p.overlap = false → p.stuck = false →
    s.get IND_BTN_CFG.MIN_PRESS * 10000 * usLsb ≤ s.now + dt - p.at' →
    s.now + dt - p.at' ≤ s.get IND_BTN_CFG.MAX_PRESS * 1000000 * usLsb →
    s.flag (SAF_OSSD_CFG.EN 0) = false → s.flag (SAF_OSSD_CFG.EN 1) = false → s.dev = .safeStop →
    s.flag SAF_CTL.OP_RESUME = true → s.cmdRefused opRun = none →
    ∃ t, exec (.button dt false) s = .next t ∧ t.press false = none ∧
      t.get IND_BTN_STAT.QUAL = min (s.get IND_BTN_STAT.QUAL + 1) 65535 ∧ t.flag (evtPend 618) = true ∧
      t.cmds = s.cmds ++ [⟨opRun, 0, .safeStop, .runJudge, false⟩] ∧
      t.saf = { s.saf with plugLeft := if s.flag SAF_PLUG.PRESENT then 3 else 0 } ∧ t.dev = .safeStop ∧ SameMemory s t) ∧
  (∀ (dt : Nat) (p : Press) (s : State), s.press true = some p → p.overlap = false → p.stuck = false →
    s.get IND_BTN_CFG.MIN_PRESS * 10000 * usLsb ≤ s.now + dt - p.at' →
    s.now + dt - p.at' ≤ s.get IND_BTN_CFG.MAX_PRESS * 1000000 * usLsb → s.dev = .maintenance →
    s.flag SAF_SEAL.UNLOCK = true → s.domOn 121 = true → s.get SEL_TEACH_CTL.FRAMES ≠ 0 →
    ∃ t, exec (.button dt true) s = .next t ∧ t.press true = none ∧
      t.get IND_BTN_STAT.QUAL = min (s.get IND_BTN_STAT.QUAL + 1) 65535 ∧ t.flag (evtPend 618) = true ∧
      t.sel = { s.sel with teach := some ⟨s.get SEL_TEACH_CTL.FRAMES, 0, []⟩ } ∧ t.get SEL_TEACH_STAT.STATE = 1 ∧
      t.dev = .maintenance ∧ SameMemory s t)

/-- R294, R306, R307, R318. That START begins a running teach anew, and a refused one ends it, is the model's choice (log 15). -/
def Obligations.FieldSets : Prop :=
  (∀ (dt bad i : Nat) (late : Bool) (s : State), s.sel.loading = some i → KeptOn s 121 → KeptOn s 122 → (s.dev.running = true → NoneUndone s) →
    ∃ t, exec (.fieldSetLoadDone dt late bad) s = .next t ∧ t.sel.loading = none ∧ t.sel.active = s.sel.active ∧
      SameMemory s t ∧
      (bad < 2 → s.fsetPoisoned i = false → (s.fsetInDram i).valid i (fun n => s.get (T_GATE_CTL.START n)) = true →
        t.sel.ready = some (s.fsetInDram i) ∧ t.sel.readyLate = (s.advance dt).handingOver ∧ t.get SEL_FSET_STAT.LOAD = 2 ∧ t.dev = s.dev) ∧
      (2 ≤ bad ∨ s.fsetPoisoned i = true ∨ (s.fsetInDram i).valid i (fun n => s.get (T_GATE_CTL.START n)) = false →
        t.sel.ready = s.sel.ready ∧ t.get SEL_FSET_STAT.LOAD = 0 ∧ t.flag SEL_FSET_STAT.ILLEGAL = true ∧
        t.flag SAF_CAUSE.FS_CRC = true ∧ t.flag (evtPend 467) = true ∧ t.dev = (if s.dev.running then .safeStop else s.dev))) ∧
  (∀ (dt : Nat) (frames : Fin 256) (s : State), HostOpen s SEL_TEACH_CTL.addr → s.dev = .maintenance →
    s.flag SAF_SEAL.UNLOCK = true → frames.val ≠ 0 →
    ∃ t, exec (.teachStart dt frames) s = .next t ∧ t.get SEL_TEACH_STAT.STATE = 1 ∧ t.get SEL_TEACH_STAT.DONE = 0 ∧
      OnlyFields [SEL_TEACH_CTL.FRAMES, SEL_TEACH_STAT.STATE, SEL_TEACH_STAT.DONE]
        { (s.advance dt).touch SEL_TEACH_CTL.addr with sel := { s.sel with teach := some ⟨frames.val, 0, []⟩ } } t) ∧
  (∀ (dt : Nat) (frames : Fin 256) (s : State), HostOpen s SEL_TEACH_CTL.addr →
    (s.dev ≠ .maintenance ∨ s.flag SAF_SEAL.UNLOCK = false ∨ frames.val = 0) →
    exec (.teachStart dt frames) s = .next
      (({ ((s.advance dt).touch SEL_TEACH_CTL.addr).put SEL_TEACH_CTL.FRAMES frames.val with sel := { s.sel with teach := none } } : State).put SEL_TEACH_STAT.STATE 3)) ∧
  (∀ (dt : Nat) (x : Teach) (s : State), HostOpen s SEL_TEACH_CTL.addr → s.sel.teach = some x →
    exec (.teachAbort dt) s = .next
      (({ (s.advance dt).touch SEL_TEACH_CTL.addr with sel := { s.sel with teach := none } } : State).put SEL_TEACH_STAT.STATE 3)) ∧
  (∀ (dt : Nat) (x : Teach) (s : State), s.sel.teach = some x → x.frames ≤ x.done → s.mem.poison = [] →
    ∃ t, exec (.teachDone dt) s = .next t ∧ t.sel = { s.sel with teach := none } ∧ t.get SEL_TEACH_STAT.STATE = 2 ∧
      (∀ c < 98304, t.dramRead (s.teachAddr + 2 * c) 2 = bytesLE 2 (min 0xFFFF (tabGet (fun _ => 0xFFFF) x.vals c))) ∧
      (∀ a, (a < s.teachAddr ∨ s.teachAddr + 196608 ≤ a) → t.dram.read a = s.dram.read a) ∧ t.spd = s.spd ∧
      OnlyFields [SEL_TEACH_STAT.STATE] { s.advance dt with sel := t.sel, dram := t.dram } t)

/-- R119 to R136: the receiver. That the breakdown voltage is reckoned from TRD_Y of slot 7 is the model's choice (log 40). Where
a clause has only time pass since its event cannot occur in the state, that is the model's choice (log 3). -/
def Obligations.Receiver : Prop :=
  (∀ (dt vex : Nat) (tile : Fin 96) (hits : Fin 17) (s : State), s.tileEn tile.val = true →
    (s.tileSt tile.val).gates = [] → 12 ≤ hits.val → ((10 * vex : Nat) - (s.vexTgt : Int)).natAbs ≤ 100 →
    s.flag (T_BIAS_STAT.BIAS_FAULT tile.val) = false →
    ∃ t, exec (.biasMeasurement dt tile hits vex) s = .next t ∧ t.get (T_BIAS_STAT.VEX tile.val) = vex % 1024 ∧
      (t.tileSt tile.val).vbd = some (s.getI (TRD_Y.Y 7) - 25 * s.get (T_BIAS_STAT.TRIM tile.val) - (10 * vex : Nat)) ∧
      (t.tileSt tile.val).refRun = 0 ∧ (t.tileSt tile.val).exRun = 0 ∧
      t.flag (T_BIAS_STAT.BIAS_FAULT tile.val) = false ∧
      t.flag (T_BIAS_STAT.BIAS_RDY tile.val) =
        (s.flag (T_BIAS_STAT.BIAS_RDY tile.val) || decide (2 ≤ (s.tileSt tile.val).rdyRun)) ∧
      (∀ k, k < 96 → k ≠ tile.val → t.tileSt k = s.tileSt k) ∧ t.dev = s.dev ∧ SameMemory s t) ∧
  (∀ (dt vex : Nat) (tile : Fin 96) (s : State), s.tileEn tile.val = true → (s.tileSt tile.val).gates = [] →
    2 ≤ (s.tileSt tile.val).refRun →
    ∃ t, exec (.biasMeasurement dt tile 0 vex) s = .next t ∧ t.flag (T_BIAS_STAT.REF_FAIL tile.val) = true ∧
      t.flag (T_BIAS_STAT.BIAS_FAULT tile.val) = true ∧ t.flag (T_BIAS_STAT.BIAS_RDY tile.val) = false ∧
      (t.tileSt tile.val).vbd = none ∧ t.dev = s.dev ∧ SameMemory s t) ∧
  (∀ (dt : Nat) (s : State), s.domOn 123 = true → s.flag TRD_BIAS_STAT.HV_OV = false →
    ∃ t, exec (.hvOv dt) s = .next t ∧ t.flag TRD_BIAS_STAT.HV_OV = true ∧
      t.flag TRD_BIAS_STAT.HV_OV_LOCK = (s.flag TRD_BIAS_STAT.HV_OV_LOCK || (match s.trd.ovCleared with
        | some c => decide (s.now + dt - c < 10000000 * usLsb)
        | none => false)) ∧
      (t.slot 7).run = false ∧ t.flag (evtPend 450) = true ∧ t.dev = s.dev ∧ SameMemory s t) ∧
  (∀ (dt code code8 : Nat) (tile : Fin 96) (ch : Fin 8) (spad : Fin 24) (g : Gate) (iv : Ivl) (s : State),
    s.domOn tile.val = true → s.clk.tclkOff = none → s.chEn tile.val ch.val = true → bit (s.spads tile.val ch.val) spad.val = true →
    s.chFail tile.val ch.val = false → tabGet (fun _ => 0) (s.rx tile.val ch.val).spad spad.val = 0 →
    (s.tileSt tile.val).gates = [g] → g.opened = true → (s.advance dt).ct < s.gateClose tile.val g →
    (s.tileSt tile.val).ivl = some iv → (s.coincOf tile.val ch.val).1 ≤ 1 → (s.rx tile.val ch.val).evtAt = 0 →
    s.hed.edges = [] → s.mirrors tile.val ch.val = false → s.dllLocked tile.val (s.sliceOf tile.val ch.val) = true →
    s.flag (T_TDC_STAT.SETTLING tile.val) = false → s.tacMode tile.val = false →
    (let b := deltaOf (nativeStamp (s.advance dt).ct code) g.tS / 64
     (s.window tile.val).1 ≤ b → b ≤ (s.window tile.val).2 →
     ∃ t, exec (.avalanche dt tile ch spad code code8) s = .next t ∧
      binGet (t.rx tile.val ch.val).half.bins b = min (binGet (s.rx tile.val ch.val).half.bins b + 1)
        (max 0xFFFF (binGet (s.rx tile.val ch.val).half.bins b)) ∧
      (∀ x, x < 2048 → x ≠ b → binGet (t.rx tile.val ch.val).half.bins x = binGet (s.rx tile.val ch.val).half.bins x) ∧
      (t.rx tile.val ch.val).evtAt = s.now + dt + 1 ∧
      tabGet (fun _ => 0) (t.rx tile.val ch.val).spad spad.val = s.now + dt + 1 ∧
      (∀ k, k < 96 → k ≠ tile.val → t.tileSt k = s.tileSt k) ∧ t.dev = s.dev ∧ SameMemory s t)) ∧
  (∀ (dt code code8 : Nat) (tile : Fin 96) (ch : Fin 8) (spad : Fin 24) (s : State), (s.tileSt tile.val).gates = [] →
    exec (.avalanche dt tile ch spad code code8) s = .next (s.advance dt))

/-- R220 to R236, R240 to R258. -/
def Obligations.Intervals : Prop :=
  (∀ (dt : Nat) (tile : Fin 96) (iv : Ivl) (s : State), (s.tileSt tile.val).ivl = some iv → (s.tileSt tile.val).gates = [] →
    iv.n ≤ iv.slots →
    ∃ t, exec (.pointIntervalEnd dt tile) s = .next t ∧ (t.tileSt tile.val).ivl = (s.tileSt tile.val).nextIvl ∧
      (t.tileSt tile.val).gates = (s.tileSt tile.val).nextGates ∧ (t.tileSt tile.val).nextIvl = none ∧
      t.get (T_REED_IVL.DONE tile.val) = (s.get (T_REED_IVL.DONE tile.val) + 1) % 65536 ∧
      (∀ c < 8, s.chEn tile.val c = true → (t.rx tile.val c).half = {} ∧ (t.rx tile.val c).sel = 1 - (s.rx tile.val c).sel ∧
        ∃ h ∈ (t.tileSt tile.val).pend, h.ch = c ∧ h.half = (s.rx tile.val c).sel ∧ h.bins = (s.rx tile.val c).half.bins ∧
          h.fac = (s.rx tile.val c).half.fac ∧ h.cut = false ∧ h.point = iv.point ∧ h.train = iv.train ∧ h.proof = iv.proof) ∧
      (∀ c < 8, s.chEn tile.val c = false → t.rx tile.val c = s.rx tile.val c) ∧
      (∀ k, k < 96 → k ≠ tile.val → t.tileSt k = s.tileSt k) ∧ t.dev = s.dev ∧ SameMemory s t) ∧
  (∀ (dt a : Nat) (tile : Fin 96) (iv : Ivl) (s : State), (s.tileSt tile.val).ivl = some iv → iv.seedAt = some a →
    a ≤ (s.advance dt).ct →
    ∃ t, exec (.seeding dt tile) s = .next t ∧ t = { s.advance dt with tiles := t.tiles } ∧
      (t.tileSt tile.val).ivl = some { iv with seedAt := none } ∧
      (∀ c < 8, (t.rx tile.val c).half = { (s.rx tile.val c).half with
        fs := (seedsOf (s.rx tile.val c).half.seeds (s.get (T_REED_CTL.SEED_MIN tile.val))).map (fun e =>
          some (facetStart (s.rx tile.val c).half.bins (s.window tile.val).1 (s.window tile.val).2 e.1
            (s.getI (T_REED_CTL.FOFS tile.val)) (s.tacMode tile.val))) }) ∧
      (∀ k, k < 96 → k ≠ tile.val → t.tileSt k = s.tileSt k)) ∧
  (∀ (dt : Nat) (tile : Fin 96) (ch : Fin 8) (h : Half) (rest : List Half) (s : State),
    (s.tileSt tile.val).pend = h :: rest → h.ch = ch.val → h.proof = false → h.listen = false → h.rchg = false →
    (let q : Search := { h := h, p := s.template tile.val, beta := baseline h.bins h.wl h.we }
     s.halfCands tile.val q = [] →
     ∃ t, exec (.extractHalf dt tile ch) s = .next t ∧ (t.tileSt tile.val).pend = rest ∧
      t.flag (T_RET_LAST.VALID tile.val ch.val) = false ∧
      (h.cut = false → h.gatesC + h.gatesF = 0 → bit (t.get (T_RET_STAT.NO_GATES tile.val)) ch.val = true) ∧
      t.dev = s.dev ∧ SameMemory s t)) ∧
  (∀ (dt b : Nat) (tile : Fin 96) (ch : Fin 8) (h : Half) (rest : List Half) (s : State),
    (s.tileSt tile.val).pend = h :: rest → h.ch = ch.val → h.proof = false → h.listen = false → h.rchg = false →
    (let q : Search := { h := h, p := s.template tile.val, beta := baseline h.bins h.wl h.we }
     let r := s.returnAt tile.val q b
     s.halfCands tile.val q = [b] → r.range ≤ 1000000 → (s.rx tile.val ch.val).hold = 0 →
     ∃ t, exec (.extractHalf dt tile ch) s = .next t ∧ (t.tileSt tile.val).pend = rest ∧
      (t.rx tile.val ch.val).carried = [b] ∧ t.flag (T_RET_LAST.VALID tile.val ch.val) = true ∧
      t.get (T_RET_LAST.RANGE tile.val ch.val) = r.range ∧
      t.get (T_RET_LAST.CLASS tile.val ch.val) = s.classify tile.val q [r] (s.rx tile.val ch.val).listenBins false r ∧
      t.dev = s.dev ∧ SameMemory s t)) ∧
  (∀ (dt : Nat) (tile : Fin 96) (ch : Fin 8) (h : Half) (rest : List Half) (s : State),
    (s.tileSt tile.val).pend = h :: rest → h.ch = ch.val → h.proof = true →
    ∃ t, exec (.extractHalf dt tile ch) s = .next t ∧ (t.tileSt tile.val).pend = rest ∧
      (bit (t.get (T_PROOF_STAT.PASS tile.val)) ch.val = true ∨ bit (t.get (T_PROOF_STAT.AMP_FAIL tile.val)) ch.val = true ∨
        bit (t.get (T_PROOF_STAT.POS_FAIL tile.val)) ch.val = true ∨ bit (t.get (T_PROOF_STAT.MISSING tile.val)) ch.val = true) ∧
      (s.halfCands tile.val { h := h, p := s.proofTemplate tile.val, beta := baseline h.bins h.wl h.we } = [] →
        bit (t.get (T_PROOF_STAT.MISSING tile.val)) ch.val = true) ∧
      t.dev = s.dev ∧ SameMemory s t) ∧
  (∀ (dt : Nat) (tile : Fin 96) (ws : List Nat) (rest : List (List Nat)) (s : State), (s.tileSt tile.val).exp = ws :: rest →
    ∃ t, exec (.exportDrain dt tile) s = .next t ∧ (t.tileSt tile.val).exp = rest ∧
      (∀ k, k < 96 → k ≠ tile.val → t.tileSt k = s.tileSt k) ∧
      t = { s.advance dt with
        tiles := t.tiles
        toStage := s.toStage ++ (match s.exportRoute tile.val with
          | some c => [⟨c, .hist, nth ws 1 0, tile.val, ws⟩]
          | none => []) })

/-- R150, R151, R159, R172. -/
def Obligations.Slices : Prop :=
  (∀ (dt : Nat) (tile : Fin 96) (slice : Fin 9) (s : State), s.domOn tile.val = true → s.dllLocked tile.val slice.val = true →
    ∃ t, exec (.dllUnlock dt tile slice) s = .next t ∧ t.dllLocked tile.val slice.val = false ∧
      (∀ i, i < 9 → i ≠ slice.val → t.dllLocked tile.val i = s.dllLocked tile.val i) ∧
      OnlyFields [T_TDC_STAT.DLL_LOCK tile.val] { s.advance dt with tiles := t.tiles } t) ∧
  (∀ (dt : Nat) (tile : Fin 96) (slice : Fin 9) (s : State), s.domOn tile.val = true → s.dllLocked tile.val slice.val = false →
    ∃ t, exec (.dllLock dt tile slice) s = .next t ∧ t.dllLocked tile.val slice.val = true ∧
      (tabGet (fun _ => 0) (s.tileSt tile.val).lockAt slice.val = 0 →
        tabGet (fun _ => 0) (t.tileSt tile.val).lockAt slice.val = s.now + dt + 1) ∧
      (∀ i, i < 9 → i ≠ slice.val → t.dllLocked tile.val i = s.dllLocked tile.val i) ∧
      OnlyFields [T_TDC_STAT.DLL_LOCK tile.val] { s.advance dt with tiles := t.tiles } t) ∧
  (∀ (dt : Nat) (tile : Fin 96) (slice : Fin 9) (s : State), s.domOn tile.val = true →
    (usLsb < tabGet (fun _ => 0) (s.tileSt tile.val).unlockSpan slice.val ∨
      ((s.tileSt tile.val).lockLate slice.val (s.now + dt) = true ∧ bit (s.tileSt tile.val).lateSeen slice.val = false)) →
    ∃ t, exec (.sliceMarkTimeout dt tile slice) s = .next t ∧ t.sliceFail tile.val slice.val = true ∧
      (∀ i, i < 9 → i ≠ slice.val → t.sliceFail tile.val i = s.sliceFail tile.val i) ∧
      bit (t.tileSt tile.val).markedNow slice.val = true ∧
      ((s.advance dt).handingOver = true → s.sliceFail tile.val slice.val = false → bit (t.tileSt tile.val).markLate slice.val = true) ∧
      (slice.val = 8 → s.sliceFail tile.val 8 = false → t.flag (T_RX_STAT.SPARE_FAIL tile.val) = true) ∧
      (∀ k, k < 96 → k ≠ tile.val → t.tileSt k = s.tileSt k) ∧ t.dev = s.dev ∧ SameMemory s t) ∧
  (∀ (dt : Nat) (tile : Fin 96) (s : State), s.domOn tile.val = true →
    exec (.sliceSettleDone dt tile) s = .next ((s.advance dt).putB (T_TDC_STAT.SETTLING tile.val) false)) ∧
  (∀ (dt : Nat) (tile : Fin 96) (slice : Fin 16) (late : Bool) (s : State), HostOpen s (T_TDC_CMD.addr tile.val) →
    slice.val ≤ 8 →
    ∃ t, exec (.sliceMark dt tile slice false late) s = .next t ∧ t.sliceFail tile.val slice.val = true ∧
      (∀ i, i < 9 → i ≠ slice.val → t.sliceFail tile.val i = s.sliceFail tile.val i) ∧
      (slice.val = 8 → s.sliceFail tile.val 8 = false →
        t.flag (T_RX_STAT.SPARE_FAIL tile.val) = true ∧ t.get (T_TDC_AUDIT_STAT.PHASE tile.val) = 15 ∧
        (t.tileSt tile.val).aud = {}) ∧
      t.dev = s.dev ∧ SameMemory s t) ∧
  (∀ (dt : Nat) (tile : Fin 96) (slice : Fin 16) (s : State), HostOpen s (T_TDC_CMD.addr tile.val) → slice.val ≤ 8 →
    s.dev.running = false → bit (s.tileSt tile.val).markedNow slice.val = false →
    ∃ t, exec (.sliceUnmark dt tile slice) s = .next t ∧ t.sliceFail tile.val slice.val = false ∧
      (∀ i, i < 9 → i ≠ slice.val → t.sliceFail tile.val i = s.sliceFail tile.val i) ∧
      (slice.val = 8 → t.flag (T_RX_STAT.SPARE_FAIL tile.val) = false) ∧
      OnlyFields ([T_TDC_STAT.SLICE_FAIL tile.val] ++ (if slice.val = 8 then [T_RX_STAT.SPARE_FAIL tile.val] else []))
        ((s.advance dt).touch (T_TDC_CMD.addr tile.val)) t) ∧
  (∀ (dt : Nat) (tile : Fin 96) (slice : Fin 16) (late : Bool) (s : State), HostOpen s (T_TDC_CMD.addr tile.val) →
    exec (.sliceMark dt tile slice true late) s =
      .next (((s.advance dt).touch (T_TDC_CMD.addr tile.val)).hwUp (T_TDC_ERR.CMD_ERR tile.val)) ∧
    (8 < slice.val → exec (.sliceMark dt tile slice false late) s =
      .next (((s.advance dt).touch (T_TDC_CMD.addr tile.val)).hwUp (T_TDC_ERR.CMD_ERR tile.val))) ∧
    (8 < slice.val ∨ s.dev.running = true → exec (.sliceUnmark dt tile slice) s =
      .next (((s.advance dt).touch (T_TDC_CMD.addr tile.val)).hwUp (T_TDC_ERR.CMD_ERR tile.val))))

/-- R160 to R170. A wrap fill without a place is owed (DESIGN CHOICE, log 85). Where a clause has only time pass since its event cannot occur in the state, that is the model's choice (log 3).
-/
def Obligations.ListsAndAudit : Prop :=
  (∀ (dt : Nat) (s : State), bit (s.advance dt).coarse 23 = true → (∀ k, k < 96 → (s.tileSt k).gates = []) →
    ∃ t, exec (.listWrapFill dt) s = .next t ∧ t = { s.advance dt with tiles := t.tiles } ∧
      (∀ k, k < 96 → ∀ c, c < 8 → t.listQ k c =
        (if s.domOn k && (s.listQ k c).on && (s.listQ k c).wraps != (s.advance dt).wraps then
          (s.listQ k c).fill (s.advance dt).wraps else s.listQ k c))) ∧
  (∀ (dt c ch : Nat) (tile : Fin 96) (e : Nat × Nat) (rest : List (Nat × Nat)) (s : State), s.domOn tile.val = true →
    s.domOn 128 = true → (s.tileSt tile.val).gates = [] → c < 8 → s.listOn tile.val c = true → (s.listQ tile.val c).q = e :: rest →
    (∀ d, d < 8 → d ≠ c → s.listOn tile.val d = false) → s.listRoute tile.val = some ch →
    ((s.chan ch).staged.map StreamRec.bytes).foldl (· + ·) 0 + 4 ≤ s.quota ch →
    ∃ t, exec (.listPortDrain dt tile) s = .next t ∧
      (t.chan ch).staged = (s.chan ch).staged ++ [⟨ch, .list, s.epoch, tile.val, [e.1]⟩] ∧
      t.listQ tile.val c = ({ s.listQ tile.val c with q := rest } : ListQ).gap (s.advance dt).wraps ∧
      (t.tileSt tile.val).listTurn = c ∧ (∀ k, k < 96 → k ≠ tile.val → t.tileSt k = s.tileSt k) ∧
      t = { s.advance dt with tiles := t.tiles, shu := t.shu }) ∧
  (∀ (dt : Nat) (tile : Fin 96) (hist : List Nat) (s : State), s.domOn tile.val = true → (s.tileSt tile.val).aud.run = true →
    (s.tileSt tile.val).aud.made = false → s.acqOpen = false → s.dev.ticks = true → (s.tileSt tile.val).aud.dens = true →
    (let hits := ((List.range 64).map (fun i => nth hist i 0)).foldl (· + ·) 0
     let bad := (List.range 64).any (fun i =>
      decide (s.get (T_TDC_AUDIT_CTL.DNL_LIM tile.val) * hits < 64 * (dnlNum hist hits i).natAbs) ||
      decide (s.get (T_TDC_AUDIT_CTL.INL_LIM tile.val) * hits < 16 * (inlNum hist hits i).natAbs))
     ∃ t, exec (.auditVerdict dt tile hist) s = .next t ∧
      t.get (T_TDC_DENS.VERDICT tile.val) = (if hits < 65536 then 3 else if bad then 2 else 1) ∧
      (65536 ≤ hits → bad = true → 1 ≤ (s.tileSt tile.val).aud.fails → t.sliceFail tile.val 8 = true) ∧
      (65536 ≤ hits → bad = false → (t.tileSt tile.val).aud = { (s.tileSt tile.val).aud with pass := true, fails := 0, made := true }) ∧
      t.dev = s.dev ∧ SameMemory s t)) ∧
  (∀ (dt : Nat) (tile : Fin 96) (hist : List Nat) (s : State), s.domOn tile.val = true → (s.tileSt tile.val).aud.run = true →
    (s.tileSt tile.val).aud.made = false → s.acqOpen = false → s.dev.ticks = true → (s.tileSt tile.val).aud.dens = false →
    (s.tileSt tile.val).aud.pass = true → (s.tileSt tile.val).aud.ch < 8 →
    s.get (T_TDC_AUDIT_CTL.CMP_MAX tile.val) < (s.tileSt tile.val).aud.mism →
    (let a := (s.tileSt tile.val).aud
     ∃ t, exec (.auditVerdict dt tile hist) s = .next t ∧ t.get (T_TDC_MIR.VERDICT tile.val a.ch) = 2 ∧
      t.get (T_TDC_MIR.MISMATCH tile.val a.ch) = min a.mism 15 ∧
      (a.rep = true → t.sliceFail tile.val a.ch = true) ∧
      (a.rep = false → (t.tileSt tile.val).aud = { a with rep := true, made := true } ∧
        t.sliceFail tile.val a.ch = s.sliceFail tile.val a.ch) ∧
      t.dev = s.dev ∧ SameMemory s t)) ∧
  (∀ (dt : Nat) (tile : Fin 96) (hist : List Nat) (s : State), (s.tileSt tile.val).aud.made = true →
    exec (.auditVerdict dt tile hist) s = .next (s.advance dt))

/-- R178 to R182, R190, R194 to R196. That a shot too late for the acquisition window is not committed is the model's choice
(log 95). Where a clause has only time pass since its event cannot occur in the state, that is the
model's choice (log 3). -/
def Obligations.Heddle : Prop :=
  (∀ (dt : Nat) (entry : Fin 512) (s : State), s.shotMay = true → entry.val < tabEntries s.hed.tab →
    entType s.hed.tab entry.val = 1 → s.entPos entry.val < entSlots s.hed.tab entry.val →
    (let i := s.entPos entry.val
     let o := trainOut s.hed.tab entry.val (i % trainSet s.hed.tab entry.val)
     let tS := (s.advance dt).shotTs o (s.ditherNs o (tabGet (fun _ => 0) s.hed.dith o))
     isListen (trainLo s.hed.tab entry.val) (i / trainN s.hed.tab entry.val) = false →
     (s.fireDecide o = .emitted → ∀ p ∈ s.pulses o tS, s.now + dt + (p.2 - (s.advance dt).ct) + 60 * usLsb ≤ s.clk.dueAt) →
     ∃ t, exec (.shotSlotCommit dt entry) s = .next t ∧ t.entPos entry.val = i + 1 ∧
      (∀ k, k < 512 → k ≠ entry.val → t.entPos k = s.entPos k) ∧ t.flag HED_STAT.RUNNING = true ∧
      t.get HED_LISTEN.COUNT = s.get HED_LISTEN.COUNT ∧
      (s.fireDecide o = .emitted →
        t.emd.shots = s.emd.shots ++ [⟨o, s.ePred o, false, s.width o, tS⟩] ∧ t.get HED_SUPP.GOV = s.get HED_SUPP.GOV ∧
        t.get HED_SHOTS.EMITTED = min (s.get HED_SHOTS.EMITTED + 1) (2 ^ 32 - 1) ∧
        (i % trainN s.hed.tab entry.val = 0 → ∀ k, k < 96 → s.tileEn k = true → s.bound k o = true → s.tileSt k = {} →
          (t.tileSt k).gates = [⟨tS, 1, false⟩])) ∧
      (s.fireDecide o ≠ .emitted → t.emd.shots = s.emd.shots ∧ t.get HED_SHOTS.EMITTED = s.get HED_SHOTS.EMITTED) ∧
      (s.fireDecide o = .gov → t.get HED_SUPP.GOV = min (s.get HED_SUPP.GOV + 1) 65535) ∧
      (s.fireDecide o = .fault ∨ s.fireDecide o = .fireOff → t.get HED_SUPP.OTHER = min (s.get HED_SUPP.OTHER + 1) 65535) ∧
      t.emd.buckets = s.emd.buckets ∧ t.dev = s.dev ∧ SameMemory s t)) ∧
  (∀ (dt : Nat) (entry : Fin 512) (p : Nat × Nat) (s : State),
    (let i := s.entPos entry.val
     let o := trainOut s.hed.tab entry.val (i % trainSet s.hed.tab entry.val)
     isListen (trainLo s.hed.tab entry.val) (i / trainN s.hed.tab entry.val) = false → s.fireDecide o = .emitted →
     p ∈ s.pulses o ((s.advance dt).shotTs o (s.ditherNs o (tabGet (fun _ => 0) s.hed.dith o))) →
     s.clk.dueAt < s.now + dt + (p.2 - (s.advance dt).ct) + 60 * usLsb →
     exec (.shotSlotCommit dt entry) s = .next (s.advance dt))) ∧
  (∀ (dt : Nat) (entry : Fin 512) (s : State), s.shotMay = true → entry.val < tabEntries s.hed.tab →
    entType s.hed.tab entry.val = 1 → s.entPos entry.val < entSlots s.hed.tab entry.val →
    isListen (trainLo s.hed.tab entry.val) (s.entPos entry.val / trainN s.hed.tab entry.val) = true →
    ∃ t, exec (.shotSlotCommit dt entry) s = .next t ∧ t.entPos entry.val = s.entPos entry.val + 1 ∧ t.emd = s.emd ∧
      t.get HED_SHOTS.EMITTED = s.get HED_SHOTS.EMITTED ∧
      t.get HED_LISTEN.COUNT = min (s.get HED_LISTEN.COUNT + 1) (2 ^ 32 - 1) ∧ t.dev = s.dev ∧ SameMemory s t) ∧
  (∀ (dt : Nat) (entry : Fin 512) (s : State),
    (s.shotMay = false ∨ entSlots s.hed.tab entry.val ≤ s.entPos entry.val) →
    exec (.shotSlotCommit dt entry) s = .next (s.advance dt) ∧ exec (.proofTrigger dt entry) s = .next (s.advance dt)) ∧
  (∀ (dt : Nat) (entry : Fin 512) (s : State), s.shotMay = true → entry.val < tabEntries s.hed.tab →
    entType s.hed.tab entry.val = 2 → s.entPos entry.val = 0 →
    ∃ t, exec (.proofTrigger dt entry) s = .next t ∧ t.entPos entry.val = 1 ∧ t.emd = s.emd ∧
      t.flag HED_STAT.RUNNING = true ∧ t.get HED_SHOTS.EMITTED = s.get HED_SHOTS.EMITTED ∧
      (∀ k, k < 96 → s.tileEn k = true → proofLo s.hed.tab entry.val ≤ k ∧ k ≤ proofHi s.hed.tab entry.val →
        s.tileSt k = {} →
        (t.tileSt k).gates = [⟨(s.advance dt).edge + 1024, 1, false⟩]) ∧
      (∀ k, k < 96 → s.tileEn k = true → proofLo s.hed.tab entry.val ≤ k ∧ k ≤ proofHi s.hed.tab entry.val →
        s.tileSt k = {} →
        (t.tileSt k).ivl.map (fun iv => (iv.proof, iv.listen)) = some (true, false) ∧
        (t.tileSt k).ivl.map (fun iv => [iv.entry, iv.n, iv.slots, iv.angle]) =
          some [entry.val, proofTrig s.hed.tab entry.val, 1, (s.word TRD_ANG_STAT.addr).toNat]) ∧
      (∀ k, k < 96 → s.tileEn k = true → proofLo s.hed.tab entry.val ≤ k ∧ k ≤ proofHi s.hed.tab entry.val →
        Output.proofLed k ((s.advance dt).edge + 1024 + 64 * s.get (T_PROOF_CTL.DLY k)) (s.get (T_PROOF_CTL.WIDTH k))
          (s.get (T_PROOF_CTL.DRIVE k)) ∈ t.out) ∧
      t.dev = s.dev ∧ SameMemory s t) ∧
  (∀ (dt : Nat) (walk : List WalkSample) (s : State), s.shotMay = true → s.diagIn = true → s.emd.diagRan = false →
    s.emd.diagAt = none →
    exec (.diagSlot dt walk) s = .next (({ s.advance dt with emd := { s.emd with diagAt := some (s.advance dt).edge } } : State).putB
      HED_STAT.RUNNING true)) ∧
  (∀ (dt tD : Nat) (walk : List WalkSample) (s : State), s.shotMay = true → s.diagIn = true → s.emd.diagRan = false →
    s.emd.diagAt = some tD → tD + diagCommit ≤ (s.advance dt).ct →
    ∃ t, exec (.diagSlot dt walk) s = .next t ∧ t.emd.diagRan = true ∧
      (∀ o, o < 96 → s.proofOut (o / 4) = some o → s.fireDecide o = .emitted →
        (let tS := tD + diagBase + 4 * s.fuse.outDelay o
         if s.now + dt + (tS + 256 - (s.advance dt).ct) + 60 * usLsb ≤ s.clk.dueAt then ⟨o, s.ePred o, true, 64, tS⟩ ∈ t.emd.shots
         else t.flag GLB_FRAME_STAT.DIAG_OVR = true)) ∧
      (∀ p ∈ walk, s.pairShut p.stepped.val = false → s.pairShut (p.ball.val / 2) = false →
        p.high ≠ walkLevel p.stepped.val p.stepB p.ball.val →
        t.mark EMD_SHORT.SHORT p.stepped.val = true ∧ t.mark EMD_SHORT.SHORT (p.ball.val / 2) = true) ∧
      t.dev = s.dev ∧ SameMemory s t) ∧
  (∀ (dt tD : Nat) (walk : List WalkSample) (s : State), s.emd.diagAt = some tD → (s.advance dt).ct < tD + diagCommit →
    exec (.diagSlot dt walk) s = .next (s.advance dt))

/-- R200 to R207. -/
def Obligations.Emitter : Prop :=
  (∀ (dt : Nat) (isense : List IsensePart) (out : Fin 96) (q : Fin 65536) (x : Shot) (s : State), s.emd.shots.find? (fun x => x.out == out.val) = some x →
    (let g := out.val / 4
     let eMeas := s.measured g q.val
     let eCount := max eMeas (s.get (EMD_OUT_E.E_LOW out.val))
     ∃ t, exec (.mpdIntegrationEnd dt out q isense) s = .next t ∧ t.emd.shots = s.emd.shots.erase x ∧
      (∀ w, w < 4 → t.buckets w g = (if s.winOn w then
        { s.buckets w g with cur := min ((s.buckets w g).cur + eCount) (2 ^ 48 - 1) } else s.buckets w g)) ∧
      (∀ w, w < 4 → ∀ k, k < 24 → k ≠ g → t.buckets w k = s.buckets w k) ∧
      (q.val < 0xFFFF → eMeas = q.val * s.fuse.gain g / 4096) ∧ (q.val = 0xFFFF → s.fuse.ceilShot < eMeas) ∧
      (s.fuse.ceilShot < eMeas → t.mark EMD_OVER.OVER out.val = true) ∧
      t.dev = s.dev ∧ SameMemory s t)) ∧
  (∀ (dt : Nat) (win : Fin 4) (s : State), s.domOn 120 = true → s.winOn win.val = true →
    ∃ t, exec (.govBucketRoll dt win) s = .next t ∧
      (∀ g, g < 24 → t.buckets win.val g =
        ⟨((s.buckets win.val g).cur :: (s.buckets win.val g).done).take 64, 0⟩) ∧
      (∀ w, w < 4 → w ≠ win.val → ∀ g, g < 24 → t.buckets w g = s.buckets w g) ∧
      OnlyFields [EMD_STAT.GOV_RAMP] { s.advance dt with emd := t.emd } t) ∧
  (∀ (dt : Nat) (out : Fin 96) (s : State), s.domOn 120 = true →
    ∃ t, exec (.driverTrip dt out) s = .next t ∧ t.mark EMD_SHUT.SHUT out.val = true ∧
      (s.mark EMD_SHUT.SHUT out.val = false → t.flag (evtPend 453) = true) ∧
      OnlyFieldsEv [⟨(EMD_SHUT.SHUT (out.val / 32)).addr, out.val % 32, out.val % 32⟩] { (s.advance dt).cutPulses (· == out.val) with emd := t.emd } t ∧
      t.emd = { ((s.advance dt).cutPulses (· == out.val)).emd with shutAt := t.emd.shutAt } ∧
      (∀ e ∈ t.hed.edges, e.1 = out.val → e.2.2 ≤ (s.advance dt).ct)) ∧
  (∀ (dt : Nat) (s : State), s.domOn 120 = true → s.flag EMD_STAT.STUCK_ON = false → NoneUndone s →
    ∃ t, exec (.emdStuckOn dt) s = .next t ∧ t.flag EMD_STAT.STUCK_ON = true ∧ t.flag (evtPend 455) = true ∧
      t.flag SAF_CAUSE.STUCK_ON = true ∧
      (∀ e ∈ t.hed.edges, e.2.2 ≤ (s.advance dt).ct) ∧ t.dev = (if s.dev.running then .safeStop else s.dev) ∧ SameMemory s t) ∧
  (∀ (dt : Nat) (index : Fin 128) (quiet : Bool) (s : State), HostOpen s EMD_CMD.addr → index.val < 96 →
    (s.mark EMD_SHUT.SHUT index.val = true → quiet = true) →
    ∃ t, exec (.clearOutputMarks dt index quiet) s = .next t ∧ t.outMarked index.val = false ∧
      (∀ o, o < 96 → o ≠ index.val → t.outMarked o = s.outMarked o) ∧
      (s.outMarked index.val = true → bit t.emd.barred index.val = true) ∧ t.dev = s.dev ∧ SameMemory s t) ∧
  (∀ (dt : Nat) (index : Fin 128) (s : State), HostOpen s EMD_CMD.addr → index.val < 24 →
    ∃ t, exec (.clearMpdFault dt index) s = .next t ∧
      OnlyFields [EMD_STAT.MPD_FAULT] ((s.advance dt).touch EMD_CMD.addr) t ∧
      t.get EMD_STAT.MPD_FAULT = setBit (s.get EMD_STAT.MPD_FAULT) index.val false) ∧
  (∀ (dt : Nat) (s : State), HostOpen s EMD_CMD.addr → s.dev.running = false →
    exec (.clearStuckOn dt) s = .next (((s.advance dt).touch EMD_CMD.addr).putB EMD_STAT.STUCK_ON false)) ∧
  (∀ (dt : Nat) (index : Fin 128) (s : State), HostOpen s EMD_CMD.addr → 96 ≤ index.val → s.dev.running = true →
    (let u := ((s.advance dt).touch EMD_CMD.addr).hwUp EMD_ERR.CMD_ERR
     exec (.clearOutputMarks dt index true) s = .next u ∧ exec (.clearMpdFault dt index) s = .next u ∧
      exec (.clearStuckOn dt) s = .next u))

/-- R192 and R487 to R492. -/
def Obligations.PausesAndHeat : Prop :=
  (∀ (dt : Nat) (s : State), s.hed.pauseReq ≠ 0 → s.shotMay = true → s.moreSlots = true → s.inDiag = false →
    exec (.throttlePauseStart dt) s = .next { s.advance dt with
      hed := { s.hed with pauseAt := some (s.now + dt), pauseLen := s.hed.pauseReq, pauseReq := 0 } }) ∧
  (∀ (dt a : Nat) (s : State), s.hed.pauseAt = some a →
    (let n := s.hed.paused + (s.now + dt - a)
     ∃ t, exec (.throttlePauseEnd dt) s = .next t ∧ t.get HED_PAUSE.TCLK = n / 64 % 2 ^ 32 ∧
      OnlyFields [HED_PAUSE.TCLK] { s.advance dt with hed := { s.hed with pauseAt := none, pauseLen := 0, paused := n } } t)) ∧
  (∀ (dt : Nat) (tiles others : List Nat) (s : State), s.dev ≠ .off → s.dev ≠ .reset → s.domOn 125 = true → NoneUndone s →
    (let sh : Int := ((4 * s.fuse.thmShut : Nat) : Int)
     ∃ t, exec (.thermalMeasurement dt tiles others) s = .next t ∧
      (∀ i, i < 104 → t.get (THM_T.COUNT i) = nth (tiles ++ others) i 0 % 65536 ∧
        ∀ c : Int, c = (Config.sensorTemp (tabGet (fun _ => 0) s.fuse.thmTrim i) (nth (tiles ++ others) i 0 % 65536) + 128) / 256 →
          -2048 ≤ c → c ≤ 2047 → t.thmT i = c) ∧
      t.get THM_STAT.NIMPL = ((List.range 104).filter t.thmImpl).length ∧
      (∀ i, t.thmHottest = some i → t.get THM_STAT.MAX_ID = i ∧ t.getI THM_STAT.TMAX = t.thmT i) ∧
      (t.thmHottest = none → t.get THM_STAT.MAX_ID = 0x7F ∧ (sh ≤ 2047 → t.getI THM_STAT.TMAX = sh)) ∧
      ((match t.thmHottest with | some i => t.thmT i | none => sh) < sh → t.dev = s.dev ∧ t.thm.hot = 0) ∧
      (sh ≤ (match t.thmHottest with | some i => t.thmT i | none => sh) → s.thm.hot = 1 →
        t.thm.shut = true ∧ t.flag THM_SHUT_INFO.SHUT = true ∧ t.flag SAF_CAUSE.THERMAL = true ∧
        (s.dev.canLock = true → t.dev = .lockout)) ∧
      (sh ≤ (match t.thmHottest with | some i => t.thmT i | none => sh) → s.thm.hot = 2 → s.dev.canLock = true → t.dev = .lockout) ∧
      SameMemory s t))

/-- R273 to R279, R288, R290. -/
def Obligations.Treadle : Prop :=
  (∀ (dt : Nat) (slot : Fin 8) (uv : Int) (s : State), slot.val < 7 → s.slotMay slot.val = true → (s.slot slot.val).run = true →
    (s.slot slot.val).halted = false → (s.slot slot.val).clrFe = false → (s.slot slot.val).rstI = false →
    s.get (TRD_FE.FE_LIM slot.val) = 0 →
    (let y := (s.advance dt).measure slot.val uv
     let l := s.slotLaw slot.val (s.getI (TRD_REF.REF slot.val)) y
     ∃ t, exec (.treadleSample dt slot uv) s = .next t ∧ t.get (TRD_Y.Y slot.val) = unsigned 32 y ∧
      (t.slot slot.val).due = some (s.now + dt + 64 * sclkLsb, l.u % 65536) ∧ t.slotU slot.val = (s.advance dt).slotU slot.val ∧
      (t.slot slot.val).i = l.i ∧ (t.slot slot.val).yPrev = y ∧
      t.get (TRD_STAT.SAMPLES slot.val) = min (s.get (TRD_STAT.SAMPLES slot.val) + 1) 65535 ∧
      t.flag (TRD_STAT.SAT slot.val) = (s.flag (TRD_STAT.SAT slot.val) || l.sat) ∧
      t.flag (TRD_STAT.BANK_ACT slot.val) = s.flag (TRD_CTL.BANK slot.val) ∧
      (∀ k, k < 8 → k ≠ slot.val → t.slot k = s.slot k ∧ t.get (TRD_U.U k) = s.get (TRD_U.U k)) ∧ t.dev = s.dev ∧ SameMemory s t)) ∧
  (∀ (dt : Nat) (slot : Fin 8) (uv : Int) (s : State), s.slotMay slot.val = true → (s.slot slot.val).run = false →
    (s.slot slot.val).halted = false → s.get (TRD_FE.FE_LIM slot.val) = 0 →
    ∃ t, exec (.treadleSample dt slot uv) s = .next t ∧ (t.slot slot.val).run = true ∧
      t.flag (TRD_STAT.RUNNING slot.val) = true ∧ t.flag (TRD_STAT.FE slot.val) = false ∧
      t.flag (TRD_STAT.START_FAIL slot.val) = false ∧ t.flag (TRD_STAT.ARMED slot.val) = false ∧ t.dev = s.dev ∧ SameMemory s t) ∧
  (∀ (dt : Nat) (slot : Fin 8) (s : State), (s.slot slot.val).run = true → s.get (TRD_CTL.START_TO slot.val) ≠ 0 →
    s.get (TRD_FE.FE_LIM slot.val) ≠ 0 → s.flag (TRD_STAT.ARMED slot.val) = false →
    s.flag (TRD_STAT.START_FAIL slot.val) = false →
    s.get (TRD_CTL.START_TO slot.val) * 100000 * usLsb ≤ s.now + dt - (s.slot slot.val).since → NoneUndone s →
    ∃ t, exec (.trdStart dt slot) s = .next t ∧ t.flag (TRD_STAT.START_FAIL slot.val) = true ∧
      (s.domOn 123 = true → t.flag (evtPend 457) = true) ∧
      (s.flag (TRD_CTL.FE_ACT slot.val) = true → (t.slot slot.val).run = false ∧ (t.slot slot.val).halted = true) ∧
      (s.flag (TRD_CTL.GUARD slot.val) = true → t.flag SAF_CAUSE.ANGLE = true) ∧
      t.dev = (if s.flag (TRD_CTL.GUARD slot.val) && s.dev.running then .safeStop else s.dev) ∧ SameMemory s t) ∧
  (∀ (dt : Nat) (slot : Fin 8) (s : State), HostOpen s TRD_CMD.addr →
    exec (.clrFe dt slot) s =
      .next (((s.advance dt).touch TRD_CMD.addr).setSlot slot.val { s.slot slot.val with clrFe := true }) ∧
    exec (.rstI dt slot) s =
      .next (((s.advance dt).touch TRD_CMD.addr).setSlot slot.val { s.slot slot.val with rstI := true })) ∧
  (∀ (dt : Nat) (s : State), HostOpen s TRD_CMD.addr → (s.flag TRD_BIAS_STAT.HV_OV_LOCK = true → s.dev.running = false) →
    ∃ t, exec (.clrHvOv dt true) s = .next t ∧ t.flag TRD_BIAS_STAT.HV_OV = false ∧
      t.flag TRD_BIAS_STAT.HV_OV_LOCK = false ∧
      OnlyFields [TRD_BIAS_STAT.HV_OV, TRD_BIAS_STAT.HV_OV_LOCK]
        { (s.advance dt).touch TRD_CMD.addr with trd := { s.trd with ovCleared := some (s.now + dt) } } t) ∧
  (∀ (dt : Nat) (low : Bool) (s : State), HostOpen s TRD_CMD.addr →
    (low = false ∨ s.flag TRD_BIAS_STAT.HV_OV_LOCK = true ∧ s.dev.running = true) →
    exec (.clrHvOv dt low) s = .next (((s.advance dt).touch TRD_CMD.addr).hwUp TRD_ERR.CMD_ERR)) ∧
  (∀ (dt : Nat) (enc : Fin 8) (s : State), HostOpen s TRD_CMD.addr →
    ∃ t, exec (.clrEnc dt enc) s = .next t ∧ bit (t.get TRD_ENC_STAT.ENC_ERR) enc.val = false ∧
      bit (t.get TRD_ENC_STAT.IDX_ERR) enc.val = false ∧ bit (t.get TRD_ENC_STAT.INDEXED) enc.val = false ∧
      (∀ e, e < 8 → e ≠ enc.val → bit (t.get TRD_ENC_STAT.ENC_ERR) e = bit (s.get TRD_ENC_STAT.ENC_ERR) e ∧
        bit (t.get TRD_ENC_STAT.IDX_ERR) e = bit (s.get TRD_ENC_STAT.IDX_ERR) e ∧
        bit (t.get TRD_ENC_STAT.INDEXED) e = bit (s.get TRD_ENC_STAT.INDEXED) e) ∧
      OnlyFields [TRD_ENC_STAT.ENC_ERR, TRD_ENC_STAT.IDX_ERR, TRD_ENC_STAT.INDEXED, TRD_ANG_STAT.ANGLE]
        { (s.advance dt).touch TRD_CMD.addr with saf := { s.saf with axes := t.saf.axes } } t) ∧
  (∀ (dt k at' u : Nat) (s : State), k < 8 → (s.slot k).due = some (at', u) → u < 2 ^ 16 → HostOpen s (TRD_U.addr k) →
    (∀ q ∈ s.hiLatch, q.1 ≠ TRD_U.addr k) →
    (s.advance dt).slotU k = (if at' ≤ s.now + dt then u else s.get (TRD_U.U k)) ∧
    exec (.registerRead dt (TRD_U.addr k)) s =
      .next (((s.advance dt).touch (TRD_U.addr k)).emit (.readData (if at' ≤ s.now + dt then u else s.get (TRD_U.U k)))))

/-- R280 to R282, R310 to R313. That levels of an encoder which nothing decodes are noted, as those from which its next step
starts, is the model's choice (log 79). Where a clause has only time pass since its event cannot occur in the state, that is the
model's choice (log 3). -/
def Obligations.Encoders : Prop :=
  (∀ (dt held : Nat) (who : Fin 16) (a b z : Bool) (s : State), who.val < 8 → s.domOn 123 = true →
    s.encTreadle who.val = true → s.get (TRD_ENC_CFG.FILT who.val) < held →
    (let r := (tabGet (fun _ => {}) s.trd.encs who.val).take (s.encLevels who.val) a b z (s.flag (TRD_ENC_CFG.INV who.val))
     (r.index && s.flag (TRD_ENC_CFG.ZEN who.val)) = false →
     ∃ t, exec (.encoderEdge dt who a b z held) s = .next t ∧
      t.get (TRD_ENC_POS.POS who.val) = unsigned 32 (s.getI (TRD_ENC_POS.POS who.val) + r.step) ∧
      tabGet (fun _ => {}) t.trd.encs who.val = r.enc ∧ t.encLevels who.val = ⟨a, b, z⟩ ∧
      (r.illegal = true → bit (t.get TRD_ENC_STAT.ENC_ERR) who.val = true) ∧
      (r.illegal = false → t.get TRD_ENC_STAT.ENC_ERR = s.get TRD_ENC_STAT.ENC_ERR) ∧
      t.saf = s.saf ∧ t.dev = s.dev ∧ SameMemory s t)) ∧
  (∀ (dt held : Nat) (who : Fin 16) (a b z : Bool) (s : State), 8 ≤ who.val → s.axisListens (who.val - 8) = true →
    s.get (SAF_AXIS_CFG.FILT (who.val - 8)) < held →
    (let k := who.val - 8
     let r := (s.axis k).enc.take (s.encLevels who.val) a b z (s.flag (SAF_AXIS_CFG.INV k))
     (r.index && s.flag (SAF_AXIS_CFG.ZEN k)) = false →
     ∃ t, exec (.encoderEdge dt who a b z held) s = .next t ∧
      t.get (SAF_AXIS_POS.POS k) = unsigned 32 (s.getI (SAF_AXIS_POS.POS k) + r.step) ∧ (t.axis k).enc = r.enc ∧
      t.encLevels who.val = ⟨a, b, z⟩ ∧ (t.axis k).encErr = ((s.axis k).encErr || r.illegal) ∧
      (∀ i, i < 8 → i ≠ k → t.axis i = s.axis i ∧ t.get (SAF_AXIS_POS.POS i) = s.get (SAF_AXIS_POS.POS i)) ∧
      t.trd = s.trd ∧ t.dev = s.dev ∧ SameMemory s t)) ∧
  (∀ (dt held : Nat) (who : Fin 16) (a b z : Bool) (s : State),
    (who.val < 8 → held ≤ s.get (TRD_ENC_CFG.FILT who.val)) →
    (8 ≤ who.val → held ≤ s.get (SAF_AXIS_CFG.FILT (who.val - 8))) →
    exec (.encoderEdge dt who a b z held) s = .next (s.advance dt)) ∧
  (∀ (dt held : Nat) (who : Fin 16) (a b z : Bool) (s : State),
    (who.val < 8 → s.encTreadle who.val = false ∧ s.get (TRD_ENC_CFG.FILT who.val) < held) →
    (8 ≤ who.val → s.axisListens (who.val - 8) = false ∧ s.get (SAF_AXIS_CFG.FILT (who.val - 8)) < held) →
    ∃ t, exec (.encoderEdge dt who a b z held) s = .next t ∧ t.encLevels who.val = ⟨a, b, z⟩ ∧
      t = { s.advance dt with encIn := t.encIn }) ∧
  (∀ (dt held : Nat) (who : Fin 16) (input : Fin 3) (s : State), who.val < 8 → s.domOn 123 = true →
    s.encTreadle who.val = true → 1 ≤ held → held ≤ s.get (TRD_ENC_CFG.FILT who.val) →
    (let r := (tabGet (fun _ => {}) s.trd.encs who.val).short input.val
     ∃ t, exec (.encoderShortPulse dt who input held) s = .next t ∧ tabGet (fun _ => {}) t.trd.encs who.val = r.1 ∧
      (r.2 = true → bit (t.get TRD_ENC_STAT.ENC_ERR) who.val = true ∧
        (bit (s.get TRD_ENC_STAT.ENC_ERR) who.val = false → t.flag (evtPend 458) = true)) ∧
      (r.2 = false → t.regs = s.regs) ∧ t.dev = s.dev ∧ SameMemory s t)) ∧
  (∀ (dt held : Nat) (who : Fin 16) (input : Fin 3) (s : State), 8 ≤ who.val → s.axisListens (who.val - 8) = true → 1 ≤ held →
    held ≤ s.get (SAF_AXIS_CFG.FILT (who.val - 8)) →
    (let k := who.val - 8
     ∃ t, exec (.encoderShortPulse dt who input held) s = .next t ∧ (t.axis k).enc = ((s.axis k).enc.short input.val).1 ∧
      (t.axis k).encErr = ((s.axis k).encErr || ((s.axis k).enc.short input.val).2) ∧
      (((s.axis k).enc.short input.val).2 = true → t.flag (SAF_AXIS_STAT.FAULT k) = true) ∧
      t.get (SAF_AXIS_POS.POS k) = s.get (SAF_AXIS_POS.POS k) ∧ t.dev = s.dev ∧ SameMemory s t)) ∧
  (∀ (dt : Nat) (axis : Fin 8) (f : FieldSet) (s : State), (s.axis axis.val).on = true → s.sel.active = some f →
    (let u := s.advance dt
     let x := s.axis axis.val
     let v := u.axisVel axis.val
     let pos := s.getI (SAF_AXIS_POS.POS axis.val)
     let lim := x.allow u.now (f.vmax axis.val x.cls)
     ∃ t, exec (.axisSpeedEval dt axis) s = .next t ∧ t.get (SAF_AXIS_VEL.VEL axis.val) = unsigned 32 v ∧
      (t.axis axis.val).sls = decide (lim.1 < (v.natAbs : Int) * lim.2) ∧
      (t.axis axis.val).slp = (decide (pos < f.pmin axis.val x.cls) || decide (f.pmax axis.val x.cls < pos)) ∧
      ((t.axis axis.val).sls = true → t.flag (SAF_AXIS_STAT.SLS axis.val) = true) ∧
      ((t.axis axis.val).slp = true → t.flag (SAF_AXIS_STAT.SLP axis.val) = true) ∧
      ((t.axis axis.val).sdi = true → t.flag (SAF_AXIS_STAT.SDI axis.val) = true) ∧
      ((t.axis axis.val).sls = true → s.dev.running = true → ∀ p, p < 2 → bit (f.pairAxes p) axis.val = true → t.pairHigh p = false) ∧
      t.dev = s.dev ∧ SameMemory s t)) ∧
  (∀ (dt : Nat) (axis : Fin 8) (s : State), (s.axis axis.val).on = false →
    exec (.axisSpeedEval dt axis) s = .next (s.advance dt))

/-- R314 to R317. Where a clause has only time pass since its event cannot occur in the state, that is the model's choice (log 3).
-/
def Obligations.Ossd : Prop :=
  (∀ (dt : Nat) (pin : Fin 4) (s : State), s.dev.running = true →
    ∃ t, exec (.safeInLow dt pin) s = .next t ∧ bit t.saf.safeIn pin.val = false ∧
      (∀ i, i < 4 → i ≠ pin.val → bit t.saf.safeIn i = bit s.saf.safeIn i) ∧
      (∀ p, p < 2 → bit (s.pairInputs p) pin.val = true → s.pairState p = 1 ∨ s.pairState p = 2 ∨ s.pairState p = 3 →
        t.pairState p = 0) ∧
      (∀ p, p < 2 → bit (s.pairInputs p) pin.val = true → t.pairHigh p = false) ∧
      (∀ p, p < 2 → bit (s.pairInputs p) pin.val = false → t.pairState p = s.pairState p) ∧ t.dev = s.dev ∧ SameMemory s t) ∧
  (∀ (dt : Nat) (ball : Fin 4) (s : State), s.pairHigh (ball.val / 2) = true → s.flag (SAF_OSSD_CFG.TP_EN (ball.val / 2)) = true →
    exec (.ossdTestPulse dt ball) s = .next { s.advance dt with
      saf := { s.saf with pulseAt := tabSet (fun _ => 0) s.saf.pulseAt ball.val (s.now + dt + 1) }
      out := [.ossdPulse ball.val (s.get SAF_OSSD_TP.TP_W * 10)] }) ∧
  (∀ (dt : Nat) (ball : Fin 4) (s : State),
    (s.pairHigh (ball.val / 2) = false ∨ s.flag (SAF_OSSD_CFG.TP_EN (ball.val / 2)) = false) →
    exec (.ossdTestPulse dt ball) s = .next (s.advance dt)) ∧
  (∀ (dt : Nat) (fb : Fin 16) (s : State), s.dev.ticks = true →
    (∀ b, b < 4 → bit fb.val b = (s.advance dt).ballHigh b ∨ (s.advance dt).ballSettling b = true) →
    ∃ t, exec (.ossdReadbackSample dt fb) s = .next t ∧ t.get SAF_OSSD_STAT.FB = fb.val ∧
      (∀ b, b < 4 → tabGet (fun _ => 0) t.saf.fbBad b = 0) ∧
      OnlyFields [SAF_OSSD_STAT.FB] { s.advance dt with saf := { s.saf with fbBad := t.saf.fbBad } } t) ∧
  (∀ (dt b : Nat) (fb : Fin 16) (s : State), s.dev.running = true → b < 4 → bit fb.val b ≠ (s.advance dt).ballHigh b →
    (s.advance dt).ballSettling b = false → tabGet (fun _ => 0) s.saf.fbBad b = 1 → NoneUndone s →
    ∃ t, exec (.ossdReadbackSample dt fb) s = .next t ∧ t.get SAF_OSSD_STAT.FB = fb.val ∧ t.pairState 0 = 4 ∧ t.pairState 1 = 4 ∧
      t.dev = .safeStop ∧ t.flag SAF_CAUSE.READBACK = true ∧ (s.domOn 122 = true → t.flag (evtPend 461) = true) ∧
      SameMemory s t) ∧
  (∀ (dt : Nat) (pair : Fin 2) (edm second lvl : Bool) (s : State), (s.pair pair.val).edmWait = some lvl →
    s.secondEdm = false → s.get SAF_OSSD_TIM.EDM_T * ms10 ≤ s.now + dt - tabGet (fun _ => 0) s.saf.changedAt pair.val → edm ≠ lvl →
    ∃ t, exec (.edmTimeout dt pair edm second) s = .next t ∧ t.pairState pair.val = 4 ∧ t.pairHigh pair.val = false ∧
      bit (t.get SAF_OSSD_STAT.EDM) pair.val = edm ∧ (s.domOn 122 = true → t.flag (evtPend 462) = true) ∧
      t.pairState (1 - pair.val) = s.pairState (1 - pair.val) ∧ t.dev = s.dev ∧ SameMemory s t) ∧
  (∀ (dt : Nat) (pair : Fin 2) (edm second : Bool) (s : State), (s.pair pair.val).edmWait = some edm → s.secondEdm = false →
    s.get SAF_OSSD_TIM.EDM_T * ms10 ≤ s.now + dt - tabGet (fun _ => 0) s.saf.changedAt pair.val →
    ∃ t, exec (.edmTimeout dt pair edm second) s = .next t ∧ (t.pair pair.val).edmWait = none ∧
      bit (t.get SAF_OSSD_STAT.EDM) pair.val = edm ∧
      OnlyFields [SAF_OSSD_STAT.EDM] { s.advance dt with saf := { s.saf with pairs := t.saf.pairs } } t) ∧
  (∀ (dt : Nat) (pair : Fin 2) (s : State), s.pairState pair.val = 3 →
    (∀ a ∈ bitList 8 (s.pairMask FieldSet.pairAxes pair.val), ((s.advance dt).axisVel a).natAbs ≤ s.get (SAF_AXIS_VSS.VSS a)) →
    ∃ t, exec (.ss1StopDone dt pair) s = .next t ∧ t.pairState pair.val = 0 ∧ t.pairHigh pair.val = false ∧
      t.pairState (1 - pair.val) = s.pairState (1 - pair.val) ∧ t.dev = s.dev ∧ SameMemory s t)

/-- R467, R472 to R485. A source slot that is disabled delivers no output and its window tests none: the model's choice (log 53),
which a premise of clauses 4 and 5 shuts out. Where a clause has only time pass since its event cannot occur in the state, that is
the model's choice (log 3). -/
def Obligations.Supervision : Prop :=
  (∀ (dt : Nat) (conv0 conv1 : SupPeriod) (refOk : Bool) (s : State), s.supRuns = false →
    exec (.integrationBoundary dt conv0 conv1 refOk) s = .next (s.advance dt)) ∧
  (∀ (dt : Nat) (conv0 conv1 : SupPeriod) (refOk : Bool) (s : State), s.supRuns = true →
    ∃ t, exec (.integrationBoundary dt conv0 conv1 refOk) s = .next t ∧ t.flag SUP_STAT.REF_OK = refOk ∧
      (s.flag SUP_STAT.REF_OK = true → refOk = false → t.flag (evtPend 577) = true) ∧ SameMemory s t) ∧
  (∀ (dt i : Nat) (conv0 conv1 : SupPeriod) (refOk : Bool) (s : State), s.supRuns = true → i < 16 →
    supList s.sup.bank 0 = [i] → supList s.sup.bank 1 = [] → s.supGet (SUP_ENT.MED i) = 0 → s.supGet (SUP_ENT.ALIGN i) = 0 →
    (let o := (Cic.run 256 (tabGet (fun _ => {}) s.sup.cics 0) conv0.bits).1
     let raw := (s.advance dt).supRaw conv0 o 1 0 (s.supFlag (SUP_ENT.MODE i))
     ∃ t, exec (.integrationBoundary dt conv0 conv1 refOk) s = .next t ∧
      (∀ r part, raw = some (r, part) → t.get (SUP_RES.VALUE i) = unsigned 24 r ∧
        t.flag (SUP_RES.NO_DATA i) = (s.supFlag (SUP_ENT.REF i) && !refOk)) ∧
      (raw = none → t.flag (SUP_RES.NO_DATA i) = true) ∧
      t.flag (SUP_RES.UNSETTLED i) = ((s.supSlot i).settle != 0) ∧ SameMemory s t)) ∧
  (∀ (dt w : Nat) (conv0 conv1 : SupPeriod) (refOk : Bool) (s : State), s.supRuns = true → w < 16 →
    s.flag (SUP_WIN_CFG.EN w) = true → s.flag (SUP_WIN_CFG.SAFE w) = false → s.supHasOutput w = true →
    (∀ v, v < 16 → v ≠ w → s.flag (SUP_WIN_CFG.EN v) = false) → s.flag (supTripped w) = false →
    ∃ t, exec (.integrationBoundary dt conv0 conv1 refOk) s = .next t ∧ t.dev = s.dev ∧ SameMemory s t ∧
      (let x := t.supTested w
       (x.2.1 = true ∨ (x.2.2 = true ∧ s.flag (SUP_WIN_CFG.IGN_UNS w) = true) → t.flag (supTripped w) = false ∧ t.sup.wins = s.sup.wins ∧
          t.get SUP_WIN_CNT.TRIPS = s.get SUP_WIN_CNT.TRIPS) ∧
       (x.2.1 = false → (x.2.2 = false ∨ s.flag (SUP_WIN_CFG.IGN_UNS w) = false) →
          s.getI (SUP_WIN_LO.LIMIT w) ≤ x.1 → x.1 ≤ s.getI (SUP_WIN_HI.LIMIT w) →
          t.flag (supTripped w) = false ∧ tabGet (fun _ => 0) t.sup.wins w = 0) ∧
       (x.2.1 = false → (x.2.2 = false ∨ s.flag (SUP_WIN_CFG.IGN_UNS w) = false) →
          (x.1 < s.getI (SUP_WIN_LO.LIMIT w) ∨ s.getI (SUP_WIN_HI.LIMIT w) < x.1) →
          (tabGet (fun _ => 0) s.sup.wins w + 1 < s.get (SUP_WIN_CFG.N w) →
            t.flag (supTripped w) = false ∧ tabGet (fun _ => 0) t.sup.wins w = tabGet (fun _ => 0) s.sup.wins w + 1) ∧
          (s.get (SUP_WIN_CFG.N w) ≤ tabGet (fun _ => 0) s.sup.wins w + 1 →
            t.flag (supTripped w) = true ∧ t.get SUP_WIN_CNT.TRIPS = min (s.get SUP_WIN_CNT.TRIPS + 1) 65535 ∧
            t.flag (evtPend 576) = true)))) ∧
  (∀ (dt w : Nat) (conv0 conv1 : SupPeriod) (refOk : Bool) (s : State), s.supRuns = true → w < 16 →
    s.flag (SUP_WIN_CFG.EN w) = true → s.flag (SUP_WIN_CFG.SAFE w) = true → s.supHasOutput w = true →
    (∀ v, v < 16 → v ≠ w → s.flag (SUP_WIN_CFG.EN v) = false) → s.flag (supTripped w) = false → NoneUndone s →
    (∀ k < 2, ∀ j < 2, s.supCheckSlot k (0x40 + j) = none) →
    ∃ t, exec (.integrationBoundary dt conv0 conv1 refOk) s = .next t ∧ SameMemory s t ∧
      (let x := t.supTested w
       (x.2.1 = true ∨ x.1 < s.getI (SUP_WIN_LO.LIMIT w) ∨ s.getI (SUP_WIN_HI.LIMIT w) < x.1 →
          t.flag (supTripped w) = true ∧ t.get SUP_WIN_CNT.SAFE_TRIPS = min (s.get SUP_WIN_CNT.SAFE_TRIPS + 1) 65535 ∧
          t.flag (evtPend 473) = true ∧ t.flag SAF_CAUSE.SUPPLY = true ∧ t.dev = (if s.dev.running then .safeStop else s.dev)) ∧
       (x.2.1 = false → s.getI (SUP_WIN_LO.LIMIT w) ≤ x.1 → x.1 ≤ s.getI (SUP_WIN_HI.LIMIT w) →
          t.flag (supTripped w) = false ∧ t.get SUP_WIN_CNT.SAFE_TRIPS = s.get SUP_WIN_CNT.SAFE_TRIPS ∧ t.dev = s.dev))) ∧
  (∀ (dt : Nat) (clr : Word) (s : State), HostOpen s SUP_ACC_CLR.addr →
    exec (.supAccClr dt clr) s =
      .next (((s.advance dt).touch SUP_ACC_CLR.addr).put SUP_ACC_CLR.CLR (orN (s.get SUP_ACC_CLR.CLR) clr.toNat)))

/-- R495 to R506. That a clear and the end of retention empty the queue of records is the model's choice (log 90). -/
def Obligations.Loupe : Prop :=
  (∀ (dt : Nat) (pins : LoupePins) (s : State), s.domOn 126 = true → s.lpe.cap = none → s.lpeFlag LPE_CTL.EN = false →
    s.now + dt < s.lpe.gridAt →
    (let v := (s.advance dt).lpeVector pins
     ∃ t, exec (.loupeSample dt pins) s = .next t ∧ t = { s.advance dt with lpe := t.lpe } ∧ t.lpe.vec = some v ∧
      (∀ o, s.lpe.vec = some o → o ≠ v →
        t.lpe.changes = keepLast 512 (s.lpe.changes ++ [⟨s.epoch, (s.advance dt).lpeUs, v, v ^^^ o⟩])) ∧
      ((s.lpe.vec = none ∨ s.lpe.vec = some v) → t.lpe = { s.lpe with vec := some v }))) ∧
  (∀ (dt : Nat) (pins : LoupePins) (f : LpeFire) (s : State), s.domOn 126 = true → s.lpeFlag LPE_CTL.EN = true →
    s.now + dt < s.lpe.gridAt → (s.advance dt).lpePatterns s.lpe.vec ((s.advance dt).lpeVector pins) = [f] →
    ∃ t, exec (.loupeSample dt pins) s = .next t ∧ t.lpe.vec = some ((s.advance dt).lpeVector pins) ∧
      (s.lpe.cap = none → s.get LPE_STAT.STATE ≠ 3 →
        t.get LPE_CNT.CAPTURES = min (s.get LPE_CNT.CAPTURES + 1) 65535 ∧ t.get LPE_STAT.TRIG = f.trig ∧
        t.get LPE_STAT.SEQ = (if s.get LPE_STAT.SEQ = 65535 then 1 else s.get LPE_STAT.SEQ + 1)) ∧
      (∀ c, s.lpe.cap = some c → t.get LPE_CNT.MISSED = min (s.get LPE_CNT.MISSED + 1) 65535 ∧
        t.get LPE_CNT.CAPTURES = s.get LPE_CNT.CAPTURES) ∧ t.dev = s.dev ∧ SameMemory s t) ∧
  (∀ (dt k : Nat) (r : List Nat) (rest : List (List Nat)) (s : State), s.domOn 126 = true → s.lpe.queue = r :: rest →
    s.lpe.gapR.lost = 0 → r.length = 4 * k → s.lpeUsed + k < s.lpeSize → s.get LPE_RING_HEAD.INDEX + k ≤ s.lpeSize →
    s.mem.poison = [] →
    (let a := s.lpeBase + 16 * s.get LPE_RING_HEAD.INDEX
     ∃ t, exec (.loupeRecordWrite dt) s = .next t ∧ t.lpe = { s.lpe with queue := rest } ∧
      t.get LPE_RING_HEAD.INDEX = (s.get LPE_RING_HEAD.INDEX + k) % s.lpeSize % 2 ^ 24 ∧
      t.dramRead a (16 * k) = bytesOfWords r ∧ (∀ x, (x < a ∨ a + 16 * k ≤ x) → t.dram.read x = s.dram.read x) ∧
      t.spd = s.spd ∧ t.dev = s.dev)) ∧
  (∀ (dt : Nat) (r : List Nat) (rest : List (List Nat)) (s : State), s.domOn 126 = true → s.lpe.queue = r :: rest →
    nth r 0 0 / 2 ^ 28 ≠ 5 → s.lpeSize ≤ s.lpeUsed + r.length / 4 →
    ∃ t, exec (.loupeRecordWrite dt) s = .next t ∧ t.lpe.queue = rest ∧
      t.get LPE_DROP_CNT.COUNT = min (s.get LPE_DROP_CNT.COUNT + 1) (2 ^ 32 - 1) ∧
      t.get LPE_RING_HEAD.INDEX = s.get LPE_RING_HEAD.INDEX ∧ t.lpe.gapR.lost = s.lpe.gapR.lost + 1 ∧
      (s.lpe.dropRaised = false → s.dev ≠ .off → t.flag (evtPend 602) = true) ∧ t.dev = s.dev ∧ SameMemory s t) ∧
  (∀ (dt : Nat) (s : State), HostOpen s LPE_CTL.addr → s.get LPE_STAT.STATE ≠ 3 →
    ∃ t, exec (.lpeClear dt) s = .next t ∧ t.get LPE_STAT.STATE = 3 ∧ t.flag LPE_CTL.CLEAR = true ∧ t.lpe.cap = none ∧
      t.lpe.queue = [] ∧ t.lpe.changes = [] ∧ t.lpe.buckets = [] ∧ t.lpe.cur = none ∧ t.dev = s.dev ∧ SameMemory s t) ∧
  (∀ (dt : Nat) (s : State), s.domOn 126 = true → s.lpeFlag LPE_CTL.RETAIN_H = true → s.get LPE_STAT.STATE ≠ 3 →
    ∃ t, exec (.retainExpiry dt) s = .next t ∧ t.get LPE_STAT.STATE = 3 ∧ t.flag LPE_CTL.CLEAR = true ∧ t.lpe.cap = none ∧
      t.lpe.queue = [] ∧ t.lpe.changes = [] ∧ t.lpe.buckets = [] ∧ t.dev = s.dev ∧ SameMemory s t) ∧
  (∀ (dt : Nat) (s : State), s.get LPE_STAT.STATE = 3 →
    ∃ t, exec (.lpeCleared dt) s = .next t ∧ t.get LPE_STAT.STATE ≠ 3 ∧ t.flag LPE_CTL.CLEAR = false ∧
      t.get LPE_RING_HEAD.INDEX = 1 % s.lpeSize ∧ t.get LPE_RING_TAIL.INDEX = 0 ∧
      (∀ a, s.lpeBase + 16 ≤ a → a < s.lpeBase + 16 * s.lpeSize → t.dram.read a = 0) ∧
      (∀ a, (a < s.lpeBase ∨ s.lpeBase + 16 * s.lpeSize ≤ a) → t.dram.read a = s.dram.read a) ∧
      (s.dev ≠ .off → t.flag (evtPend 603) = true) ∧ t.spd = s.spd ∧ t.dev = s.dev)

/-- R405 to R411, R417. -/
def Obligations.Descriptors : Prop :=
  (∀ (dt issued : Nat) (ch : Fin 64) (host : List Nat) (s : State), s.canTake ch.val = true →
    s.descPoisoned ch.val = false →
    (let d := s.readDesc ch.val host
     let st := s.descCheck ch.val d
     let n := min (if s.chanMode ch.val = 1 then 1 else max 1 issued) (s.reqRoom ch.val d)
     let idle := st != 0 || (s.chanMode ch.val == 1 && (s.chan ch.val).staged.isEmpty)
     (∀ m ∈ s.descDomains ch.val d, bit s.pwr.barred m = false) → descOwn d = true → st ≠ 4 →
     ∃ t, exec (.descriptorTake dt ch host issued) s = .next t ∧ t.flag (SHU_CHSTAT.ACTIVE ch.val) = true ∧
      t.flag (SHU_CHSTAT.NONE ch.val) = true ∧
      t.chan ch.val = { s.chan ch.val with
        desc := some d, status := st, ended := st != 0, done := 0, lost := false, aborting := false, zero := st != 0
        inflight := if idle then 0 else n, waits := !idle && n == 0, cut := false, fill := 0, firstAt := none } ∧
      (∀ c, c < 64 → c ≠ ch.val → t.chan c = s.chan c) ∧
      OnlyFields [SHU_CHSTAT.ACTIVE ch.val, SHU_CHSTAT.NONE ch.val] { s.advance dt with shu := t.shu } t)) ∧
  (∀ (dt issued : Nat) (ch : Fin 64) (host : List Nat) (s : State), s.canTake ch.val = true →
    s.descPoisoned ch.val = false →
    (∀ m ∈ s.descDomains ch.val (s.readDesc ch.val host), bit s.pwr.barred m = false) →
    descOwn (s.readDesc ch.val host) = false →
    ∃ t, exec (.descriptorTake dt ch host issued) s = .next t ∧ t.flag (SHU_CHSTAT.STALL ch.val) = true ∧
      t.flag (evtPend (384 + ch.val)) = true ∧ OnlyFieldsEv [SHU_CHSTAT.STALL ch.val] (s.advance dt) t) ∧
  (∀ (dt issued : Nat) (ch : Fin 64) (host : List Nat) (s : State), s.canTake ch.val = true →
    s.descPoisoned ch.val = true → (∀ m ∈ s.descDomains ch.val (s.readDesc ch.val host), bit s.pwr.barred m = false) →
    ∃ t, exec (.descriptorTake dt ch host issued) s = .next t ∧ (t.chan ch.val).desc = some (s.readDesc ch.val host) ∧
      (t.chan ch.val).ended = true ∧ (t.chan ch.val).status = 8 ∧ (t.chan ch.val).inflight = 0 ∧
      t.get MEM_UE_CNT.COUNT = min (s.get MEM_UE_CNT.COUNT + 1) (2 ^ 32 - 1) ∧ t.dev = s.dev ∧ SameMemory s t) ∧
  (∀ (dt len left bad : Nat) (ch : Fin 64) (host : List Byte) (d : List Nat) (lost : Bool) (s : State), s.domOn 128 = true →
    s.chanMode ch.val ≠ 1 → (s.chan ch.val).desc = some d → (s.chan ch.val).inflight ≠ 0 → (s.chan ch.val).ended = false →
    (s.advance dt).spdPort = [] → (∀ c, c < 64 → c ≠ ch.val → (s.chan c).waits = false) → descOp d = 0 → descSrcKind d = 1 → descDstKind d = 1 →
    (let x := s.chan ch.val
     let n := max 1 (min len (descBytes d - (descPos d x.done).2.2))
     let a := descDstAddr d x.done
     ∃ t, exec (.shuttleRequestDone dt ch len left host false lost bad) s = .next t ∧
      t.spd.readList a n = s.spd.readList (descSrcAddr d x.done) n ∧
      (∀ y, (y < a ∨ a + n ≤ y) → t.spd.read y = s.spd.read y) ∧ t.dram = s.dram ∧ (t.chan ch.val).done = x.done + n ∧
      (t.chan ch.val).desc = some d ∧ (descTotal d ≤ x.done + n → (t.chan ch.val).ended = true) ∧
      t.flag (SHU_CHSTAT.NONE ch.val) = false ∧ t.get (SHU_LAST_LO.ADDR ch.val) = (a + n - 1) % 2 ^ 32 ∧
      (∀ c, c < 64 → c ≠ ch.val → t.chan c = s.chan c) ∧ t.dev = s.dev)) ∧
  (∀ (dt len left bad : Nat) (ch : Fin 64) (host : List Byte) (hostErr : Bool) (d : List Nat) (r : StreamRec)
    (rest : List StreamRec) (lost : Bool) (s : State), s.domOn 128 = true → s.chanMode ch.val = 1 → (s.chan ch.val).desc = some d →
    (s.chan ch.val).staged = r :: rest → (s.chan ch.val).ended = false → (s.chan ch.val).inflight ≠ 0 →
    (s.advance dt).spdPort = [] → (∀ c, c < 64 → c ≠ ch.val → (s.chan c).waits = false) → descOp d = 0 → descDstKind d = 1 → (s.chan ch.val).fill + r.bytes ≤ descBytes d →
    (let a := descDst d + (s.chan ch.val).fill
     ∃ t, exec (.shuttleRequestDone dt ch len left host hostErr lost bad) s = .next t ∧
      t.spd.readList a r.bytes = bytesOfWords r.words ∧
      (∀ y, (y < a ∨ a + r.bytes ≤ y) → t.spd.read y = s.spd.read y) ∧ t.dram = s.dram ∧
      (t.chan ch.val).staged = rest ∧ (t.chan ch.val).fill = (s.chan ch.val).fill + r.bytes ∧
      (r.kind = .frameClose → (t.chan ch.val).ended = true) ∧ (∀ c, c < 64 → c ≠ ch.val → t.chan c = s.chan c) ∧ t.dev = s.dev)) ∧
  (∀ (dt : Nat) (ch : Fin 64) (d : List Nat) (s : State), (s.chan ch.val).desc = some d → (s.chan ch.val).ended = true →
    (s.chan ch.val).inflight = 0 → s.domOn 128 = true → s.chanMode ch.val ≠ 1 →
    (let x := s.chan ch.val
     let a := s.ringAddr ch.val
     ∃ t, exec (.descriptorComplete dt ch) s = .next t ∧ (t.chan ch.val).desc = none ∧ (t.chan ch.val).ended = false ∧
      (t.chan ch.val).staged = x.staged ∧
      t.get (SHU_PTR.HEAD ch.val) = (s.get (SHU_PTR.HEAD ch.val) + 1) % s.ringSize ch.val % 65536 ∧
      t.get (SHU_DONE.DONE ch.val) = min (s.get (SHU_DONE.DONE ch.val) + 1) 65535 ∧
      t.get (SHU_CHSTAT.LAST_STATUS ch.val) = x.status % 256 ∧ t.flag (SHU_CHSTAT.ACTIVE ch.val) = false ∧
      (descIrq d = true ∨ x.status ≠ 0 → t.flag (evtPend (384 + ch.val)) = true) ∧
      (s.get (SHU_CFG.RING_KIND ch.val) = 0 → s.domOn 131 = true → s.mem.poison = [] →
        t.dramRead a 4 = bytesLE 4 (dw d 0 % 2 ^ 31) ∧
        t.dramRead (a + 48) 12 = bytesOfWords [x.status, x.performed % 2 ^ 32, s.epoch] ∧
        (∀ y, (y < a ∨ a + 4 ≤ y) → (y < a + 48 ∨ a + 60 ≤ y) → t.dram.read y = s.dram.read y) ∧ t.spd = s.spd) ∧
      (∀ c, c < 64 → c ≠ ch.val → t.chan c = s.chan c) ∧ t.dev = s.dev))

/-- R413 to R418. -/
def Obligations.ChannelControl : Prop :=
  (∀ (dt issued : Nat) (ch : Fin 64) (s : State), HostOpen s (SHU_CTL.addr ch.val) → (s.chan ch.val).aborting = false →
    ∃ t, exec (.shuPause dt ch true issued) s = .next t ∧ t.flag (SHU_CTL.PAUSE ch.val) = true ∧
      t.flag (SHU_CHSTAT.PAUSED ch.val) = (s.flag (SHU_CHSTAT.PAUSED ch.val) || (s.chan ch.val).inflight == 0) ∧
      OnlyFields [SHU_CTL.PAUSE ch.val, SHU_CHSTAT.PAUSED ch.val] ((s.advance dt).touch (SHU_CTL.addr ch.val)) t) ∧
  (∀ (dt issued : Nat) (ch : Fin 64) (d : List Nat) (s : State), HostOpen s (SHU_CTL.addr ch.val) →
    (s.chan ch.val).desc = some d → (s.chan ch.val).ended = false → (s.chan ch.val).inflight = 0 → s.chanMode ch.val = 0 →
    (s.chan ch.val).aborting = false → (s.chan ch.val).cut = false →
    (∀ m ∈ s.descDomains ch.val d, s.domOn m = true ∧ bit s.pwr.barred m = false) →
    (let n := min (max 1 issued) (s.reqRoom ch.val d)
     ∃ t, exec (.shuPause dt ch false issued) s = .next t ∧ t.flag (SHU_CTL.PAUSE ch.val) = false ∧
      t.flag (SHU_CHSTAT.PAUSED ch.val) = false ∧
      t.chan ch.val = { s.chan ch.val with inflight := n, waits := n == 0 } ∧ (∀ c, c < 64 → c ≠ ch.val → t.chan c = s.chan c) ∧
      OnlyFields [SHU_CTL.PAUSE ch.val, SHU_CHSTAT.PAUSED ch.val]
        { (s.advance dt).touch (SHU_CTL.addr ch.val) with shu := t.shu } t)) ∧
  (∀ (dt : Nat) (ch : Fin 64) (d : List Nat) (s : State), HostOpen s (SHU_CTL.addr ch.val) →
    (s.chan ch.val).desc = some d → (s.chan ch.val).ended = false →
    ∃ t, exec (.shuAbort dt ch) s = .next t ∧ t.flag (SHU_CTL.ABORT ch.val) = true ∧
      ((s.chan ch.val).inflight = 0 → t.chan ch.val = { s.chan ch.val with aborting := true, ended := true, status := 0x0A, waits := false }) ∧
      ((s.chan ch.val).inflight ≠ 0 → t.chan ch.val = { s.chan ch.val with aborting := true }) ∧
      (∀ c, c < 64 → c ≠ ch.val → t.chan c = s.chan c) ∧
      OnlyFields [SHU_CTL.ABORT ch.val, SHU_CHSTAT.PAUSED ch.val]
        { (s.advance dt).touch (SHU_CTL.addr ch.val) with shu := t.shu } t) ∧
  (∀ (dt : Nat) (ch : Fin 64) (s : State), HostOpen s (SHU_CTL.addr ch.val) → (s.chan ch.val).desc = none →
    exec (.shuAbort dt ch) s = .next ((s.advance dt).touch (SHU_CTL.addr ch.val))) ∧
  (∀ (dt : Nat) (r : StreamRec) (rest : List StreamRec) (s : State), s.toStage = r :: rest → s.domOn 128 = true →
    (let used := ((s.chan r.chan).staged.map StreamRec.bytes).foldl (· + ·) 0
     ∃ t, exec (.streamRecordStage dt) s = .next t ∧ t.toStage = rest ∧
      (r.kind = .frameClose ∨ used + r.bytes ≤ s.quota r.chan →
        (t.chan r.chan).staged = (s.chan r.chan).staged ++ [r] ∧ t.regs = s.regs) ∧
      (r.kind ≠ .frameClose → s.quota r.chan < used + r.bytes →
        (t.chan r.chan).staged = (s.chan r.chan).staged ∧ t.flag GLB_FRAME_STAT.DATA_OVR = true ∧
        t.get (SHU_DROP.COUNT r.chan) = min (s.get (SHU_DROP.COUNT r.chan) + 1) (2 ^ 32 - 1)) ∧
      (∀ c, c < 64 → c ≠ r.chan → t.chan c = s.chan c) ∧ t.dev = s.dev ∧ SameMemory s t)) ∧
  (∀ (dt : Nat) (ch : Fin 64) (d : List Nat) (s : State), (s.chan ch.val).desc = some d → s.domOn 128 = true →
    s.get (SHU_LIM.FLUSH_US ch.val) ≠ 0 → 0 < (s.chan ch.val).fill → (s.chan ch.val).ended = false →
    exec (.streamFlushTimeout dt ch) s =
      .next ((s.advance dt).setChan ch.val { s.chan ch.val with ended := true, status := (s.chan ch.val).okStatus }))

/-- R427 to R430. That the spare numbered USED is the one taken, and that a stripe can be remapped again, are the model's choices
(log 83). -/
def Obligations.DramErrors : Prop :=
  (∀ (dt bad : Nat) (ch : Fin 8) (s : State), s.get MEM_CFG.INIT_OK = 1 → s.dramChans.contains ch.val = true →
    s.domOn (112 + ch.val) = true → s.domOn 131 = true →
    tabGet (fun _ => 0) s.mem.scrub ch.val < s.memStripes * 64 →
    (let pos := tabGet (fun _ => 0) s.mem.scrub ch.val
     let at' := s.scrubAddr ch.val pos
     let all := s.memStripes * 64 * s.dramChans.length
     let done := (s.dramChans.map (fun d =>
      tabGet (fun _ => 0) (tabSet (fun _ => 0) s.mem.scrub ch.val (pos + 1)) d)).foldl (· + ·) 0
     ∃ t, exec (.scrubStep dt ch bad) s = .next t ∧ t.dev = s.dev ∧ SameMemory s t ∧
      (done ≠ all → tabGet (fun _ => 0) t.mem.scrub ch.val = pos + 1 ∧
        t.get MEM_SCRUB_STAT.PERCENT = done * 100 / all % 128 ∧ t.get MEM_SCRUB_STAT.PASSES = s.get MEM_SCRUB_STAT.PASSES) ∧
      (done = all → t.mem.scrub = [] ∧ t.mem.errs = [] ∧ t.get MEM_SCRUB_STAT.PERCENT = 0 ∧
        t.get MEM_SCRUB_STAT.PASSES = (s.get MEM_SCRUB_STAT.PASSES + 1) % 65536 ∧ t.flag (evtPend 549) = true) ∧
      (bad = 1 → at'.all (fun a => !s.poisoned a) = true →
        t.get (MEM_CE_CNT.COUNT ch.val) = min (s.get (MEM_CE_CNT.COUNT ch.val) + 1) (2 ^ 32 - 1)) ∧
      (2 ≤ bad → at'.all t.poisoned = true ∧
        t.get MEM_UE_CNT.COUNT = min (s.get MEM_UE_CNT.COUNT + 1) (2 ^ 32 - 1) ∧ t.flag (evtPend 545) = true))) ∧
  (∀ (dt stripe : Nat) (ch : Fin 8) (s : State),
    s.stripeWeak ch.val stripe = true →
    0 < s.get (MEM_SPARE.FREE ch.val) → s.dramChans.contains ch.val = true → s.domOn 131 = true →
    ∃ t, exec (.memSpared dt ch stripe) s = .next t ∧
      t.get (MEM_SPARE.FREE ch.val) = s.get (MEM_SPARE.FREE ch.val) - 1 ∧
      t.get (MEM_SPARE.USED ch.val) = (s.get (MEM_SPARE.USED ch.val) + 1) % 8192 ∧ t.flag (evtPend 546) = true ∧
      (s.get (MEM_SPARE.FREE ch.val) = 1 → t.flag (evtPend 548) = true) ∧
      (s.get (MEM_SPARE.FREE ch.val) = 768 → t.flag (evtPend 547) = true) ∧
      OnlyFieldsEv [MEM_SPARE.FREE ch.val, MEM_SPARE.USED ch.val]
        { s.advance dt with
          mem := { s.mem with
            remap := ⟨ch.val, stripe, s.get (MEM_SPARE.USED ch.val), s.stripePoison ch.val stripe⟩ ::
              s.mem.remap.filter (fun x => !(x.chan == ch.val && x.stripe == stripe))
            errs := tabSet (fun _ => 0) s.mem.errs (stripeKey ch.val stripe) 0 } } t)

/-- R440 to R445: the training steps of a lane. Where a clause has only time pass since its event cannot occur in the state, that
is the model's choice (log 3). -/
def Obligations.LaneTraining : Prop :=
  (∀ (dt : Nat) (lane : Fin 16) (s : State), s.laneState lane.val = 1 →
    ∃ t, exec (.laneDetectProbe dt lane true) s = .next t ∧ t.laneState lane.val = 2 ∧
      t.lane lane.val = { kept := (s.lane lane.val).kept, fom := (s.lane lane.val).fom, txPreset := (s.lane lane.val).txPreset } ∧
      (s.domOn (96 + lane.val) = true → t.flag (evtPend (480 + 2 * lane.val)) = true) ∧ OnlyLane lane.val [] (s.advance dt) t) ∧
  (∀ (dt : Nat) (lane : Fin 16) (found : Bool) (s : State), s.laneState lane.val ≠ 1 ∨ found = false →
    exec (.laneDetectProbe dt lane found) s = .next (s.advance dt)) ∧
  (∀ (dt bad : Nat) (lane : Fin 16) (inverted : Bool) (s : State), s.laneState lane.val = 2 →
    (s.lane lane.val).pdone = false →
    ∃ t, exec (.blockLock dt lane true inverted bad) s = .next t ∧ t.laneState lane.val = 2 ∧
      t.lane lane.val = { s.lane lane.val with lock := true, done := true } ∧
      t.flag (LNK_LANE_STAT.POL_INV lane.val) = (s.flag (LNK_LANE_STAT.POL_INV lane.val) || inverted) ∧
      t.get (LNK_LANE_CNT.SH_ERR lane.val) = min (s.get (LNK_LANE_CNT.SH_ERR lane.val) + bad) 0xFFFF ∧
      OnlyLane lane.val [LNK_LANE_CNT.SH_ERR lane.val, LNK_LANE_STAT.POL_INV lane.val] (s.advance dt) t) ∧
  (∀ (dt bad : Nat) (lane : Fin 16) (inverted : Bool) (s : State), s.laneState lane.val = 2 → (s.lane lane.val).pdone = true →
    ∃ t, exec (.blockLock dt lane true inverted bad) s = .next t ∧
      t.laneState lane.val = (if (s.lane lane.val).kept then 4 else 3) ∧ (t.lane lane.val).lock = true ∧
      (t.lane lane.val).done = false ∧ (t.lane lane.val).pdone = false ∧ (t.lane lane.val).preset = 0 ∧
      OnlyLane lane.val [LNK_LANE_CNT.SH_ERR lane.val, LNK_LANE_STAT.POL_INV lane.val] (s.advance dt) t) ∧
  (∀ (dt bad : Nat) (lane : Fin 16) (inverted : Bool) (s : State), s.laneTrains lane.val = false → s.laneState lane.val ≠ 6 →
    exec (.blockLock dt lane true inverted bad) s = .next (s.advance dt)) ∧
  (∀ (dt : Nat) (lane : Fin 16) (fom : Fin 256) (s : State), s.laneState lane.val = 3 → (s.lane lane.val).preset < 10 →
    (let b := match (s.lane lane.val).best with
      | some q => if q.1 < fom.val then (fom.val, (s.lane lane.val).preset) else q
      | none => (fom.val, (s.lane lane.val).preset)
     exec (.adaptPresetStep dt lane fom) s = .next ((s.advance dt).setLane lane.val
      { s.lane lane.val with best := some b, fom := fom.val, preset := (s.lane lane.val).preset + 1, done := false }))) ∧
  (∀ (dt f p : Nat) (lane : Fin 16) (fom : Fin 256) (s : State), s.laneState lane.val = 3 → (s.lane lane.val).preset = 10 →
    (s.lane lane.val).best = some (f, p) → (s.lane lane.val).pdone = false →
    (let b := if f < fom.val then (fom.val, 10) else (f, p)
     exec (.adaptPresetStep dt lane fom) s = .next ((((s.advance dt).setLane lane.val
      { s.lane lane.val with best := some b, fom := fom.val, preset := 11, done := decide (s.get LNK_CFG.FOM_MIN ≤ b.1) }).put
        (LNK_LANE_STAT.PRESET lane.val) b.2).put (LNK_LANE_STAT.FOM lane.val) b.1))) ∧
  (∀ (dt : Nat) (lane plane step : Fin 16) (r : TrainRest) (s : State), s.laneState lane.val = 3 → (s.lane lane.val).done = true →
    step.val = 3 →
    ∃ t, exec (.train dt lane plane step true r) s = .next t ∧ t.laneState lane.val = 4 ∧
      t.get (LNK_LANE_STAT.PPLANE lane.val) = plane.val ∧ (t.lane lane.val).txPreset = r.preset.val ∧ (t.lane lane.val).done = false ∧ (t.lane lane.val).pdone = false ∧
      OnlyLane lane.val [LNK_LANE_STAT.PPLANE lane.val] (s.advance dt) t) ∧
  (∀ (dt : Nat) (lane plane step : Fin 16) (done : Bool) (r : TrainRest) (s : State), s.laneTrains lane.val = true →
    s.laneState lane.val ≠ 4 → (done = false ∨ step.val ≠ s.laneState lane.val) → (s.lane lane.val).pdone = false →
    exec (.train dt lane plane step done r) s = .next (((s.advance dt).put (LNK_LANE_STAT.PPLANE lane.val) plane.val).setLane
      lane.val { s.lane lane.val with txPreset := r.preset.val, pfom := r.fom.val })) ∧
  (∀ (dt p : Nat) (lane plane step : Fin 16) (r : TrainRest) (s : State), s.laneState lane.val = 4 → step.val = 4 →
    s.portOf lane.val = some p →
    (∀ n ∈ s.portLanes p, n < 16) → s.bondedLanes p = [] → (s.lane lane.val).held = false →
    ∃ t, exec (.train dt lane plane step true r) s = .next t ∧ t.laneState lane.val = 5 ∧
      t.get (LNK_PORT_UNIT.UNIT p) = r.uid.toNat ∧ t.flag (LNK_PORT_STAT.REV p) = false ∧
      (t.lane lane.val).held = false ∧ (t.lane lane.val).done = true ∧ (t.lane lane.val).pdone = false ∧
      OnlyLane lane.val ([LNK_LANE_STAT.PPLANE lane.val, LNK_PORT_UNIT.UNIT p, LNK_PORT_STAT.REV p] ++
        (s.portLanes p).map LNK_LANE_STAT.LLANE) (s.advance dt) t) ∧
  (∀ (dt p : Nat) (lane plane step : Fin 16) (r : TrainRest) (s : State), s.laneState lane.val = 4 → step.val = 4 →
    s.portOf lane.val = some p → s.bondedLanes p ≠ [] → r.uid.toNat ≠ s.get (LNK_PORT_UNIT.UNIT p) →
    ∃ t, exec (.train dt lane plane step true r) s = .next t ∧ t.laneState lane.val = 5 ∧
      (t.lane lane.val).held = true ∧ (t.lane lane.val).done = false ∧
      (s.domOn (96 + lane.val) = true → t.flag (evtPend (481 + 2 * lane.val)) = true) ∧
      OnlyLane lane.val [LNK_LANE_STAT.PPLANE lane.val] (s.advance dt) t) ∧
  (∀ (dt : Nat) (lane plane step : Fin 16) (r : TrainRest) (s : State), s.laneState lane.val = 5 → step.val = 5 →
    (s.lane lane.val).done = true → (s.lane lane.val).held = false →
    ∃ t, exec (.train dt lane plane step true r) s = .next t ∧ t.laneState lane.val = 6 ∧
      t.get (LNK_LANE_STAT.FAILS lane.val) = 0 ∧
      t.lane lane.val = { s.lane lane.val with
        done := false, pdone := false, kept := false, txPreset := r.preset.val, pfom := r.fom.val } ∧
      (s.domOn (96 + lane.val) = true → t.flag (evtPend (480 + 2 * lane.val)) = true) ∧
      OnlyLane lane.val [LNK_LANE_STAT.PPLANE lane.val, LNK_LANE_STAT.FAILS lane.val] (s.advance dt) t)

/-- R437, R443, R444: how a lane leaves training and ACTIVE. Where a clause has only time pass since its event cannot occur in the
state, that is the model's choice (log 3). -/
def Obligations.LaneRecovery : Prop :=
  (∀ (dt : Nat) (lane : Fin 16) (s : State), s.laneTrains lane.val = true →
    ∃ t, exec (.trainStepTimeout dt lane) s = .next t ∧ t.laneState lane.val = 2 ∧
      t.lane lane.val = { kept := (s.lane lane.val).kept, fom := (s.lane lane.val).fom, txPreset := (s.lane lane.val).txPreset } ∧ OnlyLane lane.val [] (s.advance dt) t) ∧
  (∀ (dt : Nat) (lane : Fin 16) (s : State), s.laneTrains lane.val = false →
    exec (.trainStepTimeout dt lane) s = .next (s.advance dt) ∧ exec (.trainTo dt lane) s = .next (s.advance dt)) ∧
  (∀ (dt : Nat) (lane : Fin 16) (s : State), s.laneTrains lane.val = true →
    ∃ t, exec (.trainTo dt lane) s = .next t ∧ t.laneState lane.val = 9 ∧ t.lane lane.val = {} ∧
      t.get (LNK_LANE_STAT.FAILS lane.val) = min (s.get (LNK_LANE_STAT.FAILS lane.val) + 1) 7 ∧
      t.get (LNK_LANE_CNT.TRAIN_FAIL lane.val) = min (s.get (LNK_LANE_CNT.TRAIN_FAIL lane.val) + 1) 255 ∧
      (s.domOn (96 + lane.val) = true → t.flag (evtPend (480 + 2 * lane.val)) = true ∧
        t.flag (evtPend (481 + 2 * lane.val)) = true) ∧
      OnlyLane lane.val [LNK_LANE_STAT.FAILS lane.val, LNK_LANE_CNT.TRAIN_FAIL lane.val] (s.advance dt) t) ∧
  (∀ (dt : Nat) (lane : Fin 16) (s : State), s.laneState lane.val = 9 →
    ∃ t, exec (.backoffExpiry dt lane) s = .next t ∧ t.laneState lane.val = 1 ∧ t.lane lane.val = {} ∧
      t.flag (LNK_LANE_CTL.RETRAIN lane.val) = false ∧
      OnlyLane lane.val [LNK_LANE_CTL.RETRAIN lane.val] (s.advance dt) t) ∧
  (∀ (dt bad : Nat) (lane : Fin 16) (inverted : Bool) (s : State), s.laneState lane.val = 6 →
    (s.lane lane.val).lock = true →
    ∃ t, exec (.blockLock dt lane false inverted bad) s = .next t ∧ t.laneState lane.val = 2 ∧
      (t.lane lane.val).lock = false ∧
      t.get (LNK_LANE_CNT.LOCK_LOSS lane.val) = min (s.get (LNK_LANE_CNT.LOCK_LOSS lane.val) + 1) 255 ∧
      (s.domOn (96 + lane.val) = true → t.flag (evtPend (481 + 2 * lane.val)) = true) ∧
      OnlyLane lane.val [LNK_LANE_CNT.SH_ERR lane.val, LNK_LANE_CNT.LOCK_LOSS lane.val, LNK_LANE_CTL.RETRAIN lane.val]
        (s.advance dt) t) ∧
  (∀ (dt : Nat) (lane plane step : Fin 16) (done : Bool) (r : TrainRest) (s : State), s.laneState lane.val = 6 →
    (∃ t, exec (.alignColumnMissing dt lane) s = .next t ∧ t.laneState lane.val = 2 ∧
      t.lane lane.val = { kept := (s.lane lane.val).kept, fom := (s.lane lane.val).fom, txPreset := (s.lane lane.val).txPreset } ∧
      OnlyLane lane.val [LNK_LANE_CTL.RETRAIN lane.val] (s.advance dt) t) ∧
    exec (.train dt lane plane step done r) s = exec (.alignColumnMissing dt lane) s) ∧
  (∀ (dt : Nat) (lane : Fin 16) (s : State), s.laneState lane.val ≠ 6 →
    exec (.alignColumnMissing dt lane) s = .next (s.advance dt)) ∧
  (∀ (dt : Nat) (lane : Fin 16) (s : State), HostOpen s (LNK_LANE_CTL.addr lane.val) → s.laneState lane.val = 6 →
    ∃ t, exec (.retrain dt lane) s = .next t ∧ t.laneState lane.val = 2 ∧ t.flag (LNK_LANE_CTL.RETRAIN lane.val) = false ∧ t.get (LNK_LANE_STAT.FAILS lane.val) = 0 ∧
      OnlyLane lane.val [LNK_LANE_STAT.FAILS lane.val, LNK_LANE_CTL.RETRAIN lane.val]
        ((s.advance dt).touch (LNK_LANE_CTL.addr lane.val)) t) ∧
  (∀ (dt : Nat) (lane : Fin 16) (s : State), HostOpen s (LNK_LANE_CTL.addr lane.val) → s.laneState lane.val ≠ 6 →
    exec (.retrain dt lane) s = .next ((((s.advance dt).touch (LNK_LANE_CTL.addr lane.val)).put
      (LNK_LANE_STAT.FAILS lane.val) 0).putB (LNK_LANE_CTL.RETRAIN lane.val) true)) ∧
  (∀ (dt : Nat) (quad : Fin 4) (s : State), s.domOn 133 = true → quadModeIn s.img.cfg.link quad.val = 2 →
    s.quadRefOk quad.val = true → bit s.lnk.refHeld quad.val = false →
    ∃ t, exec (.srefChange dt quad false) s = .next t ∧ t.flag (LNK_QUAD.REF_OK quad.val) = false ∧
      t.flag (LNK_QUAD.PLL_LOCK quad.val) = false ∧
      (∀ n, n < 16 → n / 4 = quad.val → t.laneState n = 0 ∧ (s.domOn (96 + n) = true → t.flag (evtPend (481 + 2 * n)) = true)) ∧
      t.lnk.ports = s.lnk.ports ∧ t.dev = s.dev ∧ SameMemory s t) ∧
  (∀ (dt n : Nat) (quad : Fin 4) (s : State), s.domOn 133 = true → quadModeIn s.img.cfg.link quad.val = 2 →
    s.flag CLK_STAT.PLLT_LOCK = true → n < 16 → n / 4 = quad.val → s.domOn (96 + n) = true → s.awaitsGroup (96 + n) = false →
    s.awaitsGroup 133 = false → s.laneState n = 0 →
    s.flag (LNK_LANE_CTL.DISABLE n) = false →
    ∃ t, exec (.srefChange dt quad true) s = .next t ∧ t.flag (LNK_QUAD.REF_OK quad.val) = true ∧ t.laneState n = 1 ∧
      t.lnk.ports = s.lnk.ports ∧ t.dev = s.dev ∧ SameMemory s t) ∧
  (∀ (dt : Nat) (quad : Fin 4) (ok : Bool) (s : State), s.domOn 133 = false →
    exec (.srefChange dt quad ok) s = .next
      { s.advance dt with lnk := { s.lnk with sref := setBit s.lnk.sref quad.val ok } })

/-- R446 to R449, R457: what a port does beside flits. That a late ACTIVE lane returns to POLARITY, and PEER is checked at the
first align column, are the model's choices (log 57). Where a clause has only time pass since its event cannot occur in the state,
that is the model's choice (log 3). -/
def Obligations.Ports : Prop :=
  (∀ (dt : Nat) (port : Fin 16) (s : State), s.domOn 133 = true → s.portUp port.val = false →
    s.activeLanes port.val ≠ [] →
    ∃ t, exec (.portUp dt port) s = .next t ∧ t.portUp port.val = true ∧
      t.port port.val = { granted := [(0, 128), (1, 4096), (2, 1024), (3, 512)], raised := (s.port port.val).raised } ∧
      t.get (LNK_PORT_STAT.WIDTH port.val) = (s.activeLanes port.val).length % 32 ∧
      (∀ n, n < 16 → bit (t.get (LNK_PORT_STAT.ACTIVE port.val)) n = (s.activeLanes port.val).contains n) ∧
      t.flag (evtPend 560) = true ∧
      (let v := (({ t with wire := s.wire, out := [] } : State).setIndex port.val 0).sendStream port.val
          [(true, bobbinPick 0 true false false 128 0), (true, bobbinPick 1 true false false 4096 0),
           (true, bobbinPick 2 true false false 1024 0), (true, bobbinPick 3 true false false 512 0)]
       t.wire = v.wire ∧ v.out <:+ t.out) ∧
      OnlyPort port.val [LNK_PORT_STAT.UP port.val, LNK_PORT_STAT.PWR port.val, LNK_PORT_STAT.PEER_ERR port.val,
        LNK_PORT_BOB0.C0 port.val, LNK_PORT_BOB0.C1 port.val, LNK_PORT_BOB1.C3 port.val, LNK_PORT_STAT.ACTIVE port.val,
        LNK_PORT_STAT.WIDTH port.val] { s.advance dt with wire := t.wire } t) ∧
  (∀ (dt : Nat) (port : Fin 16) (s : State),
    s.domOn 133 = false ∨ s.portUp port.val = true ∨ s.activeLanes port.val = [] →
    exec (.portUp dt port) s = .next (s.advance dt)) ∧
  (∀ (dt : Nat) (port : Fin 16) (s : State), s.domOn 133 = true → s.portUp port.val = true →
    (s.portLanes port.val).any s.laneHolds = false →
    ∃ t, exec (.portDown dt port) s = .next t ∧ t.portUp port.val = false ∧
      t.port port.val = { raised := (s.port port.val).raised } ∧
      t.get (LNK_PORT_CNT2.LOST port.val) =
        min (s.get (LNK_PORT_CNT2.LOST port.val) + (s.port port.val).replay.length) 0xFFFF ∧
      t.get (LNK_PORT_STAT.WIDTH port.val) = 0 ∧ t.get (LNK_PORT_STAT.ACTIVE port.val) = 0 ∧ t.flag (evtPend 561) = true ∧
      (s.get (LNK_PORT_STAT.WIDTH port.val) ≠ 0 → t.flag (evtPend 562) = true) ∧
      OnlyPort port.val [LNK_PORT_CNT2.LOST port.val, LNK_PORT_STAT.UP port.val, LNK_PORT_STAT.PWR port.val,
        LNK_PORT_STAT.PEER_ERR port.val, LNK_PORT_BOB0.C0 port.val, LNK_PORT_BOB0.C1 port.val, LNK_PORT_BOB1.C3 port.val,
        LNK_PORT_STAT.ACTIVE port.val, LNK_PORT_STAT.WIDTH port.val] (s.advance dt) t) ∧
  (∀ (dt : Nat) (port : Fin 16) (s : State), s.portUp port.val = false ∨ (s.portLanes port.val).any s.laneHolds = true →
    exec (.portDown dt port) s = .next (s.advance dt)) ∧
  (∀ (dt : Nat) (port member : Fin 16) (active : Fin 65536) (cell : Bool) (s : State), s.portRuns port.val = true →
    (s.port port.val).rxMask = 0 → portCellIn s.img.cfg.link port.val = true →
    (cell = false ∨ member.val ≠ portPeer s.img.cfg.link port.val) →
    ∃ t, exec (.align dt port active member cell 0) s = .next t ∧ t.flag (LNK_PORT_STAT.PEER_ERR port.val) = true ∧
      t.get (LNK_PORT_STAT.PEER port.val) = member.val ∧ t.port port.val = { s.port port.val with rxMask := active.val } ∧
      t.flag (evtPend 565) = true ∧
      OnlyPort port.val [LNK_PORT_STAT.PEER port.val, LNK_PORT_STAT.PEER_ERR port.val] (s.advance dt) t) ∧
  (∀ (dt : Nat) (port member : Fin 16) (active : Fin 65536) (cell : Bool) (s : State), s.portRuns port.val = true →
    ((s.port port.val).rxMask ≠ 0 ∨ portCellIn s.img.cfg.link port.val = false ∨
      (cell = true ∧ member.val = portPeer s.img.cfg.link port.val)) →
    exec (.align dt port active member cell 0) s = .next
      (((s.advance dt).setPort port.val { s.port port.val with rxMask := active.val }).put
        (LNK_PORT_STAT.PEER port.val) member.val)) ∧
  (∀ (dt n : Nat) (port member : Fin 16) (active late : Fin 65536) (cell : Bool) (s : State), s.portRuns port.val = true →
    n ∈ s.portLanes port.val → n < 16 → bit late.val n = true → s.laneState n = 6 →
    ∃ t, exec (.align dt port active member cell late) s = .next t ∧ t.laneState n = 2 ∧
      (s.domOn (96 + n) = true → t.flag (evtPend (481 + 2 * n)) = true) ∧
      (∀ m, m < 16 → m ∉ s.portLanes port.val ∨ bit late.val m = false → t.lane m = s.lane m ∧ t.laneState m = s.laneState m) ∧
      (∀ q, q < 16 → q ≠ port.val → t.port q = s.port q) ∧ t.dev = s.dev ∧ SameMemory s t) ∧
  (∀ (dt : Nat) (port : Fin 16) (s : State), s.portRuns port.val = true →
    ∃ t, exec (.controlColumnSend dt port true) s = .next t ∧
      (let v := (s.advance dt).sendColumn port.val (s.activeLanes port.val) (s.alignPick port.val)
       v.out <+: t.out ∧ t.wire.sent = v.wire.sent ∧ t.wire.last = v.wire.last ∧
        (t.get (LNK_PORT_STAT.ACTIVE port.val) = s.get (LNK_PORT_STAT.ACTIVE port.val) → t.wire = v.wire) ∧
        (t.get (LNK_PORT_STAT.ACTIVE port.val) ≠ s.get (LNK_PORT_STAT.ACTIVE port.val) → t.streamIndex port.val = 0)) ∧
      (∀ n, n < 16 → bit (t.get (LNK_PORT_STAT.ACTIVE port.val)) n = (s.activeLanes port.val).contains n) ∧
      t.get (LNK_PORT_STAT.WIDTH port.val) = (s.activeLanes port.val).length % 32 ∧
      (s.get (LNK_PORT_STAT.WIDTH port.val) ≠ (s.activeLanes port.val).length → t.flag (evtPend 562) = true) ∧
      OnlyFieldsEv [LNK_PORT_STAT.ACTIVE port.val, LNK_PORT_STAT.WIDTH port.val] { s.advance dt with wire := t.wire } t) ∧
  (∀ (dt : Nat) (port : Fin 16) (s : State), s.portRuns port.val = true →
    exec (.controlColumnSend dt port false) s = .next
      ((s.advance dt).sendColumn port.val (s.columnLanes port.val) (fun _ => 0x1E))) ∧
  (∀ (dt : Nat) (port member : Fin 16) (active late : Fin 65536) (cell align : Bool) (s : State),
    s.portRuns port.val = false →
    exec (.align dt port active member cell late) s = .next (s.advance dt) ∧
    exec (.controlColumnSend dt port align) s = .next (s.advance dt))

/-- R451 to R458, R463: flits and bobbins. Where a clause has only time pass since its event cannot occur in the state, that is
the model's choice (log 3). -/
def Obligations.Flits : Prop :=
  (∀ (dt header trailer : Nat) (data : List Nat) (port : Fin 16) (memOk : Bool) (s : State), s.portRuns port.val = true →
    (s.port port.val).accepts header data trailer = false →
    exec (.flit dt port header data trailer memOk) s = .next
      (((s.advance dt).bump (LNK_PORT_CNT.CRC_ERR port.val)).setPort port.val { s.port port.val with nakDue := true })) ∧
  (∀ (dt header trailer : Nat) (data : List Nat) (port : Fin 16) (memOk : Bool) (s : State), s.portRuns port.val = true →
    (s.port port.val).accepts header data trailer = true →
    tabGet (fun _ => 0) (s.port port.val).granted (flitClass header) < flitLen header →
    (∀ n ∈ s.portLanes port.val, n < 16) →
    ∃ t, exec (.flit dt port header data trailer memOk) s = .next t ∧ t.flag (evtPend 564) = true ∧
      (∀ n ∈ s.portLanes port.val, t.laneState n = if s.laneState n = 6 then 2 else s.laneState n) ∧
      t.lnk.ports = s.lnk.ports ∧ t.dev = s.dev ∧ SameMemory s t) ∧
  (∀ (dt header trailer : Nat) (data : List Nat) (port : Fin 16) (memOk : Bool) (s : State), s.portRuns port.val = true →
    (s.port port.val).accepts header data trailer = true →
    (let cls := flitClass header
     let room := tabGet (fun _ => 0) (s.port port.val).granted cls
     flitLen header ≤ room → (cls = 1 ∨ cls = 3 ∨ (cls = 0 ∧ portCellIn s.img.cfg.link port.val = false)) →
     ∃ t, exec (.flit dt port header data trailer memOk) s = .next t ∧
      t.port port.val = { s.port port.val with
        seqRx := ((s.port port.val).seqRx + 1) % 4096, ackDue := true, nakDue := false
        granted := tabSet (fun _ => 0) (s.port port.val).granted cls (room - flitLen header)
        freed := tabMod (fun _ => 0) (s.port port.val).freed cls (· + flitLen header)
        raised := setBit (s.port port.val).raised 0 true } ∧
      t.get (LNK_PORT_CNT2.DISCARD port.val) = min (s.get (LNK_PORT_CNT2.DISCARD port.val) + 1) 0xFFFF ∧
      (bit (s.port port.val).raised 0 = false → t.flag (evtPend 566) = true) ∧
      OnlyPort port.val [LNK_PORT_CNT2.DISCARD port.val] (s.advance dt) t)) ∧
  (∀ (dt header trailer : Nat) (data : List Nat) (port : Fin 16) (memOk : Bool) (s : State), s.portRuns port.val = true →
    (s.port port.val).accepts header data trailer = true → flitClass header = 2 → s.img.load = none →
    flitLen header ≤ tabGet (fun _ => 0) (s.port port.val).granted 2 →
    ∃ t, exec (.flit dt port header data trailer memOk) s = .next t ∧
      (t.port port.val).seqRx = ((s.port port.val).seqRx + 1) % 4096 ∧ (t.port port.val).ackDue = true ∧
      t.get (LNK_PORT_CNT2.DISCARD port.val) = min (s.get (LNK_PORT_CNT2.DISCARD port.val) + 1) 0xFFFF ∧
      t.flag (evtPend 567) = true ∧ OnlyPort port.val [LNK_PORT_CNT2.DISCARD port.val] (s.advance dt) t) ∧
  (∀ (dt header trailer : Nat) (data : List Nat) (port : Fin 16) (memOk : Bool) (s : State), s.portRuns port.val = true →
    (s.port port.val).accepts header data trailer = true → flitClass header = 0 → portCellIn s.img.cfg.link port.val = true →
    flitLen header ≤ tabGet (fun _ => 0) (s.port port.val).granted 0 → s.flag (LNK_PORT_STAT.PEER_ERR port.val) = false →
    msgSrc (pickWords data) ≠ s.ownMember → s.seqNewer (msgSrc (pickWords data)) (msgSeq (pickWords data)) = false →
    ∃ t, exec (.flit dt port header data trailer memOk) s = .next t ∧
      t.get LNK_FWD_CNT.DUP = min (s.get LNK_FWD_CNT.DUP + 1) 0xFFFF ∧
      t.get (LNK_PORT_CNT2.DISCARD port.val) = min (s.get (LNK_PORT_CNT2.DISCARD port.val) + 1) 0xFFFF ∧
      (t.port port.val).ackDue = true ∧
      OnlyPort port.val [LNK_FWD_CNT.DUP, LNK_PORT_CNT2.DISCARD port.val] (s.advance dt) t) ∧
  (∀ (dt header trailer : Nat) (data : List Nat) (port : Fin 16) (memOk : Bool) (s : State), s.portRuns port.val = true →
    (s.port port.val).accepts header data trailer = true → flitClass header = 0 → portCellIn s.img.cfg.link port.val = true →
    flitLen header ≤ tabGet (fun _ => 0) (s.port port.val).granted 0 → s.flag (LNK_PORT_STAT.PEER_ERR port.val) = false →
    flitHops header < 15 → msgSrc (pickWords data) ≠ s.ownMember →
    s.seqNewer (msgSrc (pickWords data)) (msgSeq (pickWords data)) = true →
    ∃ t, exec (.flit dt port header data trailer memOk) s = .next t ∧
      tabGet (fun _ => none) t.lnk.lastSeq (msgSrc (pickWords data)) = some (msgSeq (pickWords data)) ∧
      t.saf = (if s.dev.ticks then (s.advance dt).msgReceive (pickWords data) else s).saf ∧
      (∀ q, q < 16 → q ≠ port.val → t.port q = (if portCellIn s.img.cfg.link q && s.portUp q &&
          !s.flag (LNK_PORT_STAT.PEER_ERR q) then
        { s.port q with q0 := (s.port q).q0 ++ [(pickWords data, flitHops header + 1)] } else s.port q)) ∧
      t.dev = s.dev ∧ SameMemory s t) ∧
  (∀ (dt : Nat) (port : Fin 16) (cls : Fin 4) (init ackV : Bool) (count : Fin 65536) (ackSeq : Fin 4096) (s : State),
    s.portRuns port.val = true →
    (let l := if ackV then replayAfter (s.port port.val).replay ackSeq.val else (s.port port.val).replay
     ∃ t, exec (.bobbin dt port cls init count ackV false ackSeq) s = .next t ∧
      (cls.val ≠ 2 → t.get (bobFld port.val cls.val) =
        if init then count.val else min (s.get (bobFld port.val cls.val) + count.val) 0xFFFF) ∧
      t.port port.val = { s.port port.val with replay := l, resend := min (s.port port.val).resend l.length } ∧
      OnlyPort port.val (if cls.val = 2 then [] else [bobFld port.val cls.val]) (s.advance dt) t)) ∧
  (∀ (dt : Nat) (port : Fin 16) (ackV : Bool) (ackSeq : Fin 4096) (s : State), s.portRuns port.val = true →
    (let l := replayAfter (s.port port.val).replay ackSeq.val
     l.all (fun f => decide (f.sends < 8)) = true →
     exec (.bobbin dt port 2 false 0 ackV true ackSeq) s =
      .next ((s.advance dt).setPort port.val { s.port port.val with replay := l, resend := l.length }))) ∧
  (∀ (dt : Nat) (port : Fin 16) (ackV : Bool) (ackSeq : Fin 4096) (s : State), s.portRuns port.val = true →
    (replayAfter (s.port port.val).replay ackSeq.val).any (fun f => decide (8 ≤ f.sends)) = true →
    (∀ n ∈ s.portLanes port.val, n < 16) →
    ∃ t, exec (.bobbin dt port 2 false 0 ackV true ackSeq) s = .next t ∧ t.flag (evtPend 563) = true ∧
      (∀ n ∈ s.portLanes port.val, t.laneState n = if s.laneState n = 6 then 2 else s.laneState n) ∧
      (t.port port.val).replay = replayAfter (s.port port.val).replay ackSeq.val ∧ t.dev = s.dev ∧ SameMemory s t) ∧
  (∀ (dt : Nat) (port : Fin 16) (cls : Fin 4) (s : State), s.portRuns port.val = true →
    (let x := s.port port.val
     let n := tabGet (fun _ => 0) x.freed cls.val
     exec (.bobbinReturn dt port cls) s = .next (((s.advance dt).setPort port.val { x with
      freed := tabSet (fun _ => 0) x.freed cls.val 0, granted := tabMod (fun _ => 0) x.granted cls.val (· + n)
      ackDue := false, nakDue := false }).sendStream port.val
        [(true, bobbinPick cls.val false x.ackDue x.nakDue n ((x.seqRx + 4095) % 4096))]))) ∧
  (∀ (dt : Nat) (port : Fin 16) (chan : Fin 64) (f : TxFlit) (s : State), s.portRuns port.val = true →
    0 < (s.port port.val).resend →
    (s.port port.val).replay[(s.port port.val).replay.length - (s.port port.val).resend]? = some f →
    exec (.flitSend dt port chan) s = .next ((((s.advance dt).bump (LNK_PORT_CNT.REPLAY port.val)).setPort port.val
      { s.port port.val with
        resend := (s.port port.val).resend - 1
        replay := (s.port port.val).replay.set ((s.port port.val).replay.length - (s.port port.val).resend)
          { f with sends := f.sends + 1 } }).sendStream port.val (flitWire f.picks))) ∧
  (∀ (dt hops : Nat) (ws : List Nat) (rest : List (List Nat × Nat)) (port : Fin 16) (chan : Fin 64) (s : State),
    s.portRuns port.val = true → (s.port port.val).resend = 0 → (s.port port.val).q0 = (ws, hops) :: rest →
    s.flag (LNK_PORT_STAT.PEER_ERR port.val) = false → 8 ≤ s.get (LNK_PORT_BOB0.C0 port.val) →
    s.readyStreams port.val 3 = [] → (s.port port.val).room 8 = true →
    (let data := (List.range 8).map (fun i => nth ws (2 * i) 0 + nth ws (2 * i + 1) 0 * 2 ^ 32)
     let picks := flitPicks 0 (s.port port.val).seqTx 0 hops false data
     ∃ t, exec (.flitSend dt port chan) s = .next t ∧
      (let v := (s.advance dt).sendStream port.val
        ((true, picks.headD 0) :: data.map (fun d => (false, d)) ++ [(true, picks.getLastD 0)])
       t.wire = v.wire ∧ t.out = v.out) ∧
      t.get (LNK_PORT_BOB0.C0 port.val) = s.get (LNK_PORT_BOB0.C0 port.val) - 8 ∧
      t.port port.val = { s.port port.val with
        q0 := rest, seqTx := ((s.port port.val).seqTx + 1) % 4096, low := 0
        replay := (s.port port.val).replay ++ [⟨(s.port port.val).seqTx, picks, 1⟩] } ∧
      OnlyPort port.val [LNK_PORT_BOB0.C0 port.val] { s.advance dt with wire := t.wire } t)) ∧
  (∀ (dt : Nat) (port : Fin 16) (chan : Fin 64) (s : State), s.portRuns port.val = true → (s.port port.val).resend = 0 →
    (s.port port.val).q0 = [] → s.readyStreams port.val 1 = [] → s.readyStreams port.val 3 = [] →
    exec (.flitSend dt port chan) s = .next (s.advance dt)) ∧
  (∀ (dt header trailer : Nat) (data : List Nat) (port : Fin 16) (cls : Fin 4) (chan : Fin 64) (init ackV nak memOk : Bool)
    (count : Fin 65536) (ackSeq : Fin 4096) (s : State), s.portRuns port.val = false →
    exec (.flit dt port header data trailer memOk) s = .next (s.advance dt) ∧
    exec (.bobbin dt port cls init count ackV nak ackSeq) s = .next (s.advance dt) ∧
    exec (.bobbinReturn dt port cls) s = .next (s.advance dt) ∧ exec (.flitSend dt port chan) s = .next (s.advance dt))

/-- R460, R461. Where a clause has only time pass since its event cannot occur in the state, that is the model's choice (log 3).
-/
def Obligations.DozeAndDeep : Prop :=
  (∀ (dt : Nat) (port : Fin 16) (s : State), s.portRuns port.val = true → portDozeEn s.img.cfg.link port.val = true →
    s.portIdle port.val = true →
    exec (.dozeIdleTimeout dt port) s = .next
      (((s.advance dt).sendColumn port.val (s.columnLanes port.val) (fun _ => 0x0F)).setPort port.val
        { s.port port.val with dozeSent := true })) ∧
  (∀ (dt : Nat) (port : Fin 16) (s : State),
    s.portRuns port.val = false ∨ portDozeEn s.img.cfg.link port.val = false ∨ s.portIdle port.val = false →
    exec (.dozeIdleTimeout dt port) s = .next (s.advance dt)) ∧
  (∀ (dt : Nat) (port : Fin 16) (ack : Bool) (s : State), s.portRuns port.val = true →
    portDozeEn s.img.cfg.link port.val = true → (ack = true → (s.port port.val).dozeSent = true) →
    (ack = false → s.portIdle port.val = true) → (∀ n ∈ s.portLanes port.val, n < 16) →
    ∃ t, exec (.doze dt port ack) s = .next t ∧ t.get (LNK_PORT_STAT.PWR port.val) = 1 ∧
      (∀ n, n < 16 → t.laneState n = if (s.activeLanes port.val).contains n then 7 else s.laneState n) ∧
      (∀ n, n < 16 → (s.activeLanes port.val).contains n = true → t.lane n = { s.lane n with kept := false, pllOff := false }) ∧
      (ack = true → t.wire = s.wire) ∧
      (ack = false →
        let v := (s.advance dt).sendColumn port.val (s.columnLanes port.val) (fun _ => 0x10F)
        t.wire = v.wire ∧ v.out <+: t.out) ∧
      t.lnk.ports = s.lnk.ports ∧
      OnlyFieldsEv (LNK_PORT_STAT.PWR port.val :: (s.activeLanes port.val).flatMap (fun n =>
        [LNK_LANE_STAT.STATE n, LNK_LANE_CTL.RETRAIN n]))
        { s.advance dt with wire := t.wire, lnk := { s.lnk with lanes := t.lnk.lanes } } t) ∧
  (∀ (dt : Nat) (port : Fin 16) (ack : Bool) (s : State), s.portRuns port.val = false ∨
    portDozeEn s.img.cfg.link port.val = false ∨ (ack = true ∧ (s.port port.val).dozeSent = false) ∨
    (ack = false ∧ s.portIdle port.val = false) →
    exec (.doze dt port ack) s = .next (s.advance dt)) ∧
  (∀ (dt : Nat) (port : Fin 16) (s : State), s.get (LNK_PORT_STAT.PWR port.val) = 1 →
    portDeepEn s.img.cfg.link port.val = true → (∀ n ∈ s.portLanes port.val, n < 16) →
    ∃ t, exec (.deepIdleTimeout dt port) s = .next t ∧ t.get (LNK_PORT_STAT.PWR port.val) = 2 ∧
      (∀ n, n < 16 → t.laneState n = if (s.portLanes port.val).contains n && s.laneState n == 7 then 8 else s.laneState n) ∧
      (∀ n, n < 16 → (s.portLanes port.val).contains n = true → s.laneState n = 7 → (t.lane n).pllOff = true ∧
        ((∀ i, i < 4 → (t.lane (4 * (n / 4) + i)).pllOff = true) → t.flag (LNK_QUAD.PLL_LOCK (n / 4)) = false)) ∧
      t.lnk.ports = s.lnk.ports ∧ t.dev = s.dev ∧ SameMemory s t) ∧
  (∀ (dt : Nat) (port : Fin 16) (s : State),
    s.get (LNK_PORT_STAT.PWR port.val) ≠ 1 ∨ portDeepEn s.img.cfg.link port.val = false →
    exec (.deepIdleTimeout dt port) s = .next (s.advance dt)) ∧
  (∀ (dt : Nat) (port : Fin 16) (s : State), s.get (LNK_PORT_STAT.PWR port.val) = 1 →
    (∀ n ∈ s.portLanes port.val, n < 16) →
    ∃ t, exec (.dozeExit dt port) s = .next t ∧ t.get (LNK_PORT_STAT.PWR port.val) = 0 ∧
      (∀ n, n < 16 → t.laneState n = if (s.portLanes port.val).contains n && s.laneState n == 7 then 6 else s.laneState n) ∧
      (let v := ((s.advance dt).lineGap port.val).each ((s.portLanes port.val).filter (fun n => s.laneState n == 7))
        (fun s n => s.lineSend n true (s.trainPick n))
       t.wire = v.wire ∧ v.out <+: t.out) ∧
      t.port port.val = { s.port port.val with dozeSent := false } ∧ (∀ q, q < 16 → q ≠ port.val → t.port q = s.port q) ∧
      t.dev = s.dev ∧ SameMemory s t) ∧
  (∀ (dt : Nat) (port : Fin 16) (s : State), s.get (LNK_PORT_STAT.PWR port.val) = 2 →
    (∀ n ∈ s.portLanes port.val, n < 16) →
    ∃ t, exec (.deepExit dt port) s = .next t ∧ t.get (LNK_PORT_STAT.PWR port.val) = 0 ∧
      (∀ n, n < 16 → t.laneState n = if (s.portLanes port.val).contains n && s.laneState n == 8 then 2 else s.laneState n) ∧
      (∀ n, n < 16 → (s.portLanes port.val).contains n = true → s.laneState n = 8 → (t.lane n).kept = true) ∧
      t.port port.val = { s.port port.val with dozeSent := false } ∧ (∀ q, q < 16 → q ≠ port.val → t.port q = s.port q) ∧
      t.dev = s.dev ∧ SameMemory s t) ∧
  (∀ (dt : Nat) (port : Fin 16) (s : State), s.get (LNK_PORT_STAT.PWR port.val) = 0 →
    exec (.dozeExit dt port) s = .next (s.advance dt) ∧ exec (.deepExit dt port) s = .next (s.advance dt)) ∧
  (∀ (dt p : Nat) (lane plane step : Fin 16) (done : Bool) (r : TrainRest) (s : State), s.laneState lane.val = 7 →
    s.portOf lane.val = some p →
    ∃ t, exec (.train dt lane plane step done r) s = .next t ∧ t.laneState lane.val = 6 ∧
      t.get (LNK_PORT_STAT.PWR p) = 0 ∧ t.port p = { s.port p with dozeSent := false } ∧
      (∀ m, m < 16 → m ≠ lane.val → t.laneState m = s.laneState m ∧ t.lane m = s.lane m) ∧
      (∀ q, q < 16 → q ≠ p → t.port q = s.port q) ∧ t.dev = s.dev ∧ SameMemory s t) ∧
  (∀ (dt p : Nat) (lane plane step : Fin 16) (done : Bool) (r : TrainRest) (s : State), s.laneState lane.val = 8 →
    s.portOf lane.val = some p →
    ∃ t, exec (.train dt lane plane step done r) s = .next t ∧ t.laneState lane.val = 2 ∧
      t.lane lane.val = { s.lane lane.val with kept := true, pllOff := false } ∧
      t.get (LNK_PORT_STAT.PWR p) = 0 ∧ t.port p = { s.port p with dozeSent := false } ∧
      (∀ m, m < 16 → m ≠ lane.val → t.laneState m = s.laneState m ∧ t.lane m = s.lane m) ∧
      (∀ q, q < 16 → q ≠ p → t.port q = s.port q) ∧ t.dev = s.dev ∧ SameMemory s t)

/-- R438, R447, R449. -/
def Obligations.WirePicks : Prop :=
  (∀ h payload : Nat, h < 2 ^ 58 →
    (let o := (scramblePick h payload).1
     let before := fun (i k : Nat) => if k ≤ i then bit o (i - k) else bit h (k - i - 1)
     (∀ i, i < 64 → bit o i = (bit payload i ^^ (before i 39 ^^ before i 58))) ∧ o < 2 ^ 64 ∧
     (∀ i, i < 58 → bit (scramblePick h payload).2 i = bit o (63 - i)))) ∧
  (∀ (n payload : Nat) (ctl : Bool) (s : State),
    (let o := scramblePick (tabGet (fun _ => 0) s.wire.sent n) payload
     let t := s.lineSend n ctl payload
     t = { s with wire := { s.wire with sent := t.wire.sent }, out := s.out ++ [.pick n (if ctl then 2 else 1) o.1] } ∧
      tabGet (fun _ => 0) t.wire.sent n = o.2 ∧
      (∀ m, m ≠ n → tabGet (fun _ => 0) t.wire.sent m = tabGet (fun _ => 0) s.wire.sent m))) ∧
  (∀ (p n payload : Nat) (ctl : Bool) (s : State), (s.txLanes p)[s.streamIndex p % (s.txLanes p).length]? = some n →
    s.laneState n = 6 → s.streamPick p ctl payload = (s.setIndex p (s.streamIndex p + 1)).lineSend n ctl payload) ∧
  (∀ (p n payload : Nat) (ctl : Bool) (s : State), (s.txLanes p)[s.streamIndex p % (s.txLanes p).length]? = some n →
    s.laneState n ≠ 6 → s.streamPick p ctl payload = s.setIndex p (s.streamIndex p + 1)) ∧
  (∀ (p : Nat) (pick : Nat → Nat) (lanes : List Nat) (s : State), s.txLanes p ≠ [] →
    (let w := (s.txLanes p).length
     let u := s.lineGap p
     let k := (w - u.streamIndex p % w) % w
     let v := u.each (List.replicate k 0x5A) (fun s x => s.streamPick p true x)
     k < w ∧ v.streamIndex p = u.streamIndex p + k ∧ v.streamIndex p % w = 0 ∧
      s.sendColumn p lanes pick = (v.setIndex p (v.streamIndex p + w)).each lanes (fun s n => s.lineSend n true (pick n)) ∧
      (s.sendColumn p lanes pick).streamIndex p % w = 0)) ∧
  (∀ (p n : Nat) (s : State), n ∈ s.columnLanes p →
    n < 16 ∧ bit (s.get (LNK_PORT_STAT.ACTIVE p)) n = true ∧ s.laneState n = 6)
end

