-- ==== Sys2Proof/Laws/Bits.lean ====
section
/-! SUPPORT. Laws of bit fields and of the sparse tables: a field reads as what was written to it, and nothing else of the word
or of the table changes. -/

namespace Sys2Proof.Machine

/-! ### Bit fields -/

theorem testBit_bitsOf (w hi lo i : Nat) :
    (bitsOf w hi lo).testBit i = (decide (i < hi + 1 - lo) && w.testBit (lo + i)) := by
  simp [bitsOf, Nat.testBit_mod_two_pow, Nat.testBit_div_two_pow, Nat.add_comm]

theorem bitsOf_lt (w hi lo : Nat) : bitsOf w hi lo < 2 ^ (hi + 1 - lo) := Nat.mod_lt _ (Nat.two_pow_pos _)

theorem wordBits_lt (w : Word) (hi lo : Nat) : wordBits w hi lo < 2 ^ (hi + 1 - lo) := bitsOf_lt _ _ _

theorem fieldMask_bit (hi lo j : Nat) (h : j < 32) :
    (fieldMask hi lo).getLsbD j = (decide (lo ≤ j) && decide (j < hi + 1)) := by
  rw [fieldMask, BitVec.getLsbD_ofNat, Nat.testBit_mul_two_pow, Nat.testBit_two_pow_sub_one]
  by_cases h1 : lo ≤ j <;> simp [h, h1]; omega

theorem setWordBits_bit (w : Word) (hi lo v j : Nat) (h : j < 32) :
    (setWordBits w hi lo v).getLsbD j =
      if lo ≤ j ∧ j ≤ hi then v.testBit (j - lo) else w.getLsbD j := by
  rw [setWordBits, BitVec.getLsbD_or, BitVec.getLsbD_and, BitVec.getLsbD_not, fieldMask_bit hi lo j h,
    BitVec.getLsbD_ofNat, Nat.testBit_mul_two_pow, Nat.testBit_mod_two_pow]
  by_cases h1 : lo ≤ j <;> by_cases h2 : j ≤ hi
  · have h3 : j < hi + 1 := by omega
    have h4 : j - lo < hi + 1 - lo := by omega
    simp [h, h1, h2, h3, h4]
  · have h3 : ¬ j < hi + 1 := by omega
    have h4 : ¬ j - lo < hi + 1 - lo := by omega
    simp [h, h2, h3, h4]
  · simp [h, h1]
  · simp [h, h1]

/-- A field reads as the low bits of what was written to it. -/
theorem wordBits_setWordBits (w : Word) (hi lo v : Nat) (h : hi < 32) :
    wordBits (setWordBits w hi lo v) hi lo = v % 2 ^ (hi + 1 - lo) := by
  apply Nat.eq_of_testBit_eq
  intro i
  rw [wordBits, testBit_bitsOf, Nat.testBit_mod_two_pow]
  by_cases hi' : i < hi + 1 - lo
  · have e : (setWordBits w hi lo v).toNat.testBit (lo + i) = (setWordBits w hi lo v).getLsbD (lo + i) := rfl
    rw [e, setWordBits_bit w hi lo v (lo + i) (by omega)]
    have h2 : lo + i ≤ hi := by omega
    simp [hi', h2]
  · simp [hi']

/-- A field apart from the one written reads as before. -/
theorem wordBits_setWordBits_apart (w : Word) (hi lo v hi' lo' : Nat) (h : hi' < 32) (ha : hi < lo' ∨ hi' < lo) :
    wordBits (setWordBits w hi lo v) hi' lo' = wordBits w hi' lo' := by
  apply Nat.eq_of_testBit_eq
  intro i
  rw [wordBits, wordBits, testBit_bitsOf, testBit_bitsOf]
  by_cases hi2 : i < hi' + 1 - lo'
  · have e : ∀ x : Word, x.toNat.testBit (lo' + i) = x.getLsbD (lo' + i) := fun _ => rfl
    rw [e, e, setWordBits_bit w hi lo v (lo' + i) (by omega), if_neg (by omega)]
  · simp [hi2]

theorem b2n_eq_one (b : Bool) : b2n b = 1 ↔ b = true := by cases b <;> simp [b2n]

theorem b2n_lt (b : Bool) : b2n b < 2 := by cases b <;> simp [b2n]

/-! ### Sparse tables -/

theorem find_tabIns_self {α : Type} (k : Nat) (v : α) (t : Tab α) (h : ∀ p ∈ t, p.1 ≠ k) :
    (tabIns k v t).find? (fun p => p.1 == k) = some (k, v) := by
  induction t with
  | nil => simp [tabIns]
  | cons p r ih =>
    rw [tabIns]
    by_cases hk : k < p.1
    · simp [hk]
    · have hp : p.1 ≠ k := h p (by simp)
      have hr := ih (fun q hq => h q (by simp [hq]))
      simp [hk, hp, hr]

theorem find_tabIns_other {α : Type} (k k' : Nat) (v : α) (t : Tab α) (h : k' ≠ k) :
    (tabIns k v t).find? (fun p => p.1 == k') = t.find? (fun p => p.1 == k') := by
  have hk : (k == k') = false := by simp; omega
  induction t with
  | nil => simp [tabIns, hk]
  | cons p r ih =>
    rw [tabIns]
    by_cases hl : k < p.1
    · simp [hl, hk, List.find?_cons]
    · simp only [hl, if_false, List.find?_cons, ih]

theorem find_filter_other {α : Type} (k k' : Nat) (t : Tab α) (h : k' ≠ k) :
    (t.filter (fun p => p.1 != k)).find? (fun p => p.1 == k') = t.find? (fun p => p.1 == k') := by
  induction t with
  | nil => rfl
  | cons p r ih =>
    by_cases hp : p.1 = k
    · have h1 : (p.1 == k') = false := by simp [hp]; omega
      have h2 : (p.1 != k) = false := by simp [hp]
      rw [List.filter_cons, h2, List.find?_cons, h1]
      exact ih
    · have h2 : (p.1 != k) = true := by simp [hp]
      simp only [List.filter_cons, h2, if_true, List.find?_cons, ih]

/-- A table read where it was written gives what was written. -/
theorem tabGet_tabSet_self {α : Type} [DecidableEq α] (d : Nat → α) (t : Tab α) (k : Nat) (v : α) :
    tabGet d (tabSet d t k v) k = v := by
  have hn : ∀ p ∈ t.filter (fun p => p.1 != k), p.1 ≠ k := by
    intro p hp; simpa using (List.mem_filter.mp hp).2
  rw [tabGet, tabSet]
  by_cases hv : v = d k
  · have hf : (t.filter (fun p => p.1 != k)).find? (fun p => p.1 == k) = none := by
      rw [List.find?_eq_none]; intro p hp; simpa using hn p hp
    simp [hv, hf]
  · simp only [hv, if_false, find_tabIns_self k v _ hn]

/-- A table read elsewhere gives what it gave. -/
theorem tabGet_tabSet_other {α : Type} [DecidableEq α] (d : Nat → α) (t : Tab α) (k k' : Nat) (v : α) (h : k' ≠ k) :
    tabGet d (tabSet d t k v) k' = tabGet d t k' := by
  rw [tabGet, tabGet, tabSet]
  by_cases hv : v = d k
  · simp only [hv, if_true, find_filter_other k k' t h]
  · simp only [hv, if_false, find_tabIns_other k k' v _ h, find_filter_other k k' t h]

theorem tabGet_tabSet {α : Type} [DecidableEq α] (d : Nat → α) (t : Tab α) (k k' : Nat) (v : α) :
    tabGet d (tabSet d t k v) k' = if k' = k then v else tabGet d t k' := by
  by_cases h : k' = k
  · rw [if_pos h, h, tabGet_tabSet_self]
  · rw [if_neg h, tabGet_tabSet_other d t k k' v h]

end Sys2Proof.Machine
end

