-- ==== Sys2Proof/Laws/Fields.lean ====
section
/-! SUPPORT. Laws of the register fields of State: reading a field after a field was written, and the frame of the writes. -/

namespace Sys2Proof.Machine

/-! ### Reading after writing -/

theorem State.get_put_self (s : State) (f : Fld) (v : Nat) (h : f.hi < 32) :
    (s.put f v).get f = v % 2 ^ (f.hi + 1 - f.lo) := by
  rw [State.get, State.put, getIn, putIn, wordIn, tabGet_tabSet_self, wordBits_setWordBits _ _ _ _ h]

theorem State.get_put_apart (s : State) (f g : Fld) (v : Nat) (hg : g.hi < 32) (h : FieldsApart f g) :
    (s.put f v).get g = s.get g := by
  rw [State.get, State.put, State.get, getIn, putIn, getIn, wordIn, tabGet_tabSet]
  by_cases e : g.addr = f.addr
  · rw [if_pos e]
    have : f.hi < g.lo ∨ g.hi < f.lo := by
      rcases h with h | h | h
      · exact absurd e.symm h
      · exact Or.inl h
      · exact Or.inr h
    rw [wordBits_setWordBits_apart _ _ _ _ _ _ hg this, wordIn, ← e]
    rfl
  · rw [if_neg e]; rfl

theorem State.get_lt (s : State) (f : Fld) : s.get f < 2 ^ (f.hi + 1 - f.lo) := wordBits_lt _ _ _

theorem State.word_put_other (s : State) (f : Fld) (v a : Nat) (h : a ≠ f.addr) : (s.put f v).word a = s.word a := by
  rw [State.word, State.word, State.put, putIn, wordIn, tabGet_tabSet_other _ _ _ _ _ h]; rfl

theorem State.word_setWord_self (s : State) (a : Nat) (w : Word) : (s.setWord a w).word a = w := by
  rw [State.word, State.setWord, wordIn, tabGet_tabSet_self]

theorem State.word_setWord_other (s : State) (a b : Nat) (w : Word) (h : b ≠ a) : (s.setWord a w).word b = s.word b := by
  rw [State.word, State.word, State.setWord, wordIn, tabGet_tabSet_other _ _ _ _ _ h]; rfl

theorem State.get_of_word {s t : State} {f : Fld} (h : s.word f.addr = t.word f.addr) : s.get f = t.get f := by
  rw [State.get, State.get, getIn, getIn]; exact congrArg (fun w => wordBits w f.hi f.lo) h

theorem State.flag_putB_self (s : State) (f : Fld) (b : Bool) (h : f.hi < 32) (hw : f.hi = f.lo) : (s.putB f b).flag f = b := by
  rw [State.flag, State.putB, State.get_put_self s f _ h, hw]
  cases b <;> simp [b2n, show f.lo + 1 - f.lo = 1 by omega]

theorem State.flag_put_apart (s : State) (f g : Fld) (v : Nat) (hg : g.hi < 32) (h : FieldsApart f g) :
    (s.put f v).flag g = s.flag g := by
  rw [State.flag, State.flag, State.get_put_apart s f g v hg h]

theorem State.flag_putB_apart (s : State) (f g : Fld) (b : Bool) (hg : g.hi < 32) (h : FieldsApart f g) :
    (s.putB f b).flag g = s.flag g := State.flag_put_apart s f g _ hg h

theorem State.get_putB_apart (s : State) (f g : Fld) (b : Bool) (hg : g.hi < 32) (h : FieldsApart f g) :
    (s.putB f b).get g = s.get g := State.get_put_apart s f g _ hg h

/-- A flag is a field of one bit that is not 0. -/
theorem State.flag_iff (s : State) (f : Fld) (hw : f.hi = f.lo) : s.flag f = true ↔ s.get f = 1 := by
  have h := State.get_lt s f
  rw [hw, show f.lo + 1 - f.lo = 1 by omega] at h
  rw [State.flag]
  constructor
  · intro h1
    have : s.get f ≠ 0 := by simpa using h1
    omega
  · intro h1; simp [h1]

end Sys2Proof.Machine

namespace Sys2Proof

open Sys2Proof.Machine

/-! ### Frames -/

theorem OnlyFields.refl (fs : List Fld) (u : State) : OnlyFields fs u u := ⟨rfl, fun _ _ _ => ⟨rfl, rfl⟩⟩

theorem OnlyFields.put (u : State) (f : Fld) (v : Nat) : OnlyFields [f] u (u.put f v) :=
  ⟨rfl, fun g hg h => ⟨State.get_put_apart u f g v hg (h f (by simp)), rfl⟩⟩

theorem OnlyFields.trans {fs gs : List Fld} {u v w : State} (h1 : OnlyFields fs u v) (h2 : OnlyFields gs v w) :
    OnlyFields (fs ++ gs) u w := by
  refine ⟨?_, fun g hg h => ?_⟩
  · rw [h2.1, h1.1]
  · have a := h2.2 g hg (fun f hf => h f (by simp [hf]))
    have b := h1.2 g hg (fun f hf => h f (by simp [hf]))
    exact ⟨a.1.trans b.1, a.2.trans b.2⟩

theorem OnlyFields.mono {fs gs : List Fld} {u v : State} (h : OnlyFields fs u v) (hs : ∀ f ∈ fs, f ∈ gs) : OnlyFields gs u v :=
  ⟨h.1, fun g hg hf => h.2 g hg (fun f hff => hf f (hs f hff))⟩

theorem OnlyFieldsEv.refl (fs : List Fld) (u : State) : OnlyFieldsEv fs u u := ⟨rfl, fun _ _ _ _ => ⟨rfl, rfl⟩⟩

theorem OnlyFieldsEv.of {fs : List Fld} {u v : State} (h : OnlyFields fs u v) : OnlyFieldsEv fs u v := by
  refine ⟨?_, fun g hg _ hf => h.2 g hg hf⟩
  have := h.1
  rw [this]

theorem OnlyFieldsEv.trans {fs gs : List Fld} {u v w : State} (h1 : OnlyFieldsEv fs u v) (h2 : OnlyFieldsEv gs v w) :
    OnlyFieldsEv (fs ++ gs) u w := by
  refine ⟨?_, fun g hg ha h => ?_⟩
  · rw [h2.1, h1.1]
  · have a := h2.2 g hg ha (fun f hf => h f (by simp [hf]))
    have b := h1.2 g hg ha (fun f hf => h f (by simp [hf]))
    exact ⟨a.1.trans b.1, a.2.trans b.2⟩

theorem OnlyFieldsEv.mono {fs gs : List Fld} {u v : State} (h : OnlyFieldsEv fs u v) (hs : ∀ f ∈ fs, f ∈ gs) :
    OnlyFieldsEv gs u v :=
  ⟨h.1, fun g hg ha hf => h.2 g hg ha (fun f hff => hf f (hs f hff))⟩

theorem OnlyFields.memory {fs : List Fld} {u t : State} (h : OnlyFields fs u t) : SameMemory u t := by
  rw [h.1]; exact ⟨fun _ => rfl, fun _ => rfl⟩

theorem OnlyFieldsEv.memory {fs : List Fld} {u t : State} (h : OnlyFieldsEv fs u t) : SameMemory u t := by
  rw [h.1]; exact ⟨fun _ => rfl, fun _ => rfl⟩

end Sys2Proof
end

