-- ==== Sys2Proof/Laws/Events.lean ====
section
/-! SUPPORT. Laws of events: raising one changes nothing but the registers of EVT, the event logic, what leaves the part and
WAKE_N, and leaves the source pending. -/

namespace Sys2Proof.Machine

/-! ### Everything that raising an event can do -/

theorem evOnly_put (s : State) (f : Fld) (v : Nat) (h : f.addr / 0x1_0000 = 2) : OnlyFieldsEv [] s (s.put f v) := by
  refine ⟨rfl, fun g hg ha _ => ⟨State.get_put_apart s f g v hg (Or.inl ?_), rfl⟩⟩
  intro e; rw [e] at h; exact ha h

theorem evOnly_putB (s : State) (f : Fld) (b : Bool) (h : f.addr / 0x1_0000 = 2) : OnlyFieldsEv [] s (s.putB f b) :=
  evOnly_put s f _ h

theorem evOnly_bump (s : State) (f : Fld) (h : f.addr / 0x1_0000 = 2) : OnlyFieldsEv [] s (s.bump f) :=
  evOnly_put s f _ h

theorem evOnly_evt (s : State) (e : Events) : OnlyFieldsEv [] s { s with evt := e } := ⟨rfl, fun _ _ _ _ => ⟨rfl, rfl⟩⟩

theorem evOnly_trans {s t u : State} (h1 : OnlyFieldsEv [] s t) (h2 : OnlyFieldsEv [] t u) : OnlyFieldsEv [] s u :=
  OnlyFieldsEv.trans h1 h2

theorem evOnly_ite {s t u : State} {p : Prop} [Decidable p] (h1 : OnlyFieldsEv [] s t) (h2 : OnlyFieldsEv [] s u) :
    OnlyFieldsEv [] s (if p then t else u) := by
  split <;> assumption

theorem evOnly_emit (s : State) (o : Output) : OnlyFieldsEv [] s (s.emit o) := ⟨rfl, fun _ _ _ _ => ⟨rfl, rfl⟩⟩

theorem evOnly_msixSend (s : State) (v : Nat) : OnlyFieldsEv [] s (s.msixSend v) := by
  rw [State.msixSend]
  exact evOnly_ite (evOnly_emit s _) (evOnly_trans (evOnly_emit s _) (evOnly_evt _ _))

theorem evOnly_vecTrigger (s : State) (v : Nat) (h : v < 512) : OnlyFieldsEv [] s (s.vecTrigger v) := by
  rw [State.vecTrigger]
  refine evOnly_ite (.refl _ _) (evOnly_ite (evOnly_putB _ _ _ ?_) (evOnly_ite (evOnly_ite (.refl _ _) (evOnly_evt _ _))
    (evOnly_msixSend s v)))
  simp only [pbaBit, EVT_MSIX_PBA.addr]; omega

theorem evOnly_logLose (s : State) (src ep t : Nat) : OnlyFieldsEv [] s (s.logLose src ep t) := by
  rw [State.logLose]
  refine evOnly_trans (evOnly_bump s _ rfl) (evOnly_ite (evOnly_evt _ _) (evOnly_ite (evOnly_evt _ _) ?_))
  split <;> exact evOnly_evt _ _

theorem evOnly_logYield {s t : State} {src : Nat} (h : s.logYield src = some t) : OnlyFieldsEv [] s t := by
  rw [State.logYield] at h
  split at h
  · split at h
    · exact Option.some.inj h ▸ evOnly_trans (evOnly_evt s _) (evOnly_logLose _ _ _ _)
    · nomatch h
  · nomatch h

theorem evOnly_logOffer (s : State) (src c d : Nat) : OnlyFieldsEv [] s (s.logOffer src c d) := by
  rw [State.logOffer]
  refine evOnly_ite (evOnly_evt _ _) ?_
  split
  · next _ h => exact evOnly_trans (evOnly_logYield h) (evOnly_evt _ _)
  · exact evOnly_logLose s _ _ _

theorem evtClass_lt (src : Nat) : evtClass src < 5 := by
  rw [evtClass]; repeat' split
  all_goals omega

theorem evOnly_putFirst (s : State) (src c e : Nat) : OnlyFieldsEv [] s (s.putFirst src c e) := by
  have hk := evtClass_lt src
  have hs : (EVT_FIRST_SRC.addr (evtClass src)) / 0x1_0000 = 2 := by simp only [EVT_FIRST_SRC.addr]; omega
  have he : (EVT_FIRST_EP.addr (evtClass src)) / 0x1_0000 = 2 := by simp only [EVT_FIRST_EP.addr]; omega
  exact evOnly_trans (evOnly_trans (evOnly_trans (evOnly_putB _ _ _ hs) (evOnly_put _ _ _ hs)) (evOnly_put _ _ _ hs))
    (evOnly_put _ _ _ he)

theorem evOnly_takeFirst (s : State) (src c : Nat) : OnlyFieldsEv [] s (s.takeFirst src c) := by
  rw [State.takeFirst]
  exact evOnly_ite (evOnly_trans (evOnly_putFirst s _ _ _) (evOnly_evt _ _)) (evOnly_ite (evOnly_putFirst s _ _ _) (.refl _ _))

theorem evOnly_noteRaise (s : State) (src c : Nat) : OnlyFieldsEv [] s (s.noteRaise src c) := evOnly_evt s _

theorem evOnly_raiseAlways (s : State) (src c d : Nat) (h : src < 640) : OnlyFieldsEv [] s (s.raiseAlways src c d) := by
  rw [State.raiseAlways]
  refine evOnly_trans (evOnly_bump s (EVT_CNT.COUNT src) (by simp only [EVT_CNT.COUNT, EVT_CNT.addr]; omega)) ?_
  refine evOnly_trans (evOnly_putB _ (evtPend src) true (by simp only [evtPend, EVT_PEND.addr]; omega)) ?_
  refine evOnly_trans (evOnly_takeFirst _ src c) (evOnly_trans (evOnly_noteRaise _ src c)
    (evOnly_trans (evOnly_logOffer _ src c d) ?_))
  have hv : ∀ u : State, OnlyFieldsEv [] u (u.vecTrigger (u.get (EVT_SRC.VEC src))) := fun u =>
    evOnly_vecTrigger _ _ (Nat.lt_of_lt_of_le (State.get_lt _ (EVT_SRC.VEC src)) (Nat.le_refl 512))
  exact evOnly_ite (.refl _ _) (evOnly_ite (evOnly_trans (hv _) ⟨rfl, fun _ _ _ _ => ⟨rfl, rfl⟩⟩) (hv _))

theorem evOnly_coalesce (s : State) : OnlyFieldsEv [] s s.coalesce := by
  rw [State.coalesce]
  refine evOnly_ite (evOnly_trans ?_ (evOnly_raiseAlways _ _ _ _ (by omega))) (.refl _ _)
  exact evOnly_evt _ _

/-- Raising an event changes only what OnlyFieldsEv lets change. -/
theorem raise_only (s : State) (src c d : Nat) (h : src < 640) : OnlyFieldsEv [] s (s.raise src c d) := by
  rw [State.raise]
  exact evOnly_ite (evOnly_trans (evOnly_coalesce s) (evOnly_raiseAlways _ _ _ _ h)) (.refl _ _)

theorem raise_only' (fs : List Fld) (s : State) (src c d : Nat) (h : src < 640) : OnlyFieldsEv fs s (s.raise src c d) :=
  OnlyFieldsEv.mono (raise_only s src c d h) (by simp)

theorem State.raise_get (s : State) (src c d : Nat) (f : Fld) (h : src < 640) (hf : f.hi < 32) (ha : f.addr / 0x1_0000 ≠ 2) :
    (s.raise src c d).get f = s.get f := ((raise_only s src c d h).2 f hf ha (by simp)).1

theorem State.raise_flag (s : State) (src c d : Nat) (f : Fld) (h : src < 640) (hf : f.hi < 32) (ha : f.addr / 0x1_0000 ≠ 2) :
    (s.raise src c d).flag f = s.flag f := by
  rw [State.flag, State.flag, State.raise_get s src c d f h hf ha]

/-! ### The pending bit -/

theorem pendKept_put (s : State) (f : Fld) (v src : Nat) (h : f.addr ≠ (evtPend src).addr) :
    (s.put f v).flag (evtPend src) = s.flag (evtPend src) := by
  refine State.flag_put_apart s f _ v ?_ (Or.inl h)
  simp only [evtPend]; omega

theorem vecTrigger_flag (s : State) (v src : Nat) (hv : v < 512) (hs : src < 640) :
    (s.vecTrigger v).flag (evtPend src) = s.flag (evtPend src) := by
  rw [State.vecTrigger]
  split
  · rfl
  · split
    · refine pendKept_put s _ _ src ?_
      simp only [pbaBit, evtPend, EVT_MSIX_PBA.addr, EVT_PEND.addr]; omega
    · split
      · split <;> rfl
      · rw [State.msixSend]; split <;> rfl

theorem logLose_flag (s : State) (a ep t src : Nat) (hs : src < 640) :
    (s.logLose a ep t).flag (evtPend src) = s.flag (evtPend src) := by
  have hb : (s.bump EVT_LOG_CNT.LOST).flag (evtPend src) = s.flag (evtPend src) := by
    refine pendKept_put s _ _ src ?_
    simp only [evtPend, EVT_PEND.addr, EVT_LOG_CNT.LOST, EVT_LOG_CNT.addr]; omega
  rw [State.logLose, ← hb]
  split
  · rfl
  · split
    · rfl
    · split <;> rfl

theorem logYield_flag {s t : State} {a src : Nat} (hs : src < 640) (h : s.logYield a = some t) :
    t.flag (evtPend src) = s.flag (evtPend src) := by
  rw [State.logYield] at h
  split at h
  · split at h
    · exact Option.some.inj h ▸ logLose_flag _ _ _ _ _ hs
    · nomatch h
  · nomatch h

theorem logOffer_flag (s : State) (a c d src : Nat) (hs : src < 640) :
    (s.logOffer a c d).flag (evtPend src) = s.flag (evtPend src) := by
  rw [State.logOffer]
  split
  · rfl
  · split
    · next _ h => have e := logYield_flag hs h; exact e
    · exact logLose_flag _ _ _ _ _ hs

theorem takeFirst_flag (s : State) (a c src : Nat) (hs : src < 640) :
    (s.takeFirst a c).flag (evtPend src) = s.flag (evtPend src) := by
  have hk := evtClass_lt a
  have hp : ∀ (u : State) (v : Nat) (f : Fld), f.addr = EVT_FIRST_SRC.addr (evtClass a) ∨ f.addr = EVT_FIRST_EP.addr (evtClass a) →
      (u.put f v).flag (evtPend src) = u.flag (evtPend src) := by
    intro u v f hf
    refine pendKept_put u f v src ?_
    rcases hf with hf | hf <;> rw [hf] <;> simp only [evtPend, EVT_PEND.addr, EVT_FIRST_SRC.addr, EVT_FIRST_EP.addr] <;> omega
  have hf : ∀ e : Nat, (s.putFirst a c e).flag (evtPend src) = s.flag (evtPend src) := by
    intro e
    rw [State.putFirst, hp _ _ _ (Or.inr rfl), hp _ _ _ (Or.inl rfl), hp _ _ _ (Or.inl rfl), State.putB, hp _ _ _ (Or.inl rfl)]
  rw [State.takeFirst]
  split
  · exact hf _
  · split
    · exact hf _
    · rfl

/-- A source that has been raised is pending. -/
theorem raiseAlways_pend (s : State) (src c d : Nat) (h : src < 640) : (s.raiseAlways src c d).flag (evtPend src) = true := by
  have h1 : ∀ u : State, (u.putB (evtPend src) true).flag (evtPend src) = true := fun u =>
    State.flag_putB_self u _ _ (by simp only [evtPend]; omega) rfl
  have hv : ∀ u : State, u.get (EVT_SRC.VEC src) < 512 := fun u =>
    Nat.lt_of_lt_of_le (State.get_lt _ (EVT_SRC.VEC src)) (Nat.le_refl 512)
  have key : ∀ (p : Prop) [Decidable p] (x y : State), x.flag (evtPend src) = true → y.flag (evtPend src) = true →
      (if p then x else y).flag (evtPend src) = true := by
    intro p _ x y hx hy; split <;> assumption
  have hl : ∀ u : State, (((u.takeFirst src c).noteRaise src c).logOffer src c d).flag (evtPend src) = u.flag (evtPend src) :=
    fun u => (logOffer_flag _ _ _ _ _ h).trans (takeFirst_flag u src c src h)
  rw [State.raiseAlways]
  refine key _ _ _ ((hl _).trans (h1 _)) (key _ _ _ ?_ ?_)
  · exact (vecTrigger_flag _ _ _ (hv _) h).trans ((hl _).trans (h1 _))
  · exact (vecTrigger_flag _ _ _ (hv _) h).trans ((hl _).trans (h1 _))

theorem State.coalesce_domOn (s : State) (d : Nat) : s.coalesce.domOn d = s.domOn d := by
  have h := evOnly_coalesce s
  rw [State.domOn, State.domOn]
  split
  · have h1 : s.coalesce.flag (domBit d) = s.flag (domBit d) := by
      rw [State.flag, State.flag, (h.2 (domBit d) (by simp only [domBit]; omega)
        (by simp only [domBit, PWR_DOM_ON.addr]; omega) (by simp)).1]
    rw [h1, congrArg State.pwr h.1]
  · rw [congrArg State.dev h.1]

/-- An event of a source whose unit is On leaves the source pending. -/
theorem raise_pend (s : State) (src c d : Nat) (h : src < 640) (hd : s.domOn (evtDomain src) = true) :
    (s.raise src c d).flag (evtPend src) = true := by
  rw [State.raise, if_pos hd]; exact raiseAlways_pend _ _ _ _ h

end Sys2Proof.Machine
end

