-- ==== Sys2Proof/Laws/Memory.lean ====
section
/-! SUPPORT. Laws of the byte memories: every operation keeps the canonical form; a byte reads as what was written, and a
write leaves every other byte. -/

namespace Sys2Proof.Machine

/-! ### Lists of cells -/

theorem cellsRising_mono {lo lo' : Nat} (h : lo' ≤ lo) : ∀ {l : List Host.Cell}, cellsRising lo l = true → cellsRising lo' l = true
  | [], _ => rfl
  | c :: r, hl => by
    simp only [cellsRising, Bool.and_eq_true, decide_eq_true_eq] at hl ⊢
    exact ⟨Nat.le_trans h hl.1, hl.2⟩

theorem cellsRising_filter (p : Host.Cell → Bool) : ∀ (l : List Host.Cell) (lo : Nat), cellsRising lo l = true →
    cellsRising lo (l.filter p) = true
  | [], _, _ => rfl
  | c :: r, lo, h => by
    simp only [cellsRising, Bool.and_eq_true, decide_eq_true_eq] at h
    have ih := cellsRising_filter p r (c.1 + 1) h.2
    rw [List.filter_cons]
    split
    · simp only [cellsRising, Bool.and_eq_true, decide_eq_true_eq]; exact ⟨h.1, ih⟩
    · exact cellsRising_mono (by omega) ih

theorem cellsRising_ins (a : Nat) (b : Byte) : ∀ (l : List Host.Cell) (lo : Nat), lo ≤ a → (∀ c ∈ l, c.1 ≠ a) →
    cellsRising lo l = true → cellsRising lo (cellIns a b l) = true
  | [], lo, hlo, _, _ => by simp [cellIns, cellsRising, hlo]
  | c :: r, lo, hlo, hn, h => by
    simp only [cellsRising, Bool.and_eq_true, decide_eq_true_eq] at h
    rw [cellIns]
    split
    · rename_i hl
      simp only [cellsRising, Bool.and_eq_true, decide_eq_true_eq]
      exact ⟨hlo, by omega, h.2⟩
    · rename_i hl
      have hc : c.1 ≠ a := hn c (by simp)
      simp only [cellsRising, Bool.and_eq_true, decide_eq_true_eq]
      exact ⟨h.1, cellsRising_ins a b r (c.1 + 1) (by omega) (fun d hd => hn d (by simp [hd])) h.2⟩

theorem mem_cellIns {a : Nat} {b : Byte} {c : Host.Cell} : ∀ {l : List Host.Cell}, c ∈ cellIns a b l → c = (a, b) ∨ c ∈ l
  | [], h => by simpa [cellIns] using h
  | d :: r, h => by
    rw [cellIns] at h
    split at h
    · simpa using h
    · rcases List.mem_cons.mp h with h | h
      · exact Or.inr (by simp [h])
      · rcases mem_cellIns h with h | h
        · exact Or.inl h
        · exact Or.inr (by simp [h])

theorem find_cellIns_self (a : Nat) (b : Byte) : ∀ (l : List Host.Cell), (∀ c ∈ l, c.1 ≠ a) →
    (cellIns a b l).find? (fun c => c.1 == a) = some (a, b)
  | [], _ => by simp [cellIns]
  | c :: r, h => by
    have hc : c.1 ≠ a := h c (by simp)
    rw [cellIns]
    split
    · simp
    · simp [hc, find_cellIns_self a b r (fun d hd => h d (by simp [hd]))]

theorem find_cellIns_other (a x : Nat) (b : Byte) (hx : x ≠ a) : ∀ (l : List Host.Cell),
    (cellIns a b l).find? (fun c => c.1 == x) = l.find? (fun c => c.1 == x)
  | [] => by simp [cellIns]; omega
  | c :: r => by
    have hk : (a == x) = false := by simp; omega
    rw [cellIns]
    split
    · simp [List.find?_cons, hk]
    · simp only [List.find?_cons, find_cellIns_other a x b hx r]

theorem find_cells_filter_other (a x : Nat) (hx : x ≠ a) : ∀ (l : List Host.Cell),
    (l.filter (fun c => c.1 != a)).find? (fun c => c.1 == x) = l.find? (fun c => c.1 == x)
  | [] => rfl
  | c :: r => by
    have ih := find_cells_filter_other a x hx r
    by_cases hc : c.1 = a
    · have h1 : (c.1 == x) = false := by simp [hc]; omega
      rw [List.filter_cons, show (c.1 != a) = false by simp [hc], List.find?_cons, h1]
      exact ih
    · simp only [List.filter_cons, show (c.1 != a) = true by simp [hc], if_true, List.find?_cons, ih]

/-! ### The canonical form -/

theorem Mem.wf_iff (m : Mem) : m.wf = true ↔ cellsRising 0 m.cells = true ∧
    ∀ c ∈ m.cells, (c.2 != 0 || (m.undefAt c.1).isSome) = true := by
  rw [Mem.wf, Bool.and_eq_true, List.all_eq_true]

theorem Mem.write_undef (m : Mem) (a : Nat) (b : Byte) : (m.write a b).undef = m.undef := by
  rw [Mem.write]; split <;> rfl

theorem Mem.write_wf (m : Mem) (a : Nat) (b : Byte) (h : m.wf = true) : (m.write a b).wf = true := by
  rw [Mem.wf_iff] at h
  have hr := cellsRising_filter (fun c => c.1 != a) m.cells 0 h.1
  have hn : ∀ c ∈ m.cells.filter (fun c => c.1 != a), c.1 ≠ a := fun c hc => by simpa using (List.mem_filter.mp hc).2
  have hk : ∀ c ∈ m.cells.filter (fun c => c.1 != a), (c.2 != 0 || (m.undefAt c.1).isSome) = true := fun c hc =>
    h.2 c (List.mem_filter.mp hc).1
  rw [Mem.write]
  split
  · exact (Mem.wf_iff _).mpr ⟨hr, hk⟩
  · rename_i hz
    refine (Mem.wf_iff _).mpr ⟨cellsRising_ins a b _ 0 (Nat.zero_le _) hn hr, fun c hc => ?_⟩
    rcases mem_cellIns hc with hc | hc
    · rw [hc]
      show (b != 0 || (m.undefAt a).isSome) = true
      by_cases hb : b = 0
      · have : ¬ (m.undefAt a).isNone = true := fun hu => hz ⟨hb, hu⟩
        cases hu : m.undefAt a <;> simp_all
      · have : (b != 0) = true := by simpa using hb
        rw [this]; rfl
    · exact hk c hc

theorem Mem.writeList_wf : ∀ (l : List Byte) (m : Mem) (a : Nat), m.wf = true → (m.writeList a l).wf = true
  | [], _, _, h => h
  | b :: r, m, a, h => Mem.writeList_wf r (m.write a b) (a + 1) (Mem.write_wf m a b h)

theorem Mem.forget_wf (m : Mem) (lo hi gen : Nat) (h : m.wf = true) : (m.forget lo hi gen).wf = true := by
  rw [Mem.wf_iff] at h ⊢
  refine ⟨cellsRising_filter _ _ _ h.1, fun c hc => ?_⟩
  have hc' := h.2 c (List.mem_filter.mp hc).1
  simp only [Mem.undefAt, Mem.forget, List.find?_cons] at hc' ⊢
  split
  · simp
  · exact hc'

theorem find_without (us : List Undef) (lo hi a : Nat) (ha : ¬ (lo ≤ a ∧ a < hi)) :
    ((us.flatMap (fun u => u.without lo hi)).find? (fun u => decide (u.lo ≤ a) && decide (a < u.hi))).isSome =
      (us.find? (fun u => decide (u.lo ≤ a) && decide (a < u.hi))).isSome := by
  rw [Bool.eq_iff_iff, List.find?_isSome, List.find?_isSome]
  constructor
  · rintro ⟨v, hv, hp⟩
    obtain ⟨u, hu, hv⟩ := List.mem_flatMap.mp hv
    refine ⟨u, hu, ?_⟩
    simp only [Undef.without, List.mem_filter, List.mem_cons, List.not_mem_nil, or_false] at hv
    simp only [Bool.and_eq_true, decide_eq_true_eq] at hp ⊢
    rcases hv.1 with rfl | rfl <;> simp only at hp <;> omega
  · rintro ⟨u, hu, hp⟩
    simp only [Bool.and_eq_true, decide_eq_true_eq] at hp
    by_cases hl : a < lo
    · refine ⟨⟨u.lo, min u.hi lo, u.gen⟩, List.mem_flatMap.mpr ⟨u, hu, ?_⟩, ?_⟩
      · simp only [Undef.without, List.mem_filter, List.mem_cons, true_or, true_and, decide_eq_true_eq]; omega
      · simp only [Bool.and_eq_true, decide_eq_true_eq]; omega
    · refine ⟨⟨max u.lo hi, u.hi, u.gen⟩, List.mem_flatMap.mpr ⟨u, hu, ?_⟩, ?_⟩
      · simp only [Undef.without, List.mem_filter, List.mem_cons, or_true, true_and, true_or, decide_eq_true_eq]; omega
      · simp only [Bool.and_eq_true, decide_eq_true_eq]; omega

theorem Mem.zero_wf (m : Mem) (lo hi : Nat) (h : m.wf = true) : (m.zero lo hi).wf = true := by
  rw [Mem.wf_iff] at h ⊢
  refine ⟨cellsRising_filter _ _ _ h.1, fun c hc => ?_⟩
  have hm := List.mem_filter.mp hc
  have hc' := h.2 c hm.1
  have ha : ¬ (lo ≤ c.1 ∧ c.1 < hi) := by
    have := hm.2
    simp at this
    omega
  have e : ((m.zero lo hi).undefAt c.1).isSome = (m.undefAt c.1).isSome := find_without m.undef lo hi c.1 ha
  rw [e]; exact hc'

/-! ### Read after write -/

theorem Mem.read_write_self (m : Mem) (a : Nat) (b : Byte) : (m.write a b).read a = b := by
  have hn : ∀ c ∈ m.cells.filter (fun c => c.1 != a), c.1 ≠ a := fun c hc => by simpa using (List.mem_filter.mp hc).2
  have hf : (m.cells.filter (fun c => c.1 != a)).find? (fun c => c.1 == a) = none := by
    rw [List.find?_eq_none]; intro c hc; simpa using hn c hc
  rw [Mem.write]
  split
  · rename_i hz
    simp only [Mem.read, hf, Mem.blank]
    show (match m.undefAt a with | some u => Config.freeByte u.gen a | none => 0) = b
    rw [show m.undefAt a = none by simpa using hz.2, hz.1]
  · simp only [Mem.read, find_cellIns_self a b _ hn]

theorem Mem.read_write_other (m : Mem) (a x : Nat) (b : Byte) (h : x ≠ a) : (m.write a b).read x = m.read x := by
  rw [Mem.write]
  split
  · simp only [Mem.read, find_cells_filter_other a x h]; rfl
  · simp only [Mem.read, find_cellIns_other a x b h, find_cells_filter_other a x h]; rfl

theorem Mem.read_writeList_outside : ∀ (l : List Byte) (m : Mem) (a x : Nat), (x < a ∨ a + l.length ≤ x) →
    (m.writeList a l).read x = m.read x
  | [], _, _, _, _ => rfl
  | b :: r, m, a, x, h => by
    rw [Mem.writeList, Mem.read_writeList_outside r (m.write a b) (a + 1) x (by simp at h; omega),
      Mem.read_write_other m a x b (by simp at h; omega)]

theorem Mem.read_writeList_inside : ∀ (l : List Byte) (m : Mem) (a i : Nat) (h : i < l.length),
    (m.writeList a l).read (a + i) = l[i]
  | b :: r, m, a, 0, _ => by
    rw [Mem.writeList, Mem.read_writeList_outside r (m.write a b) (a + 1) (a + 0) (by omega)]
    exact Mem.read_write_self m a b
  | b :: r, m, a, i + 1, h => by
    have := Mem.read_writeList_inside r (m.write a b) (a + 1) i (by simpa using h)
    rw [Mem.writeList, show a + (i + 1) = a + 1 + i by omega, this]; rfl

end Sys2Proof.Machine
end

