-- ==== Sys2Proof/Laws/Keeps.lean ====
section
/-! SUPPORT. What no operation of the part undoes: the queue stays as it is, time does not move within a command, memories keep
their canonical form, and fuses keep every burned bit. `Keeps s t` says so of a state `t` reached from `s`; the files KeepsOps
and KeepsExec show it of every operation and every command. -/

namespace Sys2Proof

open Sys2Proof.Machine

theorem FusesKept.refl (f : Fuses) : FusesKept f f := ⟨rfl, rfl, rfl, fun _ _ => ⟨id, id⟩⟩

theorem FusesKept.of {f g : Fuses} (h1 : g.unitId = f.unitId) (h2 : g.grade = f.grade) (h3 : g.factOk = f.factOk)
    (h : ∀ id, g.field id = f.field id) : FusesKept f g :=
  ⟨h1, h2, h3, fun id _ => ⟨fun x => by rw [h]; exact x, fun x => by rw [h]; exact x⟩⟩

theorem FusesKept.trans {f g h : Fuses} (a : FusesKept f g) (b : FusesKept g h) : FusesKept f h :=
  ⟨b.1.trans a.1, b.2.1.trans a.2.1, b.2.2.1.trans a.2.2.1, fun id i =>
    ⟨fun x => (b.2.2.2 id i).1 ((a.2.2.2 id i).1 x), fun x => (b.2.2.2 id i).2 ((a.2.2.2 id i).2 x)⟩⟩

end Sys2Proof

namespace Sys2Proof.Machine

/-- What `t` keeps of `s`. -/
structure Keeps (s t : State) : Prop where
  pending : t.pending = s.pending
  now : t.now = s.now
  dram : s.dram.wf = true → t.dram.wf = true
  spd : s.spd.wf = true → t.spd.wf = true
  fuse : FusesKept s.fuse t.fuse

theorem Keeps.refl (s : State) : Keeps s s := ⟨rfl, rfl, id, id, .refl _⟩

theorem Keeps.trans {s t u : State} (a : Keeps s t) (b : Keeps t u) : Keeps s u :=
  ⟨b.pending.trans a.pending, b.now.trans a.now, fun x => b.dram (a.dram x), fun x => b.spd (a.spd x), a.fuse.trans b.fuse⟩

/-- A state that differs from `s` in none of the fields concerned. -/
theorem Keeps.upd {s0 s t : State} (h : Keeps s0 s) (h1 : t.pending = s.pending := by rfl) (h2 : t.now = s.now := by rfl)
    (h3 : t.dram = s.dram := by rfl) (h4 : t.spd = s.spd := by rfl) (h5 : t.fuse = s.fuse := by rfl) : Keeps s0 t :=
  h.trans ⟨h1, h2, fun x => h3 ▸ x, fun x => h4 ▸ x, h5 ▸ .refl _⟩

theorem Keeps.ite {s0 t u : State} {p : Prop} [Decidable p] (h1 : Keeps s0 t) (h2 : Keeps s0 u) :
    Keeps s0 (if p then t else u) := by
  split <;> assumption

theorem Keeps.pair {α : Type} {s0 : State} {p : Prop} [Decidable p] {a b : α × State} (ha : Keeps s0 a.2) (hb : Keeps s0 b.2) :
    Keeps s0 (if p then a else b).2 := by
  split <;> assumption

theorem Keeps.each {α : Type} {s0 : State} {f : State → α → State} (hf : ∀ x a, Keeps s0 x → Keeps s0 (f x a)) :
    ∀ {l : List α} {s : State}, Keeps s0 s → Keeps s0 (s.each l f)
  | [], _, h => h
  | a :: r, s, h => Keeps.each hf (l := r) (s := f s a) (hf s a h)

theorem Keeps.foldl {α : Type} {s0 : State} {f : State → α → State} (hf : ∀ x a, Keeps s0 x → Keeps s0 (f x a))
    {l : List α} {s : State} (h : Keeps s0 s) : Keeps s0 (l.foldl f s) := Keeps.each hf h

end Sys2Proof.Machine
end

