-- ==== Sys2Proof/Laws/KeepsOps.lean ====
section
/-! SUPPORT. Of every operation of the machine: what it keeps (Keeps). One lemma per operation. -/

namespace Sys2Proof.Machine

set_option linter.unusedVariables false
set_option Elab.async false

theorem State.setWord_keeps {s0 : State} {s : State} {a1 : Nat} {a2 : Word} (h : Keeps s0 s) : Keeps s0 (State.setWord s a1
    a2) := by
  unfold State.setWord
  exact (.upd h)
theorem State.put_keeps {s0 : State} {s : State} {a1 : Fld} {a2 : Nat} (h : Keeps s0 s) : Keeps s0 (State.put s a1 a2) := by
  unfold State.put
  exact (.upd h)
theorem State.putB_keeps {s0 : State} {s : State} {a1 : Fld} {a2 : Bool} (h : Keeps s0 s) : Keeps s0 (State.putB s a1 a2) := by
  unfold State.putB
  exact (State.put_keeps h)
theorem State.hwUp_keeps {s0 : State} {s : State} {a1 : Fld} (h : Keeps s0 s) : Keeps s0 (State.hwUp s a1) := by
  unfold State.hwUp
  lift_lets
  intro x0
  have h0 : Keeps s0 x0 := (State.putB_keeps h)
  clear_value x0
  exact (.upd h0)
theorem State.putI_keeps {s0 : State} {s : State} {a1 : Fld} {a2 : Int} (h : Keeps s0 s) : Keeps s0 (State.putI s a1 a2) := by
  unfold State.putI
  exact (State.put_keeps h)
theorem State.addSat_keeps {s0 : State} {s : State} {a1 : Fld} {a2 : Nat} (h : Keeps s0 s) : Keeps s0 (State.addSat s a1 a2) := by
  unfold State.addSat
  exact (State.put_keeps h)
theorem State.bump_keeps {s0 : State} {s : State} {a1 : Fld} (h : Keeps s0 s) : Keeps s0 (State.bump s a1) := by
  unfold State.bump
  exact (State.addSat_keeps h)
theorem State.bumpWrap_keeps {s0 : State} {s : State} {a1 : Fld} (h : Keeps s0 s) : Keeps s0 (State.bumpWrap s a1) := by
  unfold State.bumpWrap
  exact (State.put_keeps h)
theorem hostReg_keeps {s0 s : State} {a : Nat} {f : State → State} (hf : ∀ x, Keeps s0 x → Keeps s0 (f x)) (h : Keeps s0 s) :
    Keeps s0 (s.hostReg a f) := by
  have ht : Keeps s0 (s.touch a) := .upd h
  exact .ite h (.ite (hf _ ht) (.upd ht))
theorem State.emit_keeps {s0 : State} {s : State} {a1 : Output} (h : Keeps s0 s) : Keeps s0 (State.emit s a1) := by
  unfold State.emit
  exact (.upd h)
theorem State.touch_keeps {s0 : State} {s : State} {a1 : Nat} (h : Keeps s0 s) : Keeps s0 (State.touch s a1) := by
  unfold State.touch
  exact (.upd h)
theorem State.keepMem_keeps {s0 : State} {s : State} (h : Keeps s0 s) : Keeps s0 (State.keepMem s) := by
  unfold State.keepMem
  exact (.ite h (.upd h))
theorem State.restoreMem_keeps {s0 : State} {s : State} (h : Keeps s0 s) : Keeps s0 (State.restoreMem s) := by
  unfold State.restoreMem
  lift_lets
  intro x0 x1
  have h1 : Keeps s0 x1 := (.upd h)
  exact (.ite h (.each (fun _ _ h3 => (by
    lift_lets
    intro x4
    exact (State.setWord_keeps h3))) h1))
theorem dramWrite_cells_wf (m0 : Mem) (g : Nat → Bool) (f : Nat → Nat) (v : Nat → Byte) (h : m0.wf = true) : ∀ l : List Nat,
    (l.foldl (fun m i => if g i then m else m.write (f i) (v i)) m0).wf = true := by
  intro l
  induction l generalizing m0 with
  | nil => exact h
  | cons i r ih =>
    refine ih _ ?_
    dsimp only
    split
    · exact h
    · exact Mem.write_wf _ _ _ h
theorem State.dramWrite_keeps {s0 s : State} {a : Nat} {l : List Byte} (h : Keeps s0 s) : Keeps s0 (s.dramWrite a l) :=
  h.trans ⟨rfl, rfl, fun hd => dramWrite_cells_wf _ _ _ _ hd _, id, .refl _⟩
theorem State.dramZero_keeps {s0 s : State} {lo hi : Nat} (h : Keeps s0 s) : Keeps s0 (s.dramZero lo hi) :=
  h.trans ⟨rfl, rfl, fun hd => Mem.zero_wf _ _ _ hd, id, .refl _⟩
theorem State.fresh_keeps {s0 s : State} (h : Keeps s0 s) : Keeps s0 s.fresh.2 := .upd h
theorem State.msixSend_keeps {s0 : State} {s : State} {a1 : Nat} (h : Keeps s0 s) : Keeps s0 (State.msixSend s a1) := by
  unfold State.msixSend
  lift_lets
  intro x0
  have h0 : Keeps s0 x0 := (State.emit_keeps h)
  clear_value x0
  intro x2
  exact (.ite h0 (.upd h0))
theorem State.vecTrigger_keeps {s0 : State} {s : State} {a1 : Nat} (h : Keeps s0 s) : Keeps s0 (State.vecTrigger s a1) := by
  unfold State.vecTrigger
  exact (.ite h (.ite (State.putB_keeps h) (.ite (.ite h (.upd h)) (State.msixSend_keeps h))))
theorem State.logLose_keeps {s0 : State} {s : State} {a1 : Nat} {a2 : Nat} {a3 : Nat} (h : Keeps s0 s) : Keeps s0
    (State.logLose s a1 a2 a3) := by
  unfold State.logLose
  lift_lets
  intro x0
  have h0 : Keeps s0 x0 := (State.bump_keeps h)
  clear_value x0
  intro x2
  clear_value x2
  exact (.ite (.upd h0) (.ite (.upd h0) (by
    split
    · exact (.upd h0)
    · exact (.upd h0))))
theorem State.coalFlush_keeps {s0 : State} {s : State} (h : Keeps s0 s) : Keeps s0 (State.coalFlush s) := by
  unfold State.coalFlush
  exact (.upd h)
theorem State.logYield_keeps {s0 s t : State} {src : Nat} (h : Keeps s0 s) (e : s.logYield src = some t) : Keeps s0 t := by
  unfold State.logYield at e
  split at e
  · split at e
    · exact Option.some.inj e ▸ State.logLose_keeps (.upd h)
    · nomatch e
  · nomatch e
theorem State.logOffer_keeps {s0 s : State} {src cause detail : Nat} (h : Keeps s0 s) :
    Keeps s0 (s.logOffer src cause detail) := by
  unfold State.logOffer
  refine .ite (.upd h) ?_
  split
  · next _ e => exact .upd (State.logYield_keeps h e)
  · exact State.logLose_keeps h
theorem State.putFirst_keeps {s0 : State} {s : State} {a1 : Nat} {a2 : Nat} {a3 : Nat} (h : Keeps s0 s) : Keeps s0
    (State.putFirst s a1 a2 a3) := by
  unfold State.putFirst
  lift_lets
  intro x0
  exact (State.put_keeps (State.put_keeps (State.put_keeps (State.putB_keeps h))))
theorem State.takeFirst_keeps {s0 : State} {s : State} {a1 : Nat} {a2 : Nat} (h : Keeps s0 s) : Keeps s0 (State.takeFirst s
    a1 a2) := by
  unfold State.takeFirst
  lift_lets
  intro x0 x1
  have h1 : Keeps s0 x1 := (State.putFirst_keeps h)
  clear_value x1
  intro x3
  exact (.ite (.upd h1) (.ite (State.putFirst_keeps h) h))
theorem State.noteRaise_keeps {s0 : State} {s : State} {a1 : Nat} {a2 : Nat} (h : Keeps s0 s) : Keeps s0 (State.noteRaise s
    a1 a2) := by
  unfold State.noteRaise
  exact (.upd h)
theorem State.raiseAlways_keeps {s0 : State} {s : State} {a1 : Nat} {a2 : Nat} {a3 : Nat} (h : Keeps s0 s) : Keeps s0
    (State.raiseAlways s a1 a2 a3) := by
  unfold State.raiseAlways
  lift_lets
  intro x0
  have h0 : Keeps s0 x0 := (State.bump_keeps h)
  intro x2 x3
  have h3 : Keeps s0 x3 := (State.putB_keeps h0)
  intro x5
  have h5 : Keeps s0 x5 := (State.logOffer_keeps (State.noteRaise_keeps (State.takeFirst_keeps h3)))
  intro x7
  have h7 : Keeps s0 x7 := (State.vecTrigger_keeps h5)
  clear_value x7
  intro x9
  exact (.ite h5 (.ite (.upd h7) h7))
theorem State.coalesce_keeps {s0 : State} {s : State} (h : Keeps s0 s) : Keeps s0 (State.coalesce s) := by
  unfold State.coalesce
  exact (.ite (State.raiseAlways_keeps (State.coalFlush_keeps h)) h)
theorem State.raise_keeps {s0 : State} {s : State} {a1 : Nat} {a2 : Nat} {a3 : Nat} (h : Keeps s0 s) : Keeps s0 (State.raise
    s a1 a2 a3) := by
  unfold State.raise
  exact (.ite (State.raiseAlways_keeps (State.coalesce_keeps h)) h)
theorem State.raiseTile_keeps {s0 : State} {s : State} {a1 : Nat} {a2 : Nat} {a3 : Nat} {a4 : Nat} (h : Keeps s0 s) : Keeps
    s0 (State.raiseTile s a1 a2 a3 a4) := by
  unfold State.raiseTile
  exact (State.raise_keeps h)
theorem State.memUncorrectable_keeps {s0 : State} {s : State} {a1 : Nat} {a2 : Nat} (h : Keeps s0 s) : Keeps s0
    (State.memUncorrectable s a1 a2) := by
  unfold State.memUncorrectable
  lift_lets
  intro x0 x1
  have h1 : Keeps s0 x1 := (.ite h (.upd h))
  intro x3
  have h3 : Keeps s0 x3 := (State.bump_keeps h1)
  intro x5
  have h5 : Keeps s0 x5 := (State.put_keeps h3)
  intro x7
  have h7 : Keeps s0 x7 := (State.put_keeps h5)
  exact (State.raise_keeps h7)
theorem State.touchBursts_keeps {s0 : State} {s : State} {a1 : List Nat} (h : Keeps s0 s) : Keeps s0 (State.touchBursts s
    a1) := by
  unfold State.touchBursts
  exact (.each (fun _ _ h0 => (State.memUncorrectable_keeps h0)) h)
theorem State.dramPut_keeps {s0 : State} {s : State} {a1 : Nat} {a2 : List Byte} (h : Keeps s0 s) : Keeps s0 (State.dramPut
    s a1 a2) := by
  unfold State.dramPut
  exact (State.touchBursts_keeps (State.dramWrite_keeps h))
theorem State.logDrain_keeps {s0 : State} {s : State} (h : Keeps s0 s) : Keeps s0 (State.logDrain s) := by
  unfold State.logDrain
  exact (.ite (by
    split
    · exact h
    · exact (by
        lift_lets
        intro x1 x2 x3
        have h3 : Keeps s0 x3 := (State.dramPut_keeps h)
        intro x5
        have h5 : Keeps s0 x5 := (State.put_keeps h3)
        clear_value x5
        intro x7
        exact (.upd h5))) h)
theorem State.claim_keeps {s0 : State} {s : State} {a1 : Nat} {a2 : Nat} (h : Keeps s0 s) : Keeps s0 (State.claim s a1 a2) := by
  unfold State.claim
  split
  · exact h
  · exact (.upd h)
theorem State.refuseClaim_keeps {s0 : State} {s : State} {a1 : Nat} (h : Keeps s0 s) : Keeps s0 (State.refuseClaim s a1) := by
  unfold State.refuseClaim
  exact (State.raise_keeps (State.put_keeps (State.bump_keeps h)))
theorem State.incomplete_keeps {s0 : State} {s : State} (h : Keeps s0 s) : Keeps s0 (State.incomplete s) := by
  unfold State.incomplete
  lift_lets
  intro x0
  have h0 : Keeps s0 x0 := (State.putB_keeps h)
  clear_value x0
  exact (.ite h0 (State.raise_keeps (State.bump_keeps (.upd h0))))
theorem State.acqOverrun_keeps {s0 : State} {s : State} (h : Keeps s0 s) : Keeps s0 (State.acqOverrun s) := by
  unfold State.acqOverrun
  exact (State.incomplete_keeps (State.putB_keeps h))
theorem State.extOverrun_keeps {s0 : State} {s : State} (h : Keeps s0 s) : Keeps s0 (State.extOverrun s) := by
  unfold State.extOverrun
  exact (State.incomplete_keeps (State.putB_keeps h))
theorem State.selOverrun_keeps {s0 : State} {s : State} (h : Keeps s0 s) : Keeps s0 (State.selOverrun s) := by
  unfold State.selOverrun
  exact (State.incomplete_keeps (State.putB_keeps h))
theorem State.diagOverrun_keeps {s0 : State} {s : State} (h : Keeps s0 s) : Keeps s0 (State.diagOverrun s) := by
  unfold State.diagOverrun
  lift_lets
  intro x0
  have h0 : Keeps s0 x0 := (State.incomplete_keeps (State.putB_keeps h))
  exact (.ite (State.putB_keeps h0) h0)
theorem State.dataOverrun_keeps {s0 : State} {s : State} (h : Keeps s0 s) : Keeps s0 (State.dataOverrun s) := by
  unfold State.dataOverrun
  lift_lets
  intro x0
  have h0 : Keeps s0 x0 := (State.putB_keeps h)
  clear_value x0
  exact (.ite h0 (State.raise_keeps (State.bump_keeps (.upd h0))))
theorem State.showStall_keeps {s0 : State} {s : State} (h : Keeps s0 s) : Keeps s0 (State.showStall s) := by
  unfold State.showStall
  exact (State.putB_keeps h)
theorem State.cplPut_keeps {s0 : State} {s : State} {a1 : Completion} (h : Keeps s0 s) : Keeps s0 (State.cplPut s a1) := by
  unfold State.cplPut
  lift_lets
  intro x0 x1 x2
  have h2 : Keeps s0 x2 := (.each (fun _ _ h3 => (State.put_keeps h3)) h)
  exact (State.raise_keeps (State.showStall_keeps (State.put_keeps h2)))
theorem State.cplDue_keeps {s0 : State} {s : State} {a1 : Completion} (h : Keeps s0 s) : Keeps s0 (State.cplDue s a1) := by
  unfold State.cplDue
  exact (.ite (.upd h) (State.cplPut_keeps h))
theorem State.cplRelease_keeps {s0 : State} : ∀ {n : Nat} {s : State}, Keeps s0 s → Keeps s0 (State.cplRelease n s)
  | 0, _, h => h
  | n + 1, s, h => by
    unfold State.cplRelease
    split
    · exact h
    · exact .ite h (State.cplRelease_keeps (State.cplPut_keeps (.upd h)))
theorem State.complete_keeps {s0 : State} {s : State} {a1 : RunCmd} {a2 : Nat} {a3 : Nat} (h : Keeps s0 s) : Keeps s0
    (State.complete s a1 a2 a3) := by
  unfold State.complete
  exact (.ite (State.cplDue_keeps h) h)
theorem State.completeAll_keeps {s0 : State} {s : State} {a1 : RunCmd → Bool} {a2 : Nat} {a3 : Nat} (h : Keeps s0 s) : Keeps
    s0 (State.completeAll s a1 a2 a3) := by
  unfold State.completeAll
  lift_lets
  intro x0 x1
  have h1 : Keeps s0 x1 := (.upd h)
  exact (.each (fun _ _ h3 => (State.complete_keeps h3)) h1)
theorem State.ringTake_keeps {s0 : State} {s : State} (h : Keeps s0 s) : Keeps s0 (State.ringTake s) := by
  unfold State.ringTake
  exact (State.put_keeps h)
theorem State.cmdRefuse_keeps {s0 : State} {s : State} {a1 : RunCmd} {a2 : Nat} (h : Keeps s0 s) : Keeps s0 (State.cmdRefuse
    s a1 a2) := by
  unfold State.cmdRefuse
  lift_lets
  intro x0
  have h0 : Keeps s0 x0 := (.ite (State.raise_keeps (State.bump_keeps h)) h)
  exact (State.complete_keeps h0)
theorem ringCmd_keeps {s0 s : State} {op : Nat} {w : CmdWait} {f : RunCmd → Nat → State → State}
    (hf : ∀ c a x, Keeps s0 x → Keeps s0 (f c a x)) (h : Keeps s0 s) : Keeps s0 (s.ringCmd op w f) := by
  unfold State.ringCmd
  refine .ite h ?_
  lift_lets
  intro c arg x
  have hx : Keeps s0 x := State.ringTake_keeps h
  split
  · exact State.cmdRefuse_keeps hx
  · exact hf _ _ _ hx
theorem State.startCmd_keeps {s0 : State} {s : State} {a1 : RunCmd} (h : Keeps s0 s) : Keeps s0 (State.startCmd s a1) := by
  unfold State.startCmd
  exact (.upd h)
theorem State.leftState_keeps {s0 : State} {s : State} (h : Keeps s0 s) : Keeps s0 (State.leftState s) := by
  unfold State.leftState
  lift_lets
  intro x0
  have h0 : Keeps s0 x0 := (State.completeAll_keeps h)
  exact (State.completeAll_keeps h0)
theorem State.memCorrected_keeps {s0 : State} {s : State} {a1 : Nat} {a2 : Nat} (h : Keeps s0 s) : Keeps s0
    (State.memCorrected s a1 a2) := by
  unfold State.memCorrected
  lift_lets
  intro x0
  have h0 : Keeps s0 x0 := (State.bump_keeps h)
  clear_value x0
  intro x2 x3
  have h3 : Keeps s0 x3 := (.upd h0)
  clear_value x3
  intro x5
  exact (.ite h3 (State.raise_keeps (.upd h3)))
theorem State.memTouch_keeps {s0 s : State} {a bad : Nat} (h : Keeps s0 s) : Keeps s0 (s.memTouch a bad).2 := by
  unfold State.memTouch
  dsimp only
  split
  · exact State.memUncorrectable_keeps h
  · split
    · exact State.memCorrected_keeps h
    · exact h
theorem State.idleTouch_keeps {s0 : State} {s : State} {a1 : Nat} {a2 : Nat} {a3 : Nat} (h : Keeps s0 s) : Keeps s0
    (State.idleTouch s a1 a2 a3) := by
  unfold State.idleTouch
  exact (.ite (State.raise_keeps (State.bump_keeps h)) (.ite (State.memCorrected_keeps h) h))
theorem State.scrubTouch_keeps {s0 s : State} {c pos bad : Nat} (h : Keeps s0 s) : Keeps s0 (s.scrubTouch c pos bad) := by
  unfold State.scrubTouch
  split
  · exact State.memTouch_keeps h
  · exact State.idleTouch_keeps h
theorem State.scrubStep_keeps {s0 s : State} {c bad : Nat} (h : Keeps s0 s) : Keeps s0 (s.scrubStep c bad) := by
  unfold State.scrubStep
  refine .ite h ?_
  extract_lets +onlyGivenNames total pos
  refine .ite h ?_
  clear_value total pos
  extract_lets +onlyGivenNames x1
  have h1 : Keeps s0 x1 := State.scrubTouch_keeps h
  clear_value x1
  have hm : ∀ {b : State} {v : MemCtl}, Keeps s0 b → Keeps s0 { b with mem := v } := fun hb => .upd hb
  dsimp only
  exact .ite (State.raise_keeps (hm (State.put_keeps (State.bumpWrap_keeps (hm h1))))) (State.put_keeps (hm h1))
theorem State.memSpared_keeps {s0 : State} {s : State} {a1 : Nat} {a2 : Nat} (h : Keeps s0 s) : Keeps s0 (State.memSpared s
    a1 a2) := by
  unfold State.memSpared
  lift_lets
  intro x0 x1 x2
  have h2 : Keeps s0 x2 := (State.bumpWrap_keeps (State.put_keeps h))
  clear_value x2
  intro x4 x5
  have h5 : Keeps s0 x5 := (.upd h2)
  intro x7
  have h7 : Keeps s0 x7 := (State.raise_keeps h5)
  exact (.ite h (.ite (State.raise_keeps h7) (.ite (State.raise_keeps h7) h7)))
theorem State.answerZero_keeps {s0 : State} {s : State} {a1 : Bool} (h : Keeps s0 s) : Keeps s0 (State.answerZero s a1) := by
  unfold State.answerZero
  exact (.ite (State.emit_keeps h) h)
theorem State.accError_keeps {s0 : State} {s : State} {a1 : Nat} (h : Keeps s0 s) : Keeps s0 (State.accError s a1) := by
  unfold State.accError
  exact (State.raise_keeps (State.put_keeps (State.bump_keeps h)))
theorem State.bar4_keeps {s0 : State} {s : State} {a1 : Nat} {a2 : Option Word} {a3 : Nat} (h : Keeps s0 s) : Keeps s0
    (State.bar4 s a1 a2 a3) := by
  unfold State.bar4
  exact (.ite h (by
    lift_lets
    intro x0
    clear_value x0
    exact (.ite (State.answerZero_keeps (State.accError_keeps h)) (by
      split
      · exact (.ite (State.answerZero_keeps (State.bump_keeps h)) (by
          split
          · exact (.ite (State.bump_keeps h) (by
              split
              next y3_0 y3_1 y3_2 y3_3 => 
                have h3 : Keeps s0 y3_2 := (congrArg (fun p => Keeps s0 p.2) y3_3).mp (State.memTouch_keeps h)
                exact (.ite (State.dramWrite_keeps h3) h3)))
          · exact (by
              split
              next y3_0 y3_1 y3_2 y3_3 => 
                have h3 : Keeps s0 y3_2 := (congrArg (fun p => Keeps s0 p.2) y3_3).mp (State.memTouch_keeps h)
                exact (.ite (State.emit_keeps h3) (State.emit_keeps h3)))))))))
theorem State.spdDeny_keeps {s0 : State} {s : State} (h : Keeps s0 s) : Keeps s0 (State.spdDeny s) := by
  unfold State.spdDeny
  exact (State.raise_keeps (State.bump_keeps h))
theorem State.atomShow_keeps {s0 : State} {s : State} {a1 : Nat} (h : Keeps s0 s) : Keeps s0 (State.atomShow s a1) := by
  unfold State.atomShow
  split
  · exact h
  · exact (by
      lift_lets
      intro x1 x2
      clear_value x1 x2
      exact (by
        split
        · exact h
        · exact (.ite h (State.putB_keeps (State.put_keeps h)))))
theorem Mem.writeAt_wf (bs : List (Nat × Byte)) : ∀ {m : Mem}, m.wf = true → (m.writeAt bs).wf = true := by
  induction bs with
  | nil => intro _ h; exact h
  | cons b r ih => intro _ h; exact ih (Mem.write_wf _ _ _ h)
theorem PortAct.run_wf (act : PortAct) (word : Nat) (m : Mem) (h : m.wf = true) : (act.run word m).wf = true := by
  unfold PortAct.run
  split
  · exact Mem.writeAt_wf _ h
  · split
    · exact Mem.writeList_wf _ _ _ h
    · exact h
theorem PortWord.replay_wf (e : PortWord) (ops : List PortOp) (m : Mem) (h : m.wf = true) : (e.replay ops m).wf = true := by
  have key : ∀ (l : List PortOp) (m : Mem), m.wf = true → (l.foldl (fun m o => o.act.run e.word m) m).wf = true := by
    intro l
    induction l with
    | nil => intro _ hm; exact hm
    | cons o r ih => intro m hm; exact ih _ (PortAct.run_wf o.act e.word m hm)
  exact key ops _ (Mem.writeList_wf _ _ _ h)
theorem State.portDo_keeps {s0 s : State} {word : Nat} {o : PortOp} (h : Keeps s0 s) : Keeps s0 (s.portDo word o) := by
  unfold State.portDo
  split
  · exact h.trans ⟨rfl, rfl, id, fun hs => PortAct.run_wf _ _ _ hs, .refl _⟩
  · exact State.atomShow_keeps (h.trans ⟨rfl, rfl, id, fun hs => PortWord.replay_wf _ _ _ hs, .refl _⟩)
theorem State.portDrop_keeps {s0 : State} {s : State} {a1 : Nat} {a2 : Nat} (h : Keeps s0 s) : Keeps s0 (State.portDrop s a1
    a2) := by
  unfold State.portDrop
  exact (.upd h)
theorem State.portLost_keeps {s0 : State} {s : State} {a1 : PortOp} (h : Keeps s0 s) : Keeps s0 (State.portLost s a1) := by
  unfold State.portLost
  split
  · exact h
  · exact (.upd h)
theorem State.spdPut_keeps {s0 s : State} {rank word : Nat} {chan : Option Nat} {bs : List (Nat × Byte)} (h : Keeps s0 s) :
    Keeps s0 (s.spdPut rank chan word bs).2 := by
  unfold State.spdPut
  split
  · exact State.portDo_keeps h
  · exact .pair h (.pair (State.portDo_keeps (State.portDrop_keeps (State.portLost_keeps h))) (State.portDo_keeps h))
theorem State.bar2_keeps {s0 s : State} {off be : Nat} {wr : Option Word} (h : Keeps s0 s) : Keeps s0 (s.bar2 off wr be) := by
  unfold State.bar2
  refine .ite h (.ite h (.ite (State.answerZero_keeps (State.bump_keeps h)) ?_))
  split
  · exact State.emit_keeps h
  · refine .ite (State.spdDeny_keeps h) ?_
    have h1 := fun bs => State.spdPut_keeps (rank := hostRank) (chan := none) (word := off / 4 * 4 / 4) (bs := bs) h
    exact .ite (State.raise_keeps (State.bump_keeps (State.put_keeps (State.hwUp_keeps (h1 _))))) (h1 _)
theorem State.atomDenied_keeps {s0 : State} {s : State} (h : Keeps s0 s) : Keeps s0 (State.atomDenied s) := by
  unfold State.atomDenied
  exact (State.putB_keeps (State.putB_keeps h))
theorem State.atomic_keeps {s0 : State} {s : State} {a1 : PortAct} (h : Keeps s0 s) : Keeps s0 (State.atomic s a1) := by
  unfold State.atomic
  lift_lets
  intro x0
  exact (.ite h (.ite (State.put_keeps (State.atomDenied_keeps h)) (.ite (State.spdDeny_keeps (State.atomDenied_keeps h)) (State.atomShow_keeps (State.portDo_keeps (State.putB_keeps h))))))
theorem State.atomicAdd_keeps {s0 : State} {s : State} (h : Keeps s0 s) : Keeps s0 (State.atomicAdd s) := by
  unfold State.atomicAdd
  exact (State.atomic_keeps h)
theorem State.atomicCas_keeps {s0 : State} {s : State} (h : Keeps s0 s) : Keeps s0 (State.atomicCas s) := by
  unfold State.atomicCas
  exact (State.atomic_keeps h)
theorem State.setChan_keeps {s0 : State} {s : State} {a1 : Nat} {a2 : ShuChan} (h : Keeps s0 s) : Keeps s0 (State.setChan s
    a1 a2) := by
  unfold State.setChan
  exact (.upd h)
theorem State.shuEvent_keeps {s0 : State} {s : State} {a1 : Nat} {a2 : Nat} {a3 : Nat} (h : Keeps s0 s) : Keeps s0
    (State.shuEvent s a1 a2 a3) := by
  unfold State.shuEvent
  exact (State.raise_keeps h)
theorem State.chanIssue_keeps {s0 : State} {s : State} {a1 : Nat} {a2 : Nat} (h : Keeps s0 s) : Keeps s0 (State.chanIssue s
    a1 a2) := by
  unfold State.chanIssue
  lift_lets
  intro x0
  clear_value x0
  exact (by
    split
    · exact h
    · exact (by
        lift_lets
        intro x2
        exact (.ite h (.ite (State.setChan_keeps h) (.ite (State.setChan_keeps h) (State.setChan_keeps h))))))
theorem State.shuKick_keeps {s0 : State} {s : State} (h : Keeps s0 s) : Keeps s0 (State.shuKick s) := by
  unfold State.shuKick
  exact (.ite (.each (fun _ _ h0 => (State.chanIssue_keeps h0)) h) h)
theorem State.descTake_keeps {s0 : State} {s : State} {a1 : Nat} {a2 : List Nat} {a3 : Nat} (h : Keeps s0 s) : Keeps s0
    (State.descTake s a1 a2 a3) := by
  unfold State.descTake
  exact (.ite h (by
    lift_lets
    intro x0 x1 x2 x3
    have h3 : Keeps s0 x3 := (.ite (State.memUncorrectable_keeps h) h)
    intro x5
    have h5 : Keeps s0 x5 := (.ite (State.bump_keeps h3) h3)
    intro x7
    have h7 : Keeps s0 x7 := (by
      dsimp only [x7]
      split
      · exact (State.refuseClaim_keeps h5)
      · exact h5)
    intro x9
    have h9 : Keeps s0 x9 := (State.putB_keeps (State.putB_keeps h7))
    intro x11
    exact (.ite h (.ite (State.shuEvent_keeps (State.putB_keeps h)) (State.chanIssue_keeps (State.setChan_keeps h9))))))
theorem State.spaceRead_keeps {s0 s : State} {rank kind a n bad : Nat} {host : List Byte} (h : Keeps s0 s) :
    Keeps s0 (s.spaceRead rank kind a n host bad).2.2 := by
  unfold State.spaceRead
  split
  · have h1 := State.memTouch_keeps (a := a) (bad := bad) h
    dsimp only
    split
    · exact h1
    · split
      · exact State.memUncorrectable_keeps h1
      · exact h1
  · exact h
  · exact h
theorem State.spdPutList_keeps {s0 s : State} {c a : Nat} {l : List Byte} (h : Keeps s0 s) : Keeps s0 (s.spdPutList c a l).2 := by
  unfold State.spdPutList
  have hf : ∀ (f : Bool × State → Nat → Bool × State), (∀ r w, Keeps s0 r.2 → Keeps s0 (f r w).2) →
      ∀ (ws : List Nat) (r : Bool × State), Keeps s0 r.2 → Keeps s0 (ws.foldl f r).2 := by
    intro f hf ws
    induction ws with
    | nil => exact fun _ hr => hr
    | cons w ws ih => exact fun r hr => ih _ (hf r w hr)
  refine hf _ (fun r w hr => ?_) _ (false, s) h
  exact State.spdPut_keeps hr
theorem State.spdAddList_keeps {s0 : State} {c : Nat} : ∀ {l : List Nat} {s : State} {word : Nat}, Keeps s0 s →
    Keeps s0 (s.spdAddList c word l)
  | [], _, _, h => h
  | w :: r, s, word, h => by
    rw [State.spdAddList]; exact State.spdAddList_keeps (l := r) (State.portDo_keeps h)
theorem State.spaceWrite_keeps {s0 s : State} {c kind op a : Nat} {l : List Byte} (h : Keeps s0 s) :
    Keeps s0 (s.spaceWrite c kind op a l).2.2 := by
  unfold State.spaceWrite
  split
  · dsimp only
    exact .ite (State.touchBursts_keeps (State.dramWrite_keeps h)) (State.dramWrite_keeps h)
  · dsimp only
    split
    · exact State.spdAddList_keeps h
    · exact State.spdPutList_keeps h
  · exact State.emit_keeps h
theorem State.chanDrained_keeps {s0 : State} {s : State} {a1 : Nat} (h : Keeps s0 s) : Keeps s0 (State.chanDrained s a1) := by
  unfold State.chanDrained
  lift_lets
  intro x0 x1
  have h1 : Keeps s0 x1 := (.ite (State.putB_keeps h) h)
  exact (.ite h (.ite (State.setChan_keeps h1) h1))
theorem State.chanStop_keeps {s0 : State} {s : State} {a1 : Nat} {a2 : Nat} {a3 : Nat} (h : Keeps s0 s) : Keeps s0
    (State.chanStop s a1 a2 a3) := by
  unfold State.chanStop
  lift_lets
  intro x0
  exact (State.setChan_keeps h)
theorem State.showCommitted_keeps {s0 : State} {s : State} {a1 : Nat} {a2 : Nat} (h : Keeps s0 s) : Keeps s0
    (State.showCommitted s a1 a2) := by
  unfold State.showCommitted
  lift_lets
  intro x0
  have h0 : Keeps s0 x0 := (State.put_keeps (State.put_keeps h))
  exact (State.putB_keeps h0)
theorem State.memRequest_keeps {s0 : State} {s : State} {a1 : Nat} {a2 : Nat} {a3 : Nat} {a4 : List Byte} {a5 : Bool} {a6 :
    Nat} (h : Keeps s0 s) : Keeps s0 (State.memRequest s a1 a2 a3 a4 a5 a6) := by
  unfold State.memRequest
  lift_lets
  intro x0
  clear_value x0
  exact (by
    split
    · exact h
    · exact (by
        lift_lets
        intro x2
        clear_value x2
        exact (.ite h (.ite (State.setChan_keeps h) (by
          split
          · exact (by
              lift_lets
              intro x4 x5
              clear_value x4 x5
              exact (.ite (State.chanStop_keeps h) (by
                split
                next y6_0 y6_1 y6_2 y6_3 y6_4 => 
                  have h6 : Keeps s0 y6_3 := (congrArg (fun p => Keeps s0 p.2.2) y6_4).mp (State.spaceRead_keeps h)
                  exact (.ite (State.chanStop_keeps h6) (by
                    split
                    next y7_0 y7_1 y7_2 y7_3 y7_4 => 
                      have h7 : Keeps s0 y7_3 := (congrArg (fun p => Keeps s0 p.2.2) y7_4).mp (State.spaceWrite_keeps h6)
                      exact (by
                        lift_lets
                        intro x8
                        have h8 : Keeps s0 x8 := (.ite h7 (State.put_keeps (State.put_keeps (State.showCommitted_keeps h7))))
                        intro x10 x11 x12
                        exact (.ite (State.chanStop_keeps (State.setChan_keeps h8)) (.ite (State.setChan_keeps h8) (State.setChan_keeps h8))))))))))))))
theorem State.dropRecord_keeps {s0 : State} {s : State} {a1 : StreamRec} (h : Keeps s0 s) : Keeps s0 (State.dropRecord s a1) := by
  unfold State.dropRecord
  lift_lets
  intro x0 x1
  have h1 : Keeps s0 x1 := (.ite (.upd h) h)
  intro x3
  have h3 : Keeps s0 x3 := (State.dataOverrun_keeps h1)
  intro x5
  have h5 : Keeps s0 x5 := (State.bump_keeps h3)
  intro x7
  exact (.ite h3 (.ite h5 (State.shuEvent_keeps (State.setChan_keeps h5))))
theorem State.stageOne_keeps {s0 : State} {s : State} {a1 : StreamRec} (h : Keeps s0 s) : Keeps s0 (State.stageOne s a1) := by
  unfold State.stageOne
  lift_lets
  intro x0 x1 x2
  exact (.ite (State.chanIssue_keeps (State.setChan_keeps h)) (State.dropRecord_keeps h))
theorem State.stageRecord_keeps {s0 : State} {s : State} (h : Keeps s0 s) : Keeps s0 (State.stageRecord s) := by
  unfold State.stageRecord
  split
  · exact h
  · exact (State.stageOne_keeps (.upd h))
theorem State.stageTick_keeps {s0 : State} {s : State} (h : Keeps s0 s) : Keeps s0 (State.stageTick s) := by
  unfold State.stageTick
  lift_lets
  intro x0
  have h0 : Keeps s0 x0 := (.upd h)
  intro x2
  have h2 : Keeps s0 x2 := (.each (fun _ _ h3 => (State.dropRecord_keeps h3)) h0)
  exact (.each (fun _ _ h4 => (State.stageOne_keeps h4)) h2)
theorem State.streamRequest_keeps {s0 s : State} {c : Nat} {e : Bool} (h : Keeps s0 s) : Keeps s0 (s.streamRequest c e) := by
  unfold State.streamRequest
  dsimp only
  split
  · refine .ite h (.ite (State.setChan_keeps h) (.ite (State.setChan_keeps h) (.ite (State.chanStop_keeps h) ?_)))
    have h1 : ∀ {k op a : Nat} {l : List Byte} {n : Nat}, Keeps s0 (if (s.spaceWrite c k op a l).1 = 0
        then (s.spaceWrite c k op a l).2.2 else (s.spaceWrite c k op a l).2.2.showCommitted c n) :=
      .ite (State.spaceWrite_keeps h) (State.showCommitted_keeps (State.spaceWrite_keeps h))
    exact .ite (State.setChan_keeps h1) (State.chanIssue_keeps (State.setChan_keeps h1))
  · exact h
theorem State.requestDone_keeps {s0 : State} {s : State} {a1 : Nat} {a2 : Nat} {a3 : Nat} {a4 : List Byte} {a5 : Bool} {a6 :
    Nat} (h : Keeps s0 s) : Keeps s0 (State.requestDone s a1 a2 a3 a4 a5 a6) := by
  unfold State.requestDone
  exact (.ite h (by
    lift_lets
    intro x0
    have h0 : Keeps s0 x0 := (.ite (State.streamRequest_keeps h) (State.memRequest_keeps h))
    exact (State.shuKick_keeps (State.chanDrained_keeps h0))))
theorem State.streamFlush_keeps {s0 : State} {s : State} {a1 : Nat} (h : Keeps s0 s) : Keeps s0 (State.streamFlush s a1) := by
  unfold State.streamFlush
  lift_lets
  intro x0
  clear_value x0
  exact (by
    split
    · exact (.ite (State.setChan_keeps h) h)
    · exact h)
theorem State.writeback_keeps {s0 s : State} {c : Nat} {d : List Nat} {x : ShuChan} (h : Keeps s0 s) :
    Keeps s0 (s.writeback c d x) := by
  unfold State.writeback
  dsimp only
  split
  · exact .ite (State.dramPut_keeps (State.dramPut_keeps h)) h
  · exact .ite (State.spdPutList_keeps (State.spdPutList_keeps h)) h
  · exact State.emit_keeps (State.emit_keeps h)
theorem State.descComplete_keeps {s0 s : State} {c : Nat} (h : Keeps s0 s) : Keeps s0 (s.descComplete c) := by
  unfold State.descComplete
  have hd : ∀ {b : State} {lo hi g : Nat}, Keeps s0 b → Keeps s0 { b with dram := b.dram.forget lo hi g } := fun hb =>
    hb.trans ⟨rfl, rfl, fun hs => Mem.forget_wf _ _ _ _ hs, id, .refl _⟩
  have hp : ∀ {b : State} {lo hi g : Nat}, Keeps s0 b → Keeps s0 { b with spd := b.spd.forget lo hi g } := fun hb =>
    hb.trans ⟨rfl, rfl, id, fun hs => Mem.forget_wf _ _ _ _ hs, .refl _⟩
  extract_lets +onlyGivenNames x
  split
  · exact h
  · refine .ite h ?_
    extract_lets +onlyGivenNames x1
    have h1 : Keeps s0 x1 := State.writeback_keeps h
    clear_value x1
    extract_lets +onlyGivenNames _ _ x2
    have h2 : Keeps s0 x2 := .ite (.ite (hd (State.fresh_keeps h1)) (hp (State.fresh_keeps h1))) h1
    clear_value x2
    extract_lets +onlyGivenNames x3 x4
    have h4 : Keeps s0 x4 := State.bump_keeps (State.put_keeps h2)
    clear_value x4
    extract_lets +onlyGivenNames x5
    have h5 : Keeps s0 x5 := .ite (State.bump_keeps h4) h4
    clear_value x5
    extract_lets +onlyGivenNames x6
    have h6 : Keeps s0 x6 := State.put_keeps (State.putB_keeps h5)
    clear_value x6
    extract_lets +onlyGivenNames x7
    have h7 : Keeps s0 x7 := .ite (State.putB_keeps h6) h6
    clear_value x7
    extract_lets +onlyGivenNames x8
    have h8 : Keeps s0 x8 := State.setChan_keeps h7
    clear_value x8
    exact .ite (State.shuEvent_keeps h8) h8
theorem State.shuPause_keeps {s0 : State} {s : State} {a1 : Nat} {a2 : Bool} {a3 : Nat} (h : Keeps s0 s) : Keeps s0
    (State.shuPause s a1 a2 a3) := by
  unfold State.shuPause
  lift_lets
  intro x0
  have h0 : Keeps s0 x0 := (State.putB_keeps h)
  exact (.ite (State.chanDrained_keeps h0) (State.chanIssue_keeps (State.putB_keeps h0)))
theorem State.shuAbort_keeps {s0 : State} {s : State} {a1 : Nat} (h : Keeps s0 s) : Keeps s0 (State.shuAbort s a1) := by
  unfold State.shuAbort
  lift_lets
  intro x0
  exact (.ite h (State.chanDrained_keeps (State.setChan_keeps (State.putB_keeps h))))
theorem State.shuTail_keeps {s0 : State} {s : State} {a1 : Nat} {a2 : Nat} (h : Keeps s0 s) : Keeps s0 (State.shuTail s a1
    a2) := by
  unfold State.shuTail
  exact (State.putB_keeps (State.put_keeps h))
theorem State.forgetDest_keeps {s0 s : State} {d : List Nat} (h : Keeps s0 s) : Keeps s0 (s.forgetDest d) := by
  unfold State.forgetDest
  dsimp only
  have h1 : Keeps s0 s.fresh.2 := State.fresh_keeps h
  split
  · exact h1.trans ⟨rfl, rfl, fun hs => Mem.forget_wf _ _ _ _ hs, id, .refl _⟩
  · exact h1.trans ⟨rfl, rfl, id, fun hs => Mem.forget_wf _ _ _ _ hs, .refl _⟩
  · exact h1
theorem State.cutTransfers_keeps {s0 : State} {s : State} {a1 : Nat} (h : Keeps s0 s) : Keeps s0 (State.cutTransfers s a1) := by
  unfold State.cutTransfers
  exact (.each (fun _ _ h0 => (by
    lift_lets
    intro x1
    clear_value x1
    exact (by
      split
      · exact (by
          lift_lets
          intro x3
          have h3 : Keeps s0 x3 := (State.forgetDest_keeps (State.bump_keeps h0))
          exact (State.chanDrained_keeps (State.setChan_keeps h3)))
      · exact h0))) h)
theorem State.shuDomOff_keeps {s0 : State} {s : State} {a1 : Nat} (h : Keeps s0 s) : Keeps s0 (State.shuDomOff s a1) := by
  unfold State.shuDomOff
  exact (.ite h (.ite (.each (fun _ _ h0 => (State.forgetDest_keeps (State.bump_keeps h0))) h) (by
    lift_lets
    intro x0
    have h0 : Keeps s0 x0 := (State.cutTransfers_keeps h)
    exact (.each (fun _ _ h2 => (by
      lift_lets
      intro x3
      exact (State.setChan_keeps h2))) h0))))
theorem State.resetDomainRegs_keeps {s0 : State} {s : State} {a1 : Nat} (h : Keeps s0 s) : Keeps s0 (State.resetDomainRegs s
    a1) := by
  unfold State.resetDomainRegs
  exact (.upd h)
theorem State.endLoad_keeps {s0 : State} {s : State} (h : Keeps s0 s) : Keeps s0 (State.endLoad s) := by
  unfold State.endLoad
  lift_lets
  intro x0 x1 x2
  have h2 : Keeps s0 x2 := (.upd h)
  exact (State.put_keeps (State.putB_keeps (State.put_keeps h2)))
theorem State.imgComplete_keeps {s0 : State} {s : State} {a1 : Nat} {a2 : Nat} {a3 : Nat} (h : Keeps s0 s) : Keeps s0
    (State.imgComplete s a1 a2 a3) := by
  unfold State.imgComplete
  exact (State.completeAll_keeps h)
theorem State.bootStop_keeps {s0 : State} {s : State} (h : Keeps s0 s) : Keeps s0 (State.bootStop s) := by
  unfold State.bootStop
  lift_lets
  intro x0
  have h0 : Keeps s0 x0 := (State.imgComplete_keeps (State.endLoad_keeps h))
  clear_value x0
  intro x2 x3
  exact (.upd h0)
theorem State.loaderLost_keeps {s0 : State} {s : State} (h : Keeps s0 s) : Keeps s0 (State.loaderLost s) := by
  unfold State.loaderLost
  lift_lets
  intro x0 x1 x2 x3 x4
  have h4 : Keeps s0 x4 := (.upd h)
  exact (State.completeAll_keeps h4)
theorem State.resetDomainHidden_keeps {s0 s : State} {d : Nat} (h : Keeps s0 s) : Keeps s0 (s.resetDomainHidden d) := by
  unfold State.resetDomainHidden
  refine .ite (.upd h) (.ite (.upd h) ?_)
  split
  all_goals first
    | exact .upd h
    | exact State.completeAll_keeps (.upd h)
    | exact State.loaderLost_keeps h
    | exact h
    | exact h.trans ⟨rfl, rfl, id, fun hs => Mem.zero_wf _ _ _ hs, .refl _⟩
theorem State.resetDomain_keeps {s0 : State} {s : State} {a1 : Nat} (h : Keeps s0 s) : Keeps s0 (State.resetDomain s a1) := by
  unfold State.resetDomain
  exact (State.resetDomainHidden_keeps (State.resetDomainRegs_keeps h))
theorem State.domainOff_keeps {s0 : State} {s : State} {a1 : Nat} (h : Keeps s0 s) : Keeps s0 (State.domainOff s a1) := by
  unfold State.domainOff
  lift_lets
  intro x0
  have h0 : Keeps s0 x0 := (State.shuDomOff_keeps h)
  intro x2
  have h2 : Keeps s0 x2 := (.ite (State.keepMem_keeps h0) h0)
  intro x4
  have h4 : Keeps s0 x4 := (State.resetDomain_keeps h2)
  intro x6
  have h6 : Keeps s0 x6 := (State.putB_keeps h4)
  clear_value x6
  intro x8
  exact (State.shuKick_keeps (.upd h6))
theorem State.setSlot_keeps {s0 : State} {s : State} {a1 : Nat} {a2 : TrdSlot} (h : Keeps s0 s) : Keeps s0 (State.setSlot s
    a1 a2) := by
  unfold State.setSlot
  exact (.upd h)
theorem State.loadPwm_keeps {s0 : State} {s : State} {a1 : List Nat} {a2 : Nat} (h : Keeps s0 s) : Keeps s0 (State.loadPwm s
    a1 a2) := by
  unfold State.loadPwm
  exact (.each (fun _ _ h0 => (by
    lift_lets
    intro x1 x2
    exact (.upd h0))) h)
theorem State.driveAt_keeps {s0 : State} {s : State} {a1 : Nat} {a2 : Nat} {a3 : Nat} (h : Keeps s0 s) : Keeps s0
    (State.driveAt s a1 a2 a3) := by
  unfold State.driveAt
  exact (State.loadPwm_keeps (State.put_keeps h))
theorem State.settle_keeps {s0 : State} {s : State} {a1 : Nat} (h : Keeps s0 s) : Keeps s0 (State.settle s a1) := by
  unfold State.settle
  split
  · exact (.ite (State.driveAt_keeps (State.setSlot_keeps h)) h)
  · exact h
theorem State.settleAll_keeps {s0 : State} {s : State} (h : Keeps s0 s) : Keeps s0 (State.settleAll s) := by
  unfold State.settleAll
  exact (.each (fun _ _ h0 => (State.settle_keeps h0)) h)
theorem State.renewAngle_keeps {s0 : State} {s : State} (h : Keeps s0 s) : Keeps s0 (State.renewAngle s) := by
  unfold State.renewAngle
  lift_lets
  intro x0 x1 x2 x3 x4 x5 x6
  exact (State.put_keeps h)
theorem State.drive_keeps {s0 : State} {s : State} {a1 : Nat} {a2 : Nat} (h : Keeps s0 s) : Keeps s0 (State.drive s a1 a2) := by
  unfold State.drive
  lift_lets
  intro x0
  have h0 : Keeps s0 x0 := (State.settle_keeps h)
  intro x2
  exact (State.driveAt_keeps (State.setSlot_keeps h0))
theorem State.driveSoon_keeps {s0 : State} {s : State} {a1 : Nat} {a2 : Nat} (h : Keeps s0 s) : Keeps s0 (State.driveSoon s
    a1 a2) := by
  unfold State.driveSoon
  lift_lets
  intro x0
  have h0 : Keeps s0 x0 := (State.settle_keeps h)
  intro x2
  exact (State.setSlot_keeps h0)
theorem State.driveIdle_keeps {s0 : State} {s : State} {a1 : Nat} (h : Keeps s0 s) : Keeps s0 (State.driveIdle s a1) := by
  unfold State.driveIdle
  exact (State.drive_keeps h)
theorem State.stopSlot_keeps {s0 : State} {s : State} {a1 : Nat} (h : Keeps s0 s) : Keeps s0 (State.stopSlot s a1) := by
  unfold State.stopSlot
  lift_lets
  intro x0 x1
  have h1 : Keeps s0 x1 := (State.driveIdle_keeps (State.setSlot_keeps h))
  exact (.ite (State.putB_keeps h1) h1)
theorem State.haltSlot_keeps {s0 : State} {s : State} {a1 : Nat} (h : Keeps s0 s) : Keeps s0 (State.haltSlot s a1) := by
  unfold State.haltSlot
  lift_lets
  intro x0
  have h0 : Keeps s0 x0 := (State.stopSlot_keeps h)
  intro x2
  exact (State.setSlot_keeps h0)
theorem State.slotsFollow_keeps {s0 : State} {s : State} (h : Keeps s0 s) : Keeps s0 (State.slotsFollow s) := by
  unfold State.slotsFollow
  exact (.ite h (by
    lift_lets
    intro x0
    have h0 : Keeps s0 x0 := (.each (fun _ _ h1 => (by
      lift_lets
      intro x2 x3
      have h3 : Keeps s0 x3 := (State.stopSlot_keeps h1)
      intro x5
      exact (.ite (.ite (State.driveIdle_keeps h1) (.ite (State.haltSlot_keeps h1) h1)) (State.setSlot_keeps h3)))) h)
    exact (State.renewAngle_keeps h0)))
theorem State.setPair_keeps {s0 : State} {s : State} {a1 : Nat} {a2 : Pair} (h : Keeps s0 s) : Keeps s0 (State.setPair s a1
    a2) := by
  unfold State.setPair
  exact (.upd h)
theorem State.pairGo_keeps {s0 : State} {s : State} {a1 : Nat} {a2 : Nat} {a3 : Nat} (h : Keeps s0 s) : Keeps s0
    (State.pairGo s a1 a2 a3) := by
  unfold State.pairGo
  lift_lets
  intro x0 x1
  have h1 : Keeps s0 x1 := (State.put_keeps h)
  intro x3
  have h3 : Keeps s0 x3 := (.ite (State.put_keeps h1) h1)
  intro x5 x6 x7 x8 x9 x10 x11 x12
  have h12 : Keeps s0 x12 := (State.setPair_keeps h3)
  clear_value x12
  intro x14 x15
  have h15 : Keeps s0 x15 := (.ite (.upd h12) h12)
  exact (.ite (State.raise_keeps h15) h15)
theorem State.pairsDown_keeps {s0 : State} {s : State} (h : Keeps s0 s) : Keeps s0 (State.pairsDown s) := by
  unfold State.pairsDown
  exact (.each (fun _ _ h0 => (by
    lift_lets
    intro x1
    exact (.ite (State.pairGo_keeps h0) h0))) h)
theorem State.pairsEnterRun_keeps {s0 : State} {s : State} (h : Keeps s0 s) : Keeps s0 (State.pairsEnterRun s) := by
  unfold State.pairsEnterRun
  exact (.each (fun _ _ h0 => (.ite (State.pairGo_keeps h0) h0)) h)
theorem State.switchOn_keeps {s0 : State} {s : State} {a1 : Nat} (h : Keeps s0 s) : Keeps s0 (State.switchOn s a1) := by
  unfold State.switchOn
  lift_lets
  intro x0
  have h0 : Keeps s0 x0 := (State.putB_keeps (State.resetDomain_keeps h))
  clear_value x0
  intro x2
  exact (.upd h0)
theorem State.standbyBack_keeps {s0 : State} {s : State} (h : Keeps s0 s) : Keeps s0 (State.standbyBack s) := by
  unfold State.standbyBack
  lift_lets
  intro x0 x1
  have h1 : Keeps s0 x1 := (.each (fun _ _ h2 => (State.switchOn_keeps h2)) h)
  clear_value x1
  intro x3 x4
  exact (State.shuKick_keeps (.upd h1))
theorem State.standbyUndo_keeps {s0 : State} {s : State} (h : Keeps s0 s) : Keeps s0 (State.standbyUndo s) := by
  unfold State.standbyUndo
  lift_lets
  intro x0
  have h0 : Keeps s0 x0 := (State.standbyBack_keeps h)
  clear_value x0
  intro x2
  exact (State.put_keeps (.upd h0))
theorem State.wakeUndo_keeps {s0 : State} {s : State} (h : Keeps s0 s) : Keeps s0 (State.wakeUndo s) := by
  unfold State.wakeUndo
  lift_lets
  intro x0
  have h0 : Keeps s0 x0 := (.each (fun _ _ h1 => (State.domainOff_keeps h1)) h)
  clear_value x0
  intro x2
  exact (State.put_keeps (.upd h0))
theorem State.dropApply_keeps {s0 : State} {s : State} (h : Keeps s0 s) : Keeps s0 (State.dropApply s) := by
  unfold State.dropApply
  split
  · exact h
  · exact (by
      lift_lets
      intro x1 x2 x3
      have h3 : Keeps s0 x3 := (State.put_keeps (.upd h))
      exact (State.shuKick_keeps (.each (fun _ _ h5 => (State.switchOn_keeps h5)) h3)))
theorem State.undoWaiting_keeps {s0 : State} {s : State} (h : Keeps s0 s) : Keeps s0 (State.undoWaiting s) := by
  unfold State.undoWaiting
  lift_lets
  intro x0 x1
  have h1 : Keeps s0 x1 := (.ite (State.standbyUndo_keeps h) h)
  intro x3
  have h3 : Keeps s0 x3 := (.ite (State.wakeUndo_keeps h1) h1)
  exact (.ite (State.dropApply_keeps h3) h3)
theorem State.setDev_keeps {s0 s : State} {new : Dev} {cause : Nat} (h : Keeps s0 s) : Keeps s0 (s.setDev new cause) := by
  unfold State.setDev
  lift_lets
  intro old away x1 x2 x3 x4 x5 detail x6
  have h1 : Keeps s0 x1 := State.put_keeps (.upd h)
  have h2 : Keeps s0 x2 := State.put_keeps h1
  have h3 : Keeps s0 x3 := .ite (State.put_keeps h2) h2
  have h5 : Keeps s0 x5 := .ite (State.put_keeps (.upd h3)) h3
  have h6 : Keeps s0 x6 := by cases new <;> first | exact h5 | exact State.raise_keeps h5
  exact State.leftState_keeps (State.undoWaiting_keeps h6)
theorem State.dropRun_keeps {s0 : State} {s : State} (h : Keeps s0 s) : Keeps s0 (State.dropRun s) := by
  unfold State.dropRun
  lift_lets
  intro x0 x1
  have h1 : Keeps s0 x1 := (.upd h)
  exact (State.completeAll_keeps h1)
theorem State.safeStop_keeps {s0 : State} {s : State} {a1 : Nat} (h : Keeps s0 s) : Keeps s0 (State.safeStop s a1) := by
  unfold State.safeStop
  lift_lets
  intro x0
  have h0 : Keeps s0 x0 := (State.hwUp_keeps h)
  exact (State.pairsDown_keeps (State.setDev_keeps (State.dropRun_keeps h0)))
theorem State.reactS_keeps {s0 : State} {s : State} {a1 : Nat} (h : Keeps s0 s) : Keeps s0 (State.reactS s a1) := by
  unfold State.reactS
  exact (.ite (State.safeStop_keeps h) (State.dropRun_keeps (State.hwUp_keeps h)))
theorem State.lockout_keeps {s0 : State} {s : State} {a1 : Nat} (h : Keeps s0 s) : Keeps s0 (State.lockout s a1) := by
  unfold State.lockout
  exact (.ite (by
    lift_lets
    intro x0
    have h0 : Keeps s0 x0 := (State.hwUp_keeps h)
    intro x2
    have h2 : Keeps s0 x2 := (State.pairsDown_keeps (State.setDev_keeps (State.dropRun_keeps h0)))
    exact (State.domainOff_keeps (.each (fun _ _ h4 => (State.domainOff_keeps h4)) (State.slotsFollow_keeps h2)))) h)
theorem State.foldReturn_keeps {s0 : State} {s : State} {a1 : Nat} {a2 : Nat} {a3 : Nat} {a4 : Bool} (h : Keeps s0 s) :
    Keeps s0 (State.foldReturn s a1 a2 a3 a4) := by
  unfold State.foldReturn
  split
  · exact (.upd h)
  · exact (by
      lift_lets
      intro x1 x2 x3 x4 x5 x6 x7 x8 x9 x10
      have h10 : Keeps s0 x10 := (.upd h)
      clear_value x1 x2 x3 x4 x5 x6 x7 x8 x9 x10
      exact (by
        split
        · exact (State.bump_keeps h10)
        · exact (State.bump_keeps h10)
        · exact h10))
theorem State.observe_keeps {s0 : State} {s : State} {a1 : Nat} {a2 : Nat} (h : Keeps s0 s) : Keeps s0 (State.observe s a1
    a2) := by
  unfold State.observe
  exact (.upd h)
theorem State.fselIllegal_keeps {s0 : State} {s : State} (h : Keeps s0 s) : Keeps s0 (State.fselIllegal s) := by
  unfold State.fselIllegal
  exact (.ite h (State.raise_keeps (State.putB_keeps h)))
theorem State.dropPending_keeps {s0 : State} {s : State} (h : Keeps s0 s) : Keeps s0 (State.dropPending s) := by
  unfold State.dropPending
  exact (.ite h (by
    lift_lets
    intro x0 x1
    have h1 : Keeps s0 x1 := (.upd h)
    exact (State.bump_keeps (State.put_keeps (State.put_keeps h1)))))
theorem State.startFsetLoad_keeps {s0 : State} {s : State} {a1 : Nat} {a2 : Bool} (h : Keeps s0 s) : Keeps s0
    (State.startFsetLoad s a1 a2) := by
  unfold State.startFsetLoad
  lift_lets
  intro x0 x1
  have h1 : Keeps s0 x1 := (.upd h)
  exact (State.put_keeps (State.put_keeps h1))
theorem State.fselAccept_keeps {s0 : State} {s : State} {a1 : Nat} (h : Keeps s0 s) : Keeps s0 (State.fselAccept s a1) := by
  unfold State.fselAccept
  lift_lets
  intro x0 x1
  have h1 : Keeps s0 x1 := (State.dropPending_keeps h)
  clear_value x0 x1
  exact (.ite h (by
    split
    · exact (.ite (State.startFsetLoad_keeps h1) (State.fselIllegal_keeps h1))
    · exact h1))
theorem State.fselLegal_keeps {s0 : State} {s : State} {a1 : Option Nat} (h : Keeps s0 s) : Keeps s0 (State.fselLegal s a1) := by
  unfold State.fselLegal
  lift_lets
  intro x0
  exact (.ite (State.putB_keeps h) h)
theorem State.fselSample_keeps {s0 : State} {s : State} {a1 : Option (Option Nat)} {a2 : Option (Option Nat)} {a3 : Bool}
    {a4 : Bool} (h : Keeps s0 s) : Keeps s0 (State.fselSample s a1 a2 a3 a4) := by
  unfold State.fselSample
  lift_lets
  intro x0 x1 x2 x3
  have h3 : Keeps s0 x3 := (.upd h)
  intro x5
  have h5 : Keeps s0 x5 := (.ite (State.fselIllegal_keeps h3) h3)
  intro x7
  have h7 : Keeps s0 x7 := (.ite (State.fselIllegal_keeps h5) h5)
  clear_value x0 x1 x2 x3 x5 x7
  exact (by
    split
    · exact (by
        lift_lets
        intro x10
        have h10 : Keeps s0 x10 := (State.fselLegal_keeps h7)
        clear_value x10
        exact (by
          split
          · exact (.ite h10 (State.fselAccept_keeps h10))
          · exact h10))
    · exact h7)
theorem State.fsetFailed_keeps {s0 : State} {s : State} (h : Keeps s0 s) : Keeps s0 (State.fsetFailed s) := by
  unfold State.fsetFailed
  lift_lets
  intro x0 x1
  have h1 : Keeps s0 x1 := (.upd h)
  intro x3
  have h3 : Keeps s0 x3 := (State.put_keeps (State.put_keeps h1))
  exact (State.reactS_keeps (State.raise_keeps (State.fselIllegal_keeps h3)))
theorem State.fsetLoadDone_keeps {s0 s : State} {bad : Nat} (h : Keeps s0 s) : Keeps s0 (s.fsetLoadDone bad) := by
  unfold State.fsetLoadDone
  split
  · exact h
  · refine .ite h ?_
    lift_lets
    intro base f pois x1
    have h1 : Keeps s0 x1 := State.touchBursts_keeps h
    clear_value x1
    intro x2
    have h2 : Keeps s0 x2 := .ite h1 (State.memTouch_keeps h1)
    intros
    exact .ite (State.fsetFailed_keeps h2) (State.put_keeps (.upd h2))
theorem State.fsetTick_keeps {s0 : State} {s : State} (h : Keeps s0 s) : Keeps s0 (State.fsetTick s) := by
  unfold State.fsetTick
  split
  · exact h
  · exact (.ite (.upd h) (by
      lift_lets
      intro x1 x2 x3
      have h3 : Keeps s0 x3 := (.upd h)
      intro x5
      have h5 : Keeps s0 x5 := (State.put_keeps (State.put_keeps (State.put_keeps h3)))
      exact (State.raise_keeps (.ite h5 (State.putB_keeps h5)))))
theorem State.selTick_keeps {s0 : State} {s : State} {a1 : Nat} {a2 : Option (Option Nat)} {a3 : Bool} (h : Keeps s0 s) :
    Keeps s0 (State.selTick s a1 a2 a3) := by
  unfold State.selTick
  exact (.ite h (by
    lift_lets
    intro x0
    have h0 : Keeps s0 x0 := (State.fsetTick_keeps h)
    intro x2
    have h2 : Keeps s0 x2 := (State.put_keeps (State.putB_keeps h0))
    intro x4
    have h4 : Keeps s0 x4 := (State.putB_keeps h0)
    intro x6 x7 x8
    have h8 : Keeps s0 x8 := (.ite (.ite (State.putB_keeps h2) h2) (.ite (State.put_keeps (State.putB_keeps h0)) (.ite (State.fselSample_keeps (State.put_keeps h4)) (State.fselSample_keeps (State.put_keeps h4)))))
    intro x10
    have h10 : Keeps s0 x10 := (State.put_keeps (State.put_keeps h8))
    clear_value x10
    intro x12
    exact (.upd h10)))
theorem State.teachFrames_keeps {s0 : State} {s : State} {a1 : Nat} (h : Keeps s0 s) : Keeps s0 (State.teachFrames s a1) := by
  unfold State.teachFrames
  exact (State.put_keeps h)
theorem State.teachStop_keeps {s0 : State} {s : State} (h : Keeps s0 s) : Keeps s0 (State.teachStop s) := by
  unfold State.teachStop
  exact (State.put_keeps (.upd h))
theorem State.teachStart_keeps {s0 : State} {s : State} {a1 : Nat} (h : Keeps s0 s) : Keeps s0 (State.teachStart s a1) := by
  unfold State.teachStart
  exact (.ite (by
    lift_lets
    intro x0 x1
    have h1 : Keeps s0 x1 := (.upd h)
    exact (State.put_keeps (State.put_keeps h1))) (State.teachStop_keeps h))
theorem State.teachAbort_keeps {s0 : State} {s : State} (h : Keeps s0 s) : Keeps s0 (State.teachAbort s) := by
  unfold State.teachAbort
  exact (.ite (State.teachStop_keeps h) h)
theorem State.teachFrame_keeps {s0 : State} {s : State} (h : Keeps s0 s) : Keeps s0 (State.teachFrame s) := by
  unfold State.teachFrame
  split
  · exact (.ite h (by
      lift_lets
      intro x1 x2
      have h2 : Keeps s0 x2 := (.upd h)
      exact (State.put_keeps h2)))
  · exact h
theorem State.teachDone_keeps {s0 : State} {s : State} (h : Keeps s0 s) : Keeps s0 (State.teachDone s) := by
  unfold State.teachDone
  split
  · exact (.ite h (by
      lift_lets
      intro x1 x2
      have h2 : Keeps s0 x2 := (State.dramPut_keeps h)
      clear_value x2
      intro x4
      exact (State.put_keeps (.upd h2))))
  · exact h
theorem State.setTile_keeps {s0 : State} {s : State} {a1 : Nat} {a2 : Tile} (h : Keeps s0 s) : Keeps s0 (State.setTile s a1
    a2) := by
  unfold State.setTile
  exact (.upd h)
theorem State.modTile_keeps {s0 : State} {s : State} {a1 : Nat} {a2 : Tile → Tile} (h : Keeps s0 s) : Keeps s0
    (State.modTile s a1 a2) := by
  unfold State.modTile
  exact (State.setTile_keeps h)
theorem State.setRx_keeps {s0 : State} {s : State} {a1 : Nat} {a2 : Nat} {a3 : RxCh} (h : Keeps s0 s) : Keeps s0
    (State.setRx s a1 a2 a3) := by
  unfold State.setRx
  exact (State.modTile_keeps h)
theorem State.orBit_keeps {s0 : State} {s : State} {a1 : Fld} {a2 : Nat} (h : Keeps s0 s) : Keeps s0 (State.orBit s a1 a2) := by
  unfold State.orBit
  exact (State.put_keeps h)
theorem State.cutPulses_keeps {s0 : State} {s : State} {a1 : Nat → Bool} (h : Keeps s0 s) : Keeps s0 (State.cutPulses s a1) := by
  unfold State.cutPulses
  exact (.upd h)
theorem State.handOver_keeps {s0 : State} {s : State} {a1 : StreamRec} (h : Keeps s0 s) : Keeps s0 (State.handOver s a1) := by
  unfold State.handOver
  exact (.upd h)
theorem State.raiseOnce_keeps {s0 : State} {s : State} {a1 : Nat} {a2 : Nat} {a3 : Nat} {a4 : Nat} (h : Keeps s0 s) : Keeps
    s0 (State.raiseOnce s a1 a2 a3 a4) := by
  unfold State.raiseOnce
  lift_lets
  intro x0
  exact (.ite h (State.raiseTile_keeps (State.modTile_keeps h)))
theorem State.pairDecide_keeps {s0 : State} {s : State} {a1 : Nat} {a2 : Bool} (h : Keeps s0 s) : Keeps s0 (State.pairDecide
    s a1 a2) := by
  unfold State.pairDecide
  lift_lets
  intro x0
  have h0 : Keeps s0 x0 := (State.setPair_keeps h)
  intro x2 x3
  clear_value x0 x2 x3
  exact (.ite h0 (by
    split
    · exact (.ite (.ite (State.pairGo_keeps h0) h0) (.ite (State.pairGo_keeps h0) h0))
    · exact (.ite (State.pairGo_keeps h0) (.ite (State.pairGo_keeps h0) h0))
    · exact (.ite (State.pairGo_keeps h0) h0)
    · exact h0))
theorem State.pairDrop_keeps {s0 : State} {s : State} {a1 : Nat} {a2 : Nat} (h : Keeps s0 s) : Keeps s0 (State.pairDrop s a1
    a2) := by
  unfold State.pairDrop
  lift_lets
  intro x0
  exact (.ite (State.pairGo_keeps h) h)
theorem State.axisDrop_keeps {s0 : State} {s : State} {a1 : Nat} (h : Keeps s0 s) : Keeps s0 (State.axisDrop s a1) := by
  unfold State.axisDrop
  exact (.each (fun _ _ h0 => (.ite (State.pairDrop_keeps h0) h0)) h)
theorem State.safeInLow_keeps {s0 : State} {s : State} {a1 : Nat} (h : Keeps s0 s) : Keeps s0 (State.safeInLow s a1) := by
  unfold State.safeInLow
  lift_lets
  intro x0 x1
  have h1 : Keeps s0 x1 := (.upd h)
  exact (.each (fun _ _ h3 => (.ite (State.pairDrop_keeps h3) h3)) h1)
theorem State.pairFault_keeps {s0 : State} {s : State} {a1 : Nat} {a2 : Nat} (h : Keeps s0 s) : Keeps s0 (State.pairFault s
    a1 a2) := by
  unfold State.pairFault
  exact (.ite h (State.pairGo_keeps h))
theorem State.edmTimeout_keeps {s0 : State} {s : State} {a1 : Nat} {a2 : Bool} {a3 : Bool} (h : Keeps s0 s) : Keeps s0
    (State.edmTimeout s a1 a2 a3) := by
  unfold State.edmTimeout
  lift_lets
  intro x0
  have h0 : Keeps s0 x0 := (State.put_keeps h)
  clear_value x0
  intro x2 x3
  have h3 : Keeps s0 x3 := (.ite (.upd h0) h0)
  intro x5 x6
  have h6 : Keeps s0 x6 := (State.setPair_keeps h3)
  intro x8 x9
  have h9 : Keeps s0 x9 := (State.setPair_keeps h6)
  clear_value x2 x3 x5 x6 x8 x9
  exact (by
    split
    · exact h3
    · exact (.ite h3 (.ite h6 (State.raise_keeps (State.pairFault_keeps h9)))))
theorem State.testPulse_keeps {s0 : State} {s : State} {a1 : Nat} (h : Keeps s0 s) : Keeps s0 (State.testPulse s a1) := by
  unfold State.testPulse
  exact (.ite (by
    lift_lets
    intro x0 x1
    have h1 : Keeps s0 x1 := (.upd h)
    exact (State.emit_keeps h1)) h)
theorem State.readback_keeps {s0 : State} {s : State} {a1 : Nat} (h : Keeps s0 s) : Keeps s0 (State.readback s a1) := by
  unfold State.readback
  exact (.ite h (by
    lift_lets
    intro x0
    have h0 : Keeps s0 x0 := (State.put_keeps h)
    clear_value x0
    intro x2 x3 x4 x5 x6 x7
    have h7 : Keeps s0 x7 := (.upd h0)
    exact (.ite (State.reactS_keeps (State.raise_keeps (State.pairFault_keeps (State.pairFault_keeps h7)))) h7)))
theorem State.pairRestart_keeps {s0 : State} {s : State} {a1 : Nat} {a2 : Nat} (h : Keeps s0 s) : Keeps s0
    (State.pairRestart s a1 a2) := by
  unfold State.pairRestart
  split
  · exact (.ite (State.setPair_keeps h) h)
  · exact (.ite (State.pairGo_keeps (State.setPair_keeps h)) h)
  · exact h
theorem State.feLatch_keeps {s0 : State} {s : State} {a1 : Nat} {a2 : Fld} {a3 : Nat} (h : Keeps s0 s) : Keeps s0
    (State.feLatch s a1 a2 a3) := by
  unfold State.feLatch
  lift_lets
  intro x0
  have h0 : Keeps s0 x0 := (State.raise_keeps (State.putB_keeps h))
  intro x2
  have h2 : Keeps s0 x2 := (.ite (State.haltSlot_keeps h0) h0)
  intro x4
  have h4 : Keeps s0 x4 := (.ite (State.reactS_keeps h2) h2)
  exact (State.renewAngle_keeps h4)
theorem State.feCheck_keeps {s0 : State} {s : State} {a1 : Nat} {a2 : Int} {a3 : Int} (h : Keeps s0 s) : Keeps s0
    (State.feCheck s a1 a2 a3) := by
  unfold State.feCheck
  lift_lets
  intro x0 x1 x2 x3
  have h3 : Keeps s0 x3 := (.ite (State.putB_keeps h) h)
  intro x5 x6 x7 x8 x9
  have h9 : Keeps s0 x9 := (State.setSlot_keeps h3)
  exact (.ite (State.setSlot_keeps (State.putB_keeps h3)) (.ite (.ite (State.setSlot_keeps (State.putB_keeps h3)) (State.setSlot_keeps h3)) (.ite (State.setSlot_keeps h3) (.ite (State.feLatch_keeps h9) h9))))
theorem State.slotCmds_keeps {s0 : State} {s : State} {a1 : Nat} (h : Keeps s0 s) : Keeps s0 (State.slotCmds s a1) := by
  unfold State.slotCmds
  lift_lets
  intro x0 x1
  have h1 : Keeps s0 x1 := (.ite (State.setSlot_keeps (State.putB_keeps (State.putB_keeps (State.putB_keeps h)))) h)
  intro x3
  exact (.ite (State.setSlot_keeps h1) h1)
theorem State.biasSettle_keeps {s0 : State} {s : State} {a1 : Int} (h : Keeps s0 s) : Keeps s0 (State.biasSettle s a1) := by
  unfold State.biasSettle
  lift_lets
  intro x0 x1 x2 x3
  have h3 : Keeps s0 x3 := (State.setSlot_keeps h)
  intro x5
  have h5 : Keeps s0 x5 := (.ite (State.putB_keeps h3) h3)
  exact (.ite (State.putB_keeps h5) h5)
theorem State.slotStart_keeps {s0 : State} {s : State} {a1 : Nat} (h : Keeps s0 s) : Keeps s0 (State.slotStart s a1) := by
  unfold State.slotStart
  lift_lets
  intro x0
  have h0 : Keeps s0 x0 := (State.putB_keeps (State.putB_keeps (State.putB_keeps h)))
  intro x2
  exact (State.setSlot_keeps h0)
theorem State.slotFirst_keeps {s0 : State} {s : State} {a1 : Nat} {a2 : Int} (h : Keeps s0 s) : Keeps s0 (State.slotFirst s
    a1 a2) := by
  unfold State.slotFirst
  exact (State.setSlot_keeps h)
theorem State.sampleStatus_keeps {s0 : State} {s : State} {a1 : Nat} {a2 : Law} (h : Keeps s0 s) : Keeps s0
    (State.sampleStatus s a1 a2) := by
  unfold State.sampleStatus
  lift_lets
  intro x0 x1
  have h1 : Keeps s0 x1 := (.ite (State.raise_keeps (State.putB_keeps (State.putB_keeps h))) h)
  intro x3
  have h3 : Keeps s0 x3 := (State.bump_keeps (State.putB_keeps h1))
  intro x5
  have h5 : Keeps s0 x5 := (.ite (State.putB_keeps h3) h3)
  exact (.ite (State.putB_keeps h5) h5)
theorem State.slotSample_keeps {s0 : State} {s : State} {a1 : Nat} {a2 : Int} (h : Keeps s0 s) : Keeps s0 (State.slotSample
    s a1 a2) := by
  unfold State.slotSample
  lift_lets
  intro x0 x1 x2 x3 x4
  have h4 : Keeps s0 x4 := (State.setSlot_keeps h)
  intro x6
  have h6 : Keeps s0 x6 := (State.driveSoon_keeps (State.sampleStatus_keeps h4))
  intro x8
  have h8 : Keeps s0 x8 := (State.putI_keeps h6)
  intro x10 x11
  have h11 : Keeps s0 x11 := (.ite (State.put_keeps (State.put_keeps (State.biasSettle_keeps h8))) h8)
  exact (State.feCheck_keeps h11)
theorem State.treadleSample_keeps {s0 : State} {s : State} {a1 : Nat} {a2 : Int} (h : Keeps s0 s) : Keeps s0
    (State.treadleSample s a1 a2) := by
  unfold State.treadleSample
  exact (.ite h (by
    lift_lets
    intro x0
    have h0 : Keeps s0 x0 := (State.slotCmds_keeps h)
    intro x2 x3
    have h3 : Keeps s0 x3 := (.ite (State.slotStart_keeps h0) h0)
    intro x5 x6
    have h6 : Keeps s0 x6 := (.ite (State.slotFirst_keeps h3) h3)
    exact (.ite h0 (State.renewAngle_keeps (State.slotSample_keeps h6)))))
theorem State.trdStartFail_keeps {s0 : State} {s : State} {a1 : Nat} (h : Keeps s0 s) : Keeps s0 (State.trdStartFail s a1) := by
  unfold State.trdStartFail
  lift_lets
  intro x0 x1
  exact (.ite (State.feLatch_keeps h) h)
theorem State.encLatch_keeps {s0 : State} {s : State} {a1 : Fld} {a2 : Nat} (h : Keeps s0 s) : Keeps s0 (State.encLatch s a1
    a2) := by
  unfold State.encLatch
  exact (.ite h (State.raise_keeps (State.put_keeps h)))
theorem State.trdEncEdge_keeps {s0 : State} {s : State} {a1 : Nat} {a2 : EncIn} {a3 : Bool} {a4 : Bool} {a5 : Bool} (h :
    Keeps s0 s) : Keeps s0 (State.trdEncEdge s a1 a2 a3 a4 a5) := by
  unfold State.trdEncEdge
  lift_lets
  intro x0 x1 x2
  have h2 : Keeps s0 x2 := (.upd h)
  intro x4
  have h4 : Keeps s0 x4 := (.ite (State.encLatch_keeps h2) h2)
  intro x6
  have h6 : Keeps s0 x6 := (State.putI_keeps h4)
  intro x8
  have h8 : Keeps s0 x8 := (.ite h6 (.each (fun _ _ h9 => (.ite (State.setSlot_keeps h9) h9)) h6))
  intro x10 x11
  have h11 : Keeps s0 x11 := (State.putI_keeps h8)
  intro x13
  have h13 : Keeps s0 x13 := (State.put_keeps h11)
  intro x15
  have h15 : Keeps s0 x15 := (.ite (by
    split
    · exact (State.put_keeps h13)
    · exact (State.encLatch_keeps h13)
    · exact h13) h8)
  exact (State.renewAngle_keeps h15)
theorem State.trdEncShort_keeps {s0 : State} {s : State} {a1 : Nat} {a2 : Nat} (h : Keeps s0 s) : Keeps s0
    (State.trdEncShort s a1 a2) := by
  unfold State.trdEncShort
  split
  · exact (by
      lift_lets
      intro x1 x2
      have h2 : Keeps s0 x2 := (.upd h)
      exact (.ite (State.renewAngle_keeps (State.encLatch_keeps h2)) h2))
theorem State.trdRefuse_keeps {s0 : State} {s : State} (h : Keeps s0 s) : Keeps s0 (State.trdRefuse s) := by
  unfold State.trdRefuse
  exact (State.hwUp_keeps h)
theorem State.trdClrFe_keeps {s0 : State} {s : State} {a1 : Nat} (h : Keeps s0 s) : Keeps s0 (State.trdClrFe s a1) := by
  unfold State.trdClrFe
  exact (State.setSlot_keeps h)
theorem State.trdRstI_keeps {s0 : State} {s : State} {a1 : Nat} (h : Keeps s0 s) : Keeps s0 (State.trdRstI s a1) := by
  unfold State.trdRstI
  exact (State.setSlot_keeps h)
theorem State.trdClrHvOv_keeps {s0 : State} {s : State} {a1 : Bool} (h : Keeps s0 s) : Keeps s0 (State.trdClrHvOv s a1) := by
  unfold State.trdClrHvOv
  lift_lets
  intro x0 x1
  have h1 : Keeps s0 x1 := (State.putB_keeps h)
  intro x3
  have h3 : Keeps s0 x3 := (.ite (State.putB_keeps h1) h1)
  clear_value x3
  intro x5
  exact (.ite (State.trdRefuse_keeps h) (.upd h3))
theorem State.axesClrEnc_keeps {s0 : State} {s : State} {a1 : Nat} (h : Keeps s0 s) : Keeps s0 (State.axesClrEnc s a1) := by
  unfold State.axesClrEnc
  exact (.upd h)
theorem State.trdClrEnc_keeps {s0 : State} {s : State} {a1 : Nat} (h : Keeps s0 s) : Keeps s0 (State.trdClrEnc s a1) := by
  unfold State.trdClrEnc
  lift_lets
  intro x0
  exact (State.renewAngle_keeps (State.axesClrEnc_keeps (State.put_keeps (State.put_keeps (State.put_keeps h)))))
theorem State.hvOv_keeps {s0 : State} {s : State} (h : Keeps s0 s) : Keeps s0 (State.hvOv s) := by
  unfold State.hvOv
  exact (.ite h (by
    lift_lets
    intro x0
    have h0 : Keeps s0 x0 := (State.putB_keeps h)
    intro x2 x3
    have h3 : Keeps s0 x3 := (.ite (State.putB_keeps h0) h0)
    exact (State.raise_keeps (State.stopSlot_keeps h3))))
theorem State.trdLanded_keeps {s0 : State} {s : State} {a1 : State} (h : Keeps s0 s) : Keeps s0 (State.trdLanded s a1) := by
  unfold State.trdLanded
  lift_lets
  intro x0
  have h0 : Keeps s0 x0 := (.each (fun _ _ h1 => (by
    lift_lets
    intro x2
    exact (.ite h1 (State.setSlot_keeps h1)))) h)
  exact (.ite (State.loadPwm_keeps (State.slotsFollow_keeps h0)) h0)
theorem State.trdTick_keeps {s0 : State} {s : State} (h : Keeps s0 s) : Keeps s0 (State.trdTick s) := by
  unfold State.trdTick
  exact (.ite h (by
    lift_lets
    intro x0
    have h0 : Keeps s0 x0 := (.each (fun _ _ h1 => (by
      lift_lets
      intro x2
      have h2 : Keeps s0 x2 := (State.putB_keeps (State.putB_keeps h1))
      exact (State.put_keeps (State.putB_keeps (State.putB_keeps h2))))) h)
    exact (State.slotsFollow_keeps h0)))
theorem State.setAxis_keeps {s0 : State} {s : State} {a1 : Nat} {a2 : Axis} (h : Keeps s0 s) : Keeps s0 (State.setAxis s a1
    a2) := by
  unfold State.setAxis
  exact (.upd h)
theorem State.axisClass_keeps {s0 : State} {s : State} {a1 : Nat} {a2 : Nat} (h : Keeps s0 s) : Keeps s0 (State.axisClass s
    a1 a2) := by
  unfold State.axisClass
  lift_lets
  intro x0 x1 x2 x3 x4
  have h4 : Keeps s0 x4 := (State.setAxis_keeps h)
  intro x6
  have h6 : Keeps s0 x6 := (State.put_keeps h4)
  exact (.ite h (.ite (State.putB_keeps h6) h6))
theorem State.axisEval_keeps {s0 : State} {s : State} {a1 : Nat} (h : Keeps s0 s) : Keeps s0 (State.axisEval s a1) := by
  unfold State.axisEval
  lift_lets
  intro x0 x1 x2
  have h2 : Keeps s0 x2 := (State.putI_keeps h)
  intro x4 x5 x6 x7 x8 x9 x10 x11 x12 x13 x14 x15 x16 x17
  have h17 : Keeps s0 x17 := (State.setAxis_keeps h2)
  intro x19 x20
  have h20 : Keeps s0 x20 := (.ite (State.putB_keeps (.ite (State.putB_keeps (.ite (State.putB_keeps (.ite (State.putB_keeps h17) h17)) (.ite (State.putB_keeps h17) h17))) (.ite (State.putB_keeps (.ite (State.putB_keeps h17) h17)) (.ite (State.putB_keeps h17) h17)))) (.ite (State.putB_keeps (.ite (State.putB_keeps (.ite (State.putB_keeps h17) h17)) (.ite (State.putB_keeps h17) h17))) (.ite (State.putB_keeps (.ite (State.putB_keeps h17) h17)) (.ite (State.putB_keeps h17) h17))))
  intro x22 x23
  have h23 : Keeps s0 x23 := (.ite (State.raise_keeps (.ite (State.raise_keeps (.ite (State.raise_keeps (.ite (State.raise_keeps h20) h20)) (.ite (State.raise_keeps h20) h20))) (.ite (State.raise_keeps (.ite (State.raise_keeps h20) h20)) (.ite (State.raise_keeps h20) h20)))) (.ite (State.raise_keeps (.ite (State.raise_keeps (.ite (State.raise_keeps h20) h20)) (.ite (State.raise_keeps h20) h20))) (.ite (State.raise_keeps (.ite (State.raise_keeps h20) h20)) (.ite (State.raise_keeps h20) h20))))
  exact (.ite h (.ite (State.axisDrop_keeps h23) h23))
theorem State.axisTick_keeps {s0 : State} {s : State} {a1 : Nat} (h : Keeps s0 s) : Keeps s0 (State.axisTick s a1) := by
  unfold State.axisTick
  lift_lets
  intro x0 x1 x2
  have h2 : Keeps s0 x2 := (.ite (State.putI_keeps (State.setAxis_keeps h)) (.ite (State.setAxis_keeps h) h))
  intro x4 x5
  have h5 : Keeps s0 x5 := (State.putB_keeps (State.putB_keeps (State.putB_keeps h2)))
  intro x7
  have h7 : Keeps s0 x7 := (State.putB_keeps (State.putB_keeps h5))
  intro x9
  exact (State.putB_keeps h7)
theorem State.axisDecide_keeps {s0 : State} {s : State} {a1 : Nat} {a2 : Nat → Nat} (h : Keeps s0 s) : Keeps s0
    (State.axisDecide s a1 a2) := by
  unfold State.axisDecide
  lift_lets
  intro x0 x1 x2
  have h2 : Keeps s0 x2 := (State.setAxis_keeps h)
  intro x4 x5
  have h5 : Keeps s0 x5 := (State.axisClass_keeps h2)
  exact (.ite h (State.axisEval_keeps h5))
theorem State.axesZero_keeps {s0 : State} {s : State} (h : Keeps s0 s) : Keeps s0 (State.axesZero s) := by
  unfold State.axesZero
  exact (.each (fun _ _ h0 => (State.put_keeps (State.setAxis_keeps h0))) h)
theorem State.axisEdge_keeps {s0 : State} {s : State} {a1 : Nat} {a2 : EncIn} {a3 : Bool} {a4 : Bool} {a5 : Bool} (h : Keeps
    s0 s) : Keeps s0 (State.axisEdge s a1 a2 a3 a4 a5) := by
  unfold State.axisEdge
  lift_lets
  intro x0 x1 x2 x3 x4 x5 x6 x7 x8
  have h8 : Keeps s0 x8 := (State.putI_keeps (State.setAxis_keeps h))
  exact (State.axisEval_keeps (State.putB_keeps h8))
theorem State.encoderEdge_keeps {s0 : State} {s : State} {a1 : Nat} {a2 : Bool} {a3 : Bool} {a4 : Bool} {a5 : Nat} (h :
    Keeps s0 s) : Keeps s0 (State.encoderEdge s a1 a2 a3 a4 a5) := by
  unfold State.encoderEdge
  lift_lets
  intro x0 x1 x2
  have h2 : Keeps s0 x2 := (.upd h)
  exact (.ite h (.ite (.ite (State.trdEncEdge_keeps h2) h2) (.ite (State.axisEdge_keeps h2) h2)))
theorem State.encoderShort_keeps {s0 : State} {s : State} {a1 : Nat} {a2 : Nat} {a3 : Nat} (h : Keeps s0 s) : Keeps s0
    (State.encoderShort s a1 a2 a3) := by
  unfold State.encoderShort
  exact (.ite h (.ite (.ite (State.trdEncShort_keeps h) h) (by
    lift_lets
    intro x0 x1
    clear_value x0 x1
    exact (.ite (by
      split
      · exact (by
          lift_lets
          intro x3
          have h3 : Keeps s0 x3 := (State.setAxis_keeps h)
          exact (.ite (State.axisEval_keeps h3) h3))) h))))
theorem State.ss1Done_keeps {s0 : State} {s : State} {a1 : Nat} (h : Keeps s0 s) : Keeps s0 (State.ss1Done s a1) := by
  unfold State.ss1Done
  exact (.ite h (by
    lift_lets
    intro x0 x1 x2
    exact (.ite (State.pairGo_keeps h) h)))
/-- Only the field that is set changes. -/
theorem field_setField (f : Fuses) (i j : Nat) (v : Fuse2) :
    (f.setField i v).field j = f.field j ∨ ((f.setField i v).field j = v ∧ f.field i = f.field j) := by
  have hk : ∀ (i : Nat) (v : Fuse2) (j : Nat), (tabGet (fun _ => ({} : Fuse2)) (tabSet (fun _ => {}) f.keys (i - 0x10) v) (j - 0x10)
      = f.key (j - 0x10)) ∨ (tabGet (fun _ => ({} : Fuse2)) (tabSet (fun _ => {}) f.keys (i - 0x10) v) (j - 0x10) = v ∧
      f.key (i - 0x10) = f.key (j - 0x10)) := by
    intro i v j
    rw [tabGet_tabSet]
    split
    · rename_i e; right; exact ⟨rfl, by rw [e]⟩
    · left; rfl
  unfold Fuses.setField
  split <;> unfold Fuses.field <;> split <;> first | exact Or.inl rfl | exact Or.inr ⟨rfl, rfl⟩ | skip
  all_goals exact hk _ _ _

theorem State.burnEnd_keeps {s0 s : State} {r : Nat} (h : Keeps s0 s) : Keeps s0 (s.burnEnd r) := by
  unfold State.burnEnd
  exact State.put_keeps h
theorem State.burnStart_keeps {s0 s : State} {a i v : Nat} (h : Keeps s0 s) : Keeps s0 (s.burnStart a i v) := by
  unfold State.burnStart
  exact State.putB_keeps (h.trans ⟨rfl, rfl, id, id, .of rfl rfl rfl (fun j => by unfold Fuses.field; split <;> rfl)⟩)
theorem State.burn_keeps {s0 : State} {s : State} {a1 : Nat} (h : Keeps s0 s) : Keeps s0 (State.burn s a1) := by
  unfold State.burn
  lift_lets
  intro x0
  clear_value x0
  exact (.ite h (.ite (State.burnEnd_keeps h) (by
    split
    · exact (State.burnEnd_keeps h)
    · exact (.ite (State.burnEnd_keeps h) (.ite (State.burnEnd_keeps h) (State.burnStart_keeps h))))))
theorem State.burnRevoke_keeps {s0 : State} {s : State} {a1 : Nat} (h : Keeps s0 s) : Keeps s0 (State.burnRevoke s a1) := by
  unfold State.burnRevoke
  lift_lets
  intro x0
  exact (.ite h (.ite (State.burnEnd_keeps h) (.ite (State.burnEnd_keeps h) (.ite (State.burnEnd_keeps h) (State.burnStart_keeps h)))))
theorem State.burnSvn_keeps {s0 : State} {s : State} {a1 : Nat} (h : Keeps s0 s) : Keeps s0 (State.burnSvn s a1) := by
  unfold State.burnSvn
  lift_lets
  intro x0
  exact (.ite h (.ite (State.burnEnd_keeps h) (.ite (State.burnEnd_keeps h) (.ite (State.burnEnd_keeps h) (State.burnStart_keeps h)))))
theorem State.burnDone_keeps {s0 s : State} {a b : Nat} (h : Keeps s0 s) : Keeps s0 (s.burnDone a b) := by
  unfold State.burnDone
  split
  · exact h
  · rename_i act id val hb
    dsimp only
    refine State.burnEnd_keeps (State.putB_keeps (h.trans ⟨rfl, rfl, fun x => x, fun x => x, ?_⟩))
    have e : ∀ (f : Fuses) (j : Nat), ({ f with burn := none } : Fuses).field j = f.field j := by
      intro f j; unfold Fuses.field; split <;> rfl
    have u : ∀ (v : Fuse2), (s.fuse.setField id v).unitId = s.fuse.unitId ∧ (s.fuse.setField id v).grade = s.fuse.grade ∧
        (s.fuse.setField id v).factOk = s.fuse.factOk := by
      intro v; unfold Fuses.setField; split <;> exact ⟨rfl, rfl, rfl⟩
    refine ⟨(u _).1, (u _).2.1, (u _).2.2, fun j i => ?_⟩
    rw [e]
    rcases field_setField s.fuse id j ⟨orN (s.fuse.field id).a (andN a val), orN (s.fuse.field id).b (andN b val)⟩ with hf | ⟨hf, hi⟩
    · rw [hf]; exact ⟨fun x => x, fun x => x⟩
    · rw [hf, ← hi]
      exact ⟨fun x => by simp [orN, x], fun x => by simp [orN, x]⟩
theorem State.ceilTick_keeps {s0 s : State} (h : Keeps s0 s) : Keeps s0 s.ceilTick :=
  h.trans ⟨rfl, rfl, id, id, .of rfl rfl rfl (fun j => by unfold Fuses.field; split <;> rfl)⟩
theorem State.tapLoad_keeps {s0 s : State} {i : TapInstr} (h : Keeps s0 s) : Keeps s0 (s.tapLoad i) := by
  unfold State.tapLoad
  exact .ite (h.trans ⟨rfl, rfl, id, id, .of rfl rfl rfl (fun j => by unfold Fuses.field; split <;> rfl)⟩)
    (State.hwUp_keeps (h.trans ⟨rfl, rfl, id, id, .of rfl rfl rfl (fun j => by unfold Fuses.field; split <;> rfl)⟩))
theorem State.showStage_keeps {s0 : State} {s : State} (h : Keeps s0 s) : Keeps s0 (State.showStage s) := by
  unfold State.showStage
  lift_lets
  intro x0
  have h0 : Keeps s0 x0 := (State.putB_keeps h)
  intro x2
  have h2 : Keeps s0 x2 := (State.putB_keeps h0)
  exact (State.put_keeps h2)
theorem State.setStage_keeps {s0 : State} {s : State} {a1 : Staging} (h : Keeps s0 s) : Keeps s0 (State.setStage s a1) := by
  unfold State.setStage
  exact (State.showStage_keeps (.upd h))
theorem State.landStage_keeps {s0 s : State} {epoch : Nat} (h : Keeps s0 s) : Keeps s0 (s.landStage epoch) := by
  unfold State.landStage
  lift_lets
  intro ws tag x1 x2
  have h1 : Keeps s0 x1 := .upd h
  clear_value x1
  have h2 : Keeps s0 x2 := by
    dsimp only [x2]
    cases tag
    · exact h1
    · exact State.put_keeps (State.put_keeps h1)
  exact State.setStage_keeps h2
theorem State.setLane_keeps {s0 : State} {s : State} {a1 : Nat} {a2 : Lane} (h : Keeps s0 s) : Keeps s0 (State.setLane s a1
    a2) := by
  unfold State.setLane
  exact (.upd h)
theorem State.setPort_keeps {s0 : State} {s : State} {a1 : Nat} {a2 : LnkPort} (h : Keeps s0 s) : Keeps s0 (State.setPort s
    a1 a2) := by
  unfold State.setPort
  exact (.upd h)
theorem State.lineSend_keeps {s0 : State} {s : State} {a1 : Nat} {a2 : Bool} {a3 : Nat} (h : Keeps s0 s) : Keeps s0
    (State.lineSend s a1 a2 a3) := by
  unfold State.lineSend
  split
  · exact (State.emit_keeps (.upd h))
theorem State.setIndex_keeps {s0 : State} {s : State} {a1 : Nat} {a2 : Nat} (h : Keeps s0 s) : Keeps s0 (State.setIndex s a1
    a2) := by
  unfold State.setIndex
  exact (.upd h)
theorem State.lineGap_keeps {s0 : State} {s : State} {a1 : Nat} (h : Keeps s0 s) : Keeps s0 (State.lineGap s a1) := by
  unfold State.lineGap
  exact (.ite h (.upd h))
theorem State.streamPick_keeps {s0 : State} {s : State} {a1 : Nat} {a2 : Bool} {a3 : Nat} (h : Keeps s0 s) : Keeps s0
    (State.streamPick s a1 a2 a3) := by
  unfold State.streamPick
  lift_lets
  intro x0 x1 x2 x3
  have h3 : Keeps s0 x3 := (State.setIndex_keeps h)
  exact (.ite (State.lineSend_keeps h3) h3)
theorem State.sendStream_keeps {s0 : State} {s : State} {a1 : Nat} {a2 : List (Bool × Nat)} (h : Keeps s0 s) : Keeps s0
    (State.sendStream s a1 a2) := by
  unfold State.sendStream
  exact (.each (fun _ _ h0 => (State.streamPick_keeps h0)) (State.lineGap_keeps h))
theorem State.sendColumn_keeps {s0 : State} {s : State} {a1 : Nat} {a2 : List Nat} {a3 : Nat → Nat} (h : Keeps s0 s) : Keeps
    s0 (State.sendColumn s a1 a2 a3) := by
  unfold State.sendColumn
  lift_lets
  intro x0
  have h0 : Keeps s0 x0 := (State.lineGap_keeps h)
  intro x2 x3
  have h3 : Keeps s0 x3 := (.each (fun _ _ h4 => (State.streamPick_keeps h4)) h0)
  exact (.each (fun _ _ h5 => (State.lineSend_keeps h5)) (State.setIndex_keeps h3))
theorem State.laneGo_keeps {s0 : State} {s : State} {a1 : Nat} {a2 : Nat} (h : Keeps s0 s) : Keeps s0 (State.laneGo s a1 a2) := by
  unfold State.laneGo
  lift_lets
  intro x0 x1 x2 x3
  have h3 : Keeps s0 x3 := (State.put_keeps (State.setLane_keeps h))
  intro x5
  have h5 : Keeps s0 x5 := (.ite (State.putB_keeps h3) h3)
  intro x7
  have h7 : Keeps s0 x7 := (.ite (State.put_keeps h5) h5)
  intro x9
  have h9 : Keeps s0 x9 := (.ite (State.putB_keeps h7) h7)
  exact (.ite h9 (State.raise_keeps h9))
theorem State.laneErr_keeps {s0 : State} {s : State} {a1 : Nat} {a2 : Nat} (h : Keeps s0 s) : Keeps s0 (State.laneErr s a1
    a2) := by
  unfold State.laneErr
  exact (State.raise_keeps h)
theorem State.showQuads_keeps {s0 : State} {s : State} (h : Keeps s0 s) : Keeps s0 (State.showQuads s) := by
  unfold State.showQuads
  exact (.each (fun _ _ h0 => (.ite (by
    lift_lets
    intro x1 x2
    have h2 : Keeps s0 x2 := (State.putB_keeps (State.putB_keeps h0))
    intro x4
    have h4 : Keeps s0 x4 := (.ite h2 (.each (fun _ _ h5 => (State.laneErr_keeps h5)) h2))
    clear_value x4
    intro x6
    exact (.upd h4)) (.upd h0))) h)
theorem State.lanesCheck_keeps {s0 : State} {s : State} (h : Keeps s0 s) : Keeps s0 (State.lanesCheck s) := by
  unfold State.lanesCheck
  exact (.ite h (.each (fun _ _ h0 => (by
    lift_lets
    intro x1 x2
    exact (.ite (.ite h0 (State.laneGo_keeps h0)) (.ite (.ite (State.laneGo_keeps h0) h0) (.ite h0 (State.laneGo_keeps h0)))))) (State.showQuads_keeps h)))
theorem State.showLink_keeps {s0 : State} {s : State} (h : Keeps s0 s) : Keeps s0 (State.showLink s) := by
  unfold State.showLink
  lift_lets
  intro x0
  have h0 : Keeps s0 x0 := (.each (fun _ _ h1 => (State.put_keeps (State.put_keeps h1))) h)
  exact (.each (fun _ _ h2 => (State.put_keeps h2)) h0)
theorem State.applyLink_keeps {s0 : State} {s : State} {a1 : List Nat} (h : Keeps s0 s) : Keeps s0 (State.applyLink s a1) := by
  unfold State.applyLink
  lift_lets
  intro x0 x1 x2 x3 x4
  have h4 : Keeps s0 x4 := (.upd h)
  intro x6
  have h6 : Keeps s0 x6 := (.each (fun _ _ h7 => (State.laneGo_keeps h7)) h4)
  exact (.ite h4 (State.lanesCheck_keeps (State.showLink_keeps h6)))
theorem State.showLogical_keeps {s0 : State} {s : State} {a1 : Nat} (h : Keeps s0 s) : Keeps s0 (State.showLogical s a1) := by
  unfold State.showLogical
  lift_lets
  intro x0 x1
  exact (.each (fun _ _ h2 => (State.put_keeps h2)) h)
theorem State.laneBonds_keeps {s0 : State} {s : State} {a1 : Nat} (h : Keeps s0 s) : Keeps s0 (State.laneBonds s a1) := by
  unfold State.laneBonds
  split
  · exact (State.laneGo_keeps h)
  · exact (by
      lift_lets
      intro x1 x2 x3 x4
      have h4 : Keeps s0 x4 := (.ite (State.putB_keeps (State.put_keeps h)) h)
      intro x6
      have h6 : Keeps s0 x6 := (State.laneGo_keeps h4)
      intro x8
      have h8 : Keeps s0 x8 := (by
        dsimp only [x8]
        split
        · exact (State.putB_keeps h6)
        · exact h6)
      exact (.ite (State.laneGo_keeps (State.laneErr_keeps (State.setLane_keeps h4))) (State.showLogical_keeps h8)))
theorem State.laneAdvance_keeps {s0 : State} {s : State} {a1 : Nat} (h : Keeps s0 s) : Keeps s0 (State.laneAdvance s a1) := by
  unfold State.laneAdvance
  lift_lets
  intro x0
  clear_value x0
  exact (.ite h (by
    split
    · exact (State.laneGo_keeps h)
    · exact (State.laneGo_keeps h)
    · exact (State.laneBonds_keeps h)
    · exact (.ite h (State.laneGo_keeps h))
    · exact h))
theorem State.laneProbe_keeps {s0 : State} {s : State} {a1 : Nat} {a2 : Bool} (h : Keeps s0 s) : Keeps s0 (State.laneProbe s
    a1 a2) := by
  unfold State.laneProbe
  exact (.ite (State.laneGo_keeps h) h)
theorem State.laneLock_keeps {s0 : State} {s : State} {a1 : Nat} {a2 : Bool} {a3 : Bool} {a4 : Nat} (h : Keeps s0 s) : Keeps
    s0 (State.laneLock s a1 a2 a3 a4) := by
  unfold State.laneLock
  exact (.ite h (by
    lift_lets
    intro x0
    have h0 : Keeps s0 x0 := (State.addSat_keeps h)
    intro x2 x3
    have h3 : Keeps s0 x3 := (State.setLane_keeps h0)
    intro x5
    have h5 : Keeps s0 x5 := (.ite (State.putB_keeps h3) h3)
    intro x7
    have h7 : Keeps s0 x7 := (State.setLane_keeps (State.bump_keeps h0))
    exact (.ite (State.laneAdvance_keeps h5) (.ite h0 (.ite (State.laneGo_keeps (State.laneErr_keeps h7)) h7)))))
theorem State.laneFom_keeps {s0 : State} {s : State} {a1 : Nat} {a2 : Nat} (h : Keeps s0 s) : Keeps s0 (State.laneFom s a1
    a2) := by
  unfold State.laneFom
  lift_lets
  intro x0 x1 x2 x3
  have h3 : Keeps s0 x3 := (State.setLane_keeps h)
  exact (.ite h (.ite (State.laneAdvance_keeps (State.put_keeps (State.put_keeps h3))) h3))
theorem State.portWakes_keeps {s0 : State} {s : State} {a1 : Nat} (h : Keeps s0 s) : Keeps s0 (State.portWakes s a1) := by
  unfold State.portWakes
  split
  · exact (State.setPort_keeps (State.put_keeps h))
  · exact h
theorem State.laneTrain_keeps {s0 : State} {s : State} {a1 : Nat} {a2 : Nat} {a3 : Nat} {a4 : Bool} {a5 : TrainRest} (h :
    Keeps s0 s) : Keeps s0 (State.laneTrain s a1 a2 a3 a4 a5) := by
  unfold State.laneTrain
  lift_lets
  intro x0 x1 x2
  have h2 : Keeps s0 x2 := (State.put_keeps h)
  intro x4 x5
  exact (.ite (State.laneGo_keeps h) (.ite (State.portWakes_keeps (State.laneGo_keeps h)) (.ite (State.portWakes_keeps (State.laneGo_keeps h)) (.ite (State.laneAdvance_keeps (State.setLane_keeps h2)) h))))
theorem State.laneStepOut_keeps {s0 : State} {s : State} {a1 : Nat} (h : Keeps s0 s) : Keeps s0 (State.laneStepOut s a1) := by
  unfold State.laneStepOut
  exact (.ite (State.laneGo_keeps h) h)
theorem State.laneTrainOut_keeps {s0 : State} {s : State} {a1 : Nat} (h : Keeps s0 s) : Keeps s0 (State.laneTrainOut s a1) := by
  unfold State.laneTrainOut
  exact (.ite (by
    lift_lets
    intro x0
    have h0 : Keeps s0 x0 := (State.bump_keeps (State.laneErr_keeps h))
    exact (State.laneGo_keeps (State.bump_keeps h0))) h)
theorem State.laneBackoffEnd_keeps {s0 : State} {s : State} {a1 : Nat} (h : Keeps s0 s) : Keeps s0 (State.laneBackoffEnd s
    a1) := by
  unfold State.laneBackoffEnd
  exact (.ite (State.laneGo_keeps h) h)
theorem State.laneRetrain_keeps {s0 : State} {s : State} {a1 : Nat} (h : Keeps s0 s) : Keeps s0 (State.laneRetrain s a1) := by
  unfold State.laneRetrain
  exact (.ite (State.laneGo_keeps h) h)
theorem State.portRetrain_keeps {s0 : State} {s : State} {a1 : Nat} (h : Keeps s0 s) : Keeps s0 (State.portRetrain s a1) := by
  unfold State.portRetrain
  exact (.each (fun _ _ h0 => (State.laneRetrain_keeps h0)) h)
theorem State.laneRetrainCmd_keeps {s0 : State} {s : State} {a1 : Nat} (h : Keeps s0 s) : Keeps s0 (State.laneRetrainCmd s
    a1) := by
  unfold State.laneRetrainCmd
  exact (State.laneRetrain_keeps (State.putB_keeps (State.put_keeps h)))
theorem State.laneCtl_keeps {s0 : State} {s : State} {a1 : Nat} {a2 : Bool} {a3 : Bool} (h : Keeps s0 s) : Keeps s0
    (State.laneCtl s a1 a2 a3) := by
  unfold State.laneCtl
  lift_lets
  intro x0
  have h0 : Keeps s0 x0 := (State.lanesCheck_keeps (State.putB_keeps h))
  exact (.ite (State.laneRetrainCmd_keeps h0) h0)
theorem State.srefChange_keeps {s0 : State} {s : State} {a1 : Nat} {a2 : Bool} (h : Keeps s0 s) : Keeps s0 (State.srefChange
    s a1 a2) := by
  unfold State.srefChange
  exact (State.lanesCheck_keeps (.upd h))
theorem State.setActive_keeps {s0 : State} {s : State} {a1 : Nat} {a2 : List Nat} (h : Keeps s0 s) : Keeps s0
    (State.setActive s a1 a2) := by
  unfold State.setActive
  lift_lets
  intro x0 x1
  have h1 : Keeps s0 x1 := (State.put_keeps (State.put_keeps h))
  exact (.ite h1 (State.raise_keeps h1))
theorem State.portGoUp_keeps {s0 : State} {s : State} {a1 : Nat} (h : Keeps s0 s) : Keeps s0 (State.portGoUp s a1) := by
  unfold State.portGoUp
  lift_lets
  intro x0 x1
  have h1 : Keeps s0 x1 := (State.setPort_keeps h)
  intro x3
  have h3 : Keeps s0 x3 := (State.putB_keeps h1)
  intro x5
  have h5 : Keeps s0 x5 := (State.putB_keeps (State.put_keeps h3))
  intro x7
  have h7 : Keeps s0 x7 := (State.put_keeps (State.put_keeps (State.put_keeps h5)))
  intro x9
  have h9 : Keeps s0 x9 := (State.setActive_keeps (State.raise_keeps h7))
  exact (.ite h (State.sendStream_keeps (State.setIndex_keeps h9)))
theorem State.portGoDown_keeps {s0 : State} {s : State} {a1 : Nat} (h : Keeps s0 s) : Keeps s0 (State.portGoDown s a1) := by
  unfold State.portGoDown
  exact (.ite h (by
    lift_lets
    intro x0
    have h0 : Keeps s0 x0 := (State.addSat_keeps h)
    intro x2
    have h2 : Keeps s0 x2 := (State.putB_keeps (State.setPort_keeps h0))
    intro x4
    have h4 : Keeps s0 x4 := (State.raise_keeps (State.putB_keeps (State.put_keeps h2)))
    intro x6
    have h6 : Keeps s0 x6 := (State.put_keeps (State.put_keeps (State.put_keeps h4)))
    exact (State.setActive_keeps h6)))
theorem State.portAlign_keeps {s0 : State} {s : State} {a1 : Nat} {a2 : Nat} {a3 : Nat} {a4 : Bool} {a5 : Nat} (h : Keeps s0
    s) : Keeps s0 (State.portAlign s a1 a2 a3 a4 a5) := by
  unfold State.portAlign
  exact (.ite h (by
    lift_lets
    intro x0 x1 x2
    have h2 : Keeps s0 x2 := (State.setPort_keeps h)
    intro x4
    have h4 : Keeps s0 x4 := (State.put_keeps h2)
    intro x6
    have h6 : Keeps s0 x6 := (.each (fun _ _ h7 => (by
      lift_lets
      intro x8
      exact (.ite (State.laneGo_keeps (State.laneErr_keeps h7)) (.ite (State.laneErr_keeps (State.setLane_keeps h7)) h7)))) h4)
    exact (.ite (State.raise_keeps (State.putB_keeps h6)) h6)))
theorem State.columnSend_keeps {s0 : State} {s : State} {a1 : Nat} {a2 : Bool} (h : Keeps s0 s) : Keeps s0 (State.columnSend
    s a1 a2) := by
  unfold State.columnSend
  exact (.ite h (.ite (by
    lift_lets
    intro x0 x1
    have h1 : Keeps s0 x1 := (State.sendColumn_keeps h)
    intro x3 x4
    have h4 : Keeps s0 x4 := (State.setActive_keeps h1)
    exact (.ite h4 (State.setIndex_keeps h4))) (State.sendColumn_keeps h)))
theorem State.lanesGo_keeps {s0 : State} {s : State} {a1 : Nat} {a2 : Nat} {a3 : Nat} (h : Keeps s0 s) : Keeps s0
    (State.lanesGo s a1 a2 a3) := by
  unfold State.lanesGo
  exact (.each (fun _ _ h0 => (State.laneGo_keeps h0)) h)
theorem State.dozeColumn_keeps {s0 : State} {s : State} {a1 : Nat} {a2 : Bool} (h : Keeps s0 s) : Keeps s0 (State.dozeColumn
    s a1 a2) := by
  unfold State.dozeColumn
  exact (State.sendColumn_keeps h)
theorem State.dozeIdle_keeps {s0 : State} {s : State} {a1 : Nat} (h : Keeps s0 s) : Keeps s0 (State.dozeIdle s a1) := by
  unfold State.dozeIdle
  exact (.ite (State.setPort_keeps (State.dozeColumn_keeps h)) h)
theorem State.dozeTake_keeps {s0 : State} {s : State} {a1 : Nat} {a2 : Bool} (h : Keeps s0 s) : Keeps s0 (State.dozeTake s
    a1 a2) := by
  unfold State.dozeTake
  exact (.ite h (by
    lift_lets
    intro x0
    have h0 : Keeps s0 x0 := (.ite h (State.dozeColumn_keeps h))
    exact (State.put_keeps (State.lanesGo_keeps h0))))
theorem State.dozeExit_keeps {s0 : State} {s : State} {a1 : Nat} (h : Keeps s0 s) : Keeps s0 (State.dozeExit s a1) := by
  unfold State.dozeExit
  exact (.ite (by
    lift_lets
    intro x0 x1
    have h1 : Keeps s0 x1 := (.each (fun _ _ h2 => (State.lineSend_keeps h2)) (State.lineGap_keeps h))
    intro x3
    have h3 : Keeps s0 x3 := (State.put_keeps (State.lanesGo_keeps h1))
    intro x5
    exact (State.setPort_keeps h3)) h)
theorem State.deepIdle_keeps {s0 : State} {s : State} {a1 : Nat} (h : Keeps s0 s) : Keeps s0 (State.deepIdle s a1) := by
  unfold State.deepIdle
  exact (.ite (State.put_keeps (State.lanesGo_keeps h)) h)
theorem State.deepExit_keeps {s0 : State} {s : State} {a1 : Nat} (h : Keeps s0 s) : Keeps s0 (State.deepExit s a1) := by
  unfold State.deepExit
  exact (.ite (by
    lift_lets
    intro x0
    have h0 : Keeps s0 x0 := (State.put_keeps (State.lanesGo_keeps h))
    intro x2
    exact (State.setPort_keeps h0)) h)
theorem State.lnkMessage_keeps {s0 : State} {s : State} {a1 : List Nat} {a2 : Option Nat} {a3 : Nat} (h : Keeps s0 s) :
    Keeps s0 (State.lnkMessage s a1 a2 a3) := by
  unfold State.lnkMessage
  exact (.ite h (by
    lift_lets
    intro x0 x1
    exact (.each (fun _ _ h2 => (by
      lift_lets
      intro x3
      exact (State.setPort_keeps h2))) h)))
theorem State.bypassDue_keeps {s0 : State} {s : State} (h : Keeps s0 s) : Keeps s0 (State.bypassDue s) := by
  unfold State.bypassDue
  exact (.ite (.upd h) h)
theorem State.resteer_keeps {s0 : State} {s : State} {a1 : Int} (h : Keeps s0 s) : Keeps s0 (State.resteer s a1) := by
  unfold State.resteer
  exact (.upd h)
theorem State.setSteer_keeps {s0 : State} {s : State} {a1 : Int} (h : Keeps s0 s) : Keeps s0 (State.setSteer s a1) := by
  unfold State.setSteer
  exact (State.putI_keeps (State.resteer_keeps h))
theorem State.pulse_keeps {s0 : State} {s : State} {a1 : Nat} {a2 : Nat} (h : Keeps s0 s) : Keeps s0 (State.pulse s a1 a2) := by
  unfold State.pulse
  exact (.ite (State.emit_keeps h) h)
theorem State.tickPulses_keeps {s0 : State} {s : State} (h : Keeps s0 s) : Keeps s0 (State.tickPulses s) := by
  unfold State.tickPulses
  lift_lets
  intro x0
  have h0 : Keeps s0 x0 := (.ite (State.pulse_keeps h) h)
  exact (.each (fun _ _ h2 => (.ite (State.pulse_keeps h2) h2)) h0)
theorem State.syncGo_keeps {s0 : State} {s : State} {a1 : Nat} (h : Keeps s0 s) : Keeps s0 (State.syncGo s a1) := by
  unfold State.syncGo
  exact (.ite h (State.raise_keeps (State.put_keeps h)))
theorem State.syncRestart_keeps {s0 : State} {s : State} (h : Keeps s0 s) : Keeps s0 (State.syncRestart s) := by
  unfold State.syncRestart
  lift_lets
  intro x0 x1 x2
  exact (.upd h)
theorem State.syncJudge_keeps {s0 : State} {s : State} {a1 : Int} (h : Keeps s0 s) : Keeps s0 (State.syncJudge s a1) := by
  unfold State.syncJudge
  lift_lets
  intro x0 x1 x2 x3 x4 x5
  have h5 : Keeps s0 x5 := (.upd h)
  intro x7
  exact (.ite (State.syncGo_keeps h5) (.ite (State.syncGo_keeps h5) (.ite (.ite (State.syncGo_keeps h5) h5) (State.syncGo_keeps h5))))
theorem State.refEdge_keeps {s0 : State} {s : State} (h : Keeps s0 s) : Keeps s0 (State.refEdge s) := by
  unfold State.refEdge
  lift_lets
  intro x0
  clear_value x0
  exact (by
    split
    next y1_0 y1_1 y1_2 y1_3 => 
      have h1 : Keeps s0 y1_2 := (congrArg (fun p => Keeps s0 p.2) y1_3).mp (State.fresh_keeps h)
      exact (by
        lift_lets
        intro x2 x3
        have h3 : Keeps s0 x3 := (.upd h1)
        intro x5
        have h5 : Keeps s0 x5 := (State.putI_keeps h3)
        intro x7
        have h7 : Keeps s0 x7 := (.ite (State.syncRestart_keeps h5) h5)
        exact (State.syncJudge_keeps h7)))
theorem State.countMissing_keeps {s0 : State} {s : State} {a1 : Nat} (h : Keeps s0 s) : Keeps s0 (State.countMissing s a1) := by
  unfold State.countMissing
  exact (.ite h (by
    lift_lets
    intro x0 x1
    have h1 : Keeps s0 x1 := (State.addSat_keeps h)
    clear_value x1
    intro x3
    exact (.upd h1)))
theorem State.candidateEdge_keeps {s0 : State} {s : State} (h : Keeps s0 s) : Keeps s0 (State.candidateEdge s) := by
  unfold State.candidateEdge
  lift_lets
  intro x0 x1 x2
  exact (.ite (State.refEdge_keeps h) (State.bump_keeps h))
theorem State.syncEdge_keeps {s0 : State} {s : State} {a1 : Bool} {a2 : Nat} (h : Keeps s0 s) : Keeps s0 (State.syncEdge s
    a1 a2) := by
  unfold State.syncEdge
  exact (.ite h (by
    lift_lets
    intro x0
    have h0 : Keeps s0 x0 := (.ite (State.pulse_keeps h) h)
    clear_value x0
    intro x2 x3
    have h3 : Keeps s0 x3 := (.upd h0)
    intro x5
    have h5 : Keeps s0 x5 := (State.countMissing_keeps h0)
    clear_value x5
    intro x7
    exact (.ite h0 (.ite (State.refEdge_keeps (State.syncGo_keeps h3)) (.ite (.upd h5) (State.candidateEdge_keeps h5))))))
theorem State.syncLost_keeps {s0 : State} {s : State} (h : Keeps s0 s) : Keeps s0 (State.syncLost s) := by
  unfold State.syncLost
  exact (.ite h (by
    lift_lets
    intro x0
    have h0 : Keeps s0 x0 := (State.addSat_keeps h)
    clear_value x0
    intro x2 x3
    have h3 : Keeps s0 x3 := (.upd h0)
    exact (State.raise_keeps (State.syncGo_keeps h3))))
theorem State.pllTLock_keeps {s0 : State} {s : State} (h : Keeps s0 s) : Keeps s0 (State.pllTLock s) := by
  unfold State.pllTLock
  exact (.ite (by
    lift_lets
    intro x0 x1
    have h1 : Keeps s0 x1 := (.upd h)
    exact (State.lanesCheck_keeps (State.putB_keeps (State.putB_keeps h1)))) h)
theorem State.pllTDead_keeps {s0 : State} {s : State} (h : Keeps s0 s) : Keeps s0 (State.pllTDead s) := by
  unfold State.pllTDead
  exact (.ite (.upd h) h)
theorem State.attemptStart_keeps {s0 : State} {s : State} (h : Keeps s0 s) : Keeps s0 (State.attemptStart s) := by
  unfold State.attemptStart
  exact (State.putB_keeps (State.setSteer_keeps h))
theorem State.pllFLocked_keeps {s0 : State} {s : State} {a1 : Nat} {a2 : Bool} (h : Keeps s0 s) : Keeps s0 (State.pllFLocked
    s a1 a2) := by
  unfold State.pllFLocked
  lift_lets
  intro x0
  have h0 : Keeps s0 x0 := (State.putB_keeps (State.put_keeps (State.putB_keeps h)))
  clear_value x0
  intro x2
  exact (.upd h0)
theorem State.pllFAttempt_keeps {s0 : State} {s : State} {a1 : Bool} {a2 : Option Nat} (h : Keeps s0 s) : Keeps s0
    (State.pllFAttempt s a1 a2) := by
  unfold State.pllFAttempt
  lift_lets
  intro x0
  have h0 : Keeps s0 x0 := (State.attemptStart_keeps h)
  clear_value x0
  exact (by
    split
    · exact (State.pllFLocked_keeps h0)
    · exact (State.pllFLocked_keeps h0)
    · exact (State.putB_keeps h0))
theorem State.pllFBypass_keeps {s0 : State} {s : State} (h : Keeps s0 s) : Keeps s0 (State.pllFBypass s) := by
  unfold State.pllFBypass
  lift_lets
  intro x0 x1
  have h1 : Keeps s0 x1 := (.ite h (State.bypassDue_keeps h))
  intro x3
  have h3 : Keeps s0 x3 := (State.setSteer_keeps (State.putB_keeps h1))
  clear_value x3
  intro x5 x6
  have h6 : Keeps s0 x6 := (.upd h3)
  intro x8
  have h8 : Keeps s0 x8 := (State.putB_keeps h6)
  intro x10
  have h10 : Keeps s0 x10 := (State.syncGo_keeps (State.putB_keeps h8))
  exact (.ite h10 (State.raise_keeps h10))
theorem State.pllFRetry_keeps {s0 : State} {s : State} (h : Keeps s0 s) : Keeps s0 (State.pllFRetry s) := by
  unfold State.pllFRetry
  exact (.ite (State.attemptStart_keeps h) h)
theorem State.clkTFrame_keeps {s0 : State} {s : State} (h : Keeps s0 s) : Keeps s0 (State.clkTFrame s) := by
  unfold State.clkTFrame
  exact (State.diagOverrun_keeps (State.acqOverrun_keeps h))
theorem State.clkTFail_keeps {s0 : State} {s : State} (h : Keeps s0 s) : Keeps s0 (State.clkTFail s) := by
  unfold State.clkTFail
  exact (.ite h (by
    lift_lets
    intro x0
    have h0 : Keeps s0 x0 := (State.bypassDue_keeps h)
    clear_value x0
    intro x2 x3
    have h3 : Keeps s0 x3 := (State.cutPulses_keeps (.upd h0))
    intro x5
    have h5 : Keeps s0 x5 := (State.putB_keeps (State.putB_keeps h3))
    intro x7
    have h7 : Keeps s0 x7 := (State.lanesCheck_keeps h5)
    intro x9
    have h9 : Keeps s0 x9 := (State.raise_keeps (State.putB_keeps h7))
    intro x11
    have h11 : Keeps s0 x11 := (.ite (State.clkTFrame_keeps h9) h9)
    exact (State.reactS_keeps h11)))
theorem State.refOk_keeps {s0 : State} {s : State} {a1 : Bool} {a2 : Bool} (h : Keeps s0 s) : Keeps s0 (State.refOk s a1 a2) := by
  unfold State.refOk
  exact (State.putB_keeps h)
theorem State.monitorFault_keeps {s0 : State} {s : State} {a1 : Nat} (h : Keeps s0 s) : Keeps s0 (State.monitorFault s a1) := by
  unfold State.monitorFault
  lift_lets
  intro x0
  have h0 : Keeps s0 x0 := (State.hwUp_keeps h)
  exact (.ite (State.pllFBypass_keeps h0) (State.clkTFail_keeps h0))
theorem State.clkLanded_keeps {s0 : State} {s : State} {a1 : State} {a2 : List Nat} (h : Keeps s0 s) : Keeps s0
    (State.clkLanded s a1 a2) := by
  unfold State.clkLanded
  lift_lets
  intro x0 x1
  have h1 : Keeps s0 x1 := (.upd h)
  intro x3
  have h3 : Keeps s0 x3 := (.ite (State.syncGo_keeps h1) h)
  exact (.ite h3 (State.attemptStart_keeps (State.pllFBypass_keeps h3)))
theorem State.clkTick_keeps {s0 : State} {s : State} (h : Keeps s0 s) : Keeps s0 (State.clkTick s) := by
  unfold State.clkTick
  lift_lets
  intro x0
  have h0 : Keeps s0 x0 := (State.putB_keeps h)
  clear_value x0
  intro x2 x3
  have h3 : Keeps s0 x3 := (.ite (.upd h0) h)
  intro x5 x6 x7 x8
  have h8 : Keeps s0 x8 := (.ite (State.setSteer_keeps h3) (State.setSteer_keeps h3))
  clear_value x8
  intro x10 x11
  have h11 : Keeps s0 x11 := (.upd h8)
  exact (State.tickPulses_keeps h11)
theorem State.writeClkOut_keeps {s0 : State} {s : State} {a1 : Nat} {a2 : Word} (h : Keeps s0 s) : Keeps s0
    (State.writeClkOut s a1 a2) := by
  unfold State.writeClkOut
  exact (.ite (.ite (State.refuseClaim_keeps (State.put_keeps (State.hwUp_keeps h))) h) (by
    split
    · exact (State.hwUp_keeps h)
    · exact (.ite (State.hwUp_keeps h) (by
        lift_lets
        intro x1
        have h1 : Keeps s0 x1 := (.ite (State.claim_keeps h) h)
        intro x3 x4 x5
        have h5 : Keeps s0 x5 := (State.setWord_keeps h1)
        clear_value x5
        intro x7
        exact (.upd h5)))))
theorem State.markOut_keeps {s0 : State} {s : State} {a1 : Nat → Fld} {a2 : Nat} {a3 : Option Nat} (h : Keeps s0 s) : Keeps
    s0 (State.markOut s a1 a2 a3) := by
  unfold State.markOut
  exact (.ite h (by
    lift_lets
    intro x0
    have h0 : Keeps s0 x0 := (State.orBit_keeps h)
    clear_value x0
    exact (by
      split
      · exact (State.raise_keeps h0)
      · exact h0)))
theorem State.markOpen_keeps {s0 : State} {s : State} {a1 : Nat} (h : Keeps s0 s) : Keeps s0 (State.markOpen s a1) := by
  unfold State.markOpen
  exact (State.markOut_keeps h)
theorem State.markShort_keeps {s0 : State} {s : State} {a1 : Nat} (h : Keeps s0 s) : Keeps s0 (State.markShort s a1) := by
  unfold State.markShort
  exact (State.markOut_keeps h)
theorem State.markShut_keeps {s0 : State} {s : State} {a1 : Nat} (h : Keeps s0 s) : Keeps s0 (State.markShut s a1) := by
  unfold State.markShut
  lift_lets
  intro x0 x1
  exact (State.markOut_keeps (.upd h))
theorem State.markOver_keeps {s0 : State} {s : State} {a1 : Nat} (h : Keeps s0 s) : Keeps s0 (State.markOver s a1) := by
  unfold State.markOver
  exact (State.markOut_keeps h)
theorem State.markMpd_keeps {s0 : State} {s : State} {a1 : Nat} (h : Keeps s0 s) : Keeps s0 (State.markMpd s a1) := by
  unfold State.markMpd
  exact (.ite h (State.raise_keeps (State.orBit_keeps h)))
theorem State.suppress_keeps {s0 : State} {s : State} {a1 : Nat} {a2 : Fire} (h : Keeps s0 s) : Keeps s0 (State.suppress s
    a1 a2) := by
  unfold State.suppress
  split
  · exact h
  · exact (by
      lift_lets
      intro x1
      have h1 : Keeps s0 x1 := (State.bump_keeps h)
      clear_value x1
      intro x3 x4
      have h4 : Keeps s0 x4 := (.upd h1)
      clear_value x4
      intro x6
      exact (.ite h4 (State.raise_keeps (.upd h4))))
  · exact (State.bump_keeps h)
  · exact (State.bump_keeps h)
theorem State.emitShot_keeps {s0 : State} {s : State} {a1 : Nat} {a2 : Bool} {a3 : Nat} {a4 : List (Nat × Nat)} (h : Keeps
    s0 s) : Keeps s0 (State.emitShot s a1 a2 a3 a4) := by
  unfold State.emitShot
  lift_lets
  intro x0 x1 x2 x3 x4
  have h4 : Keeps s0 x4 := (.upd h)
  exact (State.bump_keeps h4)
theorem State.loadWindow_keeps {s0 : State} {s : State} {a1 : Nat} (h : Keeps s0 s) : Keeps s0 (State.loadWindow s a1) := by
  unfold State.loadWindow
  lift_lets
  intro x0 x1 x2
  exact (.upd h)
theorem State.showRamp_keeps {s0 : State} {s : State} (h : Keeps s0 s) : Keeps s0 (State.showRamp s) := by
  unfold State.showRamp
  exact (State.putB_keeps h)
theorem State.govTick_keeps {s0 : State} {s : State} (h : Keeps s0 s) : Keeps s0 (State.govTick s) := by
  unfold State.govTick
  lift_lets
  intro x0
  have h0 : Keeps s0 x0 := (.each (fun _ _ h1 => (.ite h1 (State.loadWindow_keeps h1))) h)
  exact (State.putB_keeps (State.showRamp_keeps h0))
theorem State.emdWake_keeps {s0 : State} {s : State} (h : Keeps s0 s) : Keeps s0 (State.emdWake s) := by
  unfold State.emdWake
  exact (State.putB_keeps (State.showRamp_keeps (.each (fun _ _ h0 => (State.loadWindow_keeps h0)) h)))
theorem State.bucketRoll_keeps {s0 : State} {s : State} {a1 : Nat} (h : Keeps s0 s) : Keeps s0 (State.bucketRoll s a1) := by
  unfold State.bucketRoll
  exact (.ite h (by
    lift_lets
    intro x0 x1 x2
    have h2 : Keeps s0 x2 := (.upd h)
    exact (State.showRamp_keeps h2)))
theorem State.proofVerdict_keeps {s0 : State} {s : State} {a1 : Nat} {a2 : Bool} (h : Keeps s0 s) : Keeps s0
    (State.proofVerdict s a1 a2) := by
  unfold State.proofVerdict
  lift_lets
  intro x0 x1 x2 x3
  have h3 : Keeps s0 x3 := (.upd h)
  exact (.ite (State.markOpen_keeps h3) h3)
theorem State.openRun_keeps {s0 : State} {s : State} {a1 : Nat} {a2 : Bool} (h : Keeps s0 s) : Keeps s0 (State.openRun s a1
    a2) := by
  unfold State.openRun
  lift_lets
  intro x0 x1 x2
  have h2 : Keeps s0 x2 := (.upd h)
  exact (.ite (State.markOpen_keeps h2) h2)
theorem State.darkRun_keeps {s0 : State} {s : State} {a1 : Nat} {a2 : Bool} (h : Keeps s0 s) : Keeps s0 (State.darkRun s a1
    a2) := by
  unfold State.darkRun
  lift_lets
  intro x0 x1 x2
  have h2 : Keeps s0 x2 := (.upd h)
  exact (.ite (State.markMpd_keeps h2) h2)
theorem State.mpdEnd_keeps {s0 : State} {s : State} {a1 : Nat} {a2 : Nat} {a3 : List IsensePart} (h : Keeps s0 s) : Keeps s0
    (State.mpdEnd s a1 a2 a3) := by
  unfold State.mpdEnd
  split
  · exact h
  · exact (by
      lift_lets
      intro x1 x2 x3 x4 x5 x6 x7
      have h7 : Keeps s0 x7 := (.upd h)
      intro x9
      have h9 : Keeps s0 x9 := (.ite (State.markOver_keeps h7) h7)
      intro x11 x12 x13
      have h13 : Keeps s0 x13 := (.ite (State.darkRun_keeps h9) h9)
      exact (.ite (State.proofVerdict_keeps h13) (.ite (State.openRun_keeps h13) h13)))
theorem State.sumCheck_keeps {s0 : State} {s : State} (h : Keeps s0 s) : Keeps s0 (State.sumCheck s) := by
  unfold State.sumCheck
  lift_lets
  intro x0
  have h0 : Keeps s0 x0 := (.each (fun _ _ h1 => (by
    lift_lets
    intro x2 x3 x4 x5
    have h5 : Keeps s0 x5 := (.upd h1)
    exact (.ite h1 (.ite (State.markOpen_keeps h5) h5)))) h)
  clear_value x0
  intro x2
  exact (.upd h0)
theorem State.driverTrip_keeps {s0 : State} {s : State} {a1 : Nat} (h : Keeps s0 s) : Keeps s0 (State.driverTrip s a1) := by
  unfold State.driverTrip
  exact (.ite (State.markShut_keeps (State.cutPulses_keeps h)) h)
theorem State.stuckOn_keeps {s0 : State} {s : State} (h : Keeps s0 s) : Keeps s0 (State.stuckOn s) := by
  unfold State.stuckOn
  exact (.ite (State.reactS_keeps (State.raise_keeps (State.putB_keeps (State.cutPulses_keeps h)))) h)
theorem State.emdRefuse_keeps {s0 : State} {s : State} (h : Keeps s0 s) : Keeps s0 (State.emdRefuse s) := by
  unfold State.emdRefuse
  exact (State.hwUp_keeps h)
theorem State.unmarkOut_keeps {s0 : State} {s : State} {a1 : Nat → Fld} {a2 : Nat} (h : Keeps s0 s) : Keeps s0
    (State.unmarkOut s a1 a2) := by
  unfold State.unmarkOut
  exact (State.put_keeps h)
theorem State.clearOut_keeps {s0 : State} {s : State} {a1 : Nat} {a2 : Bool} (h : Keeps s0 s) : Keeps s0 (State.clearOut s
    a1 a2) := by
  unfold State.clearOut
  exact (.ite (State.emdRefuse_keeps h) (by
    lift_lets
    intro x0 x1
    have h1 : Keeps s0 x1 := (.ite (.upd h) h)
    exact (State.unmarkOut_keeps (State.unmarkOut_keeps (State.unmarkOut_keeps (State.unmarkOut_keeps h1))))))
theorem State.clearMpd_keeps {s0 : State} {s : State} {a1 : Nat} (h : Keeps s0 s) : Keeps s0 (State.clearMpd s a1) := by
  unfold State.clearMpd
  exact (.ite (State.emdRefuse_keeps h) (State.put_keeps h))
theorem State.clearStuck_keeps {s0 : State} {s : State} (h : Keeps s0 s) : Keeps s0 (State.clearStuck s) := by
  unfold State.clearStuck
  exact (.ite (State.emdRefuse_keeps h) (State.putB_keeps h))
theorem State.sliceTake_keeps {s0 s : State} {t i code : Nat} (h : Keeps s0 s) : Keeps s0 (s.sliceTake t i code).2 := by
  unfold State.sliceTake
  refine .pair (State.bump_keeps h) (.pair ?_ h)
  extract_lets +onlyGivenNames last
  refine .pair (State.bump_keeps h) ?_
  dsimp only
  exact State.modTile_keeps h
theorem State.auditShow_keeps {s0 : State} {s : State} {a1 : Nat} (h : Keeps s0 s) : Keeps s0 (State.auditShow s a1) := by
  unfold State.auditShow
  lift_lets
  intro x0 x1
  have h1 : Keeps s0 x1 := (State.put_keeps h)
  exact (State.putB_keeps h1)
theorem State.auditStop_keeps {s0 : State} {s : State} {a1 : Nat} (h : Keeps s0 s) : Keeps s0 (State.auditStop s a1) := by
  unfold State.auditStop
  exact (State.auditShow_keeps (State.modTile_keeps h))
theorem State.markSlice_keeps {s0 : State} {s : State} {a1 : Nat} {a2 : Nat} {a3 : Bool} (h : Keeps s0 s) : Keeps s0
    (State.markSlice s a1 a2 a3) := by
  unfold State.markSlice
  lift_lets
  intro x0 x1
  have h1 : Keeps s0 x1 := (.ite (State.modTile_keeps h) h)
  intro x3
  have h3 : Keeps s0 x3 := (State.orBit_keeps h1)
  intro x5
  have h5 : Keeps s0 x5 := (.ite (State.modTile_keeps h3) h3)
  exact (.ite (State.raiseTile_keeps (State.auditStop_keeps (State.putB_keeps h5))) h5)
theorem State.unmarkSlice_keeps {s0 : State} {s : State} {a1 : Nat} {a2 : Nat} (h : Keeps s0 s) : Keeps s0
    (State.unmarkSlice s a1 a2) := by
  unfold State.unmarkSlice
  exact (.ite h (by
    lift_lets
    intro x0
    have h0 : Keeps s0 x0 := (State.put_keeps h)
    exact (.ite (State.putB_keeps h0) h0)))
theorem State.tdcCmd_keeps {s0 : State} {s : State} {a1 : Nat} {a2 : Nat} {a3 : Bool} {a4 : Bool} (h : Keeps s0 s) : Keeps
    s0 (State.tdcCmd s a1 a2 a3 a4) := by
  unfold State.tdcCmd
  exact (.ite (State.hwUp_keeps h) (.ite (State.markSlice_keeps h) (.ite (State.unmarkSlice_keeps h) h)))
theorem State.dllUnlock_keeps {s0 : State} {s : State} {a1 : Nat} {a2 : Nat} (h : Keeps s0 s) : Keeps s0 (State.dllUnlock s
    a1 a2) := by
  unfold State.dllUnlock
  exact (.ite (by
    lift_lets
    intro x0
    have h0 : Keeps s0 x0 := (State.put_keeps h)
    exact (State.modTile_keeps h0)) h)
theorem State.dllLock_keeps {s0 : State} {s : State} {a1 : Nat} {a2 : Nat} (h : Keeps s0 s) : Keeps s0 (State.dllLock s a1
    a2) := by
  unfold State.dllLock
  exact (.ite (by
    lift_lets
    intro x0 x1
    have h1 : Keeps s0 x1 := (State.orBit_keeps h)
    exact (State.modTile_keeps h1)) h)
theorem State.dllClose_keeps {s0 : State} {s : State} {a1 : Nat} (h : Keeps s0 s) : Keeps s0 (State.dllClose s a1) := by
  unfold State.dllClose
  lift_lets
  intro x0 x1
  exact (State.setTile_keeps h)
theorem State.sliceTimeout_keeps {s0 : State} {s : State} {a1 : Nat} {a2 : Nat} (h : Keeps s0 s) : Keeps s0
    (State.sliceTimeout s a1 a2) := by
  unfold State.sliceTimeout
  lift_lets
  intro x0 x1 x2
  have h2 : Keeps s0 x2 := (State.setTile_keeps h)
  exact (.ite (State.markSlice_keeps h2) h)
theorem State.settled_keeps {s0 : State} {s : State} {a1 : Nat} (h : Keeps s0 s) : Keeps s0 (State.settled s a1) := by
  unfold State.settled
  exact (.ite (State.putB_keeps h) h)
theorem State.setList_keeps {s0 : State} {s : State} {a1 : Nat} {a2 : Nat} {a3 : ListQ} (h : Keeps s0 s) : Keeps s0
    (State.setList s a1 a2 a3) := by
  unfold State.setList
  exact (State.modTile_keeps h)
theorem State.listPut_keeps {s0 : State} {s : State} {a1 : Nat} {a2 : Nat} {a3 : Nat} {a4 : Nat} (h : Keeps s0 s) : Keeps s0
    (State.listPut s a1 a2 a3 a4) := by
  unfold State.listPut
  exact (.ite h (by
    lift_lets
    intro x0
    exact (.ite (State.setList_keeps h) (State.bump_keeps (State.setList_keeps h)))))
theorem State.auditTick_keeps {s0 : State} {s : State} {a1 : Nat} (h : Keeps s0 s) : Keeps s0 (State.auditTick s a1) := by
  unfold State.auditTick
  lift_lets
  intro x0 x1
  exact (.ite (.ite (State.auditStop_keeps h) h) (State.auditShow_keeps (State.modTile_keeps h)))
theorem State.densVerdict_keeps {s0 : State} {s : State} {a1 : Nat} {a2 : List Nat} (h : Keeps s0 s) : Keeps s0
    (State.densVerdict s a1 a2) := by
  unfold State.densVerdict
  lift_lets
  intro x0 x1
  have h1 : Keeps s0 x1 := (State.put_keeps h)
  intro x3 x4 x5 x6 x7 x8
  have h8 : Keeps s0 x8 := (State.put_keeps (State.put_keeps h1))
  intro x10
  have h10 : Keeps s0 x10 := (State.put_keeps (State.put_keeps h8))
  intro x12 x13 x14
  have h14 : Keeps s0 x14 := (State.put_keeps h10)
  intro x16
  have h16 : Keeps s0 x16 := (State.modTile_keeps h14)
  exact (.ite (State.modTile_keeps (State.put_keeps h1)) (.ite (State.markSlice_keeps h16) h16))
theorem State.mirrorVerdict_keeps {s0 : State} {s : State} {a1 : Nat} (h : Keeps s0 s) : Keeps s0 (State.mirrorVerdict s a1) := by
  unfold State.mirrorVerdict
  lift_lets
  intro x0 x1 x2 x3 x4 x5
  have h5 : Keeps s0 x5 := (State.put_keeps h)
  intro x7
  have h7 : Keeps s0 x7 := (State.put_keeps h5)
  intro x9
  have h9 : Keeps s0 x9 := (State.put_keeps (State.put_keeps h7))
  intro x11
  have h11 : Keeps s0 x11 := (State.put_keeps h9)
  intro x13 x14 x15
  have h15 : Keeps s0 x15 := (State.modTile_keeps h11)
  intro x17
  have h17 : Keeps s0 x17 := (.ite (State.bumpWrap_keeps h15) h15)
  exact (.ite (State.markSlice_keeps h17) h17)
theorem State.auditVerdict_keeps {s0 : State} {s : State} {a1 : Nat} {a2 : List Nat} (h : Keeps s0 s) : Keeps s0
    (State.auditVerdict s a1 a2) := by
  unfold State.auditVerdict
  lift_lets
  intro x0
  exact (.ite h (.ite (State.densVerdict_keeps h) (State.mirrorVerdict_keeps h)))
theorem State.auditCompare_keeps {s0 : State} {s : State} {a1 : Nat} {a2 : Option Nat} {a3 : Option Nat} (h : Keeps s0 s) :
    Keeps s0 (State.auditCompare s a1 a2 a3) := by
  unfold State.auditCompare
  lift_lets
  intro x0 x1
  exact (State.modTile_keeps h)
theorem State.openGate_keeps {s0 : State} {s : State} {a1 : Nat} {a2 : Gate} (h : Keeps s0 s) : Keeps s0 (State.openGate s
    a1 a2) := by
  unfold State.openGate
  exact (.ite (State.modTile_keeps h) (by
    lift_lets
    intro x0
    have h0 : Keeps s0 x0 := (State.modTile_keeps h)
    exact (.each (fun _ _ h2 => (.ite (State.listPut_keeps h2) h2)) h0)))
theorem State.gatesNow_keeps {s0 : State} {s : State} {a1 : Nat} (h : Keeps s0 s) : Keeps s0 (State.gatesNow s a1) := by
  unfold State.gatesNow
  exact (.ite h (by
    lift_lets
    intro x0 x1
    have h1 : Keeps s0 x1 := (.each (fun _ _ h2 => (State.openGate_keeps h2)) h)
    exact (State.modTile_keeps h1)))
theorem State.ambTableLanded_keeps {s0 : State} {s : State} {a1 : Nat} (h : Keeps s0 s) : Keeps s0 (State.ambTableLanded s
    a1) := by
  unfold State.ambTableLanded
  exact (.each (fun _ _ h0 => (by
    lift_lets
    intro x1
    clear_value x1
    exact (by
      split
      · exact (State.setRx_keeps h0)
      · exact h0))) h)
theorem State.reedEvent_keeps {s0 s : State} {t c delta : Nat} {coarse : Bool} (h : Keeps s0 s) :
    Keeps s0 (s.reedEvent t c delta coarse) := by
  unfold State.reedEvent
  dsimp only
  exact .ite (State.bump_keeps h) (.ite (State.raiseOnce_keeps (State.orBit_keeps (State.addSat_keeps (State.setRx_keeps h))))
    (State.addSat_keeps (State.setRx_keeps h)))
theorem State.seeding_keeps {s0 : State} {s : State} {a1 : Nat} (h : Keeps s0 s) : Keeps s0 (State.seeding s a1) := by
  unfold State.seeding
  split
  · exact (by
      split
      · exact (.ite h (by
          split
          · exact (by
              lift_lets
              intro x3
              have h3 : Keeps s0 x3 := (State.modTile_keeps h)
              exact (.each (fun _ _ h5 => (by
                lift_lets
                intro x6 x7 x8 x9
                exact (State.setRx_keeps h5))) h3))))
      · exact h)
  · exact h
theorem State.openIvl_keeps {s0 : State} {s : State} {a1 : Nat} {a2 : Ivl} (h : Keeps s0 s) : Keeps s0 (State.openIvl s a1
    a2) := by
  unfold State.openIvl
  lift_lets
  intro x0 x1 x2 x3 x4
  have h4 : Keeps s0 x4 := (State.modTile_keeps h)
  exact (.ite h (.each (fun _ _ h6 => (by
    lift_lets
    intro x7
    have h7 : Keeps s0 x7 := (.ite (State.orBit_keeps h6) h6)
    intro x9
    exact (State.setRx_keeps h7))) h4))
theorem State.slotTile_keeps {s0 : State} {s : State} {a1 : Nat} {a2 : Nat} {a3 : Nat} {a4 : Bool} {a5 : Bool} (h : Keeps s0
    s) : Keeps s0 (State.slotTile s a1 a2 a3 a4 a5) := by
  unfold State.slotTile
  split
  · exact (.ite h (State.modTile_keeps h))
  · exact (.ite h (State.modTile_keeps h))
  · exact h
theorem State.exportPut_keeps {s0 : State} {s : State} {a1 : Nat} {a2 : Nat} {a3 : List Nat} (h : Keeps s0 s) : Keeps s0
    (State.exportPut s a1 a2 a3) := by
  unfold State.exportPut
  lift_lets
  intro x0
  exact (.ite (State.modTile_keeps h) (State.raiseOnce_keeps (State.dataOverrun_keeps (State.bump_keeps h))))
theorem State.exportHalf_keeps {s0 : State} {s : State} {a1 : Nat} {a2 : Half} (h : Keeps s0 s) : Keeps s0 (State.exportHalf
    s a1 a2) := by
  unfold State.exportHalf
  exact (.ite h (by
    lift_lets
    intro x0 x1
    have h1 : Keeps s0 x1 := (.ite (State.exportPut_keeps h) h)
    exact (.ite (State.exportPut_keeps h1) h1)))
theorem State.exportDrain_keeps {s0 : State} {s : State} {a1 : Nat} (h : Keeps s0 s) : Keeps s0 (State.exportDrain s a1) := by
  unfold State.exportDrain
  split
  · exact h
  · exact (by
      lift_lets
      intro x1
      have h1 : Keeps s0 x1 := (State.modTile_keeps h)
      clear_value x1
      exact (by
        split
        · exact (State.handOver_keeps h1)
        · exact h1))
theorem State.cutHalf_keeps {s0 : State} {s : State} {a1 : Nat} {a2 : Nat} (h : Keeps s0 s) : Keeps s0 (State.cutHalf s a1
    a2) := by
  unfold State.cutHalf
  exact (.ite (by
    lift_lets
    intro x0
    have h0 : Keeps s0 x0 := (State.modTile_keeps h)
    exact (State.raiseOnce_keeps (State.bump_keeps (State.orBit_keeps h0)))) h)
theorem State.ambEnd_keeps {s0 s : State} {t c gates : Nat} (h : Keeps s0 s) : Keeps s0 (s.ambEnd t c gates).2.2 := by
  unfold State.ambEnd
  dsimp only
  have h1 : ∀ {x : State} {b1 b2 : Bool} {n1 n2 n3 n4 : Nat} {y : RxCh}, Keeps s0 x → Keeps s0 ((((((((x.put (T_AMB_STAT.RATE t c)
      n1).put (T_AMB_STAT.BAND t c) n2).put (T_AMB_STAT.K t c) n3).put (T_AMB_STAT.W t c) n4).putB (T_AMB_STAT.BLIND t c)
      b1).putB (T_AMB_STAT.K_CLAMP t c) b2).setRx t c y)) := fun hx => State.setRx_keeps (State.putB_keeps (State.putB_keeps
      (State.put_keeps (State.put_keeps (State.put_keeps (State.put_keeps hx))))))
  exact .ite (State.raiseTile_keeps (h1 h)) (h1 h)
theorem State.swapHalf_keeps {s0 s : State} {t c : Nat} {iv : Ivl} (h : Keeps s0 s) : Keeps s0 (s.swapHalf t c iv) := by
  unfold State.swapHalf
  lift_lets
  intro x1
  have h1 : Keeps s0 x1 := State.cutHalf_keeps h
  clear_value x1
  intro y
  dsimp only
  have h2 : ∀ (q : Nat) (d : Nat × Bool × State), Keeps s0 d.2.2 → Keeps s0 (if iv.proof = true then d else x1.ambEnd t c q).2.2 := by
    intro q d hd
    split
    · exact hd
    · exact State.ambEnd_keeps h1
  exact State.exportHalf_keeps (State.put_keeps (State.put_keeps (State.modTile_keeps (h2 _ _ h1))))
theorem State.ivlEnd_keeps {s0 : State} {s : State} {a1 : Nat} (h : Keeps s0 s) : Keeps s0 (State.ivlEnd s a1) := by
  unfold State.ivlEnd
  lift_lets
  intro x0
  have h0 : Keeps s0 x0 := (State.gatesNow_keeps h)
  intro x2
  have h2 : Keeps s0 x2 := (State.modTile_keeps h0)
  intro x4
  have h4 : Keeps s0 x4 := (State.bumpWrap_keeps h2)
  clear_value x0 x2 x4
  exact (by
    split
    · exact (.ite h0 (.each (fun _ _ h7 => (State.swapHalf_keeps h7)) h4))
    · exact h0)
theorem State.ivlDiscard_keeps {s0 : State} {s : State} {a1 : Nat} (h : Keeps s0 s) : Keeps s0 (State.ivlDiscard s a1) := by
  unfold State.ivlDiscard
  lift_lets
  intro x0
  have h0 : Keeps s0 x0 := (State.gatesNow_keeps h)
  intro x2
  have h2 : Keeps s0 x2 := (State.modTile_keeps h0)
  clear_value x0 x2
  exact (by
    split
    · exact (State.raiseOnce_keeps (State.bump_keeps h2))
    · exact h0)
theorem State.reedLanded_keeps {s0 : State} {s : State} {a1 : State} {a2 : Nat} (h : Keeps s0 s) : Keeps s0
    (State.reedLanded s a1 a2) := by
  unfold State.reedLanded
  lift_lets
  intro x0
  exact (.each (fun _ _ h1 => (by
    lift_lets
    intro x2 x3
    exact (.ite (State.setRx_keeps h1) h1))) h)
theorem State.reedTick_keeps {s0 : State} {s : State} {a1 : Nat} (h : Keeps s0 s) : Keeps s0 (State.reedTick s a1) := by
  unfold State.reedTick
  lift_lets
  intro x0
  have h0 : Keeps s0 x0 := (State.setWord_keeps (State.setWord_keeps h))
  exact (.each (fun _ _ h2 => (State.setWord_keeps h2)) h0)
theorem State.biasRefresh_keeps {s0 : State} {s : State} (h : Keeps s0 s) : Keeps s0 (State.biasRefresh s) := by
  unfold State.biasRefresh
  lift_lets
  intro x0 x1 x2
  exact (.ite h (.upd h))
theorem State.biasMeasure_keeps {s0 : State} {s : State} {a1 : Nat} {a2 : Nat} {a3 : Nat} (h : Keeps s0 s) : Keeps s0
    (State.biasMeasure s a1 a2 a3) := by
  unfold State.biasMeasure
  exact (.ite h (by
    lift_lets
    intro x0
    have h0 : Keeps s0 x0 := (State.gatesNow_keeps h)
    intro x2 x3 x4 x5 x6 x7 x8 x9 x10 x11 x12 x13 x14 x15 x16
    have h16 : Keeps s0 x16 := (State.put_keeps (State.put_keeps h0))
    intro x18
    have h18 : Keeps s0 x18 := (.ite (State.setTile_keeps h0) (State.setTile_keeps h16))
    intro x20
    have h20 : Keeps s0 x20 := (State.modTile_keeps h18)
    intro x22 x23 x24
    have h24 : Keeps s0 x24 := (.ite (State.raiseTile_keeps (State.putB_keeps h20)) h20)
    intro x26
    have h26 : Keeps s0 x26 := (.ite (State.raiseTile_keeps (State.putB_keeps h24)) h24)
    intro x28
    have h28 : Keeps s0 x28 := (.ite (State.putB_keeps (State.putB_keeps h26)) h26)
    intro x30 x31 x32
    have h32 : Keeps s0 x32 := (.ite (State.modTile_keeps h28) h28)
    intro x34
    have h34 : Keeps s0 x34 := (.ite (State.raiseTile_keeps (State.putB_keeps h32)) (.ite (State.putB_keeps h32) h32))
    intro x36 x37
    have h37 : Keeps s0 x37 := (.ite h34 (by
      split
      · exact (by
          lift_lets
          intro x39
          have h39 : Keeps s0 x39 := (State.putB_keeps (State.modTile_keeps h34))
          exact (.ite (State.raiseTile_keeps h39) h39))))
    exact (State.biasRefresh_keeps h37)))
theorem State.event_keeps {s0 s : State} {t c code code8 : Nat} {g : Gate} (h : Keeps s0 s) :
    Keeps s0 (s.event t c g code code8) := by
  unfold State.event
  dsimp only
  have h1 : Keeps s0 (s.sliceTake t (s.sliceOf t c) code).2 := State.sliceTake_keeps h
  have h2 := Keeps.ite (p := s.mirrors t c = true) (State.auditCompare_keeps (a1 := t) (a2 := (s.sliceTake t (s.sliceOf t c) code).1)
    (a3 := ((s.sliceTake t (s.sliceOf t c) code).2.sliceTake t 8 code8).1) (State.sliceTake_keeps (t := t) (i := 8) (code := code8) h1)) h1
  split
  · exact State.reedEvent_keeps (State.listPut_keeps h2)
  · exact h2
theorem State.avalancheIn_keeps {s0 : State} {s : State} {a1 : Nat} {a2 : Nat} {a3 : Gate} {a4 : Nat} {a5 : Nat} (h : Keeps
    s0 s) : Keeps s0 (State.avalancheIn s a1 a2 a3 a4 a5) := by
  unfold State.avalancheIn
  split
  · exact (by
      lift_lets
      intro x1 x2 x3 x4 x5 x6 x7
      have h7 : Keeps s0 x7 := (State.setRx_keeps h)
      exact (.ite (.ite (State.bump_keeps h7) (State.event_keeps h7)) (State.setRx_keeps h)))
theorem State.avalanche_keeps {s0 s : State} {t c spad code code8 : Nat} (h : Keeps s0 s) :
    Keeps s0 (s.avalanche t c spad code code8) := by
  unfold State.avalanche
  refine .ite h ?_
  have h1 : Keeps s0 (s.gatesNow t) := State.gatesNow_keeps h
  dsimp only
  refine .ite h1 ?_
  split
  · exact State.avalancheIn_keeps (State.setRx_keeps h1)
  · exact .ite (State.setRx_keeps h1) h1
theorem State.autoSub_keeps {s0 : State} {s : State} {a1 : Nat} {a2 : Bool} {a3 : Bool} (h : Keeps s0 s) : Keeps s0
    (State.autoSub s a1 a2 a3) := by
  unfold State.autoSub
  lift_lets
  intro x0 x1 x2
  have h2 : Keeps s0 x2 := (State.modTile_keeps h)
  intro x4
  clear_value x0 x1 x2 x4
  exact (by
    split
    · exact (.ite h2 (.ite (State.raiseTile_keeps h2) (State.raiseTile_keeps (State.put_keeps (State.putB_keeps h2)))))
    · exact h2)
theorem State.sliceTick_keeps {s0 : State} {s : State} {a1 : Nat} (h : Keeps s0 s) : Keeps s0 (State.sliceTick s a1) := by
  unfold State.sliceTick
  lift_lets
  intro x0
  have h0 : Keeps s0 x0 := (State.putB_keeps h)
  intro x2 x3 x4
  have h4 : Keeps s0 x4 := (State.put_keeps h0)
  intro x6
  exact (.ite h4 (State.raiseTile_keeps h4))
theorem State.rxTick_keeps {s0 : State} {s : State} {a1 : State} {a2 : Nat} (h : Keeps s0 s) : Keeps s0 (State.rxTick s a1
    a2) := by
  unfold State.rxTick
  lift_lets
  intro x0 x1
  have h1 : Keeps s0 x1 := (.ite (by
    split
    · exact (.ite h (State.put_keeps h))
    · exact h) (State.put_keeps h))
  intro x3
  have h3 : Keeps s0 x3 := (State.setTile_keeps h1)
  intro x5 x6
  have h6 : Keeps s0 x6 := (.ite (State.ambTableLanded_keeps h3) h3)
  intro x8
  have h8 : Keeps s0 x8 := (State.setWord_keeps h6)
  exact (.each (fun _ _ h10 => (by
    lift_lets
    intro x11
    have h11 : Keeps s0 x11 := (State.setWord_keeps h10)
    intro x13 x14
    exact (State.setRx_keeps h11))) h8)
theorem State.slotDone_keeps {s0 : State} {s : State} {a1 : Nat} (h : Keeps s0 s) : Keeps s0 (State.slotDone s a1) := by
  unfold State.slotDone
  exact (.upd h)
theorem State.shotCommit_keeps {s0 : State} {s : State} {a1 : Nat} (h : Keeps s0 s) : Keeps s0 (State.shotCommit s a1) := by
  unfold State.shotCommit
  lift_lets
  intro x0 x1 x2 x3 x4 x5 x6 x7 x8 x9
  have h9 : Keeps s0 x9 := (.upd h)
  intro x11 x12
  have h12 : Keeps s0 x12 := (.each (fun _ _ h13 => (State.gatesNow_keeps h13)) h9)
  intro x14
  have h14 : Keeps s0 x14 := (.ite (.each (fun _ _ h15 => (by
    lift_lets
    intro x16
    exact (State.openIvl_keeps h15))) h12) h12)
  intro x16 x17 x18
  have h18 : Keeps s0 x18 := (.ite (State.bump_keeps h14) (.ite (State.emitShot_keeps h14) (State.suppress_keeps h14)))
  intro x20
  have h20 : Keeps s0 x20 := (.each (fun _ _ h21 => (State.slotTile_keeps h21)) h18)
  exact (.ite h (State.putB_keeps (State.slotDone_keeps h20)))
theorem State.proofTrigger_keeps {s0 : State} {s : State} {a1 : Nat} (h : Keeps s0 s) : Keeps s0 (State.proofTrigger s a1) := by
  unfold State.proofTrigger
  lift_lets
  intro x0 x1 x2 x3 x4 x5
  have h5 : Keeps s0 x5 := (.each (fun _ _ h6 => (by
    lift_lets
    intro x7
    have h7 : Keeps s0 x7 := (State.gatesNow_keeps h6)
    intro x9
    have h9 : Keeps s0 x9 := (.ite (State.openIvl_keeps h7) h7)
    exact (State.emit_keeps (State.slotTile_keeps h9)))) h)
  exact (.ite h (State.putB_keeps (State.slotDone_keeps h5)))
theorem State.proofShot_keeps {s0 : State} {s : State} {a1 : Nat} {a2 : Nat} (h : Keeps s0 s) : Keeps s0 (State.proofShot s
    a1 a2) := by
  unfold State.proofShot
  split
  · exact h
  · exact (by
      split
      · exact (by
          lift_lets
          intro x2
          exact (.ite (State.emitShot_keeps h) (State.diagOverrun_keeps h)))
      · exact (State.suppress_keeps h)
      · exact (State.diagOverrun_keeps (State.suppress_keeps h))
      · exact (State.diagOverrun_keeps (State.suppress_keeps h)))
theorem State.walkSample_keeps {s0 : State} {s : State} {a1 : Nat} {a2 : Nat} {a3 : Bool} {a4 : Nat} {a5 : Bool} (h : Keeps
    s0 s) : Keeps s0 (State.walkSample s a1 a2 a3 a4 a5) := by
  unfold State.walkSample
  lift_lets
  intro x0 x1 x2
  have h2 : Keeps s0 x2 := (.upd h)
  exact (.ite h (State.markShort_keeps (State.markShort_keeps h2)))
theorem State.diagSlot_keeps {s0 : State} {s : State} {a1 : List WalkSample} (h : Keeps s0 s) : Keeps s0 (State.diagSlot s
    a1) := by
  unfold State.diagSlot
  exact (.ite h (by
    split
    · exact (State.putB_keeps (.upd h))
    · exact (.ite h (by
        lift_lets
        intro x1 x2
        have h2 : Keeps s0 x2 := (.upd h)
        intro x4
        have h4 : Keeps s0 x4 := (.each (fun _ _ h5 => (State.proofShot_keeps h5)) h2)
        exact (.each (fun _ _ h6 => (State.walkSample_keeps h6)) h4)))))
theorem State.pauseAsk_keeps {s0 : State} {s : State} {a1 : Nat} (h : Keeps s0 s) : Keeps s0 (State.pauseAsk s a1) := by
  unfold State.pauseAsk
  exact (.ite h (.ite (.upd h) (.upd h)))
theorem State.pauseStart_keeps {s0 : State} {s : State} (h : Keeps s0 s) : Keeps s0 (State.pauseStart s) := by
  unfold State.pauseStart
  exact (.ite h (.upd h))
theorem State.pauseEnd_keeps {s0 : State} {s : State} (h : Keeps s0 s) : Keeps s0 (State.pauseEnd s) := by
  unfold State.pauseEnd
  split
  · exact (by
      lift_lets
      intro x1 x2
      exact (State.put_keeps (.upd h)))
  · exact h
theorem State.hedClose_keeps {s0 : State} {s : State} (h : Keeps s0 s) : Keeps s0 (State.hedClose s) := by
  unfold State.hedClose
  lift_lets
  intro x0 x1 x2 x3 x4 x5 x6 x7 x8
  have h8 : Keeps s0 x8 := (.each (fun _ _ h9 => (State.ivlDiscard_keeps h9)) h)
  intro x10
  have h10 : Keeps s0 x10 := (.ite (State.acqOverrun_keeps h8) h8)
  exact (.ite (State.diagOverrun_keeps h10) h10)
theorem State.hedLanded_keeps {s0 : State} {s : State} {a1 : State} (h : Keeps s0 s) : Keeps s0 (State.hedLanded s a1) := by
  unfold State.hedLanded
  exact (.each (fun _ _ h0 => (by
    lift_lets
    intro x1 x2 x3
    exact (.ite (.upd h0) h0))) h)
theorem State.hedTick_keeps {s0 : State} {s : State} (h : Keeps s0 s) : Keeps s0 (State.hedTick s) := by
  unfold State.hedTick
  lift_lets
  intro x0 x1 x2
  have h2 : Keeps s0 x2 := (.upd h)
  intro x4
  have h4 : Keeps s0 x4 := (State.setWord_keeps (State.setWord_keeps h2))
  intro x6
  have h6 : Keeps s0 x6 := (State.setWord_keeps (State.setWord_keeps h4))
  exact (State.putB_keeps (State.govTick_keeps h6))
theorem State.pointRecord_keeps {s0 : State} {s : State} {a1 : Nat} {a2 : Half} {a3 : Nat} {a4 : Nat} {a5 : List (List Nat)}
    (h : Keeps s0 s) : Keeps s0 (State.pointRecord s a1 a2 a3 a4 a5) := by
  unfold State.pointRecord
  split
  · exact h
  · exact (by
      lift_lets
      intro x1
      have h1 : Keeps s0 x1 := (State.handOver_keeps (State.bump_keeps h))
      clear_value x1
      intro x3
      exact (.upd h1))
theorem State.deliver_keeps {s0 : State} {s : State} {a1 : Nat} {a2 : Half} {a3 : Nat} {a4 : List Return} (h : Keeps s0 s) :
    Keeps s0 (State.deliver s a1 a2 a3 a4) := by
  unfold State.deliver
  exact (.ite h (by
    lift_lets
    intro x0
    have h0 : Keeps s0 x0 := (State.addSat_keeps h)
    clear_value x0
    intro x2 x3
    have h3 : Keeps s0 x3 := (.upd h0)
    clear_value x2 x3
    exact (by
      split
      · exact h3
      · exact (by
          lift_lets
          intro x6
          have h6 : Keeps s0 x6 := (.ite (State.observe_keeps h3) h3)
          exact (.each (fun _ _ h8 => (State.foldReturn_keeps h8)) h6)))))
theorem State.listenHold_keeps {s0 s : State} {t : Nat} {hf : Half} {bins : List Nat} (h : Keeps s0 s) :
    Keeps s0 (s.listenHold t hf bins).2 := by
  unfold State.listenHold
  dsimp only
  split
  · exact h
  · split
    · exact State.raiseOnce_keeps (State.setRx_keeps h)
    · exact State.setRx_keeps h
theorem State.selectCounts_keeps {s0 : State} {s : State} {a1 : Nat} {a2 : Nat} {a3 : Selected} {a4 : Nat} {a5 : Nat} (h :
    Keeps s0 s) : Keeps s0 (State.selectCounts s a1 a2 a3 a4 a5) := by
  unfold State.selectCounts
  lift_lets
  intro x0 x1
  have h1 : Keeps s0 x1 := (.ite h (State.raiseOnce_keeps (State.addSat_keeps h)))
  intro x3
  have h3 : Keeps s0 x3 := (.ite h1 (State.raiseOnce_keeps (State.addSat_keeps h1)))
  intro x5
  have h5 : Keeps s0 x5 := (.ite h3 (State.raiseOnce_keeps (State.addSat_keeps h3)))
  exact (.ite h5 (State.raiseOnce_keeps (State.addSat_keeps h5)))
theorem State.extractPoint_keeps {s0 s : State} {t : Nat} {hf : Half} (h : Keeps s0 s) : Keeps s0 (s.extractPoint t hf) := by
  unfold State.extractPoint
  extract_lets +onlyGivenNames c q merge sel
  generalize hp : s.listenHold t hf sel.bins = p
  have h0 : Keeps s0 p.2 := by rw [← hp]; exact State.listenHold_keeps h
  obtain ⟨intf, u⟩ := p
  replace h0 : Keeps s0 u := h0
  dsimp -zeta only
  extract_lets +onlyGivenNames all kept lb rets1 rets x1
  have h1 : Keeps s0 x1 := State.selectCounts_keeps h0
  clear_value x1
  extract_lets +onlyGivenNames _ x2
  have h2 : Keeps s0 x2 := .ite h1 (State.setRx_keeps h1)
  clear_value x2
  extract_lets +onlyGivenNames stat flags x3
  have h3 : Keeps s0 x3 := .ite (State.orBit_keeps h2) h2
  clear_value x3
  extract_lets +onlyGivenNames x4
  have h4 : Keeps s0 x4 := .ite (State.orBit_keeps h3) h3
  clear_value x4
  extract_lets +onlyGivenNames x5
  have h5 : Keeps s0 x5 := .ite (State.orBit_keeps h4) h4
  clear_value x5
  extract_lets +onlyGivenNames x6
  have h6 : Keeps s0 x6 := .ite (State.orBit_keeps h5) h5
  clear_value x6
  extract_lets +onlyGivenNames _ x7
  have h7 : Keeps s0 x7 := .ite (.upd h6) h6
  clear_value x7
  extract_lets +onlyGivenNames x8
  have h8 : Keeps s0 x8 := by
    dsimp only [x8]
    refine .ite h7 ?_
    cases rets
    · exact State.setWord_keeps h7
    · exact State.putB_keeps (State.put_keeps (State.put_keeps h7))
  clear_value x8
  extract_lets +onlyGivenNames x9
  have h9 : Keeps s0 x9 := .ite h8 (State.deliver_keeps h8)
  clear_value x9
  extract_lets +onlyGivenNames drop out
  exact .ite (State.pointRecord_keeps h9) h9
theorem State.extractProof_keeps {s0 s : State} {t : Nat} {hf : Half} (h : Keeps s0 s) : Keeps s0 (s.extractProof t hf) := by
  unfold State.extractProof
  dsimp only
  have h1 : ∀ f, Keeps s0 (s.orBit f hf.ch) := fun f => State.orBit_keeps h
  have h2 : ∀ f, Keeps s0 (if hf.cut = true then { s.orBit f hf.ch with frm := { (s.orBit f hf.ch).frm with
      cut := (s.orBit f hf.ch).frm.cut + 1 } } else s.orBit f hf.ch) := fun f => .ite (.upd (h1 f)) (h1 f)
  exact .ite (State.pointRecord_keeps (h2 _)) (h2 _)
theorem State.extractHalf_keeps {s0 : State} {s : State} {a1 : Nat} {a2 : Nat} (h : Keeps s0 s) : Keeps s0
    (State.extractHalf s a1 a2) := by
  unfold State.extractHalf
  split
  · exact h
  · exact (.ite h (by
      lift_lets
      intro x1
      have h1 : Keeps s0 x1 := (State.modTile_keeps h)
      exact (.ite (State.extractProof_keeps h1) (State.extractPoint_keeps h1))))
theorem State.extractDeadline_keeps {s0 : State} {s : State} (h : Keeps s0 s) : Keeps s0 (State.extractDeadline s) := by
  unfold State.extractDeadline
  exact (.ite (State.extOverrun_keeps (.upd h)) h)
theorem State.retTick_keeps {s0 : State} {s : State} {a1 : Nat} (h : Keeps s0 s) : Keeps s0 (State.retTick s a1) := by
  unfold State.retTick
  lift_lets
  intro x0
  have h0 : Keeps s0 x0 := (State.modTile_keeps h)
  intro x2
  have h2 : Keeps s0 x2 := (State.setWord_keeps (State.setWord_keeps h0))
  exact (.each (fun _ _ h4 => (State.setWord_keeps h4)) h2)
theorem State.closeRecord_keeps {s0 : State} {s : State} (h : Keeps s0 s) : Keeps s0 (State.closeRecord s) := by
  unfold State.closeRecord
  exact (.ite h (by
    lift_lets
    intro x0 x1
    have h1 : Keeps s0 x1 := (.upd h)
    clear_value x0 x1
    exact (by
      split
      · exact (State.handOver_keeps h1)
      · exact h1)))
theorem State.frameClose_keeps {s0 : State} {s : State} (h : Keeps s0 s) : Keeps s0 (State.frameClose s) := by
  unfold State.frameClose
  exact (.ite h (State.closeRecord_keeps h))
theorem State.recordsEnd_keeps {s0 : State} {s : State} (h : Keeps s0 s) : Keeps s0 (State.recordsEnd s) := by
  unfold State.recordsEnd
  lift_lets
  intro x0
  have h0 : Keeps s0 x0 := (.each (fun _ _ h1 => (by
    lift_lets
    intro x2
    have h2 : Keeps s0 x2 := (State.modTile_keeps h1)
    clear_value x0 x2
    exact (by
      split
      · exact (.each (fun _ _ h5 => (State.dropRecord_keeps h5)) h2)
      · exact h2))) h)
  intro x2
  have h2 : Keeps s0 x2 := (State.stageTick_keeps h0)
  exact (State.stageTick_keeps (.ite (State.closeRecord_keeps h2) h2))
theorem State.claimAll_keeps {s0 : State} {s : State} {a1 : Cand} (h : Keeps s0 s) : Keeps s0 (State.claimAll s a1) := by
  unfold State.claimAll
  exact (.each (fun _ _ h0 => (State.claim_keeps h0)) h)
theorem State.claimWhere_keeps {s0 : State} {s : State} {a1 : Fld → Bool} (h : Keeps s0 s) : Keeps s0 (State.claimWhere s
    a1) := by
  unfold State.claimWhere
  exact (.each (fun _ _ h0 => (.ite (State.refuseClaim_keeps h0) (State.claim_keeps h0))) h)
theorem State.claimInForce_keeps {s0 : State} {s : State} (h : Keeps s0 s) : Keeps s0 (State.claimInForce s) := by
  unfold State.claimInForce
  exact (State.claimWhere_keeps h)
theorem State.claimWoken_keeps {s0 : State} {s : State} {a1 : Nat} (h : Keeps s0 s) : Keeps s0 (State.claimWoken s a1) := by
  unfold State.claimWoken
  exact (State.claimWhere_keeps h)
theorem State.stageReject_keeps {s0 : State} {s : State} {a1 : Cand} {a2 : Nat} (h : Keeps s0 s) : Keeps s0
    (State.stageReject s a1 a2) := by
  unfold State.stageReject
  lift_lets
  intro x0
  have h0 : Keeps s0 x0 := (State.put_keeps (State.hwUp_keeps h))
  clear_value x0
  exact (.ite (by
    split
    · exact (State.refuseClaim_keeps h0)
    · exact h0) h0)
theorem State.stageCheck_keeps {s0 : State} {s : State} {a1 : Staging} {a2 : Staging} {a3 : List FieldWrite} (h : Keeps s0
    s) : Keeps s0 (State.stageCheck s a1 a2 a3) := by
  unfold State.stageCheck
  lift_lets
  intro x0
  clear_value x0
  exact (by
    split
    · exact (State.stageReject_keeps (State.setStage_keeps h))
    · exact (State.claimAll_keeps (State.setStage_keeps h)))
theorem State.stageWrites_keeps {s0 : State} {s : State} {a1 : List FieldWrite} (h : Keeps s0 s) : Keeps s0
    (State.stageWrites s a1) := by
  unfold State.stageWrites
  exact (.ite h (by
    split
    · exact (.ite (State.hwUp_keeps (State.setStage_keeps h)) (State.setStage_keeps h))
    · exact (by
        lift_lets
        intro x1 x2
        exact (.ite (State.hwUp_keeps h) (State.stageCheck_keeps h)))))
theorem State.shadowOpen_keeps {s0 : State} {s : State} {a1 : Nat} (h : Keeps s0 s) : Keeps s0 (State.shadowOpen s a1) := by
  unfold State.shadowOpen
  exact (.ite (State.hwUp_keeps h) (State.setStage_keeps h))
theorem State.shadowClose_keeps {s0 : State} {s : State} (h : Keeps s0 s) : Keeps s0 (State.shadowClose s) := by
  unfold State.shadowClose
  split
  · exact (State.hwUp_keeps h)
  · exact (by
      lift_lets
      intro x1 x2 x3
      exact (.ite (State.setStage_keeps h) (State.stageCheck_keeps h)))
theorem State.shadowAbort_keeps {s0 : State} {s : State} (h : Keeps s0 s) : Keeps s0 (State.shadowAbort s) := by
  unfold State.shadowAbort
  exact (State.setStage_keeps h)
theorem State.stageGroup_keeps {s0 s : State} {kind : GroupKind} {late newTab : Bool} {ws : List FieldWrite}
    {tab route : List Nat} (h : Keeps s0 s) : Keeps s0 (s.stageGroup kind late ws tab route newTab).2 := by
  unfold State.stageGroup
  dsimp only
  split
  · exact State.hwUp_keeps h
  · split
    · exact h
    · exact State.setStage_keeps h
theorem State.setSupSlot_keeps {s0 : State} {s : State} {a1 : Nat} {a2 : SupSlot} (h : Keeps s0 s) : Keeps s0
    (State.setSupSlot s a1 a2) := by
  unfold State.setSupSlot
  exact (.upd h)
theorem State.supChain_keeps {s0 s : State} {i : Nat} {raw : Option (Int × Bool)} (h : Keeps s0 s) :
    Keeps s0 (s.supChain i raw).2 := by
  unfold State.supChain
  exact State.setSupSlot_keeps (State.fresh_keeps (State.fresh_keeps h))
theorem State.setSupSum_keeps {s0 : State} {s : State} {a1 : Nat} {a2 : Int} (h : Keeps s0 s) : Keeps s0 (State.setSupSum s
    a1 a2) := by
  unfold State.setSupSum
  lift_lets
  intro x0
  exact (State.put_keeps (State.put_keeps h))
theorem State.supClear_keeps {s0 : State} {s : State} {a1 : Nat} (h : Keeps s0 s) : Keeps s0 (State.supClear s a1) := by
  unfold State.supClear
  exact (.ite h (by
    lift_lets
    intro x0
    have h0 : Keeps s0 x0 := (State.put_keeps (State.setSupSum_keeps h))
    intro x2
    have h2 : Keeps s0 x2 := (State.put_keeps (State.put_keeps h0))
    exact (State.put_keeps h2)))
theorem State.supTake_keeps {s0 : State} {s : State} {a1 : Nat} {a2 : Int} (h : Keeps s0 s) : Keeps s0 (State.supTake s a1
    a2) := by
  unfold State.supTake
  lift_lets
  intro x0
  have h0 : Keeps s0 x0 := (State.bump_keeps (State.setSupSum_keeps h))
  intro x2
  have h2 : Keeps s0 x2 := (State.putI_keeps h0)
  exact (State.putI_keeps h2)
theorem State.supDeliver_keeps {s0 : State} {s : State} {a1 : Nat} {a2 : SupOut} (h : Keeps s0 s) : Keeps s0
    (State.supDeliver s a1 a2) := by
  unfold State.supDeliver
  lift_lets
  intro x0 x1 x2 x3
  have h3 : Keeps s0 x3 := (State.putB_keeps (State.putI_keeps h))
  intro x5
  have h5 : Keeps s0 x5 := (State.putB_keeps (State.putB_keeps h3))
  intro x7
  have h7 : Keeps s0 x7 := (State.putB_keeps h5)
  intro x9
  have h9 : Keeps s0 x9 := (State.setSupSlot_keeps h7)
  exact (.ite h9 (State.supTake_keeps h9))
theorem State.supConverter_keeps {s0 : State} {s : State} {a1 : Nat} {a2 : SupPeriod} (h : Keeps s0 s) : Keeps s0
    (State.supConverter s a1 a2) := by
  unfold State.supConverter
  lift_lets
  intro x0 x1 x2
  clear_value x0 x1 x2
  exact (by
    split
    · exact (by
        lift_lets
        intro x4
        have h4 : Keeps s0 x4 := (.upd h)
        clear_value x4
        exact (.each (fun _ _ h6 => (by
          lift_lets
          intro x7
          clear_value x7
          exact (by
            split
            next y8_0 y8_1 y8_2 y8_3 => 
              have h8 : Keeps s0 y8_2 := (congrArg (fun p => Keeps s0 p.2) y8_3).mp (State.supChain_keeps h6)
              exact (State.supDeliver_keeps h8)))) h4)))
theorem State.supSafeTrip_keeps {s0 : State} {s : State} {a1 : Nat} (h : Keeps s0 s) : Keeps s0 (State.supSafeTrip s a1) := by
  unfold State.supSafeTrip
  exact (State.reactS_keeps (State.raise_keeps (State.bump_keeps h)))
theorem State.supWinSet_keeps {s0 : State} {s : State} {a1 : Nat} {a2 : Nat} {a3 : Bool} (h : Keeps s0 s) : Keeps s0
    (State.supWinSet s a1 a2 a3) := by
  unfold State.supWinSet
  lift_lets
  intro x0
  have h0 : Keeps s0 x0 := (State.putB_keeps h)
  clear_value x0
  intro x2
  exact (.upd h0)
theorem State.supWindow_keeps {s0 s : State} {w : Nat} (h : Keeps s0 s) : Keeps s0 (s.supWindow w) := by
  unfold State.supWindow
  dsimp only
  have h1 : ∀ n b, Keeps s0 (s.supWinSet w n b) := fun n b => State.supWinSet_keeps h
  exact .ite h (.ite (.ite (h1 _ _) (.ite (h1 _ _) (h1 _ _))) (.ite (h1 _ _) (.ite (h1 _ _) (.ite (State.supSafeTrip_keeps (h1 _ _))
    (State.raise_keeps (State.bump_keeps (h1 _ _)))))))
theorem State.supSelfTest_keeps {s0 : State} {s : State} {a1 : Nat} {a2 : Nat} (h : Keeps s0 s) : Keeps s0
    (State.supSelfTest s a1 a2) := by
  unfold State.supSelfTest
  split
  · exact h
  · exact (by
      lift_lets
      intro x1 x2 x3 x4 x5 x6
      have h6 : Keeps s0 x6 := (.upd h)
      exact (.ite (State.supSafeTrip_keeps h6) h6))
theorem State.supSelf_keeps {s0 : State} {s : State} {a1 : Nat} (h : Keeps s0 s) : Keeps s0 (State.supSelf s a1) := by
  unfold State.supSelf
  exact (.ite (State.supSelfTest_keeps (State.supSelfTest_keeps h)) h)
theorem State.setAout_keeps {s0 : State} {s : State} {a1 : Nat} {a2 : Nat} (h : Keeps s0 s) : Keeps s0 (State.setAout s a1
    a2) := by
  unfold State.setAout
  exact (.upd h)
theorem State.aoutMap_keeps {s0 : State} {s : State} {a1 : Nat} (h : Keeps s0 s) : Keeps s0 (State.aoutMap s a1) := by
  unfold State.aoutMap
  lift_lets
  intro x0 x1
  exact (.ite h (State.setAout_keeps h))
theorem State.supSwap_keeps {s0 : State} {s : State} {a1 : Nat} (h : Keeps s0 s) : Keeps s0 (State.supSwap s a1) := by
  unfold State.supSwap
  lift_lets
  intro x0 x1 x2 x3
  have h3 : Keeps s0 x3 := (.upd h)
  intro x5
  have h5 : Keeps s0 x5 := (.each (fun _ _ h6 => (by
    lift_lets
    intro x7 x8 x9
    exact (.ite h6 (State.setSupSlot_keeps h6)))) h3)
  intro x7
  have h7 : Keeps s0 x7 := (.each (fun _ _ h8 => (State.put_keeps h8)) h5)
  exact (State.raise_keeps (State.put_keeps h7))
theorem State.supBoundary_keeps {s0 : State} {s : State} {a1 : SupPeriod} {a2 : SupPeriod} {a3 : Bool} (h : Keeps s0 s) :
    Keeps s0 (State.supBoundary s a1 a2 a3) := by
  unfold State.supBoundary
  exact (.ite h (by
    lift_lets
    intro x0 x1
    have h1 : Keeps s0 x1 := (State.putB_keeps h)
    intro x3
    have h3 : Keeps s0 x3 := (.ite (State.raise_keeps h1) h1)
    intro x5
    have h5 : Keeps s0 x5 := (State.supConverter_keeps (State.supConverter_keeps (.each (fun _ _ h6 => (State.supClear_keeps h6)) h3)))
    intro x7
    have h7 : Keeps s0 x7 := (.each (fun _ _ h8 => (State.supWindow_keeps h8)) h5)
    intro x9
    have h9 : Keeps s0 x9 := (State.supSelf_keeps (State.supSelf_keeps h7))
    intro x11
    have h11 : Keeps s0 x11 := (.each (fun _ _ h12 => (State.aoutMap_keeps h12)) h9)
    clear_value x11
    intro x13 x14
    have h14 : Keeps s0 x14 := (.upd h11)
    clear_value x0 x1 x3 x5 x7 x9 x13 x14
    exact (by
      split
      · exact (State.supSwap_keeps h14)
      · exact h14)))
theorem State.supFrame_keeps {s0 : State} {s : State} (h : Keeps s0 s) : Keeps s0 (State.supFrame s) := by
  unfold State.supFrame
  lift_lets
  intro x0 x1 x2
  have h2 : Keeps s0 x2 := (.upd h)
  exact (.ite (State.putB_keeps h2) h2)
theorem State.supLanded_keeps {s0 : State} {s : State} {a1 : List Nat} (h : Keeps s0 s) : Keeps s0 (State.supLanded s a1) := by
  unfold State.supLanded
  lift_lets
  intro x0 x1
  have h1 : Keeps s0 x1 := (.ite (.upd h) h)
  intro x3
  have h3 : Keeps s0 x3 := (by
    dsimp only [x3]
    split
    · exact (.ite h1 (State.supSwap_keeps h1))
    · exact h1)
  exact (.each (fun _ _ h5 => (.ite (State.setAout_keeps h5) h5)) h3)
theorem State.supAccClr_keeps {s0 : State} {s : State} {a1 : Word} (h : Keeps s0 s) : Keeps s0 (State.supAccClr s a1) := by
  unfold State.supAccClr
  exact (State.put_keeps h)
theorem State.thmSet_keeps {s0 : State} {s : State} {a1 : Nat} {a2 : Bool} (h : Keeps s0 s) : Keeps s0 (State.thmSet s a1
    a2) := by
  unfold State.thmSet
  exact (.ite h (State.raise_keeps (State.putB_keeps h)))
theorem State.thmJudge_keeps {s0 : State} {s : State} {a1 : List Nat} {a2 : Nat} (h : Keeps s0 s) : Keeps s0 (State.thmJudge
    s a1 a2) := by
  unfold State.thmJudge
  lift_lets
  intro x0 x1 x2 x3 x4 x5 x6
  have h6 : Keeps s0 x6 := (.upd h)
  exact (.ite (.ite (State.thmSet_keeps h6) h6) (.ite (State.thmSet_keeps h6) h6))
theorem State.thmWarn_keeps {s0 : State} {s : State} {a1 : Int} (h : Keeps s0 s) : Keeps s0 (State.thmWarn s a1) := by
  unfold State.thmWarn
  lift_lets
  intro x0 x1
  exact (.ite (State.raise_keeps (State.putB_keeps h)) (.ite (State.putB_keeps h) h))
theorem State.thmLevel_keeps {s0 : State} {s : State} {a1 : Nat} (h : Keeps s0 s) : Keeps s0 (State.thmLevel s a1) := by
  unfold State.thmLevel
  lift_lets
  intro x0 x1
  have h1 : Keeps s0 x1 := (State.put_keeps h)
  exact (.ite (State.raise_keeps h1) h1)
theorem State.thmThrottle_keeps {s0 : State} {s : State} {a1 : Int} (h : Keeps s0 s) : Keeps s0 (State.thmThrottle s a1) := by
  unfold State.thmThrottle
  lift_lets
  intro x0 x1 x2 x3 x4 x5 x6
  have h6 : Keeps s0 x6 := (.ite (State.thmLevel_keeps (.upd h)) (.ite (State.thmLevel_keeps (.upd h)) h))
  intro x8
  exact (.ite h6 (State.pauseAsk_keeps (State.addSat_keeps h6)))
theorem State.thmShutdown_keeps {s0 : State} {s : State} {a1 : Int} {a2 : Nat} (h : Keeps s0 s) : Keeps s0
    (State.thmShutdown s a1 a2) := by
  unfold State.thmShutdown
  lift_lets
  intro x0
  have h0 : Keeps s0 x0 := (.ite h (State.putI_keeps (State.put_keeps h)))
  intro x2
  have h2 : Keeps s0 x2 := (State.putB_keeps h0)
  clear_value x2
  intro x4 x5
  have h5 : Keeps s0 x5 := (.upd h2)
  intro x7
  have h7 : Keeps s0 x7 := (State.hwUp_keeps (State.raise_keeps h5))
  exact (.ite (State.bootStop_keeps h7) (State.lockout_keeps h7))
theorem State.thmHot_keeps {s0 : State} {s : State} {a1 : Nat} {a2 : Int} {a3 : Nat} (h : Keeps s0 s) : Keeps s0
    (State.thmHot s a1 a2 a3) := by
  unfold State.thmHot
  exact (.ite (State.thmShutdown_keeps h) (.ite (State.bootStop_keeps h) (.ite (State.lockout_keeps h) h)))
theorem State.thmMeasure_keeps {s0 : State} {s : State} {a1 : List Nat} (h : Keeps s0 s) : Keeps s0 (State.thmMeasure s a1) := by
  unfold State.thmMeasure
  exact (.ite h (by
    lift_lets
    intro x0
    have h0 : Keeps s0 x0 := (.each (fun _ _ h1 => (State.putI_keeps (State.put_keeps h1))) h)
    intro x2 x3
    have h3 : Keeps s0 x3 := (.each (fun _ _ h4 => (State.thmJudge_keeps h4)) h0)
    intro x5
    have h5 : Keeps s0 x5 := (State.put_keeps h3)
    intro x7 x8 x9 x10
    have h10 : Keeps s0 x10 := (State.thmThrottle_keeps (State.thmWarn_keeps (State.put_keeps (State.putI_keeps h5))))
    clear_value x10
    intro x12 x13 x14 x15
    have h15 : Keeps s0 x15 := (.upd h10)
    exact (.ite (State.thmHot_keeps h15) h15)))
theorem State.setSender_keeps {s0 : State} {s : State} {a1 : Nat} {a2 : Sender} (h : Keeps s0 s) : Keeps s0 (State.setSender
    s a1 a2) := by
  unfold State.setSender
  exact (.upd h)
theorem State.msgReceive_keeps {s0 : State} {s : State} {a1 : List Nat} (h : Keeps s0 s) : Keeps s0 (State.msgReceive s a1) := by
  unfold State.msgReceive
  lift_lets
  intro x0 x1 x2 x3
  have h3 : Keeps s0 x3 := (.ite (State.setSender_keeps h) h)
  intro x5 x6
  have h6 : Keeps s0 x6 := (State.setSender_keeps h3)
  clear_value x6
  intro x8
  clear_value x0 x1 x2 x3 x5 x8
  exact (by
    split
    · exact h3
    · exact h3
    · exact (State.raise_keeps h3)
    · exact (State.setSender_keeps h3)
    · exact (.ite (.upd h6) h6))
theorem State.rotateRaw_keeps {s0 : State} {s : State} (h : Keeps s0 s) : Keeps s0 (State.rotateRaw s) := by
  unfold State.rotateRaw
  exact (.upd h)
theorem State.msgSend_keeps {s0 : State} {s : State} (h : Keeps s0 s) : Keeps s0 (State.msgSend s) := by
  unfold State.msgSend
  exact (.ite h (by
    lift_lets
    intro x0 x1 x2
    have h2 : Keeps s0 x2 := (.upd h)
    intro x4
    have h4 : Keeps s0 x4 := (.ite (.each (fun _ _ h5 => (State.put_keeps h5)) h2) h2)
    exact (State.lnkMessage_keeps h4)))
theorem State.fuseCell_keeps {s0 s : State} (h : Keeps s0 s) : Keeps s0 s.fuseCell.2 := by
  unfold State.fuseCell
  exact Keeps.each (fun _ _ h1 => .ite (State.raise_keeps (State.setSender_keeps h1)) (State.setSender_keeps h1)) h
theorem State.enterDegraded_keeps {s0 : State} {s : State} (h : Keeps s0 s) : Keeps s0 (State.enterDegraded s) := by
  unfold State.enterDegraded
  lift_lets
  intro x0 x1
  have h1 : Keeps s0 x1 := (.upd h)
  exact (State.raise_keeps (State.putB_keeps (State.setDev_keeps h1)))
theorem State.diagReact_keeps {s0 : State} {s : State} (h : Keeps s0 s) : Keeps s0 (State.diagReact s) := by
  unfold State.diagReact
  exact (.ite (State.safeStop_keeps h) h)
theorem State.degradedRules_keeps {s0 : State} {s : State} {a1 : Nat} (h : Keeps s0 s) : Keeps s0 (State.degradedRules s a1) := by
  unfold State.degradedRules
  lift_lets
  intro x0
  have h0 : Keeps s0 x0 := (.ite (State.enterDegraded_keeps h) h)
  clear_value x0
  intro x2 x3
  exact (.ite (.upd h0) h0)
theorem State.crcReact_keeps {s0 : State} {s : State} {a1 : Bool} (h : Keeps s0 s) : Keeps s0 (State.crcReact s a1) := by
  unfold State.crcReact
  exact (.ite (State.reactS_keeps (State.raise_keeps (State.putB_keeps h))) (State.putB_keeps h))
theorem State.put64_keeps {s0 : State} {s : State} {a1 : Fld} {a2 : Fld} {a3 : Nat} (h : Keeps s0 s) : Keeps s0 (State.put64
    s a1 a2 a3) := by
  unfold State.put64
  exact (State.put_keeps (State.put_keeps h))
theorem State.publishZones_keeps {s0 : State} {s : State} {a1 : Decision} {a2 : Nat} {a3 : Bool} (h : Keeps s0 s) : Keeps s0
    (State.publishZones s a1 a2 a3) := by
  unfold State.publishZones
  lift_lets
  intro x0 x1 x2
  have h2 : Keeps s0 x2 := (.upd h)
  intro x4
  have h4 : Keeps s0 x4 := (State.put64_keeps h2)
  intro x6
  have h6 : Keeps s0 x6 := (State.put64_keeps h4)
  intro x8
  have h8 : Keeps s0 x8 := (State.put64_keeps h6)
  intro x10
  have h10 : Keeps s0 x10 := (State.putB_keeps (State.put_keeps h8))
  exact (.ite h2 (.each (fun _ _ h12 => (State.raise_keeps h12)) h10))
theorem State.takeLost_keeps {s0 : State} {s : State} {a1 : Tab Nat} {a2 : Nat → Bool} (h : Keeps s0 s) : Keeps s0
    (State.takeLost s a1 a2) := by
  unfold State.takeLost
  lift_lets
  intro x0 x1 x2
  have h2 : Keeps s0 x2 := (.ite (State.bump_keeps h) h)
  clear_value x2
  intro x4 x5
  have h5 : Keeps s0 x5 := (.upd h2)
  intro x7
  have h7 : Keeps s0 x7 := (.each (fun _ _ h8 => (State.put_keeps h8)) h5)
  exact (.each (fun _ _ h9 => (State.raise_keeps h9)) h7)
theorem State.publishSafety_keeps {s0 : State} {s : State} {a1 : Decision} {a2 : Fused} {a3 : Bool} (h : Keeps s0 s) : Keeps
    s0 (State.publishSafety s a1 a2 a3) := by
  unfold State.publishSafety
  lift_lets
  intro x0
  have h0 : Keeps s0 x0 := (State.put64_keeps h)
  intro x2
  have h2 : Keeps s0 x2 := (State.putB_keeps h0)
  intro x4
  have h4 : Keeps s0 x4 := (State.put_keeps (State.put_keeps h2))
  intro x6
  have h6 : Keeps s0 x6 := (State.putB_keeps (State.putB_keeps h4))
  exact (State.putB_keeps (State.putB_keeps h6))
theorem State.frameDecide_keeps {s0 : State} {s : State} {a1 : Bool} {a2 : Bool} (h : Keeps s0 s) : Keeps s0
    (State.frameDecide s a1 a2) := by
  unfold State.frameDecide
  lift_lets
  intro x0 x1
  have h1 : Keeps s0 x1 := (.ite h (State.crcReact_keeps h))
  intro x3
  have h3 : Keeps s0 x3 := (.ite (State.bump_keeps h1) h1)
  intro x5 x6 x7
  clear_value x0 x1 x3 x5 x6
  exact (by
    split
    next y8_0 y8_1 y8_2 y8_3 => 
      have h8 : Keeps s0 y8_2 := (congrArg (fun p => Keeps s0 p.2) y8_3).mp (State.fuseCell_keeps h3)
      exact (by
        lift_lets
        intro x9 x10
        have h10 : Keeps s0 x10 := (State.degradedRules_keeps (State.diagReact_keeps h8))
        clear_value x10
        intro x12 x13
        have h13 : Keeps s0 x13 := (.upd h10)
        clear_value x9 x12 x13
        exact (by
          split
          · exact (by
              lift_lets
              intro x16
              have h16 : Keeps s0 x16 := (State.publishZones_keeps h13)
              intro x18
              have h18 : Keeps s0 x18 := (.each (fun _ _ h19 => (State.axisDecide_keeps h19)) h16)
              intro x20
              have h20 : Keeps s0 x20 := (.each (fun _ _ h21 => (State.pairDecide_keeps h21)) h18)
              intro x22
              have h22 : Keeps s0 x22 := (State.takeLost_keeps h20)
              exact (State.publishSafety_keeps h22)))))
theorem State.pairRetake_keeps {s0 : State} {s : State} {a1 : Nat} (h : Keeps s0 s) : Keeps s0 (State.pairRetake s a1) := by
  unfold State.pairRetake
  lift_lets
  intro x0 x1 x2 x3
  have h3 : Keeps s0 x3 := (State.setPair_keeps h)
  intro x5
  have h5 : Keeps s0 x5 := (.ite (State.pairGo_keeps h3) h3)
  exact (State.pairDecide_keeps h5)
theorem State.axisRetake_keeps {s0 : State} {s : State} {a1 : Nat} (h : Keeps s0 s) : Keeps s0 (State.axisRetake s a1) := by
  unfold State.axisRetake
  lift_lets
  intro x0 x1
  exact (State.axisDecide_keeps (State.setAxis_keeps h))
theorem State.retake_keeps {s0 : State} {s : State} (h : Keeps s0 s) : Keeps s0 (State.retake s) := by
  unfold State.retake
  exact (.ite h (by
    lift_lets
    intro x0 x1
    have h1 : Keeps s0 x1 := (.upd h)
    intro x3 x4 x5
    have h5 : Keeps s0 x5 := (State.publishZones_keeps h1)
    intro x7
    have h7 : Keeps s0 x7 := (.each (fun _ _ h8 => (State.axisRetake_keeps h8)) h5)
    exact (.each (fun _ _ h9 => (State.pairRetake_keeps h9)) h7)))
theorem State.lpeShow_keeps {s0 : State} {s : State} (h : Keeps s0 s) : Keeps s0 (State.lpeShow s) := by
  unfold State.lpeShow
  exact (.ite h (State.put_keeps h))
theorem State.lpeForget_keeps {s0 : State} {s : State} (h : Keeps s0 s) : Keeps s0 (State.lpeForget s) := by
  unfold State.lpeForget
  exact (.upd h)
theorem State.lpeApply_keeps {s0 s : State} (h : Keeps s0 s) : Keeps s0 s.lpeApply := by
  unfold State.lpeApply
  refine .ite h ?_
  extract_lets +onlyGivenNames wasEn anchor empty _ x1
  have h1 : Keeps s0 x1 := .upd h
  clear_value x1 anchor
  extract_lets +onlyGivenNames x2
  have h2 : Keeps s0 x2 := .ite (State.lpeForget_keeps h1) h1
  clear_value x2
  extract_lets +onlyGivenNames _ x3
  have h3 : Keeps s0 x3 := by
    cases anchor
    · exact h2
    · exact .upd h2
  clear_value x3
  exact .ite (State.put_keeps (.upd h3)) h3
theorem State.lpeLanded_keeps {s0 : State} {s : State} {a1 : List Nat} (h : Keeps s0 s) : Keeps s0 (State.lpeLanded s a1) := by
  unfold State.lpeLanded
  exact (.ite h (by
    lift_lets
    intro x0 x1 x2 x3
    have h3 : Keeps s0 x3 := (.upd h)
    exact (.ite h3 (State.lpeShow_keeps (State.lpeApply_keeps h3)))))
theorem State.lpeDrop_keeps {s0 : State} {s : State} (h : Keeps s0 s) : Keeps s0 (State.lpeDrop s) := by
  unfold State.lpeDrop
  lift_lets
  intro x0
  have h0 : Keeps s0 x0 := (State.bump_keeps h)
  clear_value x0
  intro x2
  exact (.ite h0 (State.raise_keeps (.upd h0)))
theorem State.lpeQueue_keeps {s0 : State} {s : State} {a1 : List Nat} (h : Keeps s0 s) : Keeps s0 (State.lpeQueue s a1) := by
  unfold State.lpeQueue
  exact (.ite (.upd h) (by
    lift_lets
    intro x0
    have h0 : Keeps s0 x0 := (State.lpeDrop_keeps h)
    clear_value x0
    intro x2
    exact (.upd h0)))
theorem State.lpeLose_keeps {s0 : State} {s : State} {a1 : List Nat} (h : Keeps s0 s) : Keeps s0 (State.lpeLose s a1) := by
  unfold State.lpeLose
  lift_lets
  intro x0 x1
  exact (.ite h (.ite (.upd h) (.upd h)))
theorem State.lpePut_keeps {s0 : State} {s : State} {a1 : List Nat} (h : Keeps s0 s) : Keeps s0 (State.lpePut s a1) := by
  unfold State.lpePut
  lift_lets
  intro x0
  have h0 : Keeps s0 x0 := (.each (fun _ _ h1 => (State.dramPut_keeps h1)) h)
  exact (State.put_keeps h0)
theorem State.lpeWritten_keeps {s0 : State} {s : State} {a1 : List Nat} (h : Keeps s0 s) : Keeps s0 (State.lpeWritten s a1) := by
  unfold State.lpeWritten
  split
  · exact (State.raise_keeps h)
  · exact (State.raise_keeps h)
  · exact h
theorem State.lpeWrite_keeps {s0 : State} {s : State} (h : Keeps s0 s) : Keeps s0 (State.lpeWrite s) := by
  unfold State.lpeWrite
  split
  · exact h
  · exact (.ite h (by
      lift_lets
      intro x1 x2
      have h2 : Keeps s0 x2 := (.upd h)
      intro x4 x5 x6 x7
      have h7 : Keeps s0 x7 := (.ite h2 (State.lpePut_keeps (.upd h2)))
      intro x9
      have h9 : Keeps s0 x9 := (State.lpeLose_keeps (State.lpeDrop_keeps h2))
      intro x11
      exact (.ite (State.lpeWritten_keeps (State.lpePut_keeps h7)) (.ite (.upd h2) (.upd h9)))))
theorem State.lpeEnd_keeps {s0 : State} {s : State} {a1 : Nat} (h : Keeps s0 s) : Keeps s0 (State.lpeEnd s a1) := by
  unfold State.lpeEnd
  split
  · exact h
  · exact (by
      lift_lets
      intro x1
      have h1 : Keeps s0 x1 := (State.lpeQueue_keeps h)
      clear_value x1
      intro x3 x4
      have h4 : Keeps s0 x4 := (.upd h1)
      exact (State.lpeShow_keeps (State.lpeApply_keeps h4)))
theorem State.lpeMaybeEnd_keeps {s0 : State} {s : State} {a1 : Nat} (h : Keeps s0 s) : Keeps s0 (State.lpeMaybeEnd s a1) := by
  unfold State.lpeMaybeEnd
  split
  · exact (.ite (State.lpeEnd_keeps h) h)
  · exact h
theorem State.lpeCapBucket_keeps {s0 : State} {s : State} {a1 : LpeBucket} (h : Keeps s0 s) : Keeps s0 (State.lpeCapBucket s
    a1) := by
  unfold State.lpeCapBucket
  lift_lets
  intro x0 x1 x2
  have h2 : Keeps s0 x2 := (State.lpeQueue_keeps h)
  clear_value x2
  intro x4
  exact (.upd h2)
theorem State.lpeCapChange_keeps {s0 : State} {s : State} {a1 : LpeChange} (h : Keeps s0 s) : Keeps s0 (State.lpeCapChange s
    a1) := by
  unfold State.lpeCapChange
  lift_lets
  intro x0 x1 x2
  have h2 : Keeps s0 x2 := (State.lpeQueue_keeps h)
  clear_value x2
  intro x4
  exact (.upd h2)
theorem State.lpeStart_keeps {s0 : State} {s : State} {a1 : Nat} {a2 : Nat} {a3 : Nat} {a4 : Nat} {a5 : Nat} (h : Keeps s0
    s) : Keeps s0 (State.lpeStart s a1 a2 a3 a4 a5) := by
  unfold State.lpeStart
  split
  · exact (by
      lift_lets
      intro x1 x2 x3 x4 x5 x6 x7 x8 x9 x10
      have h10 : Keeps s0 x10 := (State.bump_keeps (State.put_keeps (State.put_keeps h)))
      clear_value x10
      intro x12 x13 x14 x15 x16 x17
      have h17 : Keeps s0 x17 := (.upd h10)
      intro x19
      have h19 : Keeps s0 x19 := (State.lpeQueue_keeps h17)
      intro x21
      have h21 : Keeps s0 x21 := (.each (fun _ _ h22 => (by
        split
        · exact (State.lpeCapChange_keeps h22)
        · exact (State.lpeCapBucket_keeps h22))) h19)
      exact (State.lpeMaybeEnd_keeps (State.lpeShow_keeps h21)))
theorem State.lpeCross_keeps {s0 s : State} {m dir : Nat} {old : Option (Int × Nat × Nat)} {x : Int} (h : Keeps s0 s) :
    Keeps s0 (s.lpeCross m dir old x).2 := by
  unfold State.lpeCross
  extract_lets +onlyGivenNames l hy i rearm _ x1
  have h1 : Keeps s0 x1 := .ite (.upd h) h
  clear_value x1
  cases old with
  | none => exact h1
  | some o => exact .pair (.upd (s := x1) h1) h1
theorem State.lpeCrossings_keeps {s0 s : State} {vals : Tab Int} (h : Keeps s0 s) : Keeps s0 (s.lpeCrossings vals).2 := by
  unfold State.lpeCrossings
  refine .upd (s := (List.foldl _ ([], s) (List.range 4)).2) ?_
  generalize List.range 4 = r
  have hg : ∀ (r : List Nat) (p : List LpeFire × State), Keeps s0 p.2 → Keeps s0 (r.foldl (fun (a : List LpeFire × State) m =>
      let s := a.2
      let t := s.lpeGet (LPE_XING_CTL.TRACE m)
      let dir := s.lpeGet (LPE_XING_CTL.DIR m)
      match (if s.lpeFlag (LPE_XING_CTL.EN m) && s.lpeFlag (LPE_TRACE.EN t) then vals.find? (fun p => p.1 == t) else none) with
      | none => a
      | some (_, x) =>
        let old := (s.lpe.last.find? (fun p => p.1 == t)).map (fun p => p.2)
        let (f0, s) := if bit dir 0 then s.lpeCross m 0 old x else (none, s)
        let (f1, s) := if bit dir 1 then s.lpeCross m 1 old x else (none, s)
        (a.1 ++ (f0.toList ++ f1.toList).take 1, s)) p).2 := by
    intro r
    induction r with
    | nil => intro p hp; exact hp
    | cons m r ih =>
      intro p hp
      refine ih _ ?_
      dsimp only
      split
      · exact hp
      · have e : ∀ (c : Bool) (u : State) (d : Nat) (o : Option (Int × Nat × Nat)) (x : Int), Keeps s0 u →
            Keeps s0 (if c = true then u.lpeCross m d o x else (none, u)).2 := by
          intro c u d o x hu
          split
          · exact State.lpeCross_keeps hu
          · exact hu
        exact e _ _ _ _ _ (e _ _ _ _ _ hp)
  exact hg r _ h
theorem State.lpeFires_keeps {s0 : State} {s : State} {a1 : List LpeFire} (h : Keeps s0 s) : Keeps s0 (State.lpeFires s a1) := by
  unfold State.lpeFires
  exact (.ite h (by
    split
    · exact h
    · exact (by
        lift_lets
        intro x1
        have h1 : Keeps s0 x1 := (.each (fun _ _ h2 => (by
          lift_lets
          intro x3
          exact (.ite (State.emit_keeps h2) h2))) h)
        intro x3
        have h3 : Keeps s0 x3 := (State.addSat_keeps h1)
        clear_value x3
        intro x5
        exact (.ite (.upd h3) (State.lpeStart_keeps h1)))))
theorem State.lpeGather_keeps {s0 : State} {s : State} {a1 : Tab Int} (h : Keeps s0 s) : Keeps s0 (State.lpeGather s a1) := by
  unfold State.lpeGather
  lift_lets
  intro x0 x1 x2 x3 x4
  exact (.upd h)
theorem State.lpeBucketDone_keeps {s0 : State} {s : State} (h : Keeps s0 s) : Keeps s0 (State.lpeBucketDone s) := by
  unfold State.lpeBucketDone
  split
  · exact h
  · exact (.ite h (by
      lift_lets
      intro x1 x2
      have h2 : Keeps s0 x2 := (.upd h)
      intro x4
      have h4 : Keeps s0 x4 := (State.lpeCapBucket_keeps h2)
      clear_value x4
      intro x6 x7
      have h7 : Keeps s0 x7 := (.upd h4)
      clear_value x1 x2 x6 x7
      exact (by
        split
        · exact h2
        · exact (State.lpeMaybeEnd_keeps h7))))
theorem State.lpeChange_keeps {s0 : State} {s : State} {a1 : LpeChange} (h : Keeps s0 s) : Keeps s0 (State.lpeChange s a1) := by
  unfold State.lpeChange
  lift_lets
  intro x0 x1 x2
  exact (.upd h)
theorem State.loupeSample_keeps {s0 s : State} {p : LoupePins} (h : Keeps s0 s) : Keeps s0 (s.loupeSample p) := by
  unfold State.loupeSample
  refine .ite h ?_
  extract_lets +onlyGivenNames old vec _ x1
  have h1 : Keeps s0 x1 := .upd h
  clear_value x1
  extract_lets +onlyGivenNames change x2
  have h2 : Keeps s0 x2 := by
    clear_value change
    cases change
    · exact h1
    · exact State.lpeChange_keeps h1
  clear_value x2
  extract_lets +onlyGivenNames due vals x3
  have h3 : Keeps s0 x3 := .ite (State.lpeGather_keeps h2) h2
  clear_value x3
  have h4 : Keeps s0 (if due = true then x3.lpeCrossings vals else ([], x3)).2 := .pair (State.lpeCrossings_keeps h3) h3
  revert h4
  generalize (if due = true then x3.lpeCrossings vals else ([], x3)) = q
  obtain ⟨xs, u⟩ := q
  intro h4
  dsimp -zeta only at h4 ⊢
  extract_lets +onlyGivenNames ran x5
  have h5 : Keeps s0 x5 := State.lpeFires_keeps h4
  clear_value x5
  extract_lets +onlyGivenNames x6
  have h6 : Keeps s0 x6 := by
    clear_value change
    cases change
    · exact h5
    · exact .ite (State.lpeCapChange_keeps h5) h5
  clear_value x6
  exact .ite (State.lpeBucketDone_keeps h6) h6
theorem State.lpeUnstart_keeps {s0 : State} {s : State} (h : Keeps s0 s) : Keeps s0 (State.lpeUnstart s) := by
  unfold State.lpeUnstart
  exact (.ite h (by
    lift_lets
    intro x0
    have h0 : Keeps s0 x0 := (State.put_keeps (State.put_keeps h))
    intro x2
    have h2 : Keeps s0 x2 := (State.addSat_keeps (State.put_keeps h0))
    clear_value x2
    intro x4
    exact (.upd h2)))
theorem State.lpeClearStart_keeps {s0 : State} {s : State} (h : Keeps s0 s) : Keeps s0 (State.lpeClearStart s) := by
  unfold State.lpeClearStart
  exact (.ite h (by
    lift_lets
    intro x0
    have h0 : Keeps s0 x0 := (State.lpeUnstart_keeps h)
    clear_value x0
    intro x2 x3
    have h3 : Keeps s0 x3 := (.upd h0)
    exact (State.put_keeps (State.putB_keeps (State.lpeForget_keeps (State.lpeApply_keeps h3))))))
theorem State.lpeRetain_keeps {s0 : State} {s : State} (h : Keeps s0 s) : Keeps s0 (State.lpeRetain s) := by
  unfold State.lpeRetain
  exact (.ite (State.lpeClearStart_keeps h) h)
theorem State.lpeClearDone_keeps {s0 : State} {s : State} (h : Keeps s0 s) : Keeps s0 (State.lpeClearDone s) := by
  unfold State.lpeClearDone
  exact (.ite h (by
    lift_lets
    intro x0
    have h0 : Keeps s0 x0 := (State.dramZero_keeps h)
    intro x2
    have h2 : Keeps s0 x2 := (State.put_keeps (State.put_keeps h0))
    intro x4
    have h4 : Keeps s0 x4 := (State.lpePut_keeps h2)
    intro x6
    have h6 : Keeps s0 x6 := (State.lpeShow_keeps (State.put_keeps (State.putB_keeps h4)))
    exact (State.raise_keeps h6)))
theorem State.indLanded_keeps {s0 : State} {s : State} {a1 : List Nat} (h : Keeps s0 s) : Keeps s0 (State.indLanded s a1) := by
  unfold State.indLanded
  lift_lets
  intro x0
  have h0 : Keeps s0 x0 := (.each (fun _ _ h1 => (by
    lift_lets
    intro x2 x3
    exact (.ite h1 (.upd h1)))) h)
  exact (.each (fun _ _ h2 => (by
    lift_lets
    intro x3
    exact (.ite h2 (.upd h2)))) h0)
theorem State.beadJudge_keeps {s0 : State} {s : State} {a1 : Bool} (h : Keeps s0 s) : Keeps s0 (State.beadJudge s a1) := by
  unfold State.beadJudge
  lift_lets
  intro x0 x1 x2
  have h2 : Keeps s0 x2 := (.upd h)
  intro x4
  have h4 : Keeps s0 x4 := (State.bump_keeps h2)
  exact (.ite (State.putB_keeps h2) (.ite (State.raise_keeps (State.putB_keeps h4)) h4))
theorem State.chainFrame_keeps {s0 : State} {s : State} {a1 : List Bool} (h : Keeps s0 s) : Keeps s0 (State.chainFrame s a1) := by
  unfold State.chainFrame
  lift_lets
  intro x0 x1
  have h1 : Keeps s0 x1 := (.each (fun _ _ h2 => (.upd h2)) h)
  intro x3 x4
  have h4 : Keeps s0 x4 := (State.emit_keeps h1)
  clear_value x4
  intro x6 x7
  have h7 : Keeps s0 x7 := (.upd h4)
  exact (.ite h (State.beadJudge_keeps (State.put_keeps h7)))
theorem State.ledSet_keeps {s0 : State} {s : State} {a1 : Nat} {a2 : Nat} (h : Keeps s0 s) : Keeps s0 (State.ledSet s a1 a2) := by
  unfold State.ledSet
  exact (.ite h (State.raise_keeps (State.putB_keeps h)))
theorem State.ledResult_keeps {s0 : State} {s : State} {a1 : Nat} {a2 : Nat} (h : Keeps s0 s) : Keeps s0 (State.ledResult s
    a1 a2) := by
  unfold State.ledResult
  lift_lets
  intro x0 x1 x2 x3
  have h3 : Keeps s0 x3 := (.upd h)
  exact (.ite (State.ledSet_keeps h3) h3)
theorem State.ledTest_keeps {s0 : State} {s : State} {a1 : Nat} {a2 : List Nat} (h : Keeps s0 s) : Keeps s0 (State.ledTest s
    a1 a2) := by
  unfold State.ledTest
  lift_lets
  intro x0 x1
  have h1 : Keeps s0 x1 := (State.put_keeps h)
  intro x3
  exact (.ite (State.ledResult_keeps h1) (.ite (State.ledResult_keeps h1) (.ite (State.ledResult_keeps h1) (.each (fun _ _ h4 => (State.ledResult_keeps h4)) h1))))
theorem State.ledWindow_keeps {s0 : State} {s : State} {a1 : List Nat} (h : Keeps s0 s) : Keeps s0 (State.ledWindow s a1) := by
  unfold State.ledWindow
  split
  · exact (State.ledTest_keeps (State.emit_keeps h))
  · exact h
theorem State.ledNext_keeps {s0 : State} {s : State} (h : Keeps s0 s) : Keeps s0 (State.ledNext s) := by
  unfold State.ledNext
  lift_lets
  intro x0
  have h0 : Keeps s0 x0 := (.each (fun _ _ h1 => (.upd h1)) h)
  clear_value x0
  intro x2
  exact (.upd h0)
theorem State.ledPeriod_keeps {s0 : State} {s : State} {a1 : List Nat} (h : Keeps s0 s) : Keeps s0 (State.ledPeriod s a1) := by
  unfold State.ledPeriod
  exact (.ite (State.ledNext_keeps (State.ledWindow_keeps h)) h)
theorem State.ledTrip_keeps {s0 : State} {s : State} {a1 : Nat} (h : Keeps s0 s) : Keeps s0 (State.ledTrip s a1) := by
  unfold State.ledTrip
  exact (.ite (State.ledSet_keeps h) h)
theorem State.ledClear_keeps {s0 : State} {s : State} {a1 : Nat} {a2 : Bool} (h : Keeps s0 s) : Keeps s0 (State.ledClear s
    a1 a2) := by
  unfold State.ledClear
  exact (.ite (State.hwUp_keeps h) (.each (fun _ _ h0 => (State.putB_keeps h0)) h))
theorem State.setPress_keeps {s0 : State} {s : State} {a1 : Bool} {a2 : Option Press} (h : Keeps s0 s) : Keeps s0
    (State.setPress s a1 a2) := by
  unfold State.setPress
  lift_lets
  intro x0 x1
  have h1 : Keeps s0 x1 := (.ite (.upd h) (.upd h))
  intro x3
  have h3 : Keeps s0 x3 := (State.putB_keeps (State.putB_keeps h1))
  exact (State.putB_keeps h3)
theorem State.buttonDown_keeps {s0 : State} {s : State} {a1 : Bool} (h : Keeps s0 s) : Keeps s0 (State.buttonDown s a1) := by
  unfold State.buttonDown
  exact (.ite h (by
    lift_lets
    intro x0
    have h0 : Keeps s0 x0 := (State.setPress_keeps h)
    exact (State.setPress_keeps h0)))
theorem State.plugRead_keeps {s0 : State} {s : State} (h : Keeps s0 s) : Keeps s0 (State.plugRead s) := by
  unfold State.plugRead
  exact (.upd h)
theorem State.buttonRun_keeps {s0 : State} {s : State} (h : Keeps s0 s) : Keeps s0 (State.buttonRun s) := by
  unfold State.buttonRun
  lift_lets
  intro x0
  clear_value x0
  exact (by
    split
    · exact (State.cmdRefuse_keeps h)
    · exact (State.startCmd_keeps (State.plugRead_keeps h)))
theorem State.restartRelease_keeps {s0 : State} {s : State} {a1 : Nat} (h : Keeps s0 s) : Keeps s0 (State.restartRelease s
    a1) := by
  unfold State.restartRelease
  lift_lets
  intro x0
  have h0 : Keeps s0 x0 := (.each (fun _ _ h1 => (.ite (State.pairRestart_keeps h1) h1)) h)
  exact (.ite (State.buttonRun_keeps h0) h0)
theorem State.buttonUp_keeps {s0 : State} {s : State} {a1 : Bool} (h : Keeps s0 s) : Keeps s0 (State.buttonUp s a1) := by
  unfold State.buttonUp
  split
  · exact h
  · exact (by
      lift_lets
      intro x1
      have h1 : Keeps s0 x1 := (State.setPress_keeps h)
      intro x3 x4 x5
      have h5 : Keeps s0 x5 := (State.raise_keeps (State.bump_keeps h1))
      exact (.ite h1 (.ite (State.teachStart_keeps h5) (State.restartRelease_keeps h5))))
theorem State.buttonStuck_keeps {s0 : State} {s : State} {a1 : Bool} (h : Keeps s0 s) : Keeps s0 (State.buttonStuck s a1) := by
  unfold State.buttonStuck
  split
  · exact h
  · exact (.ite h (State.raise_keeps (State.setPress_keeps h)))
theorem State.sealSite_keeps {s0 : State} {s : State} {a1 : Nat} (h : Keeps s0 s) : Keeps s0 (State.sealSite s a1) := by
  unfold State.sealSite
  exact (.ite h (State.put_keeps h))
theorem State.sealUnlock_keeps {s0 : State} {s : State} {a1 : Bool} (h : Keeps s0 s) : Keeps s0 (State.sealUnlock s a1) := by
  unfold State.sealUnlock
  exact (.ite h (State.put_keeps h))
theorem State.sealTick_keeps {s0 : State} {s : State} (h : Keeps s0 s) : Keeps s0 (State.sealTick s) := by
  unfold State.sealTick
  lift_lets
  intro x0
  have h0 : Keeps s0 x0 := (State.putB_keeps h)
  clear_value x0
  intro x2 x3 x4 x5
  have h5 : Keeps s0 x5 := (.upd h0)
  exact (.ite (State.reactS_keeps (State.raise_keeps (State.putB_keeps h5))) h5)
theorem State.plugChange_keeps {s0 : State} {s : State} {a1 : Bool} (h : Keeps s0 s) : Keeps s0 (State.plugChange s a1) := by
  unfold State.plugChange
  exact (.ite h (by
    lift_lets
    intro x0
    have h0 : Keeps s0 x0 := (State.putB_keeps (State.putB_keeps (State.putB_keeps h)))
    exact (State.plugRead_keeps (State.raise_keeps h0))))
theorem State.plugTaken_keeps {s0 : State} {s : State} {a1 : List Nat} (h : Keeps s0 s) : Keeps s0 (State.plugTaken s a1) := by
  unfold State.plugTaken
  lift_lets
  intro x0 x1
  have h1 : Keeps s0 x1 := (.upd h)
  exact (State.putB_keeps (State.putB_keeps h1))
theorem State.plugAttempt_keeps {s0 : State} {s : State} {a1 : PlugEnd} {a2 : List Nat} (h : Keeps s0 s) : Keeps s0
    (State.plugAttempt s a1 a2) := by
  unfold State.plugAttempt
  exact (.ite h (by
    lift_lets
    intro x0
    have h0 : Keeps s0 x0 := (State.emit_keeps h)
    clear_value x0
    intro x2
    exact (.ite (State.plugTaken_keeps h0) (State.bump_keeps (.upd h0)))))
theorem State.plugSend_keeps {s0 s : State} {part : PlugReply} (h : Keeps s0 s) : Keeps s0 (s.plugSend part).2 := by
  unfold State.plugSend
  exact State.emit_keeps h
theorem State.plugWrite_keeps {s0 s : State} {part : PlugReply} (h : Keeps s0 s) : Keeps s0 (s.plugWrite part) := by
  unfold State.plugWrite
  refine ringCmd_keeps (fun c n x hx => ?_) h
  refine .ite (State.complete_keeps hx) (.ite (State.complete_keeps hx) ?_)
  dsimp only
  exact .ite (State.complete_keeps (State.plugTaken_keeps (State.plugSend_keeps hx)))
    (State.complete_keeps (State.plugSend_keeps hx))
theorem State.modeLanded_keeps {s0 : State} {s : State} {a1 : Nat} (h : Keeps s0 s) : Keeps s0 (State.modeLanded s a1) := by
  unfold State.modeLanded
  exact (.ite h (State.putB_keeps (State.putB_keeps h)))
theorem State.landed_keeps {s0 : State} {s : State} {a1 : State} {a2 : List Nat} (h : Keeps s0 s) : Keeps s0 (State.landed s
    a1 a2) := by
  unfold State.landed
  lift_lets
  intro x0
  have h0 : Keeps s0 x0 := (.each (fun _ _ h1 => (State.modeLanded_keeps (State.reedLanded_keeps h1))) h)
  intro x2
  have h2 : Keeps s0 x2 := (State.clkLanded_keeps (State.hedLanded_keeps h0))
  exact (State.trdLanded_keeps (State.indLanded_keeps (State.lpeLanded_keeps (State.supLanded_keeps h2))))
theorem State.showIdle_keeps {s0 : State} {s : State} (h : Keeps s0 s) : Keeps s0 (State.showIdle s) := by
  unfold State.showIdle
  lift_lets
  intro x0 x1 x2
  have h2 : Keeps s0 x2 := (State.putB_keeps h)
  exact (.each (fun _ _ h4 => (State.put_keeps h4)) h2)
theorem State.showActive_keeps {s0 : State} {s : State} {a1 : List Byte} (h : Keeps s0 s) : Keeps s0 (State.showActive s a1) := by
  unfold State.showActive
  lift_lets
  intro x0
  have h0 : Keeps s0 x0 := (State.put_keeps (State.put_keeps h))
  intro x2
  have h2 : Keeps s0 x2 := (.each (fun _ _ h3 => (State.put_keeps h3)) h0)
  exact (.each (fun _ _ h4 => (State.put_keeps h4)) h2)
theorem State.showFsBase_keeps {s0 : State} {s : State} (h : Keeps s0 s) : Keeps s0 (State.showFsBase s) := by
  unfold State.showFsBase
  exact (.ite (by
    lift_lets
    intro x0
    exact (State.put_keeps (State.put_keeps h))) h)
theorem State.setTable_keeps {s0 : State} {s : State} {a1 : List Nat} (h : Keeps s0 s) : Keeps s0 (State.setTable s a1) := by
  unfold State.setTable
  lift_lets
  intro x0 x1
  have h1 : Keeps s0 x1 := (.upd h)
  intro x3
  have h3 : Keeps s0 x3 := (State.put_keeps (State.putB_keeps h1))
  exact (State.putB_keeps h3)
theorem State.setResources_keeps {s0 : State} {s : State} {a1 : List (Nat × Nat)} (h : Keeps s0 s) : Keeps s0
    (State.setResources s a1) := by
  unfold State.setResources
  lift_lets
  intro x0 x1
  have h1 : Keeps s0 x1 := (.upd h)
  exact (.each (fun _ _ h3 => (State.refuseClaim_keeps h3)) h1)
theorem State.installSet_keeps {s0 s : State} (h : Keeps s0 s) : Keeps s0 s.installSet.2 := by
  unfold State.installSet
  dsimp only
  split
  · exact h
  · split
    · exact State.raise_keeps (State.putB_keeps (State.put_keeps (.upd h)))
    · exact State.touchBursts_keeps h
theorem State.applyImage_keeps {s0 s : State} {slot : Nat} (h : Keeps s0 s) : Keeps s0 (s.applyImage slot).2 := by
  unfold State.applyImage
  extract_lets +onlyGivenNames b l cfg
  clear_value cfg l
  extract_lets +onlyGivenNames _ x1
  have h1 : Keeps s0 x1 := .upd h
  clear_value x1
  extract_lets +onlyGivenNames x2
  have h2 : Keeps s0 x2 := State.setResources_keeps (State.applyLink_keeps h1)
  clear_value x2
  extract_lets +onlyGivenNames x3
  have h3 : Keeps s0 x3 := Keeps.each (fun _ _ hx => State.putB_keeps hx) h2
  clear_value x3
  extract_lets +onlyGivenNames before ws
  clear_value before ws
  extract_lets +onlyGivenNames x5
  have h5 : Keeps s0 x5 := .upd h3
  clear_value x5
  extract_lets +onlyGivenNames x6
  have h6 : Keeps s0 x6 := .ite (State.setTable_keeps h5) h5
  clear_value x6
  extract_lets +onlyGivenNames x7
  have h7 : Keeps s0 x7.installSet.2 := State.installSet_keeps (State.showFsBase_keeps h6)
  clear_value x7
  revert h7
  generalize x7.installSet = q
  obtain ⟨ok, u⟩ := q
  intro h7
  exact State.claimInForce_keeps (State.landed_keeps (State.showIdle_keeps (State.showActive_keeps h7)))
theorem State.startLoad_keeps {s0 : State} {s : State} {a1 : Nat} {a2 : Nat} {a3 : Bool} {a4 : Bool} (h : Keeps s0 s) :
    Keeps s0 (State.startLoad s a1 a2 a3 a4) := by
  unfold State.startLoad
  lift_lets
  intro x0 x1 x2 x3
  have h3 : Keeps s0 x3 := (.upd h)
  intro x5
  have h5 : Keeps s0 x5 := (.ite (State.emit_keeps h3) h3)
  intro x7
  have h7 : Keeps s0 x7 := (State.put_keeps (State.putB_keeps h5))
  exact (State.showIdle_keeps (State.put_keeps (State.putB_keeps h7)))
theorem State.loadFail_keeps {s0 : State} {s : State} {a1 : LoadBad} (h : Keeps s0 s) : Keeps s0 (State.loadFail s a1) := by
  unfold State.loadFail
  split
  · exact h
  · exact (by
      lift_lets
      intro x1
      have h1 : Keeps s0 x1 := (State.showIdle_keeps (State.putB_keeps (State.endLoad_keeps h)))
      intro x3
      have h3 : Keeps s0 x3 := (State.put_keeps (State.put_keeps (State.put_keeps h1)))
      clear_value x3
      intro x5 x6
      have h6 : Keeps s0 x6 := (.ite (.upd h3) h3)
      exact (.ite (State.startLoad_keeps h3) (State.imgComplete_keeps (State.raise_keeps h6))))
theorem State.memApply_keeps {s0 s : State} {m : List Nat} {ok : Bool} (h : Keeps s0 s) : Keeps s0 (s.memApply m ok) := by
  unfold State.memApply
  exact State.putB_keeps ((State.fresh_keeps h).trans ⟨rfl, rfl, fun hs => Mem.forget_wf _ _ _ _ hs, id, .refl _⟩)
theorem State.memStep_keeps {s0 s : State} {ld : Load} {b : List Byte} {sc : Scan} {memOk : Bool} (h : Keeps s0 s) :
    Keeps s0 (s.memStep ld b sc memOk).2 := by
  unfold State.memStep
  split
  · exact h
  · next r _ _ =>
    dsimp only
    refine .pair (State.loadFail_keeps (State.putB_keeps h)) ?_
    have h1 : Keeps s0 (if ld.boot = true then s.memApply r.body memOk else s) := .ite (State.memApply_keeps h) h
    exact .pair (State.loadFail_keeps h1) (.upd (State.dramWrite_keeps h1))
theorem State.loadTake_keeps {s0 s : State} {new : List Byte} {memOk : Bool} (h : Keeps s0 s) :
    Keeps s0 (s.loadTake new memOk) := by
  have key : ∀ (r : Bool × State) (b : List Byte) (sc : Scan), Keeps s0 r.2 → Keeps s0 (if (!r.1) = true then r.2 else
      match r.2.streamBad b sc with
      | some x => r.2.loadFail x
      | none => r.2) := by
    intro r b sc hr
    refine .ite hr ?_
    split
    · exact State.loadFail_keeps hr
    · exact hr
  unfold State.loadTake
  split
  · exact h
  · dsimp only
    exact key _ _ _ (.pair (State.dramWrite_keeps (State.put_keeps (.upd h)))
      (.pair (State.memStep_keeps (State.put_keeps (.upd h))) (State.put_keeps (.upd h))))
theorem State.imgFeed_keeps {s0 : State} {s : State} {a1 : Nat} {a2 : Nat} {a3 : Bool} (h : Keeps s0 s) : Keeps s0
    (State.imgFeed s a1 a2 a3) := by
  unfold State.imgFeed
  lift_lets
  intro x0 x1
  clear_value x0 x1
  exact (by
    split
    · exact h
    · exact (by
        lift_lets
        intro x3
        have h3 : Keeps s0 x3 := (.upd h)
        intro x5
        have h5 : Keeps s0 x5 := (State.loadTake_keeps h3)
        clear_value x5
        intro x7
        clear_value x3 x7
        exact (.ite h (by
          split
          · exact h5
          · exact (by
              lift_lets
              intro x9 x10
              have h10 : Keeps s0 x10 := (.upd h5)
              intro x12 x13
              have h13 : Keeps s0 x13 := (State.put_keeps h10)
              exact (.ite h5 (.ite (State.loadFail_keeps (State.hwUp_keeps h5)) (State.putB_keeps h13))))))))
theorem State.imgTimeout_keeps {s0 : State} {s : State} (h : Keeps s0 s) : Keeps s0 (State.imgTimeout s) := by
  unfold State.imgTimeout
  split
  · exact h
  · exact (.ite h (State.loadFail_keeps h))
theorem State.copySets_keeps {s0 : State} {s : State} {a1 : Nat} {a2 : List ImgRec} (h : Keeps s0 s) : Keeps s0
    (State.copySets s a1 a2) := by
  unfold State.copySets
  exact (.each (fun _ _ h0 => (State.dramWrite_keeps h0)) h)
theorem State.bootGood_keeps {s0 : State} {s : State} {a1 : Load} (h : Keeps s0 s) : Keeps s0 (State.bootGood s a1) := by
  unfold State.bootGood
  split
  next y0_0 y0_1 y0_2 y0_3 => 
    have h0 : Keeps s0 y0_2 := (congrArg (fun p => Keeps s0 p.2) y0_3).mp (State.applyImage_keeps h)
    exact (.ite (State.loadFail_keeps h0) (by
      lift_lets
      intro x1
      have h1 : Keeps s0 x1 := (State.showIdle_keeps (State.putB_keeps (State.endLoad_keeps h0)))
      intro x3 x4
      have h4 : Keeps s0 x4 := (State.put_keeps (State.put_keeps (State.put_keeps h1)))
      intro x6
      have h6 : Keeps s0 x6 := (State.imgComplete_keeps (State.raise_keeps h4))
      intro x8
      have h8 : Keeps s0 x8 := (State.setDev_keeps h6)
      clear_value x8
      intro x10
      exact (.ite (.upd h8) h6)))
theorem State.loadGood_keeps {s0 : State} {s : State} {a1 : Load} (h : Keeps s0 s) : Keeps s0 (State.loadGood s a1) := by
  unfold State.loadGood
  lift_lets
  intro x0
  have h0 : Keeps s0 x0 := (State.showIdle_keeps (State.putB_keeps (State.endLoad_keeps h)))
  exact (State.imgComplete_keeps (State.raise_keeps h0))
theorem State.imgVerify_keeps {s0 : State} {s : State} {a1 : List Byte} {a2 : Bool} (h : Keeps s0 s) : Keeps s0
    (State.imgVerify s a1 a2) := by
  unfold State.imgVerify
  split
  · exact h
  · exact (by
      lift_lets
      intro x1 x2 x3 x4
      have h4 : Keeps s0 x4 := (State.loadTake_keeps (.upd h))
      intro x6
      have h6 : Keeps s0 x6 := h4
      intro x8 x9
      have h9 : Keeps s0 x9 := (State.copySets_keeps h6)
      clear_value x1 x2 x3 x4 x6 x8 x9
      exact (by
        split
        · exact h4
        · exact (.ite h4 (.ite h (.ite (State.loadFail_keeps h6) (by
            split
            · exact (State.loadFail_keeps h6)
            · exact (by
                split
                · exact (State.loadFail_keeps h6)
                · exact (by
                    split
                    · exact (State.loadFail_keeps h6)
                    · exact (.ite (State.bootGood_keeps h9) (State.loadGood_keeps h9))))))))))
theorem State.imgRefuse_keeps {s0 : State} {s : State} {a1 : RunCmd} {a2 : Nat} (h : Keeps s0 s) : Keeps s0 (State.imgRefuse
    s a1 a2) := by
  unfold State.imgRefuse
  exact (State.complete_keeps (State.put_keeps h))
theorem State.imgAccept_keeps {s0 : State} {s : State} {a1 : RunCmd} (h : Keeps s0 s) : Keeps s0 (State.imgAccept s a1) := by
  unfold State.imgAccept
  exact (State.startCmd_keeps (State.put_keeps h))
theorem State.imgLoad_keeps {s0 : State} {s : State} (h : Keeps s0 s) : Keeps s0 (State.imgLoad s) := by
  unfold State.imgLoad
  exact (ringCmd_keeps (fun _ _ _ h0 => (.ite (State.imgRefuse_keeps h0) (State.startLoad_keeps (State.imgAccept_keeps h0)))) h)
theorem State.imgSwap_keeps {s0 : State} {s : State} (h : Keeps s0 s) : Keeps s0 (State.imgSwap s) := by
  unfold State.imgSwap
  exact (ringCmd_keeps (fun _ _ _ h0 => (by
    lift_lets
    intro x1 x2 x3 x4
    have h4 : Keeps s0 x4 := (State.imgAccept_keeps h0)
    clear_value x4
    intro x6
    clear_value x1 x2 x3 x6
    exact (.ite (State.imgRefuse_keeps h0) (by
      split
      · exact (State.imgRefuse_keeps h0)
      · exact (.ite (State.imgRefuse_keeps h0) (.ite (State.imgRefuse_keeps h0) (State.put_keeps (.upd h4)))))))) h)
theorem State.imgApply_keeps {s0 : State} {s : State} (h : Keeps s0 s) : Keeps s0 (State.imgApply s) := by
  unfold State.imgApply
  exact (ringCmd_keeps (fun _ _ _ h0 => (by
    lift_lets
    intro x1 x2
    have h2 : Keeps s0 x2 := (State.imgAccept_keeps h0)
    clear_value x2
    intro x4
    exact (.ite (State.imgRefuse_keeps h0) (.ite (State.imgRefuse_keeps h0) (.ite (State.imgRefuse_keeps h0) (State.put_keeps (.upd h2))))))) h)
theorem State.swapFail_keeps {s0 : State} {s : State} {a1 : Nat} {a2 : Nat} (h : Keeps s0 s) : Keeps s0 (State.swapFail s a1
    a2) := by
  unfold State.swapFail
  lift_lets
  intro x0 x1
  have h1 : Keeps s0 x1 := (.upd h)
  intro x3
  have h3 : Keeps s0 x3 := (State.put_keeps (State.put_keeps (State.put_keeps h1)))
  exact (State.imgComplete_keeps h3)
theorem State.imgAbort_keeps {s0 : State} {s : State} (h : Keeps s0 s) : Keeps s0 (State.imgAbort s) := by
  unfold State.imgAbort
  exact (ringCmd_keeps (fun _ _ _ h0 => (.ite (State.complete_keeps (State.loadFail_keeps (State.put_keeps h0))) (.ite (State.complete_keeps (State.swapFail_keeps h0)) (State.complete_keeps h0)))) h)
theorem State.swapPrepared_keeps {s0 : State} {s : State} (h : Keeps s0 s) : Keeps s0 (State.swapPrepared s) := by
  unfold State.swapPrepared
  split
  · exact h
  · exact (.ite h (by
      lift_lets
      intro x1 x2 x3 x4 x5 x6 x7 x8
      have h8 : Keeps s0 x8 := (State.showFsBase_keeps (.upd h))
      intro x10 x11 x12 x13 x14 x15
      have h15 : Keeps s0 x15 := (.upd h)
      clear_value x1 x2 x3 x4 x5 x6 x7 x8 x10 x11 x12 x13 x14 x15
      exact (.ite (State.swapFail_keeps (State.touchBursts_keeps h)) (by
        split
        next y17_0 y17_1 y17_2 y17_3 => 
          have h17 : Keeps s0 y17_2 := (congrArg (fun p => Keeps s0 p.2) y17_3).mp (State.stageGroup_keeps h15)
          exact (State.swapFail_keeps (.upd h))
        next y17_0 y17_1 y17_2 => 
          have h17 : Keeps s0 y17_1 := (congrArg (fun p => Keeps s0 p.2) y17_2).mp (State.stageGroup_keeps h15)
          exact (by
            lift_lets
            intro x18
            have h18 : Keeps s0 x18 := (State.setStage_keeps h)
            clear_value x18
            intro x20 x21 x22
            have h22 : Keeps s0 x22 := (.upd h18)
            exact (State.put_keeps h22))))))
theorem State.swapLand_keeps {s0 : State} {s : State} (h : Keeps s0 s) : Keeps s0 (State.swapLand s) := by
  unfold State.swapLand
  split
  · exact h
  · exact (.ite h (.ite (.upd h) (by
      lift_lets
      intro x1 x2 x3 x4 x5
      have h5 : Keeps s0 x5 := (.upd h)
      intro x7
      have h7 : Keeps s0 x7 := (.ite (State.setTable_keeps h5) h5)
      clear_value x7
      intro x9 x10
      have h10 : Keeps s0 x10 := (by
        dsimp only [x10]
        split
        · exact (.ite (.upd h7) h7)
        · exact h7)
      intro x12
      have h12 : Keeps s0 x12 := (State.claimInForce_keeps (State.put_keeps (State.showIdle_keeps (State.showActive_keeps (State.showFsBase_keeps h10)))))
      exact (State.imgComplete_keeps (State.raise_keeps (State.put_keeps h12))))))
theorem State.applyTick_keeps {s0 : State} {s : State} (h : Keeps s0 s) : Keeps s0 (State.applyTick s) := by
  unfold State.applyTick
  split
  · exact h
  · exact (.ite h (by
      lift_lets
      intro x1 x2
      have h2 : Keeps s0 x2 := (.ite (State.setTable_keeps h) h)
      clear_value x2
      intro x4 x5 x6 x7 x8
      have h8 : Keeps s0 x8 := (.upd h2)
      exact (.each (fun _ _ h10 => (State.domainOff_keeps h10)) h8)))
theorem State.applyDone_keeps {s0 s : State} (h : Keeps s0 s) : Keeps s0 s.applyDone := by
  unfold State.applyDone
  split
  · exact h
  · refine .ite h ?_
    lift_lets
    intro x1
    have h1 : Keeps s0 x1 := Keeps.each (fun _ _ hx => State.putB_keeps (State.resetDomain_keeps hx)) h
    clear_value x1
    intro x2
    have h2 : Keeps s0 x2 := Keeps.each (fun _ _ hx => State.modTile_keeps hx) h1
    clear_value x2
    intro woken
    have hw : ∀ x, Keeps s0 x → Keeps s0 (woken x) := fun x hx => .ite (State.emdWake_keeps hx) hx
    clear_value woken
    intro old bad _ x4
    have h4 : Keeps s0 x4 := .upd h2
    clear_value x4
    dsimp only
    exact .ite (State.imgComplete_keeps (State.put_keeps (State.put_keeps (hw _ (State.applyImage_keeps h4)))))
      (State.imgComplete_keeps (State.put_keeps (State.put_keeps (State.put_keeps (hw _ (State.applyImage_keeps h4))))))
theorem State.wakeStage_keeps {s0 : State} {s : State} {a1 : Nat} (h : Keeps s0 s) : Keeps s0 (State.wakeStage s a1) := by
  unfold State.wakeStage
  exact (.ite h (by
    lift_lets
    intro x0 x1 x2 x3
    clear_value x0 x1 x2 x3
    exact (.ite h (by
      split
      next y4_0 y4_1 y4_2 => 
        have h4 : Keeps s0 y4_1 := (congrArg (fun p => Keeps s0 p.2) y4_2).mp (State.stageGroup_keeps h)
        exact h4
      next y4_0 y4_1 y4_2 y4_3 => 
        have h4 : Keeps s0 y4_2 := (congrArg (fun p => Keeps s0 p.2) y4_3).mp (State.stageGroup_keeps h)
        exact h4))))
theorem State.wakeLanded_keeps {s0 : State} {s : State} {a1 : Nat} (h : Keeps s0 s) : Keeps s0 (State.wakeLanded s a1) := by
  unfold State.wakeLanded
  lift_lets
  intro x0
  have h0 : Keeps s0 x0 := (.ite (State.setTable_keeps h) (.ite (State.startFsetLoad_keeps (State.showFsBase_keeps h)) (.ite (State.restoreMem_keeps h) (.ite (State.lanesCheck_keeps (State.showLink_keeps h)) (.ite (State.lanesCheck_keeps h) h)))))
  exact (State.raise_keeps h0)
theorem State.portOnce_keeps {s0 : State} {s : State} {a1 : Nat} {a2 : Nat} {a3 : Nat} (h : Keeps s0 s) : Keeps s0
    (State.portOnce s a1 a2 a3) := by
  unfold State.portOnce
  lift_lets
  intro x0
  exact (.ite (State.raise_keeps (State.setPort_keeps h)) (.ite (State.bump_keeps h) h))
theorem State.flitDiscard_keeps {s0 : State} {s : State} {a1 : Nat} (h : Keeps s0 s) : Keeps s0 (State.flitDiscard s a1) := by
  unfold State.flitDiscard
  exact (State.bump_keeps h)
theorem State.flitIgnore_keeps {s0 : State} {s : State} {a1 : Nat} (h : Keeps s0 s) : Keeps s0 (State.flitIgnore s a1) := by
  unfold State.flitIgnore
  exact (State.portOnce_keeps (State.flitDiscard_keeps h))
theorem State.flitMessage_keeps {s0 : State} {s : State} {a1 : Nat} {a2 : Nat} {a3 : List Nat} (h : Keeps s0 s) : Keeps s0
    (State.flitMessage s a1 a2 a3) := by
  unfold State.flitMessage
  exact (.ite (State.flitDiscard_keeps h) (.ite (State.flitDiscard_keeps h) (.ite (State.flitDiscard_keeps (State.bump_keeps h)) (by
    lift_lets
    intro x0 x1
    have h1 : Keeps s0 x1 := (.upd h)
    intro x3
    have h3 : Keeps s0 x3 := (.ite (State.msgReceive_keeps h1) h1)
    intro x5
    exact (.ite (State.portOnce_keeps h3) (State.lnkMessage_keeps (.ite (State.bump_keeps h3) h3)))))))
theorem State.flitImage_keeps {s0 : State} {s : State} {a1 : Nat} {a2 : Nat} {a3 : List Nat} {a4 : Bool} (h : Keeps s0 s) :
    Keeps s0 (State.flitImage s a1 a2 a3 a4) := by
  unfold State.flitImage
  lift_lets
  intro x0 x1 x2 x3
  have h3 : Keeps s0 x3 := (.upd h)
  intro x5
  have h5 : Keeps s0 x5 := (State.loadTake_keeps h3)
  clear_value x0 x1 x2 x3 x5
  exact (by
    split
    · exact (State.raise_keeps (State.flitDiscard_keeps h))
    · exact (.ite (State.raise_keeps (State.flitDiscard_keeps h)) (.ite (State.loadFail_keeps h) (by
        split
        · exact (.ite (State.loadFail_keeps h5) h5)
        · exact h5))))
theorem State.flitTake_keeps {s0 : State} {s : State} {a1 : Nat} {a2 : Nat} {a3 : List Nat} {a4 : Nat} {a5 : Bool} (h :
    Keeps s0 s) : Keeps s0 (State.flitTake s a1 a2 a3 a4 a5) := by
  unfold State.flitTake
  exact (.ite h (by
    lift_lets
    intro x0 x1 x2 x3
    have h3 : Keeps s0 x3 := (State.setPort_keeps h)
    clear_value x0 x1 x2 x3
    exact (.ite (State.setPort_keeps (State.bump_keeps h)) (.ite (State.portRetrain_keeps (State.raise_keeps h)) (by
      split
      · exact (.ite (State.flitMessage_keeps h3) (State.flitIgnore_keeps h3))
      · exact (State.flitImage_keeps h3)
      · exact (State.flitIgnore_keeps h3))))))
theorem State.bobbinTake_keeps {s0 : State} {s : State} {a1 : Nat} {a2 : Nat} {a3 : Bool} {a4 : Nat} {a5 : Bool} {a6 : Bool}
    {a7 : Nat} (h : Keeps s0 s) : Keeps s0 (State.bobbinTake s a1 a2 a3 a4 a5 a6 a7) := by
  unfold State.bobbinTake
  exact (.ite h (by
    lift_lets
    intro x0
    have h0 : Keeps s0 x0 := (.ite h (.ite (State.put_keeps h) (State.addSat_keeps h)))
    intro x2 x3 x4
    have h4 : Keeps s0 x4 := (State.setPort_keeps h0)
    exact (.ite (State.portRetrain_keeps (State.raise_keeps h4)) h4)))
theorem State.bobbinReturn_keeps {s0 : State} {s : State} {a1 : Nat} {a2 : Nat} (h : Keeps s0 s) : Keeps s0
    (State.bobbinReturn s a1 a2) := by
  unfold State.bobbinReturn
  exact (.ite h (by
    lift_lets
    intro x0 x1 x2
    have h2 : Keeps s0 x2 := (State.setPort_keeps h)
    exact (State.sendStream_keeps h2)))
theorem State.flitStart_keeps {s0 : State} {s : State} {a1 : Nat} {a2 : Nat} {a3 : Nat} {a4 : Nat} {a5 : Bool} {a6 : List
    Nat} (h : Keeps s0 s) : Keeps s0 (State.flitStart s a1 a2 a3 a4 a5 a6) := by
  unfold State.flitStart
  lift_lets
  intro x0 x1 x2
  have h2 : Keeps s0 x2 := (State.put_keeps h)
  intro x4
  have h4 : Keeps s0 x4 := (State.setPort_keeps h2)
  exact (.ite h (State.sendStream_keeps h4))
theorem State.streamSend_keeps {s0 : State} {s : State} {a1 : Nat} {a2 : Nat} {a3 : Nat} (h : Keeps s0 s) : Keeps s0
    (State.streamSend s a1 a2 a3) := by
  unfold State.streamSend
  lift_lets
  intro x0 x1 x2
  clear_value x0 x1 x2
  exact (.ite h (by
    split
    · exact (by
        lift_lets
        intro x4
        have h4 : Keeps s0 x4 := (State.setChan_keeps h)
        intro x6
        have h6 : Keeps s0 x6 := (State.flitStart_keeps h4)
        intro x8 x9
        exact (State.setPort_keeps h6))))
theorem State.messageSend_keeps {s0 s : State} {p : Nat} (h : Keeps s0 s) : Keeps s0 (s.messageSend p) := by
  unfold State.messageSend
  dsimp only
  split
  · exact h
  · exact .ite h (State.setPort_keeps (State.flitStart_keeps (State.setPort_keeps h)))
theorem State.flitSend_keeps {s0 : State} {s : State} {a1 : Nat} {a2 : Nat} (h : Keeps s0 s) : Keeps s0 (State.flitSend s a1
    a2) := by
  unfold State.flitSend
  lift_lets
  intro x0 x1 x2 x3 x4
  clear_value x0 x1 x2 x3 x4
  exact (.ite h (.ite (by
    split
    · exact (by
        lift_lets
        intro x6
        have h6 : Keeps s0 x6 := (State.setPort_keeps (State.bump_keeps h))
        exact (State.sendStream_keeps h6))
    · exact h) (by
    split
    · exact (.ite (State.streamSend_keeps h) (.ite (State.messageSend_keeps h) (by
        split
        · exact (State.streamSend_keeps h)
        · exact (State.streamSend_keeps h))))
    · exact (.ite (State.messageSend_keeps h) (State.streamSend_keeps h))
    · exact (.ite (State.messageSend_keeps h) h))))
theorem State.lnkTick_keeps {s0 : State} {s : State} (h : Keeps s0 s) : Keeps s0 (State.lnkTick s) := by
  unfold State.lnkTick
  exact (.each (fun _ _ h0 => (by
    lift_lets
    intro x1
    exact (.ite h0 (State.setPort_keeps h0)))) h)
theorem State.setCause_keeps {s0 : State} {s : State} {a1 : Nat} (h : Keeps s0 s) : Keeps s0 (State.setCause s a1) := by
  unfold State.setCause
  exact (State.setWord_keeps h)
theorem State.cold_keeps {s0 s : State} (h : Keeps s0 s) : Keeps s0 s.cold := by
  unfold State.cold
  exact (State.fresh_keeps h).trans ⟨rfl, rfl, fun hs => Mem.forget_wf _ _ _ _ hs, fun _ => rfl,
    .of rfl rfl rfl (fun j => by unfold Fuses.field; split <;> rfl)⟩
theorem State.porstRise_keeps {s0 : State} {s : State} {a1 : Nat} (h : Keeps s0 s) : Keeps s0 (State.porstRise s a1) := by
  unfold State.porstRise
  exact (.upd h)
theorem State.railGood_keeps {s0 : State} {s : State} {a1 : Nat} {a2 : Bool} {a3 : Nat} (h : Keeps s0 s) : Keeps s0
    (State.railGood s a1 a2 a3) := by
  unfold State.railGood
  exact (.ite h (by
    lift_lets
    intro x0 x1
    have h1 : Keeps s0 x1 := (.upd h)
    intro x3
    have h3 : Keeps s0 x3 := (.ite (State.setWord_keeps h1) h1)
    intro x5
    have h5 : Keeps s0 x5 := (.ite (State.setCause_keeps h3) h3)
    clear_value x5
    intro x7 x8
    have h8 : Keeps s0 x8 := (.upd h5)
    exact (.ite h3 (.ite (State.porstRise_keeps h8) h8))))
theorem State.takesPulse_keeps {s0 s : State} {ns : Nat} (h : Keeps s0 s) : Keeps s0 (s.takesPulse ns).2 := by
  unfold State.takesPulse
  split
  · exact h
  · split
    · exact h
    · exact State.fresh_keeps h
theorem State.porstPulse_keeps {s0 : State} {s : State} {a1 : Nat} {a2 : Nat} (h : Keeps s0 s) : Keeps s0 (State.porstPulse
    s a1 a2) := by
  unfold State.porstPulse
  exact (.ite h (.ite (State.porstRise_keeps h) (by
    split
    next y0_0 y0_1 y0_2 y0_3 => 
      have h0 : Keeps s0 y0_2 := (congrArg (fun p => Keeps s0 p.2) y0_3).mp (State.takesPulse_keeps h)
      exact (.ite (State.porstRise_keeps (State.setCause_keeps (State.cold_keeps h0))) h0))))
theorem State.warmReset_keeps {s0 s : State} {ns : Nat} (h : Keeps s0 s) : Keeps s0 (s.warmReset ns) := by
  unfold State.warmReset
  have h0 : Keeps s0 (s.takesPulse ns).2 := State.takesPulse_keeps h
  revert h0
  generalize (s.takesPulse ns) = p
  obtain ⟨taken, u⟩ := p
  intro h0
  refine .ite h0 ?_
  extract_lets +onlyGivenNames _ x1
  have h1 : Keeps s0 x1 := .upd h0
  clear_value x1
  refine .ite h1 ?_
  extract_lets +onlyGivenNames x2
  have h2 : Keeps s0 x2 := State.setDev_keeps (State.setCause_keeps h1)
  clear_value x2
  extract_lets +onlyGivenNames x3
  have h3 : Keeps s0 x3 := Keeps.each (fun _ _ hx => State.resetDomain_keeps hx) h2
  clear_value x3
  extract_lets +onlyGivenNames x4
  have h4 : Keeps s0 x4 := Keeps.each (fun _ _ hx => State.putB_keeps hx) h3
  clear_value x4
  extract_lets +onlyGivenNames x5
  have h5 : Keeps s0 x5 := Keeps.each (fun _ _ hx => State.putB_keeps hx) h4
  clear_value x5
  extract_lets +onlyGivenNames x6
  have h6 : Keeps s0 x6 := State.put_keeps (State.putB_keeps (State.put_keeps h5))
  clear_value x6
  exact (State.fresh_keeps h6).trans ⟨rfl, rfl, fun hs => Mem.forget_wf _ _ _ _ hs, fun hs => hs, .refl _⟩
theorem State.release_keeps {s0 : State} {s : State} (h : Keeps s0 s) : Keeps s0 (State.release s) := by
  unfold State.release
  lift_lets
  intro x0
  have h0 : Keeps s0 x0 := (State.put_keeps h)
  clear_value x0
  intro x2
  exact (.upd h0)
theorem State.timerExpires_keeps {s0 : State} {s : State} (h : Keeps s0 s) : Keeps s0 (State.timerExpires s) := by
  unfold State.timerExpires
  exact (.ite h (.ite (State.release_keeps h) (.upd h)))
theorem State.resetRise_keeps {s0 : State} {s : State} {a1 : Nat} (h : Keeps s0 s) : Keeps s0 (State.resetRise s a1) := by
  unfold State.resetRise
  exact (.ite h (by
    lift_lets
    intro x0 x1
    have h1 : Keeps s0 x1 := (.upd h)
    clear_value x1
    intro x3 x4
    have h4 : Keeps s0 x4 := (.upd h1)
    exact (.ite h1 (.ite h4 (State.release_keeps h4)))))
theorem State.brownout_keeps {s0 : State} {s : State} {a1 : Nat} {a2 : Nat} (h : Keeps s0 s) : Keeps s0 (State.brownout s a1
    a2) := by
  unfold State.brownout
  exact (.ite h (by
    lift_lets
    intro x0 x1 x2 x3
    have h3 : Keeps s0 x3 := (.upd h)
    clear_value x3
    intro x5 x6
    have h6 : Keeps s0 x6 := (State.cold_keeps (.upd h3))
    intro x8
    have h8 : Keeps s0 x8 := (State.setCause_keeps h6)
    clear_value x8
    intro x10 x11
    have h11 : Keeps s0 x11 := (.ite h3 (.upd h8))
    clear_value x11
    intro x13
    exact (.ite (.upd h11) h11)))
theorem State.bootStart_keeps {s0 : State} {s : State} (h : Keeps s0 s) : Keeps s0 (State.bootStart s) := by
  unfold State.bootStart
  lift_lets
  intro x0 x1 x2
  have h2 : Keeps s0 x2 := (State.startLoad_keeps h)
  exact (.ite h (.ite (.upd h) (.ite (State.loadFail_keeps h2) h2)))
theorem State.bootEntry_keeps {s0 : State} {s : State} {a1 : Nat} (h : Keeps s0 s) : Keeps s0 (State.bootEntry s a1) := by
  unfold State.bootEntry
  exact (.ite h (by
    lift_lets
    intro x0 x1 x2 x3
    have h3 : Keeps s0 x3 := (.upd h)
    intro x5
    have h5 : Keeps s0 x5 := (.each (fun _ _ h6 => (State.modTile_keeps h6)) h3)
    intro x7
    have h7 : Keeps s0 x7 := (State.putB_keeps (State.putB_keeps h5))
    intro x9
    have h9 : Keeps s0 x9 := (State.putB_keeps (State.put_keeps (State.put_keeps h7)))
    exact (State.bootStart_keeps (State.lanesCheck_keeps (State.setDev_keeps (State.showLink_keeps (State.emdWake_keeps h9)))))))
theorem State.switchOff_keeps {s0 : State} {s : State} {a1 : Nat} (h : Keeps s0 s) : Keeps s0 (State.switchOff s a1) := by
  unfold State.switchOff
  lift_lets
  intro x0
  have h0 : Keeps s0 x0 := (State.domainOff_keeps h)
  clear_value x0
  intro x2 x3
  have h3 : Keeps s0 x3 := (.ite (.upd h0) h0)
  exact (.ite (State.lanesCheck_keeps h3) h3)
theorem State.domEnd_keeps {s0 : State} {s : State} {a1 : Nat} (h : Keeps s0 s) : Keeps s0 (State.domEnd s a1) := by
  unfold State.domEnd
  exact (State.put_keeps (State.putB_keeps (.upd h)))
theorem State.domRequest_keeps {s0 : State} {s : State} {a1 : Nat} {a2 : Bool} {a3 : Bool} (h : Keeps s0 s) : Keeps s0
    (State.domRequest s a1 a2 a3) := by
  unfold State.domRequest
  exact (.ite (State.put_keeps h) (by
    lift_lets
    intro x0
    have h0 : Keeps s0 x0 := (State.put_keeps h)
    intro x2
    have h2 : Keeps s0 x2 := (State.putB_keeps h0)
    clear_value x2
    intro x4
    clear_value x0 x4
    exact (by
      split
      · exact (State.put_keeps h0)
      · exact (.ite (State.switchOn_keeps (.upd h2)) (.upd h2)))))
theorem State.applyOff_keeps {s0 : State} {s : State} {a1 : Nat} (h : Keeps s0 s) : Keeps s0 (State.applyOff s a1) := by
  unfold State.applyOff
  lift_lets
  intro x0
  have h0 : Keeps s0 x0 := (State.domainOff_keeps h)
  clear_value x0
  intro x2
  exact (.upd h0)
theorem State.drainDone_keeps {s0 : State} {s : State} {a1 : Nat} (h : Keeps s0 s) : Keeps s0 (State.drainDone s a1) := by
  unfold State.drainDone
  exact (.ite h (by
    lift_lets
    intro x0 x1
    have h1 : Keeps s0 x1 := (State.switchOff_keeps h)
    clear_value x1
    intro x3
    exact (.ite (State.domEnd_keeps (State.switchOff_keeps h)) (.ite (.upd h1) (.ite (State.applyOff_keeps h) h)))))
theorem State.drainGivenUp_keeps {s0 : State} {s : State} {a1 : Nat} (h : Keeps s0 s) : Keeps s0 (State.drainGivenUp s a1) := by
  unfold State.drainGivenUp
  exact (State.raise_keeps (State.shuKick_keeps (.upd h)))
theorem State.drainTimeout_keeps {s0 : State} {s : State} {a1 : Nat} (h : Keeps s0 s) : Keeps s0 (State.drainTimeout s a1) := by
  unfold State.drainTimeout
  exact (.ite h (by
    lift_lets
    intro x0 x1
    have h1 : Keeps s0 x1 := (State.drainGivenUp_keeps h)
    clear_value x1
    intro x3
    clear_value x0 x3
    exact (by
      split
      · exact (State.domEnd_keeps (State.switchOff_keeps h))
      · exact (State.domEnd_keeps (State.drainGivenUp_keeps h))
      · exact (.ite (.upd h1) (.ite (State.applyOff_keeps h) h)))))
theorem State.domHook_keeps {s0 : State} {s : State} {a1 : Nat} (h : Keeps s0 s) : Keeps s0 (State.domHook s a1) := by
  unfold State.domHook
  exact (.ite (State.modTile_keeps h) (.ite (.upd h) (.ite (State.emdWake_keeps h) h)))
theorem State.lanesReady_keeps {s0 : State} {s : State} {a1 : Nat} (h : Keeps s0 s) : Keeps s0 (State.lanesReady s a1) := by
  unfold State.lanesReady
  exact (.ite h (.ite (State.lanesCheck_keeps (State.showLink_keeps h)) (.ite (State.lanesCheck_keeps h) h)))
theorem State.domReady_keeps {s0 : State} {s : State} {a1 : Nat} (h : Keeps s0 s) : Keeps s0 (State.domReady s a1) := by
  unfold State.domReady
  lift_lets
  intro x0 x1 x2
  have h2 : Keeps s0 x2 := (.upd h)
  intro x4
  have h4 : Keeps s0 x4 := (State.lanesReady_keeps (State.wakeStage_keeps (State.domHook_keeps h2)))
  exact (.ite h (.ite (.ite (State.domEnd_keeps h) h) (.ite h (.ite (State.domEnd_keeps h4) h4))))
theorem State.standby_keeps {s0 : State} {s : State} (h : Keeps s0 s) : Keeps s0 (State.standby s) := by
  unfold State.standby
  exact (ringCmd_keeps (fun _ _ _ h0 => (by
    lift_lets
    intro x1 x2 x3 x4 x5
    have h5 : Keeps s0 x5 := (.upd h0)
    exact (State.startCmd_keeps (State.put_keeps h5)))) h)
theorem State.standbyEnd_keeps {s0 : State} {s : State} (h : Keeps s0 s) : Keeps s0 (State.standbyEnd s) := by
  unfold State.standbyEnd
  exact (.ite h (.ite (State.completeAll_keeps (State.standbyUndo_keeps h)) (.ite h (State.completeAll_keeps (State.put_keeps h)))))
theorem State.wake_keeps {s0 : State} {s : State} (h : Keeps s0 s) : Keeps s0 (State.wake s) := by
  unfold State.wake
  exact (ringCmd_keeps (fun _ _ _ h0 => (State.startCmd_keeps (State.put_keeps (State.standbyBack_keeps h0)))) h)
theorem State.wakeDone_keeps {s0 : State} {s : State} (h : Keeps s0 s) : Keeps s0 (State.wakeDone s) := by
  unfold State.wakeDone
  exact (.ite h (by
    lift_lets
    intro x0 x1
    have h1 : Keeps s0 x1 := (State.put_keeps (.upd h))
    exact (State.completeAll_keeps h1)))
theorem State.wrapFill_keeps {s0 : State} {s : State} (h : Keeps s0 s) : Keeps s0 (State.wrapFill s) := by
  unfold State.wrapFill
  exact (.ite h (.each (fun _ _ h0 => (.each (fun _ _ h1 => (by
    lift_lets
    intro x2
    exact (.ite (State.setList_keeps h1) h1))) (State.gatesNow_keeps h0))) h))
theorem State.listDrain_keeps {s0 s : State} {t : Nat} (h : Keeps s0 s) : Keeps s0 (s.listDrain t) := by
  unfold State.listDrain
  refine .ite h ?_
  have hg := State.gatesNow_keeps (a1 := t) h
  dsimp only
  split
  · split
    · exact hg
    · exact .ite hg (State.chanIssue_keeps (State.modTile_keeps (State.setList_keeps (State.setChan_keeps hg))))
  · exact hg
theorem State.listTick_keeps {s0 : State} {s : State} {a1 : Nat} (h : Keeps s0 s) : Keeps s0 (State.listTick s a1) := by
  unfold State.listTick
  exact (.each (fun _ _ h0 => (by
    lift_lets
    intro x1 x2
    exact (.ite (State.listPut_keeps (State.setList_keeps h0)) (.ite (State.setList_keeps h0) h0)))) h)
theorem State.frameEnd_keeps {s0 : State} {s : State} {a1 : Bool} (h : Keeps s0 s) : Keeps s0 (State.frameEnd s a1) := by
  unfold State.frameEnd
  lift_lets
  intro x0
  have h0 : Keeps s0 x0 := (State.retake_keeps (State.recordsEnd_keeps (.ite (State.diagOverrun_keeps h) h)))
  clear_value x0
  intro x2 x3 x4
  have h4 : Keeps s0 x4 := (.upd h0)
  intro x6
  have h6 : Keeps s0 x6 := (.ite (State.safeStop_keeps h4) h4)
  intro x8
  have h8 : Keeps s0 x8 := (State.teachFrame_keeps (State.pauseEnd_keeps h6))
  intro x10
  have h10 : Keeps s0 x10 := (State.put_keeps (State.put_keeps h8))
  intro x12
  have h12 : Keeps s0 x12 := (.ite (State.putB_keeps h10) h10)
  intro x14
  have h14 : Keeps s0 x14 := (.ite (State.putB_keeps h12) h12)
  clear_value x14
  exact (.upd h14)
theorem State.frameBegin_keeps {s0 : State} {s : State} (h : Keeps s0 s) : Keeps s0 (State.frameBegin s) := by
  unfold State.frameBegin
  lift_lets
  intro x0 x1 x2
  have h2 : Keeps s0 x2 := (.upd h)
  clear_value x2
  intro x4 x5
  have h5 : Keeps s0 x5 := (.upd h2)
  exact (State.lnkTick_keeps (State.setWord_keeps h5))
theorem State.nextEpoch_keeps {s0 : State} {s : State} (h : Keeps s0 s) : Keeps s0 (State.nextEpoch s) := by
  unfold State.nextEpoch
  split
  · exact (by
      lift_lets
      intro x1 x2
      have h2 : Keeps s0 x2 := (State.put_keeps (.upd h))
      exact (State.raise_keeps h2))
  · exact (State.put_keeps h)
theorem State.swapGroups_keeps {s0 : State} {s : State} (h : Keeps s0 s) : Keeps s0 (State.swapGroups s) := by
  unfold State.swapGroups
  exact (.ite h (by
    lift_lets
    intro x0 x1
    exact (.upd h)))
theorem State.groupLanded_keeps {s0 : State} {s : State} {a1 : GroupKind} (h : Keeps s0 s) : Keeps s0 (State.groupLanded s
    a1) := by
  unfold State.groupLanded
  split
  · exact (.ite (State.claimWoken_keeps (State.wakeLanded_keeps h)) h)
  · exact h
theorem State.landAll_keeps {s0 : State} {s : State} (h : Keeps s0 s) : Keeps s0 (State.landAll s) := by
  unfold State.landAll
  lift_lets
  intro x0
  have h0 : Keeps s0 x0 := (State.swapGroups_keeps h)
  intro x2
  have h2 : Keeps s0 x2 := h0
  intro x4 x5 x6
  have h6 : Keeps s0 x6 := (State.landed_keeps (State.landStage_keeps h0))
  exact (.each (fun _ _ h8 => (State.groupLanded_keeps h8)) (State.swapLand_keeps h6))
theorem State.tileTick_keeps {s0 : State} {a0 : State} {s : State} {a2 : Nat} (h : Keeps s0 s) : Keeps s0 (State.tileTick a0
    s a2) := by
  unfold State.tileTick
  lift_lets
  intro x0
  have h0 : Keeps s0 x0 := (State.rxTick_keeps h)
  intro x2
  have h2 : Keeps s0 x2 := (State.sliceTick_keeps (State.autoSub_keeps h0))
  exact (State.retTick_keeps (State.reedTick_keeps (State.listTick_keeps (State.auditTick_keeps h2))))
theorem State.runTick_keeps {s0 : State} {s : State} (h : Keeps s0 s) : Keeps s0 (State.runTick s) := by
  unfold State.runTick
  exact (.ite (by
    lift_lets
    intro x0 x1 x2
    have h2 : Keeps s0 x2 := (.upd h)
    intro x4
    have h4 : Keeps s0 x4 := (State.setDev_keeps h2)
    intro x6
    have h6 : Keeps s0 x6 := (.each (fun _ _ h7 => (State.complete_keeps h7)) h4)
    exact (State.axesZero_keeps (State.pairsEnterRun_keeps h6))) (.ite (State.setDev_keeps (.upd h)) h))
theorem State.maintTick_keeps {s0 : State} {s : State} (h : Keeps s0 s) : Keeps s0 (State.maintTick s) := by
  unfold State.maintTick
  lift_lets
  intro x0 x1
  have h1 : Keeps s0 x1 := (.upd h)
  exact (.each (fun _ _ h3 => (State.complete_keeps (State.setDev_keeps h3))) h1)
theorem State.flowFault_keeps {s0 : State} {s : State} (h : Keeps s0 s) : Keeps s0 (State.flowFault s) := by
  unfold State.flowFault
  exact (State.lockout_keeps h)
theorem State.frameTick_keeps {s0 : State} {s : State} {a1 : Nat} (h : Keeps s0 s) : Keeps s0 (State.frameTick s a1) := by
  unfold State.frameTick
  exact (.ite h (by
    lift_lets
    intro x0 x1
    have h1 : Keeps s0 x1 := (State.frameBegin_keeps (State.nextEpoch_keeps (State.frameEnd_keeps (State.settleAll_keeps h))))
    intro x3
    have h3 : Keeps s0 x3 := (.ite (State.flowFault_keeps h1) h1)
    intro x5
    have h5 : Keeps s0 x5 := h3
    intro x7
    have h7 : Keeps s0 x7 := (State.ceilTick_keeps (State.landAll_keeps h3))
    intro x9
    have h9 : Keeps s0 x9 := (State.hedTick_keeps (State.supFrame_keeps h7))
    intro x11
    have h11 : Keeps s0 x11 := (.each (fun _ _ h12 => (State.tileTick_keeps h12)) h9)
    intro x13
    have h13 : Keeps s0 x13 := (State.clkTick_keeps (State.countMissing_keeps h11))
    intro x15
    have h15 : Keeps s0 x15 := (.ite (State.clkTFrame_keeps h13) h13)
    intro x17
    have h17 : Keeps s0 x17 := (State.sealTick_keeps h15)
    intro x19
    have h19 : Keeps s0 x19 := (State.maintTick_keeps (State.runTick_keeps h17))
    intro x21
    have h21 : Keeps s0 x21 := (State.selTick_keeps h19)
    intro x23
    have h23 : Keeps s0 x23 := (State.applyTick_keeps (State.rotateRaw_keeps h21))
    intro x25
    have h25 : Keeps s0 x25 := (State.trdTick_keeps h23)
    intro x27
    have h27 : Keeps s0 x27 := (State.biasRefresh_keeps (.each (fun _ _ h28 => (State.axisTick_keeps h28)) h25))
    exact (State.putB_keeps h27)))
theorem State.viewSwitch_keeps {s0 : State} {s : State} (h : Keeps s0 s) : Keeps s0 (State.viewSwitch s) := by
  unfold State.viewSwitch
  exact (.ite h (by
    lift_lets
    intro x0
    have h0 : Keeps s0 x0 := (.upd h)
    clear_value x0
    exact (.ite h0 (.ite (.upd h0) (State.bump_keeps h0)))))
theorem State.acqClose_keeps {s0 : State} {s : State} (h : Keeps s0 s) : Keeps s0 (State.acqClose s) := by
  unfold State.acqClose
  exact (.ite h (by
    lift_lets
    intro x0
    have h0 : Keeps s0 x0 := (State.hedClose_keeps h)
    clear_value x0
    intro x2
    have h2 : Keeps s0 x2 := (.upd h0)
    exact (.each (fun _ _ h4 => (State.dllClose_keeps h4)) (State.sumCheck_keeps h2))))
theorem State.runJudge_keeps {s0 : State} {s : State} (h : Keeps s0 s) : Keeps s0 (State.runJudge s) := by
  unfold State.runJudge
  lift_lets
  intro x0 x1
  exact (.ite h (.ite (.upd h) (State.completeAll_keeps h)))
theorem State.decision_keeps {s0 : State} {s : State} {a1 : Nat} {a2 : Nat} {a3 : Bool} (h : Keeps s0 s) : Keeps s0
    (State.decision s a1 a2 a3) := by
  unfold State.decision
  exact (.ite h (by
    lift_lets
    intro x0 x1
    have h1 : Keeps s0 x1 := (.upd h)
    exact (State.runJudge_keeps (State.frameDecide_keeps (State.put_keeps h1)))))
theorem State.deadline_keeps {s0 : State} {s : State} (h : Keeps s0 s) : Keeps s0 (State.deadline s) := by
  unfold State.deadline
  exact (.ite h (by
    lift_lets
    intro x0
    have h0 : Keeps s0 x0 := (State.extractDeadline_keeps h)
    exact (.ite (State.retake_keeps h0) (State.runJudge_keeps (State.frameDecide_keeps (State.selOverrun_keeps h0))))))
theorem State.degExpires_keeps {s0 : State} {s : State} (h : Keeps s0 s) : Keeps s0 (State.degExpires s) := by
  unfold State.degExpires
  exact (.ite (State.safeStop_keeps h) h)
theorem State.eccError_keeps {s0 : State} {s : State} {a1 : Bool} {a2 : Bool} (h : Keeps s0 s) : Keeps s0 (State.eccError s
    a1 a2) := by
  unfold State.eccError
  exact (.ite h (.ite (State.raise_keeps (State.bump_keeps h)) (.ite (.upd h) (State.lockout_keeps h))))
theorem State.snap_keeps {s0 : State} {s : State} (h : Keeps s0 s) : Keeps s0 (State.snap s) := by
  unfold State.snap
  exact (.ite (State.hwUp_keeps h) (State.put_keeps (.upd h)))
theorem State.unhold_keeps {s0 : State} {s : State} (h : Keeps s0 s) : Keeps s0 (State.unhold s) := by
  unfold State.unhold
  exact (.ite (.upd h) (State.hwUp_keeps h))
theorem State.holdTimeout_keeps {s0 : State} {s : State} (h : Keeps s0 s) : Keeps s0 (State.holdTimeout s) := by
  unfold State.holdTimeout
  exact (.ite (State.raise_keeps (State.hwUp_keeps (.upd h))) h)
theorem State.clpCmd_keeps {s0 : State} {s : State} {a1 : Bool} {a2 : Bool} (h : Keeps s0 s) : Keeps s0 (State.clpCmd s a1
    a2) := by
  unfold State.clpCmd
  lift_lets
  intro x0
  have h0 : Keeps s0 x0 := (.ite (State.unhold_keeps h) h)
  exact (.ite (State.snap_keeps h0) h0)
theorem State.vecUnmasked_keeps {s0 : State} {s : State} {a1 : Nat} (h : Keeps s0 s) : Keeps s0 (State.vecUnmasked s a1) := by
  unfold State.vecUnmasked
  exact (.ite h (State.vecTrigger_keeps (State.putB_keeps h)))
theorem State.msixControl_keeps {s0 : State} {s : State} {a1 : Bool} {a2 : Bool} (h : Keeps s0 s) : Keeps s0
    (State.msixControl s a1 a2) := by
  unfold State.msixControl
  exact (.ite h (.each (fun _ _ h0 => (State.vecUnmasked_keeps h0)) (.upd h)))
theorem State.holdoffEnd_keeps {s0 : State} {s : State} {a1 : Nat} (h : Keeps s0 s) : Keeps s0 (State.holdoffEnd s a1) := by
  unfold State.holdoffEnd
  exact (.ite h (by
    lift_lets
    intro x0 x1 x2
    have h2 : Keeps s0 x2 := (.upd h)
    exact (.ite (State.vecTrigger_keeps h2) h2)))
theorem State.logCtl_keeps {s0 : State} {s : State} {a1 : Bool} {a2 : Nat} (h : Keeps s0 s) : Keeps s0 (State.logCtl s a1
    a2) := by
  unfold State.logCtl
  lift_lets
  intro x0 x1
  have h1 : Keeps s0 x1 := (.ite (State.put_keeps h) h)
  exact (.ite (State.putB_keeps h1) (.ite h1 (State.putB_keeps (State.put_keeps h1))))
theorem State.cplHead_keeps {s0 : State} {s : State} {a1 : Nat} (h : Keeps s0 s) : Keeps s0 (State.cplHead s a1) := by
  unfold State.cplHead
  lift_lets
  intro x0
  have h0 : Keeps s0 x0 := (State.put_keeps h)
  exact (State.showStall_keeps (State.cplRelease_keeps h0))
theorem State.mailboxPost_keeps {s0 : State} {s : State} (h : Keeps s0 s) : Keeps s0 (State.mailboxPost s) := by
  unfold State.mailboxPost
  lift_lets
  intro x0 x1 x2
  have h2 : Keeps s0 x2 := (State.putB_keeps h)
  intro x4
  have h4 : Keeps s0 x4 := (.ite (State.bump_keeps h2) h2)
  exact (State.msgReceive_keeps h4)
theorem State.writePlain_keeps {s0 : State} {s : State} {a1 : Nat} {a2 : Word} (h : Keeps s0 s) : Keeps s0 (State.writePlain
    s a1 a2) := by
  unfold State.writePlain
  lift_lets
  intro x0
  have h0 : Keeps s0 x0 := (.each (fun _ _ h1 => (State.put_keeps h1)) h)
  exact (.each (fun _ _ h2 => (by
    lift_lets
    intro x3
    exact (State.put_keeps h2))) h0)
theorem State.firstWrite_keeps {s0 : State} {s : State} {a1 : Nat} {a2 : Word} (h : Keeps s0 s) : Keeps s0 (State.firstWrite
    s a1 a2) := by
  unfold State.firstWrite
  lift_lets
  intro x0 x1 x2
  have h2 : Keeps s0 x2 := (State.writePlain_keeps h)
  clear_value x0 x1 x2
  exact (by
    split
    · exact (.ite (State.putFirst_keeps h2) h2)
    · exact h2)
theorem State.writeStaged_keeps {s0 : State} {s : State} {a1 : Nat} {a2 : Word} (h : Keeps s0 s) : Keeps s0
    (State.writeStaged s a1 a2) := by
  unfold State.writeStaged
  exact (State.stageWrites_keeps h)
theorem State.writeCause_keeps {s0 : State} {s : State} {a1 : Word} (h : Keeps s0 s) : Keeps s0 (State.writeCause s a1) := by
  unfold State.writeCause
  exact (.ite h (State.writePlain_keeps h))
theorem State.emdCmd_keeps {s0 : State} {s : State} {a1 : Word} {a2 : Bool} (h : Keeps s0 s) : Keeps s0 (State.emdCmd s a1
    a2) := by
  unfold State.emdCmd
  lift_lets
  intro x0
  clear_value x0
  exact (by
    split
    · exact (State.clearOut_keeps h)
    · exact (State.clearMpd_keeps h)
    · exact (State.clearStuck_keeps h)
    · exact h)
theorem State.trdCmd_keeps {s0 : State} {s : State} {a1 : Word} {a2 : Bool} (h : Keeps s0 s) : Keeps s0 (State.trdCmd s a1
    a2) := by
  unfold State.trdCmd
  lift_lets
  intro x0
  clear_value x0
  exact (by
    split
    · exact (State.trdClrFe_keeps h)
    · exact (State.trdRstI_keeps h)
    · exact (State.trdClrHvOv_keeps h)
    · exact (State.trdClrEnc_keeps h)
    · exact (State.trdRefuse_keeps h))
theorem State.trdBankWrite_keeps {s0 : State} {s : State} {a1 : Nat} {a2 : Nat} {a3 : Nat} {a4 : Word} (h : Keeps s0 s) :
    Keeps s0 (State.trdBankWrite s a1 a2 a3 a4) := by
  unfold State.trdBankWrite
  lift_lets
  intro x0 x1
  exact (.ite (State.hwUp_keeps h) (State.writePlain_keeps h))
theorem State.teachCtl_keeps {s0 : State} {s : State} {a1 : Word} (h : Keeps s0 s) : Keeps s0 (State.teachCtl s a1) := by
  unfold State.teachCtl
  lift_lets
  intro x0
  have h0 : Keeps s0 x0 := (State.teachFrames_keeps (.ite (State.teachAbort_keeps h) h))
  exact (.ite (State.teachStart_keeps h0) h0)
theorem State.progCmd_keeps {s0 : State} {s : State} {a1 : Word} (h : Keeps s0 s) : Keeps s0 (State.progCmd s a1) := by
  unfold State.progCmd
  lift_lets
  intro x0
  clear_value x0
  exact (by
    split
    · exact (State.burn_keeps h)
    · exact (State.burnRevoke_keeps h)
    · exact (State.burnSvn_keeps h)
    · exact h)
theorem State.progData_keeps {s0 s : State} {w : Word} (h : Keeps s0 s) : Keeps s0 (s.progData w) :=
  h.trans ⟨rfl, rfl, id, id, .of rfl rfl rfl (fun j => by unfold Fuses.field; split <;> rfl)⟩
theorem State.atomCmd_keeps {s0 : State} {s : State} {a1 : Word} (h : Keeps s0 s) : Keeps s0 (State.atomCmd s a1) := by
  unfold State.atomCmd
  split
  · exact (State.atomicAdd_keeps h)
  · exact (State.atomicCas_keeps h)
  · exact h
theorem State.shuCtl_keeps {s0 : State} {s : State} {a1 : Nat} {a2 : Word} (h : Keeps s0 s) : Keeps s0 (State.shuCtl s a1
    a2) := by
  unfold State.shuCtl
  lift_lets
  intro x0 x1
  have h1 : Keeps s0 x1 := (.ite h (State.shuPause_keeps h))
  exact (.ite (State.shuAbort_keeps h1) h1)
theorem State.ringWrite_keeps {s0 : State} {s : State} {a1 : Nat} {a2 : Word} {a3 : Fld} {a4 : Nat} {a5 : Nat} (h : Keeps s0
    s) : Keeps s0 (State.ringWrite s a1 a2 a3 a4 a5) := by
  unfold State.ringWrite
  exact (.ite h (State.writePlain_keeps h))
theorem State.msixWrite_keeps {s0 : State} {s : State} {a1 : Nat} {a2 : Word} (h : Keeps s0 s) : Keeps s0 (State.msixWrite s
    a1 a2) := by
  unfold State.msixWrite
  lift_lets
  intro x0 x1
  have h1 : Keeps s0 x1 := (State.writePlain_keeps h)
  exact (.ite (State.vecUnmasked_keeps h1) h1)
/-- What a write that may have no effect of its own keeps. -/
def KeepsO (s0 : State) (o : Option State) : Prop := ∀ t, o = some t → Keeps s0 t
theorem KeepsO.some {s0 t : State} (h : Keeps s0 t) : KeepsO s0 (some t) := fun _ e => Option.some.inj e ▸ h
theorem KeepsO.none {s0 : State} : KeepsO s0 none := fun _ e => nomatch e
theorem KeepsO.ite {s0 : State} {a b : Option State} {p : Prop} [Decidable p] (h1 : KeepsO s0 a) (h2 : KeepsO s0 b) :
    KeepsO s0 (if p then a else b) := by
  split <;> assumption
theorem State.writeAon_keeps {s0 s : State} {a : Nat} {d : Word} (h : Keeps s0 s) :
    KeepsO s0 (s.writeAon a d) := by
  unfold State.writeAon
  refine .ite (.some (State.shadowOpen_keeps h)) ?_
  refine .ite (.some (.ite (State.shadowClose_keeps h) h)) ?_
  refine .ite (.some (.ite (State.shadowAbort_keeps h) h)) ?_
  refine .ite (.some (.ite h (State.writePlain_keeps h))) ?_
  refine .ite (.some (State.cplHead_keeps h)) ?_
  refine .ite (.some (.ite (State.mailboxPost_keeps h) h)) ?_
  refine .ite (.some (State.clpCmd_keeps h)) ?_
  refine .ite (.some (.ite h (State.writePlain_keeps h))) ?_
  refine .ite (.some (State.logCtl_keeps h)) ?_
  refine .ite (.some (State.msixWrite_keeps h)) ?_
  refine .ite (.some (State.firstWrite_keeps h)) ?_
  refine .ite (.some (State.domRequest_keeps h)) ?_
  refine .ite (.some (State.writeClkOut_keeps h)) ?_
  refine .ite (.some (State.writeClkOut_keeps h)) ?_
  refine .ite (.some (State.progData_keeps h)) ?_
  refine .ite (.some (State.progCmd_keeps h)) ?_
  exact .none
theorem State.writeDom_keeps {s0 s : State} {a : Nat} {d : Word} {c : Bool} (h : Keeps s0 s) :
    KeepsO s0 (s.writeDom a d c) := by
  unfold State.writeDom
  refine .ite (.some (State.imgFeed_keeps h)) ?_
  refine .ite (.some (State.emdCmd_keeps h)) ?_
  refine .ite (.some (State.teachCtl_keeps h)) ?_
  refine .ite (.some (State.writeCause_keeps h)) ?_
  refine .ite (.some (State.trdCmd_keeps h)) ?_
  refine .ite (.some (State.supAccClr_keeps h)) ?_
  refine .ite (.some (.ite (State.lpeClearStart_keeps (State.writeStaged_keeps h)) (State.writeStaged_keeps h))) ?_
  refine .ite (.some (.ite h (State.writePlain_keeps h))) ?_
  refine .ite (.some (State.ringWrite_keeps h)) ?_
  refine .ite (.some (.ite (State.ledClear_keeps h) h)) ?_
  refine .ite (.some (State.atomCmd_keeps h)) ?_
  refine .ite (.some (State.shuTail_keeps h)) ?_
  refine .ite (.some (State.shuCtl_keeps h)) ?_
  refine .ite (.some (State.laneCtl_keeps h)) ?_
  refine .ite (.some (State.tdcCmd_keeps h)) ?_
  split
  · exact .some (State.trdBankWrite_keeps h)
  · exact .none
theorem State.regWrite_keeps {s0 s : State} {a : Nat} {d : Word} {c : Bool} (h : Keeps s0 s) :
    Keeps s0 (s.regWrite a d c) := by
  unfold State.regWrite
  split
  · exact State.writeAon_keeps h _ ‹_›
  · split
    · exact State.writeDom_keeps h _ ‹_›
    · exact State.writeStaged_keeps (State.writePlain_keeps h)
theorem State.hostWrite_keeps {s0 : State} {s : State} {a1 : Nat} {a2 : Word} {a3 : Nat} {a4 : Bool} (h : Keeps s0 s) :
    Keeps s0 (State.hostWrite s a1 a2 a3 a4) := by
  unfold State.hostWrite
  exact (.ite h (.ite (State.accError_keeps (State.touch_keeps h)) (hostReg_keeps (fun _ h0 => (.ite (State.accError_keeps h0) (State.regWrite_keeps h0))) h)))
theorem State.rcTake_keeps {s0 : State} {s : State} {a1 : Fld} (h : Keeps s0 s) : Keeps s0 (State.rcTake s a1) := by
  unfold State.rcTake
  lift_lets
  intro x0
  have h0 : Keeps s0 x0 := (State.put_keeps h)
  clear_value x0
  exact (.upd h0)
theorem State.readReg_keeps {s0 : State} {s : State} {a1 : Nat} {a2 : RegRow} (h : Keeps s0 s) : Keeps s0 (State.readReg s
    a1 a2) := by
  unfold State.readReg
  lift_lets
  intro x0
  have h0 : Keeps s0 x0 := (.ite (State.countMissing_keeps h) h)
  intro x2 x3
  have h3 : Keeps s0 x3 := (State.emit_keeps (State.touch_keeps h0))
  intro x5
  have h5 : Keeps s0 x5 := (.each (fun _ _ h6 => (State.rcTake_keeps h6)) h3)
  clear_value x5
  clear_value x0 x2 x3
  exact (by
    split
    · exact (.upd h5)
    · exact h5)
theorem State.hostRead_keeps {s0 : State} {s : State} {a1 : Nat} (h : Keeps s0 s) : Keeps s0 (State.hostRead s a1) := by
  unfold State.hostRead
  exact (.ite h (by
    split
    · exact (State.accError_keeps (State.emit_keeps (State.touch_keeps h)))
    · exact (.ite (State.readReg_keeps h) (State.bump_keeps (State.emit_keeps (State.touch_keeps h))))))
theorem State.cmdNop_keeps {s0 : State} {s : State} (h : Keeps s0 s) : Keeps s0 (State.cmdNop s) := by
  unfold State.cmdNop
  exact (ringCmd_keeps (fun _ _ _ h0 => (State.complete_keeps h0)) h)
theorem State.cmdRun_keeps {s0 : State} {s : State} (h : Keeps s0 s) : Keeps s0 (State.cmdRun s) := by
  unfold State.cmdRun
  exact (ringCmd_keeps (fun _ _ _ h0 => (State.startCmd_keeps (State.plugRead_keeps h0))) h)
theorem State.cmdStop_keeps {s0 : State} {s : State} (h : Keeps s0 s) : Keeps s0 (State.cmdStop s) := by
  unfold State.cmdStop
  exact (ringCmd_keeps (fun _ _ _ h0 => (State.complete_keeps (State.safeStop_keeps h0))) h)
theorem State.cmdAtTick_keeps {s0 : State} {s : State} {a1 : Nat} (h : Keeps s0 s) : Keeps s0 (State.cmdAtTick s a1) := by
  unfold State.cmdAtTick
  exact (ringCmd_keeps (fun _ _ _ h0 => (State.startCmd_keeps h0)) h)
theorem State.cmdBad_keeps {s0 : State} {s : State} (h : Keeps s0 s) : Keeps s0 (State.cmdBad s) := by
  unfold State.cmdBad
  exact (.ite h (by
    lift_lets
    intro x0 x1
    exact (State.complete_keeps (State.bump_keeps (State.ringTake_keeps h)))))
theorem State.resetRange_keeps {s0 : State} {s : State} {a1 : Nat} {a2 : Nat} (h : Keeps s0 s) : Keeps s0 (State.resetRange
    s a1 a2) := by
  unfold State.resetRange
  exact (.upd h)
theorem State.hostReset_keeps {s0 : State} {s : State} (h : Keeps s0 s) : Keeps s0 (State.hostReset s) := by
  unfold State.hostReset
  lift_lets
  intro x0
  have h0 : Keeps s0 x0 := (State.shadowAbort_keeps h)
  clear_value x0
  intro x2
  have h2 : Keeps s0 x2 := (.upd h0)
  intro x4
  have h4 : Keeps s0 x4 := (State.resetRange_keeps h2)
  exact (State.showStall_keeps (State.resetRange_keeps h4))
theorem State.hostResetBy_keeps {s0 : State} {s : State} {a1 : HostReset} (h : Keeps s0 s) : Keeps s0 (State.hostResetBy s
    a1) := by
  unfold State.hostResetBy
  exact (.ite (State.hostReset_keeps h) h)
theorem State.hostPower_keeps {s0 : State} {s : State} {a1 : Bool} {a2 : Bool} (h : Keeps s0 s) : Keeps s0 (State.hostPower
    s a1 a2) := by
  unfold State.hostPower
  exact (.ite h (.upd h))

end Sys2Proof.Machine
end

