-- ==== Sys2Proof/Laws/KeepsExec.lean ====
section
/-! SUPPORT. Of every command, and of a step: what it keeps (Keeps). -/

namespace Sys2Proof.Machine

/-- Every command is carried out, and keeps what `Keeps` says of the state at its time. -/
theorem exec_keeps (c : Instr) (s : State) : ∃ t, exec c s = .next t ∧ Keeps (s.advance (timeOf c)) t := by
  cases c with
  | railGood _ _ _ _ => exact ⟨_, rfl, State.railGood_keeps (.refl _)⟩
  | resetRelease _ => exact ⟨_, rfl, State.timerExpires_keeps (.refl _)⟩
  | bootEntry _ _ => exact ⟨_, rfl, State.bootEntry_keeps (.refl _)⟩
  | porstNAssert _ _ _ => exact ⟨_, rfl, State.porstPulse_keeps (.refl _)⟩
  | warmReset _ _ => exact ⟨_, rfl, State.warmReset_keeps (.refl _)⟩
  | brownout _ _ _ => exact ⟨_, rfl, State.brownout_keeps (.refl _)⟩
  | powerDomainRequest _ _ _ _ => exact ⟨_, rfl, hostReg_keeps (fun _ h => State.domRequest_keeps h) (.refl _)⟩
  | domainDrainDone _ _ => exact ⟨_, rfl, State.drainDone_keeps (.refl _)⟩
  | drainTimeout _ _ => exact ⟨_, rfl, State.drainTimeout_keeps (.refl _)⟩
  | domReady _ _ _ => exact ⟨_, rfl, State.domReady_keeps (.refl _)⟩
  | standby _ => exact ⟨_, rfl, State.standby_keeps (.refl _)⟩
  | standbyEntryDone _ => exact ⟨_, rfl, State.standbyEnd_keeps (.refl _)⟩
  | wake _ => exact ⟨_, rfl, State.wake_keeps (.refl _)⟩
  | pllTLock _ => exact ⟨_, rfl, State.pllTLock_keeps (.refl _)⟩
  | pllTLockTimeout _ => exact ⟨_, rfl, State.pllTDead_keeps (.refl _)⟩
  | pllFLockAttempt _ _ _ _ => exact ⟨_, rfl, State.pllFAttempt_keeps (.refl _)⟩
  | pllFBypass _ => exact ⟨_, rfl, State.pllFBypass_keeps (.refl _)⟩
  | pllFRetry _ => exact ⟨_, rfl, State.pllFRetry_keeps (.refl _)⟩
  | clkTFail _ => exact ⟨_, rfl, State.clkTFail_keeps (.refl _)⟩
  | refclkLoss _ _ => exact ⟨_, rfl, State.refOk_keeps (.refl _)⟩
  | clockMonitorFault _ _ => exact ⟨_, rfl, State.monitorFault_keeps (.refl _)⟩
  | syncInEdge _ _ _ => exact ⟨_, rfl, State.syncEdge_keeps (.refl _)⟩
  | syncLost _ => exact ⟨_, rfl, State.syncLost_keeps (.refl _)⟩
  | frameTick _ _ => exact ⟨_, rfl, State.frameTick_keeps (.refl _)⟩
  | viewSwitch _ => exact ⟨_, rfl, State.viewSwitch_keeps (.refl _)⟩
  | acqWindowClose _ => exact ⟨_, rfl, State.acqClose_keeps (.refl _)⟩
  | decisionDeadline _ => exact ⟨_, rfl, State.deadline_keeps (.refl _)⟩
  | frameDecision _ _ _ _ => exact ⟨_, rfl, State.decision_keeps (.refl _)⟩
  | safetyMessageSend _ => exact ⟨_, rfl, State.msgSend_keeps (.refl _)⟩
  | frameCloseRecord _ => exact ⟨_, rfl, State.frameClose_keeps (.refl _)⟩
  | degTimerExpiry _ => exact ⟨_, rfl, State.degExpires_keeps (.refl _)⟩
  | flowFault _ => exact ⟨_, rfl, State.flowFault_keeps (.refl _)⟩
  | eccError _ _ _ => exact ⟨_, rfl, State.eccError_keeps (.refl _)⟩
  | glbShadowOpen _ _ => exact ⟨_, rfl, hostReg_keeps (fun _ h => State.shadowOpen_keeps h) (.refl _)⟩
  | glbShadowClose _ _ => exact ⟨_, rfl, hostReg_keeps (fun _ h => State.shadowClose_keeps h) (.refl _)⟩
  | glbShadowAbort _ => exact ⟨_, rfl, hostReg_keeps (fun _ h => State.shadowAbort_keeps h) (.refl _)⟩
  | rwsWrite _ _ _ _ => exact ⟨_, rfl, .ite (.refl _) (State.hostWrite_keeps (.refl _))⟩
  | registerWrite _ _ _ _ _ _ => exact ⟨_, rfl, State.hostWrite_keeps (.refl _)⟩
  | snap _ _ => exact ⟨_, rfl, hostReg_keeps (fun _ h => State.clpCmd_keeps h) (.refl _)⟩
  | clpRelease _ => exact ⟨_, rfl, hostReg_keeps (fun _ h => State.clpCmd_keeps h) (.refl _)⟩
  | claspTimeout _ => exact ⟨_, rfl, State.holdTimeout_keeps (.refl _)⟩
  | nop _ => exact ⟨_, rfl, State.cmdNop_keeps (.refl _)⟩
  | runCmd _ => exact ⟨_, rfl, State.cmdRun_keeps (.refl _)⟩
  | stop _ => exact ⟨_, rfl, State.cmdStop_keeps (.refl _)⟩
  | maint _ => exact ⟨_, rfl, State.cmdAtTick_keeps (.refl _)⟩
  | leaveMaint _ => exact ⟨_, rfl, State.cmdAtTick_keeps (.refl _)⟩
  | imgLoad _ => exact ⟨_, rfl, State.imgLoad_keeps (.refl _)⟩
  | imgSwap _ => exact ⟨_, rfl, State.imgSwap_keeps (.refl _)⟩
  | imgApply _ => exact ⟨_, rfl, State.imgApply_keeps (.refl _)⟩
  | imgAbort _ => exact ⟨_, rfl, State.imgAbort_keeps (.refl _)⟩
  | plugWrite _ _ => exact ⟨_, rfl, State.plugWrite_keeps (.refl _)⟩
  | cplHeadAdvance _ _ => exact ⟨_, rfl, hostReg_keeps (fun _ h => State.cplHead_keeps h) (.refl _)⟩
  | mailboxPost _ => exact ⟨_, rfl, hostReg_keeps (fun _ h => State.mailboxPost_keeps h) (.refl _)⟩
  | holdoffExpiry _ _ => exact ⟨_, rfl, State.holdoffEnd_keeps (.refl _)⟩
  | msixUnmask dt what =>
    refine ⟨_, rfl, ?_⟩
    cases what
    · exact hostReg_keeps (fun _ h => State.vecUnmasked_keeps (State.put_keeps h)) (.refl _)
    · exact State.msixControl_keeps (.refl _)
  | logDrain _ => exact ⟨_, rfl, State.logDrain_keeps (.refl _)⟩
  | logCoalesce _ => exact ⟨_, rfl, State.coalesce_keeps (.refl _)⟩
  | logEnable _ _ => exact ⟨_, rfl, hostReg_keeps (fun _ h => State.logCtl_keeps h) (.refl _)⟩
  | hostReset _ _ => exact ⟨_, rfl, State.hostResetBy_keeps (.refl _)⟩
  | hostPowerState _ _ _ => exact ⟨_, rfl, State.hostPower_keeps (.refl _)⟩
  | bar4Access _ _ _ _ => exact ⟨_, rfl, State.bar4_keeps (.refl _)⟩
  | bar2Access _ _ _ _ _ => exact ⟨_, rfl, State.bar2_keeps (.refl _)⟩
  | biasMeasurement _ _ _ _ => exact ⟨_, rfl, State.biasMeasure_keeps (.refl _)⟩
  | hvOv _ => exact ⟨_, rfl, State.hvOv_keeps (.refl _)⟩
  | avalanche _ _ _ _ _ _ => exact ⟨_, rfl, State.avalanche_keeps (.refl _)⟩
  | pointIntervalEnd _ _ => exact ⟨_, rfl, State.ivlEnd_keeps (.refl _)⟩
  | seeding _ _ => exact ⟨_, rfl, State.seeding_keeps (.refl _)⟩
  | extractHalf _ _ _ => exact ⟨_, rfl, State.extractHalf_keeps (.refl _)⟩
  | exportDrain _ _ => exact ⟨_, rfl, State.exportDrain_keeps (.refl _)⟩
  | dllUnlock _ _ _ => exact ⟨_, rfl, State.dllUnlock_keeps (.refl _)⟩
  | dllLock _ _ _ => exact ⟨_, rfl, State.dllLock_keeps (.refl _)⟩
  | sliceMarkTimeout _ _ _ => exact ⟨_, rfl, State.sliceTimeout_keeps (.refl _)⟩
  | auditVerdict _ _ _ => exact ⟨_, rfl, State.auditVerdict_keeps (.refl _)⟩
  | sliceMark _ _ _ _ _ => exact ⟨_, rfl, hostReg_keeps (fun _ h => State.tdcCmd_keeps h) (.refl _)⟩
  | sliceUnmark _ _ _ => exact ⟨_, rfl, hostReg_keeps (fun _ h => State.tdcCmd_keeps h) (.refl _)⟩
  | listWrapFill _ => exact ⟨_, rfl, State.wrapFill_keeps (.refl _)⟩
  | listPortDrain _ _ => exact ⟨_, rfl, State.listDrain_keeps (.refl _)⟩
  | shotSlotCommit _ _ => exact ⟨_, rfl, State.shotCommit_keeps (.refl _)⟩
  | mpdIntegrationEnd _ _ _ _ => exact ⟨_, rfl, State.mpdEnd_keeps (.refl _)⟩
  | govBucketRoll _ _ => exact ⟨_, rfl, State.bucketRoll_keeps (.refl _)⟩
  | proofTrigger _ _ => exact ⟨_, rfl, State.proofTrigger_keeps (.refl _)⟩
  | diagSlot _ _ => exact ⟨_, rfl, State.diagSlot_keeps (.refl _)⟩
  | driverTrip _ _ => exact ⟨_, rfl, State.driverTrip_keeps (.refl _)⟩
  | emdStuckOn _ => exact ⟨_, rfl, State.stuckOn_keeps (.refl _)⟩
  | clearOutputMarks _ _ _ => exact ⟨_, rfl, hostReg_keeps (fun _ h => State.clearOut_keeps h) (.refl _)⟩
  | clearMpdFault _ _ => exact ⟨_, rfl, hostReg_keeps (fun _ h => State.clearMpd_keeps h) (.refl _)⟩
  | clearStuckOn _ => exact ⟨_, rfl, hostReg_keeps (fun _ h => State.clearStuck_keeps h) (.refl _)⟩
  | throttlePauseStart _ => exact ⟨_, rfl, State.pauseStart_keeps (.refl _)⟩
  | thermalMeasurement _ _ _ => exact ⟨_, rfl, State.thmMeasure_keeps (.refl _)⟩
  | treadleSample _ _ _ => exact ⟨_, rfl, State.treadleSample_keeps (.refl _)⟩
  | trdStart _ _ => exact ⟨_, rfl, State.trdStartFail_keeps (.refl _)⟩
  | encoderEdge _ _ _ _ _ _ => exact ⟨_, rfl, State.encoderEdge_keeps (.refl _)⟩
  | clrFe _ _ => exact ⟨_, rfl, hostReg_keeps (fun _ h => State.trdClrFe_keeps h) (.refl _)⟩
  | rstI _ _ => exact ⟨_, rfl, hostReg_keeps (fun _ h => State.trdRstI_keeps h) (.refl _)⟩
  | clrHvOv _ _ => exact ⟨_, rfl, hostReg_keeps (fun _ h => State.trdClrHvOv_keeps h) (.refl _)⟩
  | clrEnc _ _ => exact ⟨_, rfl, hostReg_keeps (fun _ h => State.trdClrEnc_keeps h) (.refl _)⟩
  | axisSpeedEval _ _ => exact ⟨_, rfl, State.axisEval_keeps (.refl _)⟩
  | safeInLow _ _ => exact ⟨_, rfl, State.safeInLow_keeps (.refl _)⟩
  | ossdTestPulse _ _ => exact ⟨_, rfl, State.testPulse_keeps (.refl _)⟩
  | ossdReadbackSample _ _ => exact ⟨_, rfl, State.readback_keeps (.refl _)⟩
  | edmTimeout _ _ _ _ => exact ⟨_, rfl, State.edmTimeout_keeps (.refl _)⟩
  | ss1StopDone _ _ => exact ⟨_, rfl, State.ss1Done_keeps (.refl _)⟩
  | button _ _ => exact ⟨_, rfl, State.buttonUp_keeps (.refl _)⟩
  | buttonStuck _ _ => exact ⟨_, rfl, State.buttonStuck_keeps (.refl _)⟩
  | sealChange _ _ => exact ⟨_, rfl, State.sealSite_keeps (.refl _)⟩
  | plugChange _ _ => exact ⟨_, rfl, State.plugChange_keeps (.refl _)⟩
  | plugReadAttempt _ _ _ => exact ⟨_, rfl, State.plugAttempt_keeps (.refl _)⟩
  | fieldSetLoadDone _ _ _ => exact ⟨_, rfl, State.fsetLoadDone_keeps (.refl _)⟩
  | teachStart _ _ => exact ⟨_, rfl, hostReg_keeps (fun _ h => State.teachStart_keeps (State.teachFrames_keeps h)) (.refl _)⟩
  | teachAbort _ => exact ⟨_, rfl, hostReg_keeps (fun _ h => State.teachAbort_keeps h) (.refl _)⟩
  | teachDone _ => exact ⟨_, rfl, State.teachDone_keeps (.refl _)⟩
  | safetyMessageReceive _ _ => exact ⟨_, rfl, .ite (State.msgReceive_keeps (.refl _)) (.refl _)⟩
  | imgFeed _ _ _ _ => exact ⟨_, rfl, hostReg_keeps (fun _ h => State.imgFeed_keeps h) (.refl _)⟩
  | imgStreamTimeout _ => exact ⟨_, rfl, State.imgTimeout_keeps (.refl _)⟩
  | imgVerifyDone _ _ _ => exact ⟨_, rfl, State.imgVerify_keeps (.refl _)⟩
  | swapPrepared _ _ => exact ⟨_, rfl, State.swapPrepared_keeps (.refl _)⟩
  | applyDone _ => exact ⟨_, rfl, State.applyDone_keeps (.refl _)⟩
  | burn _ _ => exact ⟨_, rfl, hostReg_keeps (fun _ h => State.burn_keeps h) (.refl _)⟩
  | revoke _ _ => exact ⟨_, rfl, hostReg_keeps (fun _ h => State.burnRevoke_keeps h) (.refl _)⟩
  | raiseSvn _ _ => exact ⟨_, rfl, hostReg_keeps (fun _ h => State.burnSvn_keeps h) (.refl _)⟩
  | burnDone _ _ _ => exact ⟨_, rfl, State.burnDone_keeps (.refl _)⟩
  | tapInstruction _ _ => exact ⟨_, rfl, State.tapLoad_keeps (.refl _)⟩
  | integrationBoundary _ _ _ _ => exact ⟨_, rfl, State.supBoundary_keeps (.refl _)⟩
  | supAccClr _ _ => exact ⟨_, rfl, hostReg_keeps (fun _ h => State.supAccClr_keeps h) (.refl _)⟩
  | loupeSample _ _ => exact ⟨_, rfl, State.loupeSample_keeps (.refl _)⟩
  | loupeRecordWrite _ => exact ⟨_, rfl, State.lpeWrite_keeps (.refl _)⟩
  | lpeClear _ => exact ⟨_, rfl, hostReg_keeps (fun _ h => State.lpeClearStart_keeps h) (.refl _)⟩
  | retainExpiry _ => exact ⟨_, rfl, State.lpeRetain_keeps (.refl _)⟩
  | lpeCleared _ => exact ⟨_, rfl, State.lpeClearDone_keeps (.refl _)⟩
  | chainFrame _ _ => exact ⟨_, rfl, State.chainFrame_keeps (.refl _)⟩
  | ledPwmPeriod _ _ => exact ⟨_, rfl, State.ledPeriod_keeps (.refl _)⟩
  | ledThermalTrip _ _ => exact ⟨_, rfl, State.ledTrip_keeps (.refl _)⟩
  | ledClear _ _ _ => exact ⟨_, rfl, hostReg_keeps (fun _ h => State.ledClear_keeps h) (.refl _)⟩
  | descriptorTake _ _ _ _ => exact ⟨_, rfl, State.descTake_keeps (.refl _)⟩
  | descriptorComplete _ _ => exact ⟨_, rfl, State.descComplete_keeps (.refl _)⟩
  | shuPause _ _ _ _ => exact ⟨_, rfl, hostReg_keeps (fun _ h => State.shuPause_keeps h) (.refl _)⟩
  | shuAbort _ _ => exact ⟨_, rfl, hostReg_keeps (fun _ h => State.shuAbort_keeps h) (.refl _)⟩
  | streamRecordStage _ => exact ⟨_, rfl, State.stageRecord_keeps (.refl _)⟩
  | streamFlushTimeout _ _ => exact ⟨_, rfl, State.streamFlush_keeps (.refl _)⟩
  | atomicAdd _ => exact ⟨_, rfl, hostReg_keeps (fun _ h => State.atomicAdd_keeps h) (.refl _)⟩
  | atomicCas _ => exact ⟨_, rfl, hostReg_keeps (fun _ h => State.atomicCas_keeps h) (.refl _)⟩
  | scrubStep _ _ _ => exact ⟨_, rfl, State.scrubStep_keeps (.refl _)⟩
  | memSpared _ _ _ => exact ⟨_, rfl, State.memSpared_keeps (.refl _)⟩
  | laneDetectProbe _ _ _ => exact ⟨_, rfl, State.laneProbe_keeps (.refl _)⟩
  | blockLock _ _ _ _ _ => exact ⟨_, rfl, State.laneLock_keeps (.refl _)⟩
  | adaptPresetStep _ _ _ => exact ⟨_, rfl, State.laneFom_keeps (.refl _)⟩
  | trainStepTimeout _ _ => exact ⟨_, rfl, State.laneStepOut_keeps (.refl _)⟩
  | trainTo _ _ => exact ⟨_, rfl, State.laneTrainOut_keeps (.refl _)⟩
  | backoffExpiry _ _ => exact ⟨_, rfl, State.laneBackoffEnd_keeps (.refl _)⟩
  | retrain _ _ => exact ⟨_, rfl, hostReg_keeps (fun _ h => State.laneRetrainCmd_keeps h) (.refl _)⟩
  | srefChange _ _ _ => exact ⟨_, rfl, State.srefChange_keeps (.refl _)⟩
  | train _ _ _ _ _ _ => exact ⟨_, rfl, State.laneTrain_keeps (.refl _)⟩
  | align _ _ _ _ _ _ => exact ⟨_, rfl, State.portAlign_keeps (.refl _)⟩
  | portUp _ _ => exact ⟨_, rfl, State.portGoUp_keeps (.refl _)⟩
  | portDown _ _ => exact ⟨_, rfl, State.portGoDown_keeps (.refl _)⟩
  | flit _ _ _ _ _ _ => exact ⟨_, rfl, State.flitTake_keeps (.refl _)⟩
  | bobbin _ _ _ _ _ _ _ _ => exact ⟨_, rfl, State.bobbinTake_keeps (.refl _)⟩
  | flitSend _ _ _ => exact ⟨_, rfl, State.flitSend_keeps (.refl _)⟩
  | doze _ _ _ => exact ⟨_, rfl, State.dozeTake_keeps (.refl _)⟩
  | dozeIdleTimeout _ _ => exact ⟨_, rfl, State.dozeIdle_keeps (.refl _)⟩
  | deepIdleTimeout _ _ => exact ⟨_, rfl, State.deepIdle_keeps (.refl _)⟩
  | resetNRelease _ _ => exact ⟨_, rfl, State.resetRise_keeps (.refl _)⟩
  | vddAonGood _ _ _ => exact ⟨_, rfl, State.railGood_keeps (.refl _)⟩
  | refclkReturn _ _ => exact ⟨_, rfl, State.refOk_keeps (.refl _)⟩
  | sliceSettleDone _ _ => exact ⟨_, rfl, State.settled_keeps (.refl _)⟩
  | throttlePauseEnd _ => exact ⟨_, rfl, State.pauseEnd_keeps (.refl _)⟩
  | encoderShortPulse _ _ _ _ => exact ⟨_, rfl, State.encoderShort_keeps (.refl _)⟩
  | configUnlockChange _ _ => exact ⟨_, rfl, State.sealUnlock_keeps (.refl _)⟩
  | shuttleRequestDone _ _ _ _ _ _ _ _ => exact ⟨_, rfl, State.requestDone_keeps (.refl _)⟩
  | badCommand _ => exact ⟨_, rfl, State.cmdBad_keeps (.refl _)⟩
  | registerRead _ _ => exact ⟨_, rfl, State.hostRead_keeps (.refl _)⟩
  | alignColumnMissing _ _ => exact ⟨_, rfl, State.laneRetrain_keeps (.refl _)⟩
  | dozeExit _ _ => exact ⟨_, rfl, State.dozeExit_keeps (.refl _)⟩
  | deepExit _ _ => exact ⟨_, rfl, State.deepExit_keeps (.refl _)⟩
  | controlColumnSend _ _ _ => exact ⟨_, rfl, State.columnSend_keeps (.refl _)⟩
  | bobbinReturn _ _ _ => exact ⟨_, rfl, State.bobbinReturn_keeps (.refl _)⟩
  | wakeDone _ => exact ⟨_, rfl, State.wakeDone_keeps (.refl _)⟩
  | buttonPress _ _ => exact ⟨_, rfl, State.buttonDown_keeps (.refl _)⟩

/-- A step on a queue with `c` at its front. -/
theorem step_keeps (c : Instr) (rest : List Instr) (s : State) (hq : s.pending = c :: rest) :
    ∃ t, step s = .next t ∧ Keeps (({ s with pending := rest } : State).advance (timeOf c)) t := by
  unfold step
  rw [hq]
  exact exec_keeps c _

/-- What any step keeps: the memories' canonical form and the fuses. -/
theorem step_cases (s t : State) (h : step s = .next t) :
    (s.pending = [] ∧ t = s) ∨ (∃ c rest, s.pending = c :: rest ∧
      Keeps (({ s with pending := rest } : State).advance (timeOf c)) t) := by
  cases hq : s.pending with
  | nil =>
    left
    unfold step at h
    rw [hq] at h
    exact ⟨rfl, by injection h with h; exact h.symm⟩
  | cons c rest =>
    right
    obtain ⟨u, hu, hk⟩ := step_keeps c rest s hq
    rw [h] at hu
    injection hu with hu
    exact ⟨c, rest, rfl, hu ▸ hk⟩

end Sys2Proof.Machine
end

