-- ==== Sys2Proof/Laws/PerInstr.lean ====
section
/-! SUPPORT. What holds of every command as syntax, one lemma per constructor. The family RegisterAddress: a well-formed command that
names a register of BAR0 names an aligned address inside BAR0 (R376, R379). -/

namespace Sys2Proof

/-- The register of BAR0 that a command names by an address of the sender's choice. -/
def Instr.regAddr : Instr → Option Nat
  | .rwsWrite _ addr _ _ => some addr
  | .registerWrite _ addr _ _ _ _ => some addr
  | .registerRead _ addr => some addr
  | _ => none

namespace Laws.RegisterAddress

set_option Elab.async false

/-- A well-formed command's register address is a multiple of 4 and lies in the 64 MiB of BAR0. -/
def Statement (i : Instr) : Prop := i.wf = true → ∀ a, i.regAddr = some a → a % 4 = 0 ∧ a < 2 ^ 26

theorem of_none {i : Instr} (h : i.regAddr = none) : Statement i := by
  intro _ a e; rw [h] at e; injection e

theorem of_addr {i : Instr} {a : Nat} (h : i.regAddr = some a) (hw : i.wf = isRegAddr a) : Statement i := by
  intro w b e
  rw [h] at e
  injection e with e
  rw [hw, isRegAddr, Bool.and_eq_true] at w
  exact ⟨e ▸ by simpa using w.1, e ▸ by simpa using w.2⟩

theorem railGood (dt : Nat) (rail : Fin 10) (porst : Bool) (bootSrc : Fin 4) : Statement (.railGood dt rail porst bootSrc) := of_none rfl
theorem resetRelease (dt : Nat) : Statement (.resetRelease dt) := of_none rfl
theorem bootEntry (dt : Nat) (sealSw : Fin 16) : Statement (.bootEntry dt sealSw) := of_none rfl
theorem porstNAssert (dt : Nat) (lowNs : Nat) (bootSrc : Fin 4) : Statement (.porstNAssert dt lowNs bootSrc) := of_none rfl
theorem warmReset (dt : Nat) (lowNs : Nat) : Statement (.warmReset dt lowNs) := of_none rfl
theorem brownout (dt : Nat) (rail : Fin 10) (lowNs : Nat) : Statement (.brownout dt rail lowNs) := of_none rfl
theorem powerDomainRequest (dt : Nat) (id : Fin 256) (on : Bool) (force : Bool) : Statement (.powerDomainRequest dt id on force) := of_none rfl
theorem domainDrainDone (dt : Nat) (id : Fin 136) : Statement (.domainDrainDone dt id) := of_none rfl
theorem drainTimeout (dt : Nat) (id : Fin 136) : Statement (.drainTimeout dt id) := of_none rfl
theorem domReady (dt : Nat) (id : Fin 136) (late : Bool) : Statement (.domReady dt id late) := of_none rfl
theorem standby (dt : Nat) : Statement (.standby dt) := of_none rfl
theorem standbyEntryDone (dt : Nat) : Statement (.standbyEntryDone dt) := of_none rfl
theorem wake (dt : Nat) : Statement (.wake dt) := of_none rfl
theorem pllTLock (dt : Nat) : Statement (.pllTLock dt) := of_none rfl
theorem pllTLockTimeout (dt : Nat) : Statement (.pllTLockTimeout dt) := of_none rfl
theorem pllFLockAttempt (dt : Nat) (tableOk : Bool) (search : Bool) (band : Fin 64) : Statement (.pllFLockAttempt dt tableOk search band) := of_none rfl
theorem pllFBypass (dt : Nat) : Statement (.pllFBypass dt) := of_none rfl
theorem pllFRetry (dt : Nat) : Statement (.pllFRetry dt) := of_none rfl
theorem clkTFail (dt : Nat) : Statement (.clkTFail dt) := of_none rfl
theorem refclkLoss (dt : Nat) (refF : Bool) : Statement (.refclkLoss dt refF) := of_none rfl
theorem clockMonitorFault (dt : Nat) (clk : Fin 4) : Statement (.clockMonitorFault dt clk) := of_none rfl
theorem syncInEdge (dt : Nat) (falling : Bool) (heldNs : Nat) : Statement (.syncInEdge dt falling heldNs) := of_none rfl
theorem syncLost (dt : Nat) : Statement (.syncLost dt) := of_none rfl
theorem frameTick (dt : Nat) (fsel : Fin 256) : Statement (.frameTick dt fsel) := of_none rfl
theorem viewSwitch (dt : Nat) : Statement (.viewSwitch dt) := of_none rfl
theorem acqWindowClose (dt : Nat) : Statement (.acqWindowClose dt) := of_none rfl
theorem decisionDeadline (dt : Nat) : Statement (.decisionDeadline dt) := of_none rfl
theorem frameDecision (dt : Nat) (safeIn : Fin 16) (edm : Fin 4) (crcDone : Bool) : Statement (.frameDecision dt safeIn edm crcDone) := of_none rfl
theorem safetyMessageSend (dt : Nat) : Statement (.safetyMessageSend dt) := of_none rfl
theorem frameCloseRecord (dt : Nat) : Statement (.frameCloseRecord dt) := of_none rfl
theorem degTimerExpiry (dt : Nat) : Statement (.degTimerExpiry dt) := of_none rfl
theorem flowFault (dt : Nat) : Statement (.flowFault dt) := of_none rfl
theorem eccError (dt : Nat) (corrected : Bool) (selvedge : Bool) : Statement (.eccError dt corrected selvedge) := of_none rfl
theorem glbShadowOpen (dt : Nat) (tag : Fin 256) : Statement (.glbShadowOpen dt tag) := of_none rfl
theorem glbShadowClose (dt : Nat) (late : Bool) : Statement (.glbShadowClose dt late) := of_none rfl
theorem glbShadowAbort (dt : Nat) : Statement (.glbShadowAbort dt) := of_none rfl
theorem rwsWrite (dt : Nat) (addr : Nat) (data : Word) (late : Bool) : Statement (.rwsWrite dt addr data late) := of_addr rfl rfl
theorem registerWrite (dt : Nat) (addr : Nat) (data : Word) (be : Fin 16) (late : Bool) (ext : Bool) : Statement (.registerWrite dt addr data be late ext) := of_addr rfl rfl
theorem snap (dt : Nat) (andRelease : Bool) : Statement (.snap dt andRelease) := of_none rfl
theorem clpRelease (dt : Nat) : Statement (.clpRelease dt) := of_none rfl
theorem claspTimeout (dt : Nat) : Statement (.claspTimeout dt) := of_none rfl
theorem nop (dt : Nat) : Statement (.nop dt) := of_none rfl
theorem runCmd (dt : Nat) : Statement (.runCmd dt) := of_none rfl
theorem stop (dt : Nat) : Statement (.stop dt) := of_none rfl
theorem maint (dt : Nat) : Statement (.maint dt) := of_none rfl
theorem leaveMaint (dt : Nat) : Statement (.leaveMaint dt) := of_none rfl
theorem imgLoad (dt : Nat) : Statement (.imgLoad dt) := of_none rfl
theorem imgSwap (dt : Nat) : Statement (.imgSwap dt) := of_none rfl
theorem imgApply (dt : Nat) : Statement (.imgApply dt) := of_none rfl
theorem imgAbort (dt : Nat) : Statement (.imgAbort dt) := of_none rfl
theorem plugWrite (dt : Nat) (part : PlugReply) : Statement (.plugWrite dt part) := of_none rfl
theorem cplHeadAdvance (dt : Nat) (head : Fin 64) : Statement (.cplHeadAdvance dt head) := of_none rfl
theorem mailboxPost (dt : Nat) : Statement (.mailboxPost dt) := of_none rfl
theorem holdoffExpiry (dt : Nat) (vec : Fin 512) : Statement (.holdoffExpiry dt vec) := of_none rfl
theorem msixUnmask (dt : Nat) (what : Unmask) : Statement (.msixUnmask dt what) := of_none rfl
theorem logDrain (dt : Nat) : Statement (.logDrain dt) := of_none rfl
theorem logCoalesce (dt : Nat) : Statement (.logCoalesce dt) := of_none rfl
theorem logEnable (dt : Nat) (sizeLog2 : Fin 32) : Statement (.logEnable dt sizeLog2) := of_none rfl
theorem hostReset (dt : Nat) (how : HostReset) : Statement (.hostReset dt how) := of_none rfl
theorem hostPowerState (dt : Nat) (d3hot : Bool) (pmeEn : Bool) : Statement (.hostPowerState dt d3hot pmeEn) := of_none rfl
theorem bar4Access (dt : Nat) (off : Nat) (wr : Option Word) (bad : Nat) : Statement (.bar4Access dt off wr bad) := of_none rfl
theorem bar2Access (dt : Nat) (off : Nat) (wr : Option Word) (be : Fin 16) (lost : Bool) : Statement (.bar2Access dt off wr be lost) := of_none rfl
theorem biasMeasurement (dt : Nat) (tile : Fin 96) (hits : Fin 17) (vex : Nat) : Statement (.biasMeasurement dt tile hits vex) := of_none rfl
theorem hvOv (dt : Nat) : Statement (.hvOv dt) := of_none rfl
theorem avalanche (dt : Nat) (tile : Fin 96) (ch : Fin 8) (spad : Fin 24) (code : Nat) (code8 : Nat) : Statement (.avalanche dt tile ch spad code code8) := of_none rfl
theorem pointIntervalEnd (dt : Nat) (tile : Fin 96) : Statement (.pointIntervalEnd dt tile) := of_none rfl
theorem seeding (dt : Nat) (tile : Fin 96) : Statement (.seeding dt tile) := of_none rfl
theorem extractHalf (dt : Nat) (tile : Fin 96) (ch : Fin 8) : Statement (.extractHalf dt tile ch) := of_none rfl
theorem exportDrain (dt : Nat) (tile : Fin 96) : Statement (.exportDrain dt tile) := of_none rfl
theorem dllUnlock (dt : Nat) (tile : Fin 96) (slice : Fin 9) : Statement (.dllUnlock dt tile slice) := of_none rfl
theorem dllLock (dt : Nat) (tile : Fin 96) (slice : Fin 9) : Statement (.dllLock dt tile slice) := of_none rfl
theorem sliceMarkTimeout (dt : Nat) (tile : Fin 96) (slice : Fin 9) : Statement (.sliceMarkTimeout dt tile slice) := of_none rfl
theorem auditVerdict (dt : Nat) (tile : Fin 96) (hist : List Nat) : Statement (.auditVerdict dt tile hist) := of_none rfl
theorem sliceMark (dt : Nat) (tile : Fin 96) (slice : Fin 16) (unmark : Bool) (late : Bool) : Statement (.sliceMark dt tile slice unmark late) := of_none rfl
theorem sliceUnmark (dt : Nat) (tile : Fin 96) (slice : Fin 16) : Statement (.sliceUnmark dt tile slice) := of_none rfl
theorem listWrapFill (dt : Nat) : Statement (.listWrapFill dt) := of_none rfl
theorem listPortDrain (dt : Nat) (tile : Fin 96) : Statement (.listPortDrain dt tile) := of_none rfl
theorem shotSlotCommit (dt : Nat) (entry : Fin 512) : Statement (.shotSlotCommit dt entry) := of_none rfl
theorem mpdIntegrationEnd (dt : Nat) (out : Fin 96) (q : Fin 65536) (isense : List IsensePart) : Statement (.mpdIntegrationEnd dt out q isense) := of_none rfl
theorem govBucketRoll (dt : Nat) (win : Fin 4) : Statement (.govBucketRoll dt win) := of_none rfl
theorem proofTrigger (dt : Nat) (entry : Fin 512) : Statement (.proofTrigger dt entry) := of_none rfl
theorem diagSlot (dt : Nat) (walk : List WalkSample) : Statement (.diagSlot dt walk) := of_none rfl
theorem driverTrip (dt : Nat) (out : Fin 96) : Statement (.driverTrip dt out) := of_none rfl
theorem emdStuckOn (dt : Nat) : Statement (.emdStuckOn dt) := of_none rfl
theorem clearOutputMarks (dt : Nat) (index : Fin 128) (quiet : Bool) : Statement (.clearOutputMarks dt index quiet) := of_none rfl
theorem clearMpdFault (dt : Nat) (index : Fin 128) : Statement (.clearMpdFault dt index) := of_none rfl
theorem clearStuckOn (dt : Nat) : Statement (.clearStuckOn dt) := of_none rfl
theorem throttlePauseStart (dt : Nat) : Statement (.throttlePauseStart dt) := of_none rfl
theorem thermalMeasurement (dt : Nat) (tiles : List Nat) (others : List Nat) : Statement (.thermalMeasurement dt tiles others) := of_none rfl
theorem treadleSample (dt : Nat) (slot : Fin 8) (uv : Int) : Statement (.treadleSample dt slot uv) := of_none rfl
theorem trdStart (dt : Nat) (slot : Fin 8) : Statement (.trdStart dt slot) := of_none rfl
theorem encoderEdge (dt : Nat) (who : Fin 16) (a : Bool) (b : Bool) (z : Bool) (held : Nat) : Statement (.encoderEdge dt who a b z held) := of_none rfl
theorem clrFe (dt : Nat) (slot : Fin 8) : Statement (.clrFe dt slot) := of_none rfl
theorem rstI (dt : Nat) (slot : Fin 8) : Statement (.rstI dt slot) := of_none rfl
theorem clrHvOv (dt : Nat) (low : Bool) : Statement (.clrHvOv dt low) := of_none rfl
theorem clrEnc (dt : Nat) (enc : Fin 8) : Statement (.clrEnc dt enc) := of_none rfl
theorem axisSpeedEval (dt : Nat) (axis : Fin 8) : Statement (.axisSpeedEval dt axis) := of_none rfl
theorem safeInLow (dt : Nat) (pin : Fin 4) : Statement (.safeInLow dt pin) := of_none rfl
theorem ossdTestPulse (dt : Nat) (ball : Fin 4) : Statement (.ossdTestPulse dt ball) := of_none rfl
theorem ossdReadbackSample (dt : Nat) (fb : Fin 16) : Statement (.ossdReadbackSample dt fb) := of_none rfl
theorem edmTimeout (dt : Nat) (pair : Fin 2) (edm : Bool) (second : Bool) : Statement (.edmTimeout dt pair edm second) := of_none rfl
theorem ss1StopDone (dt : Nat) (pair : Fin 2) : Statement (.ss1StopDone dt pair) := of_none rfl
theorem button (dt : Nat) (teach : Bool) : Statement (.button dt teach) := of_none rfl
theorem buttonStuck (dt : Nat) (teach : Bool) : Statement (.buttonStuck dt teach) := of_none rfl
theorem sealChange (dt : Nat) (site : Fin 8) : Statement (.sealChange dt site) := of_none rfl
theorem plugChange (dt : Nat) (present : Bool) : Statement (.plugChange dt present) := of_none rfl
theorem plugReadAttempt (dt : Nat) (ending : PlugEnd) (words : List Nat) : Statement (.plugReadAttempt dt ending words) := of_none rfl
theorem fieldSetLoadDone (dt : Nat) (late : Bool) (bad : Nat) : Statement (.fieldSetLoadDone dt late bad) := of_none rfl
theorem teachStart (dt : Nat) (frames : Fin 256) : Statement (.teachStart dt frames) := of_none rfl
theorem teachAbort (dt : Nat) : Statement (.teachAbort dt) := of_none rfl
theorem teachDone (dt : Nat) : Statement (.teachDone dt) := of_none rfl
theorem safetyMessageReceive (dt : Nat) (words : List Nat) : Statement (.safetyMessageReceive dt words) := of_none rfl
theorem imgFeed (dt : Nat) (word : Word) (drained : Nat) (memOk : Bool) : Statement (.imgFeed dt word drained memOk) := of_none rfl
theorem imgStreamTimeout (dt : Nat) : Statement (.imgStreamTimeout dt) := of_none rfl
theorem imgVerifyDone (dt : Nat) (stream : List Byte) (memOk : Bool) : Statement (.imgVerifyDone dt stream memOk) := of_none rfl
theorem swapPrepared (dt : Nat) (late : Bool) : Statement (.swapPrepared dt late) := of_none rfl
theorem applyDone (dt : Nat) : Statement (.applyDone dt) := of_none rfl
theorem burn (dt : Nat) (key : Fin 65536) : Statement (.burn dt key) := of_none rfl
theorem revoke (dt : Nat) (key : Fin 65536) : Statement (.revoke dt key) := of_none rfl
theorem raiseSvn (dt : Nat) (key : Fin 65536) : Statement (.raiseSvn dt key) := of_none rfl
theorem burnDone (dt : Nat) (copyA : Nat) (copyB : Nat) : Statement (.burnDone dt copyA copyB) := of_none rfl
theorem tapInstruction (dt : Nat) (tap : TapInstr) : Statement (.tapInstruction dt tap) := of_none rfl
theorem integrationBoundary (dt : Nat) (conv0 : SupPeriod) (conv1 : SupPeriod) (refOk : Bool) : Statement (.integrationBoundary dt conv0 conv1 refOk) := of_none rfl
theorem supAccClr (dt : Nat) (clr : Word) : Statement (.supAccClr dt clr) := of_none rfl
theorem loupeSample (dt : Nat) (pins : LoupePins) : Statement (.loupeSample dt pins) := of_none rfl
theorem loupeRecordWrite (dt : Nat) : Statement (.loupeRecordWrite dt) := of_none rfl
theorem lpeClear (dt : Nat) : Statement (.lpeClear dt) := of_none rfl
theorem retainExpiry (dt : Nat) : Statement (.retainExpiry dt) := of_none rfl
theorem lpeCleared (dt : Nat) : Statement (.lpeCleared dt) := of_none rfl
theorem chainFrame (dt : Nat) (ret : List Bool) : Statement (.chainFrame dt ret) := of_none rfl
theorem ledPwmPeriod (dt : Nat) (vpin : List Nat) : Statement (.ledPwmPeriod dt vpin) := of_none rfl
theorem ledThermalTrip (dt : Nat) (sink : Fin 12) : Statement (.ledThermalTrip dt sink) := of_none rfl
theorem ledClear (dt : Nat) (index : Fin 16) (quiet : Bool) : Statement (.ledClear dt index quiet) := of_none rfl
theorem descriptorTake (dt : Nat) (ch : Fin 64) (host : List Nat) (issued : Nat) : Statement (.descriptorTake dt ch host issued) := of_none rfl
theorem descriptorComplete (dt : Nat) (ch : Fin 64) : Statement (.descriptorComplete dt ch) := of_none rfl
theorem shuPause (dt : Nat) (ch : Fin 64) (pause : Bool) (issued : Nat) : Statement (.shuPause dt ch pause issued) := of_none rfl
theorem shuAbort (dt : Nat) (ch : Fin 64) : Statement (.shuAbort dt ch) := of_none rfl
theorem streamRecordStage (dt : Nat) : Statement (.streamRecordStage dt) := of_none rfl
theorem streamFlushTimeout (dt : Nat) (ch : Fin 64) : Statement (.streamFlushTimeout dt ch) := of_none rfl
theorem atomicAdd (dt : Nat) : Statement (.atomicAdd dt) := of_none rfl
theorem atomicCas (dt : Nat) : Statement (.atomicCas dt) := of_none rfl
theorem scrubStep (dt : Nat) (ch : Fin 8) (bad : Nat) : Statement (.scrubStep dt ch bad) := of_none rfl
theorem memSpared (dt : Nat) (ch : Fin 8) (stripe : Nat) : Statement (.memSpared dt ch stripe) := of_none rfl
theorem laneDetectProbe (dt : Nat) (lane : Fin 16) (found : Bool) : Statement (.laneDetectProbe dt lane found) := of_none rfl
theorem blockLock (dt : Nat) (lane : Fin 16) (gained : Bool) (inverted : Bool) (bad : Nat) : Statement (.blockLock dt lane gained inverted bad) := of_none rfl
theorem adaptPresetStep (dt : Nat) (lane : Fin 16) (fom : Fin 256) : Statement (.adaptPresetStep dt lane fom) := of_none rfl
theorem trainStepTimeout (dt : Nat) (lane : Fin 16) : Statement (.trainStepTimeout dt lane) := of_none rfl
theorem trainTo (dt : Nat) (lane : Fin 16) : Statement (.trainTo dt lane) := of_none rfl
theorem backoffExpiry (dt : Nat) (lane : Fin 16) : Statement (.backoffExpiry dt lane) := of_none rfl
theorem retrain (dt : Nat) (lane : Fin 16) : Statement (.retrain dt lane) := of_none rfl
theorem srefChange (dt : Nat) (quad : Fin 4) (ok : Bool) : Statement (.srefChange dt quad ok) := of_none rfl
theorem train (dt : Nat) (lane : Fin 16) (plane : Fin 16) (step : Fin 16) (done : Bool) (rest : TrainRest) : Statement (.train dt lane plane step done rest) := of_none rfl
theorem align (dt : Nat) (port : Fin 16) (active : Fin 65536) (member : Fin 16) (cell : Bool) (late : Fin 65536) : Statement (.align dt port active member cell late) := of_none rfl
theorem portUp (dt : Nat) (port : Fin 16) : Statement (.portUp dt port) := of_none rfl
theorem portDown (dt : Nat) (port : Fin 16) : Statement (.portDown dt port) := of_none rfl
theorem flit (dt : Nat) (port : Fin 16) (header : Nat) (data : List Nat) (trailer : Nat) (memOk : Bool) : Statement (.flit dt port header data trailer memOk) := of_none rfl
theorem bobbin (dt : Nat) (port : Fin 16) (cls : Fin 4) (init : Bool) (count : Fin 65536) (ackV : Bool) (nak : Bool) (ackSeq : Fin 4096) : Statement (.bobbin dt port cls init count ackV nak ackSeq) := of_none rfl
theorem flitSend (dt : Nat) (port : Fin 16) (chan : Fin 64) : Statement (.flitSend dt port chan) := of_none rfl
theorem doze (dt : Nat) (port : Fin 16) (ack : Bool) : Statement (.doze dt port ack) := of_none rfl
theorem dozeIdleTimeout (dt : Nat) (port : Fin 16) : Statement (.dozeIdleTimeout dt port) := of_none rfl
theorem deepIdleTimeout (dt : Nat) (port : Fin 16) : Statement (.deepIdleTimeout dt port) := of_none rfl
theorem resetNRelease (dt : Nat) (bootSrc : Fin 4) : Statement (.resetNRelease dt bootSrc) := of_none rfl
theorem vddAonGood (dt : Nat) (porst : Bool) (bootSrc : Fin 4) : Statement (.vddAonGood dt porst bootSrc) := of_none rfl
theorem refclkReturn (dt : Nat) (refF : Bool) : Statement (.refclkReturn dt refF) := of_none rfl
theorem sliceSettleDone (dt : Nat) (tile : Fin 96) : Statement (.sliceSettleDone dt tile) := of_none rfl
theorem throttlePauseEnd (dt : Nat) : Statement (.throttlePauseEnd dt) := of_none rfl
theorem encoderShortPulse (dt : Nat) (who : Fin 16) (input : Fin 3) (held : Nat) : Statement (.encoderShortPulse dt who input held) := of_none rfl
theorem configUnlockChange (dt : Nat) (unlock : Bool) : Statement (.configUnlockChange dt unlock) := of_none rfl
theorem shuttleRequestDone (dt : Nat) (ch : Fin 64) (len : Nat) (left : Nat) (host : List Byte) (hostErr : Bool) (lost : Bool) (bad : Nat) : Statement (.shuttleRequestDone dt ch len left host hostErr lost bad) := of_none rfl
theorem badCommand (dt : Nat) : Statement (.badCommand dt) := of_none rfl
theorem registerRead (dt : Nat) (addr : Nat) : Statement (.registerRead dt addr) := of_addr rfl rfl
theorem alignColumnMissing (dt : Nat) (lane : Fin 16) : Statement (.alignColumnMissing dt lane) := of_none rfl
theorem dozeExit (dt : Nat) (port : Fin 16) : Statement (.dozeExit dt port) := of_none rfl
theorem deepExit (dt : Nat) (port : Fin 16) : Statement (.deepExit dt port) := of_none rfl
theorem controlColumnSend (dt : Nat) (port : Fin 16) (align : Bool) : Statement (.controlColumnSend dt port align) := of_none rfl
theorem bobbinReturn (dt : Nat) (port : Fin 16) (cls : Fin 4) : Statement (.bobbinReturn dt port cls) := of_none rfl
theorem wakeDone (dt : Nat) : Statement (.wakeDone dt) := of_none rfl
theorem buttonPress (dt : Nat) (teach : Bool) : Statement (.buttonPress dt teach) := of_none rfl

end Laws.RegisterAddress

end Sys2Proof
end

