-- ==== Sys2Proof/Laws/State.lean ====
section
/-! SUPPORT. Each update of the state field by field: what it leaves as it is, and for units kept in tables what is read after an
update. -/

namespace Sys2Proof.Machine

set_option Elab.async false

/-! ### advance -/

@[simp] theorem State.advance_pending (s : State) (dt : Nat) : (s.advance dt).pending = s.pending := rfl
@[simp] theorem State.advance_releasedAt (s : State) (dt : Nat) : (s.advance dt).releasedAt = s.releasedAt := rfl
@[simp] theorem State.advance_regs (s : State) (dt : Nat) : (s.advance dt).regs = s.regs := rfl
@[simp] theorem State.advance_freeCount (s : State) (dt : Nat) : (s.advance dt).freeCount = s.freeCount := rfl
@[simp] theorem State.advance_stage (s : State) (dt : Nat) : (s.advance dt).stage = s.stage := rfl
@[simp] theorem State.advance_acqOpen (s : State) (dt : Nat) : (s.advance dt).acqOpen = s.acqOpen := rfl
@[simp] theorem State.advance_decided (s : State) (dt : Nat) : (s.advance dt).decided = s.decided := rfl
@[simp] theorem State.advance_incRaised (s : State) (dt : Nat) : (s.advance dt).incRaised = s.incRaised := rfl
@[simp] theorem State.advance_dataOvrRaised (s : State) (dt : Nat) : (s.advance dt).dataOvrRaised = s.dataOvrRaised := rfl
@[simp] theorem State.advance_closing (s : State) (dt : Nat) : (s.advance dt).closing = s.closing := rfl
@[simp] theorem State.advance_view (s : State) (dt : Nat) : (s.advance dt).view = s.view := rfl
@[simp] theorem State.advance_viewDue (s : State) (dt : Nat) : (s.advance dt).viewDue = s.viewDue := rfl
@[simp] theorem State.advance_held (s : State) (dt : Nat) : (s.advance dt).held = s.held := rfl
@[simp] theorem State.advance_cmds (s : State) (dt : Nat) : (s.advance dt).cmds = s.cmds := rfl
@[simp] theorem State.advance_heldCpl (s : State) (dt : Nat) : (s.advance dt).heldCpl = s.heldCpl := rfl
@[simp] theorem State.advance_pci (s : State) (dt : Nat) : (s.advance dt).pci = s.pci := rfl
@[simp] theorem State.advance_hiLatch (s : State) (dt : Nat) : (s.advance dt).hiLatch = s.hiLatch := rfl
@[simp] theorem State.advance_dev (s : State) (dt : Nat) : (s.advance dt).dev = s.dev := rfl
@[simp] theorem State.advance_pwr (s : State) (dt : Nat) : (s.advance dt).pwr = s.pwr := rfl
@[simp] theorem State.advance_clk (s : State) (dt : Nat) : (s.advance dt).clk = s.clk := rfl
@[simp] theorem State.advance_dram (s : State) (dt : Nat) : (s.advance dt).dram = s.dram := rfl
@[simp] theorem State.advance_spd (s : State) (dt : Nat) : (s.advance dt).spd = s.spd := rfl
@[simp] theorem State.advance_mem (s : State) (dt : Nat) : (s.advance dt).mem = s.mem := rfl
@[simp] theorem State.advance_shu (s : State) (dt : Nat) : (s.advance dt).shu = s.shu := rfl
@[simp] theorem State.advance_toStage (s : State) (dt : Nat) : (s.advance dt).toStage = s.toStage := rfl
@[simp] theorem State.advance_tiles (s : State) (dt : Nat) : (s.advance dt).tiles = s.tiles := rfl
@[simp] theorem State.advance_frm (s : State) (dt : Nat) : (s.advance dt).frm = s.frm := rfl
@[simp] theorem State.advance_hed (s : State) (dt : Nat) : (s.advance dt).hed = s.hed := rfl
@[simp] theorem State.advance_emd (s : State) (dt : Nat) : (s.advance dt).emd = s.emd := rfl
@[simp] theorem State.advance_encIn (s : State) (dt : Nat) : (s.advance dt).encIn = s.encIn := rfl
@[simp] theorem State.advance_trd (s : State) (dt : Nat) : (s.advance dt).trd = s.trd := rfl
@[simp] theorem State.advance_sel (s : State) (dt : Nat) : (s.advance dt).sel = s.sel := rfl
@[simp] theorem State.advance_saf (s : State) (dt : Nat) : (s.advance dt).saf = s.saf := rfl
@[simp] theorem State.advance_img (s : State) (dt : Nat) : (s.advance dt).img = s.img := rfl
@[simp] theorem State.advance_fuse (s : State) (dt : Nat) : (s.advance dt).fuse = s.fuse := rfl
@[simp] theorem State.advance_wire (s : State) (dt : Nat) : (s.advance dt).wire = s.wire := rfl
@[simp] theorem State.advance_lnk (s : State) (dt : Nat) : (s.advance dt).lnk = s.lnk := rfl
@[simp] theorem State.advance_sup (s : State) (dt : Nat) : (s.advance dt).sup = s.sup := rfl
@[simp] theorem State.advance_thm (s : State) (dt : Nat) : (s.advance dt).thm = s.thm := rfl
@[simp] theorem State.advance_lpe (s : State) (dt : Nat) : (s.advance dt).lpe = s.lpe := rfl
@[simp] theorem State.advance_ind (s : State) (dt : Nat) : (s.advance dt).ind = s.ind := rfl
@[simp] theorem State.advance_get (s : State) (dt : Nat) (g : Fld) : (s.advance dt).get g = s.get g := rfl
@[simp] theorem State.advance_flag (s : State) (dt : Nat) (g : Fld) : (s.advance dt).flag g = s.flag g := rfl
@[simp] theorem State.advance_word (s : State) (dt : Nat) (a' : Nat) : (s.advance dt).word a' = s.word a' := rfl

/-! ### put -/

@[simp] theorem State.put_pending (s : State) (f : Fld) (v : Nat) : (s.put f v).pending = s.pending := rfl
@[simp] theorem State.put_now (s : State) (f : Fld) (v : Nat) : (s.put f v).now = s.now := rfl
@[simp] theorem State.put_releasedAt (s : State) (f : Fld) (v : Nat) : (s.put f v).releasedAt = s.releasedAt := rfl
@[simp] theorem State.put_out (s : State) (f : Fld) (v : Nat) : (s.put f v).out = s.out := rfl
@[simp] theorem State.put_freeCount (s : State) (f : Fld) (v : Nat) : (s.put f v).freeCount = s.freeCount := rfl
@[simp] theorem State.put_stage (s : State) (f : Fld) (v : Nat) : (s.put f v).stage = s.stage := rfl
@[simp] theorem State.put_acqOpen (s : State) (f : Fld) (v : Nat) : (s.put f v).acqOpen = s.acqOpen := rfl
@[simp] theorem State.put_decided (s : State) (f : Fld) (v : Nat) : (s.put f v).decided = s.decided := rfl
@[simp] theorem State.put_incRaised (s : State) (f : Fld) (v : Nat) : (s.put f v).incRaised = s.incRaised := rfl
@[simp] theorem State.put_dataOvrRaised (s : State) (f : Fld) (v : Nat) : (s.put f v).dataOvrRaised = s.dataOvrRaised := rfl
@[simp] theorem State.put_closing (s : State) (f : Fld) (v : Nat) : (s.put f v).closing = s.closing := rfl
@[simp] theorem State.put_view (s : State) (f : Fld) (v : Nat) : (s.put f v).view = s.view := rfl
@[simp] theorem State.put_viewDue (s : State) (f : Fld) (v : Nat) : (s.put f v).viewDue = s.viewDue := rfl
@[simp] theorem State.put_held (s : State) (f : Fld) (v : Nat) : (s.put f v).held = s.held := rfl
@[simp] theorem State.put_cyc (s : State) (f : Fld) (v : Nat) : (s.put f v).cyc = s.cyc := rfl
@[simp] theorem State.put_snapNow (s : State) (f : Fld) (v : Nat) : (s.put f v).snapNow = s.snapNow := rfl
@[simp] theorem State.put_cmds (s : State) (f : Fld) (v : Nat) : (s.put f v).cmds = s.cmds := rfl
@[simp] theorem State.put_heldCpl (s : State) (f : Fld) (v : Nat) : (s.put f v).heldCpl = s.heldCpl := rfl
@[simp] theorem State.put_evt (s : State) (f : Fld) (v : Nat) : (s.put f v).evt = s.evt := rfl
@[simp] theorem State.put_pci (s : State) (f : Fld) (v : Nat) : (s.put f v).pci = s.pci := rfl
@[simp] theorem State.put_hiLatch (s : State) (f : Fld) (v : Nat) : (s.put f v).hiLatch = s.hiLatch := rfl
@[simp] theorem State.put_dev (s : State) (f : Fld) (v : Nat) : (s.put f v).dev = s.dev := rfl
@[simp] theorem State.put_pwr (s : State) (f : Fld) (v : Nat) : (s.put f v).pwr = s.pwr := rfl
@[simp] theorem State.put_clk (s : State) (f : Fld) (v : Nat) : (s.put f v).clk = s.clk := rfl
@[simp] theorem State.put_spdPort (s : State) (f : Fld) (v : Nat) : (s.put f v).spdPort = s.spdPort := rfl
@[simp] theorem State.put_dram (s : State) (f : Fld) (v : Nat) : (s.put f v).dram = s.dram := rfl
@[simp] theorem State.put_spd (s : State) (f : Fld) (v : Nat) : (s.put f v).spd = s.spd := rfl
@[simp] theorem State.put_mem (s : State) (f : Fld) (v : Nat) : (s.put f v).mem = s.mem := rfl
@[simp] theorem State.put_shu (s : State) (f : Fld) (v : Nat) : (s.put f v).shu = s.shu := rfl
@[simp] theorem State.put_toStage (s : State) (f : Fld) (v : Nat) : (s.put f v).toStage = s.toStage := rfl
@[simp] theorem State.put_tiles (s : State) (f : Fld) (v : Nat) : (s.put f v).tiles = s.tiles := rfl
@[simp] theorem State.put_frm (s : State) (f : Fld) (v : Nat) : (s.put f v).frm = s.frm := rfl
@[simp] theorem State.put_hed (s : State) (f : Fld) (v : Nat) : (s.put f v).hed = s.hed := rfl
@[simp] theorem State.put_emd (s : State) (f : Fld) (v : Nat) : (s.put f v).emd = s.emd := rfl
@[simp] theorem State.put_encIn (s : State) (f : Fld) (v : Nat) : (s.put f v).encIn = s.encIn := rfl
@[simp] theorem State.put_trd (s : State) (f : Fld) (v : Nat) : (s.put f v).trd = s.trd := rfl
@[simp] theorem State.put_sel (s : State) (f : Fld) (v : Nat) : (s.put f v).sel = s.sel := rfl
@[simp] theorem State.put_saf (s : State) (f : Fld) (v : Nat) : (s.put f v).saf = s.saf := rfl
@[simp] theorem State.put_degAcc (s : State) (f : Fld) (v : Nat) : (s.put f v).degAcc = s.degAcc := rfl
@[simp] theorem State.put_img (s : State) (f : Fld) (v : Nat) : (s.put f v).img = s.img := rfl
@[simp] theorem State.put_fuse (s : State) (f : Fld) (v : Nat) : (s.put f v).fuse = s.fuse := rfl
@[simp] theorem State.put_wire (s : State) (f : Fld) (v : Nat) : (s.put f v).wire = s.wire := rfl
@[simp] theorem State.put_lnk (s : State) (f : Fld) (v : Nat) : (s.put f v).lnk = s.lnk := rfl
@[simp] theorem State.put_sup (s : State) (f : Fld) (v : Nat) : (s.put f v).sup = s.sup := rfl
@[simp] theorem State.put_thm (s : State) (f : Fld) (v : Nat) : (s.put f v).thm = s.thm := rfl
@[simp] theorem State.put_lpe (s : State) (f : Fld) (v : Nat) : (s.put f v).lpe = s.lpe := rfl
@[simp] theorem State.put_ind (s : State) (f : Fld) (v : Nat) : (s.put f v).ind = s.ind := rfl

/-! ### putB -/

@[simp] theorem State.putB_pending (s : State) (f : Fld) (b : Bool) : (s.putB f b).pending = s.pending := rfl
@[simp] theorem State.putB_now (s : State) (f : Fld) (b : Bool) : (s.putB f b).now = s.now := rfl
@[simp] theorem State.putB_releasedAt (s : State) (f : Fld) (b : Bool) : (s.putB f b).releasedAt = s.releasedAt := rfl
@[simp] theorem State.putB_out (s : State) (f : Fld) (b : Bool) : (s.putB f b).out = s.out := rfl
@[simp] theorem State.putB_freeCount (s : State) (f : Fld) (b : Bool) : (s.putB f b).freeCount = s.freeCount := rfl
@[simp] theorem State.putB_stage (s : State) (f : Fld) (b : Bool) : (s.putB f b).stage = s.stage := rfl
@[simp] theorem State.putB_acqOpen (s : State) (f : Fld) (b : Bool) : (s.putB f b).acqOpen = s.acqOpen := rfl
@[simp] theorem State.putB_decided (s : State) (f : Fld) (b : Bool) : (s.putB f b).decided = s.decided := rfl
@[simp] theorem State.putB_incRaised (s : State) (f : Fld) (b : Bool) : (s.putB f b).incRaised = s.incRaised := rfl
@[simp] theorem State.putB_dataOvrRaised (s : State) (f : Fld) (b : Bool) : (s.putB f b).dataOvrRaised = s.dataOvrRaised := rfl
@[simp] theorem State.putB_closing (s : State) (f : Fld) (b : Bool) : (s.putB f b).closing = s.closing := rfl
@[simp] theorem State.putB_view (s : State) (f : Fld) (b : Bool) : (s.putB f b).view = s.view := rfl
@[simp] theorem State.putB_viewDue (s : State) (f : Fld) (b : Bool) : (s.putB f b).viewDue = s.viewDue := rfl
@[simp] theorem State.putB_held (s : State) (f : Fld) (b : Bool) : (s.putB f b).held = s.held := rfl
@[simp] theorem State.putB_cyc (s : State) (f : Fld) (b : Bool) : (s.putB f b).cyc = s.cyc := rfl
@[simp] theorem State.putB_snapNow (s : State) (f : Fld) (b : Bool) : (s.putB f b).snapNow = s.snapNow := rfl
@[simp] theorem State.putB_cmds (s : State) (f : Fld) (b : Bool) : (s.putB f b).cmds = s.cmds := rfl
@[simp] theorem State.putB_heldCpl (s : State) (f : Fld) (b : Bool) : (s.putB f b).heldCpl = s.heldCpl := rfl
@[simp] theorem State.putB_evt (s : State) (f : Fld) (b : Bool) : (s.putB f b).evt = s.evt := rfl
@[simp] theorem State.putB_pci (s : State) (f : Fld) (b : Bool) : (s.putB f b).pci = s.pci := rfl
@[simp] theorem State.putB_hiLatch (s : State) (f : Fld) (b : Bool) : (s.putB f b).hiLatch = s.hiLatch := rfl
@[simp] theorem State.putB_dev (s : State) (f : Fld) (b : Bool) : (s.putB f b).dev = s.dev := rfl
@[simp] theorem State.putB_pwr (s : State) (f : Fld) (b : Bool) : (s.putB f b).pwr = s.pwr := rfl
@[simp] theorem State.putB_clk (s : State) (f : Fld) (b : Bool) : (s.putB f b).clk = s.clk := rfl
@[simp] theorem State.putB_spdPort (s : State) (f : Fld) (b : Bool) : (s.putB f b).spdPort = s.spdPort := rfl
@[simp] theorem State.putB_dram (s : State) (f : Fld) (b : Bool) : (s.putB f b).dram = s.dram := rfl
@[simp] theorem State.putB_spd (s : State) (f : Fld) (b : Bool) : (s.putB f b).spd = s.spd := rfl
@[simp] theorem State.putB_mem (s : State) (f : Fld) (b : Bool) : (s.putB f b).mem = s.mem := rfl
@[simp] theorem State.putB_shu (s : State) (f : Fld) (b : Bool) : (s.putB f b).shu = s.shu := rfl
@[simp] theorem State.putB_toStage (s : State) (f : Fld) (b : Bool) : (s.putB f b).toStage = s.toStage := rfl
@[simp] theorem State.putB_tiles (s : State) (f : Fld) (b : Bool) : (s.putB f b).tiles = s.tiles := rfl
@[simp] theorem State.putB_frm (s : State) (f : Fld) (b : Bool) : (s.putB f b).frm = s.frm := rfl
@[simp] theorem State.putB_hed (s : State) (f : Fld) (b : Bool) : (s.putB f b).hed = s.hed := rfl
@[simp] theorem State.putB_emd (s : State) (f : Fld) (b : Bool) : (s.putB f b).emd = s.emd := rfl
@[simp] theorem State.putB_encIn (s : State) (f : Fld) (b : Bool) : (s.putB f b).encIn = s.encIn := rfl
@[simp] theorem State.putB_trd (s : State) (f : Fld) (b : Bool) : (s.putB f b).trd = s.trd := rfl
@[simp] theorem State.putB_sel (s : State) (f : Fld) (b : Bool) : (s.putB f b).sel = s.sel := rfl
@[simp] theorem State.putB_saf (s : State) (f : Fld) (b : Bool) : (s.putB f b).saf = s.saf := rfl
@[simp] theorem State.putB_degAcc (s : State) (f : Fld) (b : Bool) : (s.putB f b).degAcc = s.degAcc := rfl
@[simp] theorem State.putB_img (s : State) (f : Fld) (b : Bool) : (s.putB f b).img = s.img := rfl
@[simp] theorem State.putB_fuse (s : State) (f : Fld) (b : Bool) : (s.putB f b).fuse = s.fuse := rfl
@[simp] theorem State.putB_wire (s : State) (f : Fld) (b : Bool) : (s.putB f b).wire = s.wire := rfl
@[simp] theorem State.putB_lnk (s : State) (f : Fld) (b : Bool) : (s.putB f b).lnk = s.lnk := rfl
@[simp] theorem State.putB_sup (s : State) (f : Fld) (b : Bool) : (s.putB f b).sup = s.sup := rfl
@[simp] theorem State.putB_thm (s : State) (f : Fld) (b : Bool) : (s.putB f b).thm = s.thm := rfl
@[simp] theorem State.putB_lpe (s : State) (f : Fld) (b : Bool) : (s.putB f b).lpe = s.lpe := rfl
@[simp] theorem State.putB_ind (s : State) (f : Fld) (b : Bool) : (s.putB f b).ind = s.ind := rfl

/-! ### setWord -/

@[simp] theorem State.setWord_pending (s : State) (a : Nat) (w : Word) : (s.setWord a w).pending = s.pending := rfl
@[simp] theorem State.setWord_now (s : State) (a : Nat) (w : Word) : (s.setWord a w).now = s.now := rfl
@[simp] theorem State.setWord_releasedAt (s : State) (a : Nat) (w : Word) : (s.setWord a w).releasedAt = s.releasedAt := rfl
@[simp] theorem State.setWord_out (s : State) (a : Nat) (w : Word) : (s.setWord a w).out = s.out := rfl
@[simp] theorem State.setWord_freeCount (s : State) (a : Nat) (w : Word) : (s.setWord a w).freeCount = s.freeCount := rfl
@[simp] theorem State.setWord_stage (s : State) (a : Nat) (w : Word) : (s.setWord a w).stage = s.stage := rfl
@[simp] theorem State.setWord_acqOpen (s : State) (a : Nat) (w : Word) : (s.setWord a w).acqOpen = s.acqOpen := rfl
@[simp] theorem State.setWord_decided (s : State) (a : Nat) (w : Word) : (s.setWord a w).decided = s.decided := rfl
@[simp] theorem State.setWord_incRaised (s : State) (a : Nat) (w : Word) : (s.setWord a w).incRaised = s.incRaised := rfl
@[simp] theorem State.setWord_dataOvrRaised (s : State) (a : Nat) (w : Word) : (s.setWord a w).dataOvrRaised = s.dataOvrRaised := rfl
@[simp] theorem State.setWord_closing (s : State) (a : Nat) (w : Word) : (s.setWord a w).closing = s.closing := rfl
@[simp] theorem State.setWord_view (s : State) (a : Nat) (w : Word) : (s.setWord a w).view = s.view := rfl
@[simp] theorem State.setWord_viewDue (s : State) (a : Nat) (w : Word) : (s.setWord a w).viewDue = s.viewDue := rfl
@[simp] theorem State.setWord_held (s : State) (a : Nat) (w : Word) : (s.setWord a w).held = s.held := rfl
@[simp] theorem State.setWord_cyc (s : State) (a : Nat) (w : Word) : (s.setWord a w).cyc = s.cyc := rfl
@[simp] theorem State.setWord_snapNow (s : State) (a : Nat) (w : Word) : (s.setWord a w).snapNow = s.snapNow := rfl
@[simp] theorem State.setWord_cmds (s : State) (a : Nat) (w : Word) : (s.setWord a w).cmds = s.cmds := rfl
@[simp] theorem State.setWord_heldCpl (s : State) (a : Nat) (w : Word) : (s.setWord a w).heldCpl = s.heldCpl := rfl
@[simp] theorem State.setWord_evt (s : State) (a : Nat) (w : Word) : (s.setWord a w).evt = s.evt := rfl
@[simp] theorem State.setWord_pci (s : State) (a : Nat) (w : Word) : (s.setWord a w).pci = s.pci := rfl
@[simp] theorem State.setWord_hiLatch (s : State) (a : Nat) (w : Word) : (s.setWord a w).hiLatch = s.hiLatch := rfl
@[simp] theorem State.setWord_dev (s : State) (a : Nat) (w : Word) : (s.setWord a w).dev = s.dev := rfl
@[simp] theorem State.setWord_pwr (s : State) (a : Nat) (w : Word) : (s.setWord a w).pwr = s.pwr := rfl
@[simp] theorem State.setWord_clk (s : State) (a : Nat) (w : Word) : (s.setWord a w).clk = s.clk := rfl
@[simp] theorem State.setWord_spdPort (s : State) (a : Nat) (w : Word) : (s.setWord a w).spdPort = s.spdPort := rfl
@[simp] theorem State.setWord_dram (s : State) (a : Nat) (w : Word) : (s.setWord a w).dram = s.dram := rfl
@[simp] theorem State.setWord_spd (s : State) (a : Nat) (w : Word) : (s.setWord a w).spd = s.spd := rfl
@[simp] theorem State.setWord_mem (s : State) (a : Nat) (w : Word) : (s.setWord a w).mem = s.mem := rfl
@[simp] theorem State.setWord_shu (s : State) (a : Nat) (w : Word) : (s.setWord a w).shu = s.shu := rfl
@[simp] theorem State.setWord_toStage (s : State) (a : Nat) (w : Word) : (s.setWord a w).toStage = s.toStage := rfl
@[simp] theorem State.setWord_tiles (s : State) (a : Nat) (w : Word) : (s.setWord a w).tiles = s.tiles := rfl
@[simp] theorem State.setWord_frm (s : State) (a : Nat) (w : Word) : (s.setWord a w).frm = s.frm := rfl
@[simp] theorem State.setWord_hed (s : State) (a : Nat) (w : Word) : (s.setWord a w).hed = s.hed := rfl
@[simp] theorem State.setWord_emd (s : State) (a : Nat) (w : Word) : (s.setWord a w).emd = s.emd := rfl
@[simp] theorem State.setWord_encIn (s : State) (a : Nat) (w : Word) : (s.setWord a w).encIn = s.encIn := rfl
@[simp] theorem State.setWord_trd (s : State) (a : Nat) (w : Word) : (s.setWord a w).trd = s.trd := rfl
@[simp] theorem State.setWord_sel (s : State) (a : Nat) (w : Word) : (s.setWord a w).sel = s.sel := rfl
@[simp] theorem State.setWord_saf (s : State) (a : Nat) (w : Word) : (s.setWord a w).saf = s.saf := rfl
@[simp] theorem State.setWord_degAcc (s : State) (a : Nat) (w : Word) : (s.setWord a w).degAcc = s.degAcc := rfl
@[simp] theorem State.setWord_img (s : State) (a : Nat) (w : Word) : (s.setWord a w).img = s.img := rfl
@[simp] theorem State.setWord_fuse (s : State) (a : Nat) (w : Word) : (s.setWord a w).fuse = s.fuse := rfl
@[simp] theorem State.setWord_wire (s : State) (a : Nat) (w : Word) : (s.setWord a w).wire = s.wire := rfl
@[simp] theorem State.setWord_lnk (s : State) (a : Nat) (w : Word) : (s.setWord a w).lnk = s.lnk := rfl
@[simp] theorem State.setWord_sup (s : State) (a : Nat) (w : Word) : (s.setWord a w).sup = s.sup := rfl
@[simp] theorem State.setWord_thm (s : State) (a : Nat) (w : Word) : (s.setWord a w).thm = s.thm := rfl
@[simp] theorem State.setWord_lpe (s : State) (a : Nat) (w : Word) : (s.setWord a w).lpe = s.lpe := rfl
@[simp] theorem State.setWord_ind (s : State) (a : Nat) (w : Word) : (s.setWord a w).ind = s.ind := rfl

/-! ### addSat -/

@[simp] theorem State.addSat_pending (s : State) (f : Fld) (n : Nat) : (s.addSat f n).pending = s.pending := rfl
@[simp] theorem State.addSat_now (s : State) (f : Fld) (n : Nat) : (s.addSat f n).now = s.now := rfl
@[simp] theorem State.addSat_releasedAt (s : State) (f : Fld) (n : Nat) : (s.addSat f n).releasedAt = s.releasedAt := rfl
@[simp] theorem State.addSat_out (s : State) (f : Fld) (n : Nat) : (s.addSat f n).out = s.out := rfl
@[simp] theorem State.addSat_freeCount (s : State) (f : Fld) (n : Nat) : (s.addSat f n).freeCount = s.freeCount := rfl
@[simp] theorem State.addSat_stage (s : State) (f : Fld) (n : Nat) : (s.addSat f n).stage = s.stage := rfl
@[simp] theorem State.addSat_acqOpen (s : State) (f : Fld) (n : Nat) : (s.addSat f n).acqOpen = s.acqOpen := rfl
@[simp] theorem State.addSat_decided (s : State) (f : Fld) (n : Nat) : (s.addSat f n).decided = s.decided := rfl
@[simp] theorem State.addSat_incRaised (s : State) (f : Fld) (n : Nat) : (s.addSat f n).incRaised = s.incRaised := rfl
@[simp] theorem State.addSat_dataOvrRaised (s : State) (f : Fld) (n : Nat) : (s.addSat f n).dataOvrRaised = s.dataOvrRaised := rfl
@[simp] theorem State.addSat_closing (s : State) (f : Fld) (n : Nat) : (s.addSat f n).closing = s.closing := rfl
@[simp] theorem State.addSat_view (s : State) (f : Fld) (n : Nat) : (s.addSat f n).view = s.view := rfl
@[simp] theorem State.addSat_viewDue (s : State) (f : Fld) (n : Nat) : (s.addSat f n).viewDue = s.viewDue := rfl
@[simp] theorem State.addSat_held (s : State) (f : Fld) (n : Nat) : (s.addSat f n).held = s.held := rfl
@[simp] theorem State.addSat_cyc (s : State) (f : Fld) (n : Nat) : (s.addSat f n).cyc = s.cyc := rfl
@[simp] theorem State.addSat_snapNow (s : State) (f : Fld) (n : Nat) : (s.addSat f n).snapNow = s.snapNow := rfl
@[simp] theorem State.addSat_cmds (s : State) (f : Fld) (n : Nat) : (s.addSat f n).cmds = s.cmds := rfl
@[simp] theorem State.addSat_heldCpl (s : State) (f : Fld) (n : Nat) : (s.addSat f n).heldCpl = s.heldCpl := rfl
@[simp] theorem State.addSat_evt (s : State) (f : Fld) (n : Nat) : (s.addSat f n).evt = s.evt := rfl
@[simp] theorem State.addSat_pci (s : State) (f : Fld) (n : Nat) : (s.addSat f n).pci = s.pci := rfl
@[simp] theorem State.addSat_hiLatch (s : State) (f : Fld) (n : Nat) : (s.addSat f n).hiLatch = s.hiLatch := rfl
@[simp] theorem State.addSat_dev (s : State) (f : Fld) (n : Nat) : (s.addSat f n).dev = s.dev := rfl
@[simp] theorem State.addSat_pwr (s : State) (f : Fld) (n : Nat) : (s.addSat f n).pwr = s.pwr := rfl
@[simp] theorem State.addSat_clk (s : State) (f : Fld) (n : Nat) : (s.addSat f n).clk = s.clk := rfl
@[simp] theorem State.addSat_spdPort (s : State) (f : Fld) (n : Nat) : (s.addSat f n).spdPort = s.spdPort := rfl
@[simp] theorem State.addSat_dram (s : State) (f : Fld) (n : Nat) : (s.addSat f n).dram = s.dram := rfl
@[simp] theorem State.addSat_spd (s : State) (f : Fld) (n : Nat) : (s.addSat f n).spd = s.spd := rfl
@[simp] theorem State.addSat_mem (s : State) (f : Fld) (n : Nat) : (s.addSat f n).mem = s.mem := rfl
@[simp] theorem State.addSat_shu (s : State) (f : Fld) (n : Nat) : (s.addSat f n).shu = s.shu := rfl
@[simp] theorem State.addSat_toStage (s : State) (f : Fld) (n : Nat) : (s.addSat f n).toStage = s.toStage := rfl
@[simp] theorem State.addSat_tiles (s : State) (f : Fld) (n : Nat) : (s.addSat f n).tiles = s.tiles := rfl
@[simp] theorem State.addSat_frm (s : State) (f : Fld) (n : Nat) : (s.addSat f n).frm = s.frm := rfl
@[simp] theorem State.addSat_hed (s : State) (f : Fld) (n : Nat) : (s.addSat f n).hed = s.hed := rfl
@[simp] theorem State.addSat_emd (s : State) (f : Fld) (n : Nat) : (s.addSat f n).emd = s.emd := rfl
@[simp] theorem State.addSat_encIn (s : State) (f : Fld) (n : Nat) : (s.addSat f n).encIn = s.encIn := rfl
@[simp] theorem State.addSat_trd (s : State) (f : Fld) (n : Nat) : (s.addSat f n).trd = s.trd := rfl
@[simp] theorem State.addSat_sel (s : State) (f : Fld) (n : Nat) : (s.addSat f n).sel = s.sel := rfl
@[simp] theorem State.addSat_saf (s : State) (f : Fld) (n : Nat) : (s.addSat f n).saf = s.saf := rfl
@[simp] theorem State.addSat_degAcc (s : State) (f : Fld) (n : Nat) : (s.addSat f n).degAcc = s.degAcc := rfl
@[simp] theorem State.addSat_img (s : State) (f : Fld) (n : Nat) : (s.addSat f n).img = s.img := rfl
@[simp] theorem State.addSat_fuse (s : State) (f : Fld) (n : Nat) : (s.addSat f n).fuse = s.fuse := rfl
@[simp] theorem State.addSat_wire (s : State) (f : Fld) (n : Nat) : (s.addSat f n).wire = s.wire := rfl
@[simp] theorem State.addSat_lnk (s : State) (f : Fld) (n : Nat) : (s.addSat f n).lnk = s.lnk := rfl
@[simp] theorem State.addSat_sup (s : State) (f : Fld) (n : Nat) : (s.addSat f n).sup = s.sup := rfl
@[simp] theorem State.addSat_thm (s : State) (f : Fld) (n : Nat) : (s.addSat f n).thm = s.thm := rfl
@[simp] theorem State.addSat_lpe (s : State) (f : Fld) (n : Nat) : (s.addSat f n).lpe = s.lpe := rfl
@[simp] theorem State.addSat_ind (s : State) (f : Fld) (n : Nat) : (s.addSat f n).ind = s.ind := rfl

/-! ### bump -/

@[simp] theorem State.bump_pending (s : State) (f : Fld) : (s.bump f).pending = s.pending := rfl
@[simp] theorem State.bump_now (s : State) (f : Fld) : (s.bump f).now = s.now := rfl
@[simp] theorem State.bump_releasedAt (s : State) (f : Fld) : (s.bump f).releasedAt = s.releasedAt := rfl
@[simp] theorem State.bump_out (s : State) (f : Fld) : (s.bump f).out = s.out := rfl
@[simp] theorem State.bump_freeCount (s : State) (f : Fld) : (s.bump f).freeCount = s.freeCount := rfl
@[simp] theorem State.bump_stage (s : State) (f : Fld) : (s.bump f).stage = s.stage := rfl
@[simp] theorem State.bump_acqOpen (s : State) (f : Fld) : (s.bump f).acqOpen = s.acqOpen := rfl
@[simp] theorem State.bump_decided (s : State) (f : Fld) : (s.bump f).decided = s.decided := rfl
@[simp] theorem State.bump_incRaised (s : State) (f : Fld) : (s.bump f).incRaised = s.incRaised := rfl
@[simp] theorem State.bump_dataOvrRaised (s : State) (f : Fld) : (s.bump f).dataOvrRaised = s.dataOvrRaised := rfl
@[simp] theorem State.bump_closing (s : State) (f : Fld) : (s.bump f).closing = s.closing := rfl
@[simp] theorem State.bump_view (s : State) (f : Fld) : (s.bump f).view = s.view := rfl
@[simp] theorem State.bump_viewDue (s : State) (f : Fld) : (s.bump f).viewDue = s.viewDue := rfl
@[simp] theorem State.bump_held (s : State) (f : Fld) : (s.bump f).held = s.held := rfl
@[simp] theorem State.bump_cyc (s : State) (f : Fld) : (s.bump f).cyc = s.cyc := rfl
@[simp] theorem State.bump_snapNow (s : State) (f : Fld) : (s.bump f).snapNow = s.snapNow := rfl
@[simp] theorem State.bump_cmds (s : State) (f : Fld) : (s.bump f).cmds = s.cmds := rfl
@[simp] theorem State.bump_heldCpl (s : State) (f : Fld) : (s.bump f).heldCpl = s.heldCpl := rfl
@[simp] theorem State.bump_evt (s : State) (f : Fld) : (s.bump f).evt = s.evt := rfl
@[simp] theorem State.bump_pci (s : State) (f : Fld) : (s.bump f).pci = s.pci := rfl
@[simp] theorem State.bump_hiLatch (s : State) (f : Fld) : (s.bump f).hiLatch = s.hiLatch := rfl
@[simp] theorem State.bump_dev (s : State) (f : Fld) : (s.bump f).dev = s.dev := rfl
@[simp] theorem State.bump_pwr (s : State) (f : Fld) : (s.bump f).pwr = s.pwr := rfl
@[simp] theorem State.bump_clk (s : State) (f : Fld) : (s.bump f).clk = s.clk := rfl
@[simp] theorem State.bump_spdPort (s : State) (f : Fld) : (s.bump f).spdPort = s.spdPort := rfl
@[simp] theorem State.bump_dram (s : State) (f : Fld) : (s.bump f).dram = s.dram := rfl
@[simp] theorem State.bump_spd (s : State) (f : Fld) : (s.bump f).spd = s.spd := rfl
@[simp] theorem State.bump_mem (s : State) (f : Fld) : (s.bump f).mem = s.mem := rfl
@[simp] theorem State.bump_shu (s : State) (f : Fld) : (s.bump f).shu = s.shu := rfl
@[simp] theorem State.bump_toStage (s : State) (f : Fld) : (s.bump f).toStage = s.toStage := rfl
@[simp] theorem State.bump_tiles (s : State) (f : Fld) : (s.bump f).tiles = s.tiles := rfl
@[simp] theorem State.bump_frm (s : State) (f : Fld) : (s.bump f).frm = s.frm := rfl
@[simp] theorem State.bump_hed (s : State) (f : Fld) : (s.bump f).hed = s.hed := rfl
@[simp] theorem State.bump_emd (s : State) (f : Fld) : (s.bump f).emd = s.emd := rfl
@[simp] theorem State.bump_encIn (s : State) (f : Fld) : (s.bump f).encIn = s.encIn := rfl
@[simp] theorem State.bump_trd (s : State) (f : Fld) : (s.bump f).trd = s.trd := rfl
@[simp] theorem State.bump_sel (s : State) (f : Fld) : (s.bump f).sel = s.sel := rfl
@[simp] theorem State.bump_saf (s : State) (f : Fld) : (s.bump f).saf = s.saf := rfl
@[simp] theorem State.bump_degAcc (s : State) (f : Fld) : (s.bump f).degAcc = s.degAcc := rfl
@[simp] theorem State.bump_img (s : State) (f : Fld) : (s.bump f).img = s.img := rfl
@[simp] theorem State.bump_fuse (s : State) (f : Fld) : (s.bump f).fuse = s.fuse := rfl
@[simp] theorem State.bump_wire (s : State) (f : Fld) : (s.bump f).wire = s.wire := rfl
@[simp] theorem State.bump_lnk (s : State) (f : Fld) : (s.bump f).lnk = s.lnk := rfl
@[simp] theorem State.bump_sup (s : State) (f : Fld) : (s.bump f).sup = s.sup := rfl
@[simp] theorem State.bump_thm (s : State) (f : Fld) : (s.bump f).thm = s.thm := rfl
@[simp] theorem State.bump_lpe (s : State) (f : Fld) : (s.bump f).lpe = s.lpe := rfl
@[simp] theorem State.bump_ind (s : State) (f : Fld) : (s.bump f).ind = s.ind := rfl

/-! ### setStage -/

@[simp] theorem State.setStage_pending (s : State) (g : Staging) : (s.setStage g).pending = s.pending := rfl
@[simp] theorem State.setStage_now (s : State) (g : Staging) : (s.setStage g).now = s.now := rfl
@[simp] theorem State.setStage_releasedAt (s : State) (g : Staging) : (s.setStage g).releasedAt = s.releasedAt := rfl
@[simp] theorem State.setStage_out (s : State) (g : Staging) : (s.setStage g).out = s.out := rfl
@[simp] theorem State.setStage_freeCount (s : State) (g : Staging) : (s.setStage g).freeCount = s.freeCount := rfl
@[simp] theorem State.setStage_acqOpen (s : State) (g : Staging) : (s.setStage g).acqOpen = s.acqOpen := rfl
@[simp] theorem State.setStage_decided (s : State) (g : Staging) : (s.setStage g).decided = s.decided := rfl
@[simp] theorem State.setStage_incRaised (s : State) (g : Staging) : (s.setStage g).incRaised = s.incRaised := rfl
@[simp] theorem State.setStage_dataOvrRaised (s : State) (g : Staging) : (s.setStage g).dataOvrRaised = s.dataOvrRaised := rfl
@[simp] theorem State.setStage_closing (s : State) (g : Staging) : (s.setStage g).closing = s.closing := rfl
@[simp] theorem State.setStage_view (s : State) (g : Staging) : (s.setStage g).view = s.view := rfl
@[simp] theorem State.setStage_viewDue (s : State) (g : Staging) : (s.setStage g).viewDue = s.viewDue := rfl
@[simp] theorem State.setStage_held (s : State) (g : Staging) : (s.setStage g).held = s.held := rfl
@[simp] theorem State.setStage_cyc (s : State) (g : Staging) : (s.setStage g).cyc = s.cyc := rfl
@[simp] theorem State.setStage_snapNow (s : State) (g : Staging) : (s.setStage g).snapNow = s.snapNow := rfl
@[simp] theorem State.setStage_cmds (s : State) (g : Staging) : (s.setStage g).cmds = s.cmds := rfl
@[simp] theorem State.setStage_heldCpl (s : State) (g : Staging) : (s.setStage g).heldCpl = s.heldCpl := rfl
@[simp] theorem State.setStage_evt (s : State) (g : Staging) : (s.setStage g).evt = s.evt := rfl
@[simp] theorem State.setStage_pci (s : State) (g : Staging) : (s.setStage g).pci = s.pci := rfl
@[simp] theorem State.setStage_hiLatch (s : State) (g : Staging) : (s.setStage g).hiLatch = s.hiLatch := rfl
@[simp] theorem State.setStage_dev (s : State) (g : Staging) : (s.setStage g).dev = s.dev := rfl
@[simp] theorem State.setStage_pwr (s : State) (g : Staging) : (s.setStage g).pwr = s.pwr := rfl
@[simp] theorem State.setStage_clk (s : State) (g : Staging) : (s.setStage g).clk = s.clk := rfl
@[simp] theorem State.setStage_spdPort (s : State) (g : Staging) : (s.setStage g).spdPort = s.spdPort := rfl
@[simp] theorem State.setStage_dram (s : State) (g : Staging) : (s.setStage g).dram = s.dram := rfl
@[simp] theorem State.setStage_spd (s : State) (g : Staging) : (s.setStage g).spd = s.spd := rfl
@[simp] theorem State.setStage_mem (s : State) (g : Staging) : (s.setStage g).mem = s.mem := rfl
@[simp] theorem State.setStage_shu (s : State) (g : Staging) : (s.setStage g).shu = s.shu := rfl
@[simp] theorem State.setStage_toStage (s : State) (g : Staging) : (s.setStage g).toStage = s.toStage := rfl
@[simp] theorem State.setStage_tiles (s : State) (g : Staging) : (s.setStage g).tiles = s.tiles := rfl
@[simp] theorem State.setStage_frm (s : State) (g : Staging) : (s.setStage g).frm = s.frm := rfl
@[simp] theorem State.setStage_hed (s : State) (g : Staging) : (s.setStage g).hed = s.hed := rfl
@[simp] theorem State.setStage_emd (s : State) (g : Staging) : (s.setStage g).emd = s.emd := rfl
@[simp] theorem State.setStage_encIn (s : State) (g : Staging) : (s.setStage g).encIn = s.encIn := rfl
@[simp] theorem State.setStage_trd (s : State) (g : Staging) : (s.setStage g).trd = s.trd := rfl
@[simp] theorem State.setStage_sel (s : State) (g : Staging) : (s.setStage g).sel = s.sel := rfl
@[simp] theorem State.setStage_saf (s : State) (g : Staging) : (s.setStage g).saf = s.saf := rfl
@[simp] theorem State.setStage_degAcc (s : State) (g : Staging) : (s.setStage g).degAcc = s.degAcc := rfl
@[simp] theorem State.setStage_img (s : State) (g : Staging) : (s.setStage g).img = s.img := rfl
@[simp] theorem State.setStage_fuse (s : State) (g : Staging) : (s.setStage g).fuse = s.fuse := rfl
@[simp] theorem State.setStage_wire (s : State) (g : Staging) : (s.setStage g).wire = s.wire := rfl
@[simp] theorem State.setStage_lnk (s : State) (g : Staging) : (s.setStage g).lnk = s.lnk := rfl
@[simp] theorem State.setStage_sup (s : State) (g : Staging) : (s.setStage g).sup = s.sup := rfl
@[simp] theorem State.setStage_thm (s : State) (g : Staging) : (s.setStage g).thm = s.thm := rfl
@[simp] theorem State.setStage_lpe (s : State) (g : Staging) : (s.setStage g).lpe = s.lpe := rfl
@[simp] theorem State.setStage_ind (s : State) (g : Staging) : (s.setStage g).ind = s.ind := rfl

/-! ### emit -/

@[simp] theorem State.emit_pending (s : State) (o : Output) : (s.emit o).pending = s.pending := rfl
@[simp] theorem State.emit_now (s : State) (o : Output) : (s.emit o).now = s.now := rfl
@[simp] theorem State.emit_releasedAt (s : State) (o : Output) : (s.emit o).releasedAt = s.releasedAt := rfl
@[simp] theorem State.emit_regs (s : State) (o : Output) : (s.emit o).regs = s.regs := rfl
@[simp] theorem State.emit_freeCount (s : State) (o : Output) : (s.emit o).freeCount = s.freeCount := rfl
@[simp] theorem State.emit_stage (s : State) (o : Output) : (s.emit o).stage = s.stage := rfl
@[simp] theorem State.emit_acqOpen (s : State) (o : Output) : (s.emit o).acqOpen = s.acqOpen := rfl
@[simp] theorem State.emit_decided (s : State) (o : Output) : (s.emit o).decided = s.decided := rfl
@[simp] theorem State.emit_incRaised (s : State) (o : Output) : (s.emit o).incRaised = s.incRaised := rfl
@[simp] theorem State.emit_dataOvrRaised (s : State) (o : Output) : (s.emit o).dataOvrRaised = s.dataOvrRaised := rfl
@[simp] theorem State.emit_closing (s : State) (o : Output) : (s.emit o).closing = s.closing := rfl
@[simp] theorem State.emit_view (s : State) (o : Output) : (s.emit o).view = s.view := rfl
@[simp] theorem State.emit_viewDue (s : State) (o : Output) : (s.emit o).viewDue = s.viewDue := rfl
@[simp] theorem State.emit_held (s : State) (o : Output) : (s.emit o).held = s.held := rfl
@[simp] theorem State.emit_cyc (s : State) (o : Output) : (s.emit o).cyc = s.cyc := rfl
@[simp] theorem State.emit_snapNow (s : State) (o : Output) : (s.emit o).snapNow = s.snapNow := rfl
@[simp] theorem State.emit_cmds (s : State) (o : Output) : (s.emit o).cmds = s.cmds := rfl
@[simp] theorem State.emit_heldCpl (s : State) (o : Output) : (s.emit o).heldCpl = s.heldCpl := rfl
@[simp] theorem State.emit_evt (s : State) (o : Output) : (s.emit o).evt = s.evt := rfl
@[simp] theorem State.emit_pci (s : State) (o : Output) : (s.emit o).pci = s.pci := rfl
@[simp] theorem State.emit_hiLatch (s : State) (o : Output) : (s.emit o).hiLatch = s.hiLatch := rfl
@[simp] theorem State.emit_dev (s : State) (o : Output) : (s.emit o).dev = s.dev := rfl
@[simp] theorem State.emit_pwr (s : State) (o : Output) : (s.emit o).pwr = s.pwr := rfl
@[simp] theorem State.emit_clk (s : State) (o : Output) : (s.emit o).clk = s.clk := rfl
@[simp] theorem State.emit_spdPort (s : State) (o : Output) : (s.emit o).spdPort = s.spdPort := rfl
@[simp] theorem State.emit_dram (s : State) (o : Output) : (s.emit o).dram = s.dram := rfl
@[simp] theorem State.emit_spd (s : State) (o : Output) : (s.emit o).spd = s.spd := rfl
@[simp] theorem State.emit_mem (s : State) (o : Output) : (s.emit o).mem = s.mem := rfl
@[simp] theorem State.emit_shu (s : State) (o : Output) : (s.emit o).shu = s.shu := rfl
@[simp] theorem State.emit_toStage (s : State) (o : Output) : (s.emit o).toStage = s.toStage := rfl
@[simp] theorem State.emit_tiles (s : State) (o : Output) : (s.emit o).tiles = s.tiles := rfl
@[simp] theorem State.emit_frm (s : State) (o : Output) : (s.emit o).frm = s.frm := rfl
@[simp] theorem State.emit_hed (s : State) (o : Output) : (s.emit o).hed = s.hed := rfl
@[simp] theorem State.emit_emd (s : State) (o : Output) : (s.emit o).emd = s.emd := rfl
@[simp] theorem State.emit_encIn (s : State) (o : Output) : (s.emit o).encIn = s.encIn := rfl
@[simp] theorem State.emit_trd (s : State) (o : Output) : (s.emit o).trd = s.trd := rfl
@[simp] theorem State.emit_sel (s : State) (o : Output) : (s.emit o).sel = s.sel := rfl
@[simp] theorem State.emit_saf (s : State) (o : Output) : (s.emit o).saf = s.saf := rfl
@[simp] theorem State.emit_degAcc (s : State) (o : Output) : (s.emit o).degAcc = s.degAcc := rfl
@[simp] theorem State.emit_img (s : State) (o : Output) : (s.emit o).img = s.img := rfl
@[simp] theorem State.emit_fuse (s : State) (o : Output) : (s.emit o).fuse = s.fuse := rfl
@[simp] theorem State.emit_wire (s : State) (o : Output) : (s.emit o).wire = s.wire := rfl
@[simp] theorem State.emit_lnk (s : State) (o : Output) : (s.emit o).lnk = s.lnk := rfl
@[simp] theorem State.emit_sup (s : State) (o : Output) : (s.emit o).sup = s.sup := rfl
@[simp] theorem State.emit_thm (s : State) (o : Output) : (s.emit o).thm = s.thm := rfl
@[simp] theorem State.emit_lpe (s : State) (o : Output) : (s.emit o).lpe = s.lpe := rfl
@[simp] theorem State.emit_ind (s : State) (o : Output) : (s.emit o).ind = s.ind := rfl
@[simp] theorem State.emit_get (s : State) (o : Output) (g : Fld) : (s.emit o).get g = s.get g := rfl
@[simp] theorem State.emit_flag (s : State) (o : Output) (g : Fld) : (s.emit o).flag g = s.flag g := rfl
@[simp] theorem State.emit_word (s : State) (o : Output) (a' : Nat) : (s.emit o).word a' = s.word a' := rfl

/-! ### touch -/

@[simp] theorem State.touch_pending (s : State) (a : Nat) : (s.touch a).pending = s.pending := rfl
@[simp] theorem State.touch_now (s : State) (a : Nat) : (s.touch a).now = s.now := rfl
@[simp] theorem State.touch_releasedAt (s : State) (a : Nat) : (s.touch a).releasedAt = s.releasedAt := rfl
@[simp] theorem State.touch_regs (s : State) (a : Nat) : (s.touch a).regs = s.regs := rfl
@[simp] theorem State.touch_out (s : State) (a : Nat) : (s.touch a).out = s.out := rfl
@[simp] theorem State.touch_freeCount (s : State) (a : Nat) : (s.touch a).freeCount = s.freeCount := rfl
@[simp] theorem State.touch_stage (s : State) (a : Nat) : (s.touch a).stage = s.stage := rfl
@[simp] theorem State.touch_acqOpen (s : State) (a : Nat) : (s.touch a).acqOpen = s.acqOpen := rfl
@[simp] theorem State.touch_decided (s : State) (a : Nat) : (s.touch a).decided = s.decided := rfl
@[simp] theorem State.touch_incRaised (s : State) (a : Nat) : (s.touch a).incRaised = s.incRaised := rfl
@[simp] theorem State.touch_dataOvrRaised (s : State) (a : Nat) : (s.touch a).dataOvrRaised = s.dataOvrRaised := rfl
@[simp] theorem State.touch_closing (s : State) (a : Nat) : (s.touch a).closing = s.closing := rfl
@[simp] theorem State.touch_view (s : State) (a : Nat) : (s.touch a).view = s.view := rfl
@[simp] theorem State.touch_viewDue (s : State) (a : Nat) : (s.touch a).viewDue = s.viewDue := rfl
@[simp] theorem State.touch_held (s : State) (a : Nat) : (s.touch a).held = s.held := rfl
@[simp] theorem State.touch_cyc (s : State) (a : Nat) : (s.touch a).cyc = s.cyc := rfl
@[simp] theorem State.touch_snapNow (s : State) (a : Nat) : (s.touch a).snapNow = s.snapNow := rfl
@[simp] theorem State.touch_cmds (s : State) (a : Nat) : (s.touch a).cmds = s.cmds := rfl
@[simp] theorem State.touch_heldCpl (s : State) (a : Nat) : (s.touch a).heldCpl = s.heldCpl := rfl
@[simp] theorem State.touch_evt (s : State) (a : Nat) : (s.touch a).evt = s.evt := rfl
@[simp] theorem State.touch_pci (s : State) (a : Nat) : (s.touch a).pci = s.pci := rfl
@[simp] theorem State.touch_dev (s : State) (a : Nat) : (s.touch a).dev = s.dev := rfl
@[simp] theorem State.touch_pwr (s : State) (a : Nat) : (s.touch a).pwr = s.pwr := rfl
@[simp] theorem State.touch_clk (s : State) (a : Nat) : (s.touch a).clk = s.clk := rfl
@[simp] theorem State.touch_spdPort (s : State) (a : Nat) : (s.touch a).spdPort = s.spdPort := rfl
@[simp] theorem State.touch_dram (s : State) (a : Nat) : (s.touch a).dram = s.dram := rfl
@[simp] theorem State.touch_spd (s : State) (a : Nat) : (s.touch a).spd = s.spd := rfl
@[simp] theorem State.touch_mem (s : State) (a : Nat) : (s.touch a).mem = s.mem := rfl
@[simp] theorem State.touch_shu (s : State) (a : Nat) : (s.touch a).shu = s.shu := rfl
@[simp] theorem State.touch_toStage (s : State) (a : Nat) : (s.touch a).toStage = s.toStage := rfl
@[simp] theorem State.touch_tiles (s : State) (a : Nat) : (s.touch a).tiles = s.tiles := rfl
@[simp] theorem State.touch_frm (s : State) (a : Nat) : (s.touch a).frm = s.frm := rfl
@[simp] theorem State.touch_hed (s : State) (a : Nat) : (s.touch a).hed = s.hed := rfl
@[simp] theorem State.touch_emd (s : State) (a : Nat) : (s.touch a).emd = s.emd := rfl
@[simp] theorem State.touch_encIn (s : State) (a : Nat) : (s.touch a).encIn = s.encIn := rfl
@[simp] theorem State.touch_trd (s : State) (a : Nat) : (s.touch a).trd = s.trd := rfl
@[simp] theorem State.touch_sel (s : State) (a : Nat) : (s.touch a).sel = s.sel := rfl
@[simp] theorem State.touch_saf (s : State) (a : Nat) : (s.touch a).saf = s.saf := rfl
@[simp] theorem State.touch_degAcc (s : State) (a : Nat) : (s.touch a).degAcc = s.degAcc := rfl
@[simp] theorem State.touch_img (s : State) (a : Nat) : (s.touch a).img = s.img := rfl
@[simp] theorem State.touch_fuse (s : State) (a : Nat) : (s.touch a).fuse = s.fuse := rfl
@[simp] theorem State.touch_wire (s : State) (a : Nat) : (s.touch a).wire = s.wire := rfl
@[simp] theorem State.touch_lnk (s : State) (a : Nat) : (s.touch a).lnk = s.lnk := rfl
@[simp] theorem State.touch_sup (s : State) (a : Nat) : (s.touch a).sup = s.sup := rfl
@[simp] theorem State.touch_thm (s : State) (a : Nat) : (s.touch a).thm = s.thm := rfl
@[simp] theorem State.touch_lpe (s : State) (a : Nat) : (s.touch a).lpe = s.lpe := rfl
@[simp] theorem State.touch_ind (s : State) (a : Nat) : (s.touch a).ind = s.ind := rfl
@[simp] theorem State.touch_get (s : State) (a : Nat) (g : Fld) : (s.touch a).get g = s.get g := rfl
@[simp] theorem State.touch_flag (s : State) (a : Nat) (g : Fld) : (s.touch a).flag g = s.flag g := rfl
@[simp] theorem State.touch_word (s : State) (a : Nat) (a' : Nat) : (s.touch a).word a' = s.word a' := rfl

/-! ### startCmd -/

@[simp] theorem State.startCmd_pending (s : State) (c : RunCmd) : (s.startCmd c).pending = s.pending := rfl
@[simp] theorem State.startCmd_now (s : State) (c : RunCmd) : (s.startCmd c).now = s.now := rfl
@[simp] theorem State.startCmd_releasedAt (s : State) (c : RunCmd) : (s.startCmd c).releasedAt = s.releasedAt := rfl
@[simp] theorem State.startCmd_regs (s : State) (c : RunCmd) : (s.startCmd c).regs = s.regs := rfl
@[simp] theorem State.startCmd_out (s : State) (c : RunCmd) : (s.startCmd c).out = s.out := rfl
@[simp] theorem State.startCmd_freeCount (s : State) (c : RunCmd) : (s.startCmd c).freeCount = s.freeCount := rfl
@[simp] theorem State.startCmd_stage (s : State) (c : RunCmd) : (s.startCmd c).stage = s.stage := rfl
@[simp] theorem State.startCmd_acqOpen (s : State) (c : RunCmd) : (s.startCmd c).acqOpen = s.acqOpen := rfl
@[simp] theorem State.startCmd_decided (s : State) (c : RunCmd) : (s.startCmd c).decided = s.decided := rfl
@[simp] theorem State.startCmd_incRaised (s : State) (c : RunCmd) : (s.startCmd c).incRaised = s.incRaised := rfl
@[simp] theorem State.startCmd_dataOvrRaised (s : State) (c : RunCmd) : (s.startCmd c).dataOvrRaised = s.dataOvrRaised := rfl
@[simp] theorem State.startCmd_closing (s : State) (c : RunCmd) : (s.startCmd c).closing = s.closing := rfl
@[simp] theorem State.startCmd_view (s : State) (c : RunCmd) : (s.startCmd c).view = s.view := rfl
@[simp] theorem State.startCmd_viewDue (s : State) (c : RunCmd) : (s.startCmd c).viewDue = s.viewDue := rfl
@[simp] theorem State.startCmd_held (s : State) (c : RunCmd) : (s.startCmd c).held = s.held := rfl
@[simp] theorem State.startCmd_cyc (s : State) (c : RunCmd) : (s.startCmd c).cyc = s.cyc := rfl
@[simp] theorem State.startCmd_snapNow (s : State) (c : RunCmd) : (s.startCmd c).snapNow = s.snapNow := rfl
@[simp] theorem State.startCmd_heldCpl (s : State) (c : RunCmd) : (s.startCmd c).heldCpl = s.heldCpl := rfl
@[simp] theorem State.startCmd_evt (s : State) (c : RunCmd) : (s.startCmd c).evt = s.evt := rfl
@[simp] theorem State.startCmd_pci (s : State) (c : RunCmd) : (s.startCmd c).pci = s.pci := rfl
@[simp] theorem State.startCmd_hiLatch (s : State) (c : RunCmd) : (s.startCmd c).hiLatch = s.hiLatch := rfl
@[simp] theorem State.startCmd_dev (s : State) (c : RunCmd) : (s.startCmd c).dev = s.dev := rfl
@[simp] theorem State.startCmd_pwr (s : State) (c : RunCmd) : (s.startCmd c).pwr = s.pwr := rfl
@[simp] theorem State.startCmd_clk (s : State) (c : RunCmd) : (s.startCmd c).clk = s.clk := rfl
@[simp] theorem State.startCmd_spdPort (s : State) (c : RunCmd) : (s.startCmd c).spdPort = s.spdPort := rfl
@[simp] theorem State.startCmd_dram (s : State) (c : RunCmd) : (s.startCmd c).dram = s.dram := rfl
@[simp] theorem State.startCmd_spd (s : State) (c : RunCmd) : (s.startCmd c).spd = s.spd := rfl
@[simp] theorem State.startCmd_mem (s : State) (c : RunCmd) : (s.startCmd c).mem = s.mem := rfl
@[simp] theorem State.startCmd_shu (s : State) (c : RunCmd) : (s.startCmd c).shu = s.shu := rfl
@[simp] theorem State.startCmd_toStage (s : State) (c : RunCmd) : (s.startCmd c).toStage = s.toStage := rfl
@[simp] theorem State.startCmd_tiles (s : State) (c : RunCmd) : (s.startCmd c).tiles = s.tiles := rfl
@[simp] theorem State.startCmd_frm (s : State) (c : RunCmd) : (s.startCmd c).frm = s.frm := rfl
@[simp] theorem State.startCmd_hed (s : State) (c : RunCmd) : (s.startCmd c).hed = s.hed := rfl
@[simp] theorem State.startCmd_emd (s : State) (c : RunCmd) : (s.startCmd c).emd = s.emd := rfl
@[simp] theorem State.startCmd_encIn (s : State) (c : RunCmd) : (s.startCmd c).encIn = s.encIn := rfl
@[simp] theorem State.startCmd_trd (s : State) (c : RunCmd) : (s.startCmd c).trd = s.trd := rfl
@[simp] theorem State.startCmd_sel (s : State) (c : RunCmd) : (s.startCmd c).sel = s.sel := rfl
@[simp] theorem State.startCmd_saf (s : State) (c : RunCmd) : (s.startCmd c).saf = s.saf := rfl
@[simp] theorem State.startCmd_degAcc (s : State) (c : RunCmd) : (s.startCmd c).degAcc = s.degAcc := rfl
@[simp] theorem State.startCmd_img (s : State) (c : RunCmd) : (s.startCmd c).img = s.img := rfl
@[simp] theorem State.startCmd_fuse (s : State) (c : RunCmd) : (s.startCmd c).fuse = s.fuse := rfl
@[simp] theorem State.startCmd_wire (s : State) (c : RunCmd) : (s.startCmd c).wire = s.wire := rfl
@[simp] theorem State.startCmd_lnk (s : State) (c : RunCmd) : (s.startCmd c).lnk = s.lnk := rfl
@[simp] theorem State.startCmd_sup (s : State) (c : RunCmd) : (s.startCmd c).sup = s.sup := rfl
@[simp] theorem State.startCmd_thm (s : State) (c : RunCmd) : (s.startCmd c).thm = s.thm := rfl
@[simp] theorem State.startCmd_lpe (s : State) (c : RunCmd) : (s.startCmd c).lpe = s.lpe := rfl
@[simp] theorem State.startCmd_ind (s : State) (c : RunCmd) : (s.startCmd c).ind = s.ind := rfl
@[simp] theorem State.startCmd_get (s : State) (c : RunCmd) (g : Fld) : (s.startCmd c).get g = s.get g := rfl
@[simp] theorem State.startCmd_flag (s : State) (c : RunCmd) (g : Fld) : (s.startCmd c).flag g = s.flag g := rfl
@[simp] theorem State.startCmd_word (s : State) (c : RunCmd) (a' : Nat) : (s.startCmd c).word a' = s.word a' := rfl

/-! ### handOver -/

@[simp] theorem State.handOver_pending (s : State) (r : StreamRec) : (s.handOver r).pending = s.pending := rfl
@[simp] theorem State.handOver_now (s : State) (r : StreamRec) : (s.handOver r).now = s.now := rfl
@[simp] theorem State.handOver_releasedAt (s : State) (r : StreamRec) : (s.handOver r).releasedAt = s.releasedAt := rfl
@[simp] theorem State.handOver_regs (s : State) (r : StreamRec) : (s.handOver r).regs = s.regs := rfl
@[simp] theorem State.handOver_out (s : State) (r : StreamRec) : (s.handOver r).out = s.out := rfl
@[simp] theorem State.handOver_freeCount (s : State) (r : StreamRec) : (s.handOver r).freeCount = s.freeCount := rfl
@[simp] theorem State.handOver_stage (s : State) (r : StreamRec) : (s.handOver r).stage = s.stage := rfl
@[simp] theorem State.handOver_acqOpen (s : State) (r : StreamRec) : (s.handOver r).acqOpen = s.acqOpen := rfl
@[simp] theorem State.handOver_decided (s : State) (r : StreamRec) : (s.handOver r).decided = s.decided := rfl
@[simp] theorem State.handOver_incRaised (s : State) (r : StreamRec) : (s.handOver r).incRaised = s.incRaised := rfl
@[simp] theorem State.handOver_dataOvrRaised (s : State) (r : StreamRec) : (s.handOver r).dataOvrRaised = s.dataOvrRaised := rfl
@[simp] theorem State.handOver_closing (s : State) (r : StreamRec) : (s.handOver r).closing = s.closing := rfl
@[simp] theorem State.handOver_view (s : State) (r : StreamRec) : (s.handOver r).view = s.view := rfl
@[simp] theorem State.handOver_viewDue (s : State) (r : StreamRec) : (s.handOver r).viewDue = s.viewDue := rfl
@[simp] theorem State.handOver_held (s : State) (r : StreamRec) : (s.handOver r).held = s.held := rfl
@[simp] theorem State.handOver_cyc (s : State) (r : StreamRec) : (s.handOver r).cyc = s.cyc := rfl
@[simp] theorem State.handOver_snapNow (s : State) (r : StreamRec) : (s.handOver r).snapNow = s.snapNow := rfl
@[simp] theorem State.handOver_cmds (s : State) (r : StreamRec) : (s.handOver r).cmds = s.cmds := rfl
@[simp] theorem State.handOver_heldCpl (s : State) (r : StreamRec) : (s.handOver r).heldCpl = s.heldCpl := rfl
@[simp] theorem State.handOver_evt (s : State) (r : StreamRec) : (s.handOver r).evt = s.evt := rfl
@[simp] theorem State.handOver_pci (s : State) (r : StreamRec) : (s.handOver r).pci = s.pci := rfl
@[simp] theorem State.handOver_hiLatch (s : State) (r : StreamRec) : (s.handOver r).hiLatch = s.hiLatch := rfl
@[simp] theorem State.handOver_dev (s : State) (r : StreamRec) : (s.handOver r).dev = s.dev := rfl
@[simp] theorem State.handOver_pwr (s : State) (r : StreamRec) : (s.handOver r).pwr = s.pwr := rfl
@[simp] theorem State.handOver_clk (s : State) (r : StreamRec) : (s.handOver r).clk = s.clk := rfl
@[simp] theorem State.handOver_spdPort (s : State) (r : StreamRec) : (s.handOver r).spdPort = s.spdPort := rfl
@[simp] theorem State.handOver_dram (s : State) (r : StreamRec) : (s.handOver r).dram = s.dram := rfl
@[simp] theorem State.handOver_spd (s : State) (r : StreamRec) : (s.handOver r).spd = s.spd := rfl
@[simp] theorem State.handOver_mem (s : State) (r : StreamRec) : (s.handOver r).mem = s.mem := rfl
@[simp] theorem State.handOver_shu (s : State) (r : StreamRec) : (s.handOver r).shu = s.shu := rfl
@[simp] theorem State.handOver_tiles (s : State) (r : StreamRec) : (s.handOver r).tiles = s.tiles := rfl
@[simp] theorem State.handOver_frm (s : State) (r : StreamRec) : (s.handOver r).frm = s.frm := rfl
@[simp] theorem State.handOver_hed (s : State) (r : StreamRec) : (s.handOver r).hed = s.hed := rfl
@[simp] theorem State.handOver_emd (s : State) (r : StreamRec) : (s.handOver r).emd = s.emd := rfl
@[simp] theorem State.handOver_encIn (s : State) (r : StreamRec) : (s.handOver r).encIn = s.encIn := rfl
@[simp] theorem State.handOver_trd (s : State) (r : StreamRec) : (s.handOver r).trd = s.trd := rfl
@[simp] theorem State.handOver_sel (s : State) (r : StreamRec) : (s.handOver r).sel = s.sel := rfl
@[simp] theorem State.handOver_saf (s : State) (r : StreamRec) : (s.handOver r).saf = s.saf := rfl
@[simp] theorem State.handOver_degAcc (s : State) (r : StreamRec) : (s.handOver r).degAcc = s.degAcc := rfl
@[simp] theorem State.handOver_img (s : State) (r : StreamRec) : (s.handOver r).img = s.img := rfl
@[simp] theorem State.handOver_fuse (s : State) (r : StreamRec) : (s.handOver r).fuse = s.fuse := rfl
@[simp] theorem State.handOver_wire (s : State) (r : StreamRec) : (s.handOver r).wire = s.wire := rfl
@[simp] theorem State.handOver_lnk (s : State) (r : StreamRec) : (s.handOver r).lnk = s.lnk := rfl
@[simp] theorem State.handOver_sup (s : State) (r : StreamRec) : (s.handOver r).sup = s.sup := rfl
@[simp] theorem State.handOver_thm (s : State) (r : StreamRec) : (s.handOver r).thm = s.thm := rfl
@[simp] theorem State.handOver_lpe (s : State) (r : StreamRec) : (s.handOver r).lpe = s.lpe := rfl
@[simp] theorem State.handOver_ind (s : State) (r : StreamRec) : (s.handOver r).ind = s.ind := rfl
@[simp] theorem State.handOver_get (s : State) (r : StreamRec) (g : Fld) : (s.handOver r).get g = s.get g := rfl
@[simp] theorem State.handOver_flag (s : State) (r : StreamRec) (g : Fld) : (s.handOver r).flag g = s.flag g := rfl
@[simp] theorem State.handOver_word (s : State) (r : StreamRec) (a' : Nat) : (s.handOver r).word a' = s.word a' := rfl

/-! ### setAxis -/

@[simp] theorem State.setAxis_pending (s : State) (a : Nat) (x : Axis) : (s.setAxis a x).pending = s.pending := rfl
@[simp] theorem State.setAxis_now (s : State) (a : Nat) (x : Axis) : (s.setAxis a x).now = s.now := rfl
@[simp] theorem State.setAxis_releasedAt (s : State) (a : Nat) (x : Axis) : (s.setAxis a x).releasedAt = s.releasedAt := rfl
@[simp] theorem State.setAxis_regs (s : State) (a : Nat) (x : Axis) : (s.setAxis a x).regs = s.regs := rfl
@[simp] theorem State.setAxis_out (s : State) (a : Nat) (x : Axis) : (s.setAxis a x).out = s.out := rfl
@[simp] theorem State.setAxis_freeCount (s : State) (a : Nat) (x : Axis) : (s.setAxis a x).freeCount = s.freeCount := rfl
@[simp] theorem State.setAxis_stage (s : State) (a : Nat) (x : Axis) : (s.setAxis a x).stage = s.stage := rfl
@[simp] theorem State.setAxis_acqOpen (s : State) (a : Nat) (x : Axis) : (s.setAxis a x).acqOpen = s.acqOpen := rfl
@[simp] theorem State.setAxis_decided (s : State) (a : Nat) (x : Axis) : (s.setAxis a x).decided = s.decided := rfl
@[simp] theorem State.setAxis_incRaised (s : State) (a : Nat) (x : Axis) : (s.setAxis a x).incRaised = s.incRaised := rfl
@[simp] theorem State.setAxis_dataOvrRaised (s : State) (a : Nat) (x : Axis) : (s.setAxis a x).dataOvrRaised = s.dataOvrRaised := rfl
@[simp] theorem State.setAxis_closing (s : State) (a : Nat) (x : Axis) : (s.setAxis a x).closing = s.closing := rfl
@[simp] theorem State.setAxis_view (s : State) (a : Nat) (x : Axis) : (s.setAxis a x).view = s.view := rfl
@[simp] theorem State.setAxis_viewDue (s : State) (a : Nat) (x : Axis) : (s.setAxis a x).viewDue = s.viewDue := rfl
@[simp] theorem State.setAxis_held (s : State) (a : Nat) (x : Axis) : (s.setAxis a x).held = s.held := rfl
@[simp] theorem State.setAxis_cyc (s : State) (a : Nat) (x : Axis) : (s.setAxis a x).cyc = s.cyc := rfl
@[simp] theorem State.setAxis_snapNow (s : State) (a : Nat) (x : Axis) : (s.setAxis a x).snapNow = s.snapNow := rfl
@[simp] theorem State.setAxis_cmds (s : State) (a : Nat) (x : Axis) : (s.setAxis a x).cmds = s.cmds := rfl
@[simp] theorem State.setAxis_heldCpl (s : State) (a : Nat) (x : Axis) : (s.setAxis a x).heldCpl = s.heldCpl := rfl
@[simp] theorem State.setAxis_evt (s : State) (a : Nat) (x : Axis) : (s.setAxis a x).evt = s.evt := rfl
@[simp] theorem State.setAxis_pci (s : State) (a : Nat) (x : Axis) : (s.setAxis a x).pci = s.pci := rfl
@[simp] theorem State.setAxis_hiLatch (s : State) (a : Nat) (x : Axis) : (s.setAxis a x).hiLatch = s.hiLatch := rfl
@[simp] theorem State.setAxis_dev (s : State) (a : Nat) (x : Axis) : (s.setAxis a x).dev = s.dev := rfl
@[simp] theorem State.setAxis_pwr (s : State) (a : Nat) (x : Axis) : (s.setAxis a x).pwr = s.pwr := rfl
@[simp] theorem State.setAxis_clk (s : State) (a : Nat) (x : Axis) : (s.setAxis a x).clk = s.clk := rfl
@[simp] theorem State.setAxis_spdPort (s : State) (a : Nat) (x : Axis) : (s.setAxis a x).spdPort = s.spdPort := rfl
@[simp] theorem State.setAxis_dram (s : State) (a : Nat) (x : Axis) : (s.setAxis a x).dram = s.dram := rfl
@[simp] theorem State.setAxis_spd (s : State) (a : Nat) (x : Axis) : (s.setAxis a x).spd = s.spd := rfl
@[simp] theorem State.setAxis_mem (s : State) (a : Nat) (x : Axis) : (s.setAxis a x).mem = s.mem := rfl
@[simp] theorem State.setAxis_shu (s : State) (a : Nat) (x : Axis) : (s.setAxis a x).shu = s.shu := rfl
@[simp] theorem State.setAxis_toStage (s : State) (a : Nat) (x : Axis) : (s.setAxis a x).toStage = s.toStage := rfl
@[simp] theorem State.setAxis_tiles (s : State) (a : Nat) (x : Axis) : (s.setAxis a x).tiles = s.tiles := rfl
@[simp] theorem State.setAxis_frm (s : State) (a : Nat) (x : Axis) : (s.setAxis a x).frm = s.frm := rfl
@[simp] theorem State.setAxis_hed (s : State) (a : Nat) (x : Axis) : (s.setAxis a x).hed = s.hed := rfl
@[simp] theorem State.setAxis_emd (s : State) (a : Nat) (x : Axis) : (s.setAxis a x).emd = s.emd := rfl
@[simp] theorem State.setAxis_encIn (s : State) (a : Nat) (x : Axis) : (s.setAxis a x).encIn = s.encIn := rfl
@[simp] theorem State.setAxis_trd (s : State) (a : Nat) (x : Axis) : (s.setAxis a x).trd = s.trd := rfl
@[simp] theorem State.setAxis_sel (s : State) (a : Nat) (x : Axis) : (s.setAxis a x).sel = s.sel := rfl
@[simp] theorem State.setAxis_degAcc (s : State) (a : Nat) (x : Axis) : (s.setAxis a x).degAcc = s.degAcc := rfl
@[simp] theorem State.setAxis_img (s : State) (a : Nat) (x : Axis) : (s.setAxis a x).img = s.img := rfl
@[simp] theorem State.setAxis_fuse (s : State) (a : Nat) (x : Axis) : (s.setAxis a x).fuse = s.fuse := rfl
@[simp] theorem State.setAxis_wire (s : State) (a : Nat) (x : Axis) : (s.setAxis a x).wire = s.wire := rfl
@[simp] theorem State.setAxis_lnk (s : State) (a : Nat) (x : Axis) : (s.setAxis a x).lnk = s.lnk := rfl
@[simp] theorem State.setAxis_sup (s : State) (a : Nat) (x : Axis) : (s.setAxis a x).sup = s.sup := rfl
@[simp] theorem State.setAxis_thm (s : State) (a : Nat) (x : Axis) : (s.setAxis a x).thm = s.thm := rfl
@[simp] theorem State.setAxis_lpe (s : State) (a : Nat) (x : Axis) : (s.setAxis a x).lpe = s.lpe := rfl
@[simp] theorem State.setAxis_ind (s : State) (a : Nat) (x : Axis) : (s.setAxis a x).ind = s.ind := rfl
@[simp] theorem State.setAxis_get (s : State) (a : Nat) (x : Axis) (g : Fld) : (s.setAxis a x).get g = s.get g := rfl
@[simp] theorem State.setAxis_flag (s : State) (a : Nat) (x : Axis) (g : Fld) : (s.setAxis a x).flag g = s.flag g := rfl
@[simp] theorem State.setAxis_word (s : State) (a : Nat) (x : Axis) (a' : Nat) : (s.setAxis a x).word a' = s.word a' := rfl

/-! ### setPair -/

@[simp] theorem State.setPair_pending (s : State) (p : Nat) (x : Pair) : (s.setPair p x).pending = s.pending := rfl
@[simp] theorem State.setPair_now (s : State) (p : Nat) (x : Pair) : (s.setPair p x).now = s.now := rfl
@[simp] theorem State.setPair_releasedAt (s : State) (p : Nat) (x : Pair) : (s.setPair p x).releasedAt = s.releasedAt := rfl
@[simp] theorem State.setPair_regs (s : State) (p : Nat) (x : Pair) : (s.setPair p x).regs = s.regs := rfl
@[simp] theorem State.setPair_out (s : State) (p : Nat) (x : Pair) : (s.setPair p x).out = s.out := rfl
@[simp] theorem State.setPair_freeCount (s : State) (p : Nat) (x : Pair) : (s.setPair p x).freeCount = s.freeCount := rfl
@[simp] theorem State.setPair_stage (s : State) (p : Nat) (x : Pair) : (s.setPair p x).stage = s.stage := rfl
@[simp] theorem State.setPair_acqOpen (s : State) (p : Nat) (x : Pair) : (s.setPair p x).acqOpen = s.acqOpen := rfl
@[simp] theorem State.setPair_decided (s : State) (p : Nat) (x : Pair) : (s.setPair p x).decided = s.decided := rfl
@[simp] theorem State.setPair_incRaised (s : State) (p : Nat) (x : Pair) : (s.setPair p x).incRaised = s.incRaised := rfl
@[simp] theorem State.setPair_dataOvrRaised (s : State) (p : Nat) (x : Pair) : (s.setPair p x).dataOvrRaised = s.dataOvrRaised := rfl
@[simp] theorem State.setPair_closing (s : State) (p : Nat) (x : Pair) : (s.setPair p x).closing = s.closing := rfl
@[simp] theorem State.setPair_view (s : State) (p : Nat) (x : Pair) : (s.setPair p x).view = s.view := rfl
@[simp] theorem State.setPair_viewDue (s : State) (p : Nat) (x : Pair) : (s.setPair p x).viewDue = s.viewDue := rfl
@[simp] theorem State.setPair_held (s : State) (p : Nat) (x : Pair) : (s.setPair p x).held = s.held := rfl
@[simp] theorem State.setPair_cyc (s : State) (p : Nat) (x : Pair) : (s.setPair p x).cyc = s.cyc := rfl
@[simp] theorem State.setPair_snapNow (s : State) (p : Nat) (x : Pair) : (s.setPair p x).snapNow = s.snapNow := rfl
@[simp] theorem State.setPair_cmds (s : State) (p : Nat) (x : Pair) : (s.setPair p x).cmds = s.cmds := rfl
@[simp] theorem State.setPair_heldCpl (s : State) (p : Nat) (x : Pair) : (s.setPair p x).heldCpl = s.heldCpl := rfl
@[simp] theorem State.setPair_evt (s : State) (p : Nat) (x : Pair) : (s.setPair p x).evt = s.evt := rfl
@[simp] theorem State.setPair_pci (s : State) (p : Nat) (x : Pair) : (s.setPair p x).pci = s.pci := rfl
@[simp] theorem State.setPair_hiLatch (s : State) (p : Nat) (x : Pair) : (s.setPair p x).hiLatch = s.hiLatch := rfl
@[simp] theorem State.setPair_dev (s : State) (p : Nat) (x : Pair) : (s.setPair p x).dev = s.dev := rfl
@[simp] theorem State.setPair_pwr (s : State) (p : Nat) (x : Pair) : (s.setPair p x).pwr = s.pwr := rfl
@[simp] theorem State.setPair_clk (s : State) (p : Nat) (x : Pair) : (s.setPair p x).clk = s.clk := rfl
@[simp] theorem State.setPair_spdPort (s : State) (p : Nat) (x : Pair) : (s.setPair p x).spdPort = s.spdPort := rfl
@[simp] theorem State.setPair_dram (s : State) (p : Nat) (x : Pair) : (s.setPair p x).dram = s.dram := rfl
@[simp] theorem State.setPair_spd (s : State) (p : Nat) (x : Pair) : (s.setPair p x).spd = s.spd := rfl
@[simp] theorem State.setPair_mem (s : State) (p : Nat) (x : Pair) : (s.setPair p x).mem = s.mem := rfl
@[simp] theorem State.setPair_shu (s : State) (p : Nat) (x : Pair) : (s.setPair p x).shu = s.shu := rfl
@[simp] theorem State.setPair_toStage (s : State) (p : Nat) (x : Pair) : (s.setPair p x).toStage = s.toStage := rfl
@[simp] theorem State.setPair_tiles (s : State) (p : Nat) (x : Pair) : (s.setPair p x).tiles = s.tiles := rfl
@[simp] theorem State.setPair_frm (s : State) (p : Nat) (x : Pair) : (s.setPair p x).frm = s.frm := rfl
@[simp] theorem State.setPair_hed (s : State) (p : Nat) (x : Pair) : (s.setPair p x).hed = s.hed := rfl
@[simp] theorem State.setPair_emd (s : State) (p : Nat) (x : Pair) : (s.setPair p x).emd = s.emd := rfl
@[simp] theorem State.setPair_encIn (s : State) (p : Nat) (x : Pair) : (s.setPair p x).encIn = s.encIn := rfl
@[simp] theorem State.setPair_trd (s : State) (p : Nat) (x : Pair) : (s.setPair p x).trd = s.trd := rfl
@[simp] theorem State.setPair_sel (s : State) (p : Nat) (x : Pair) : (s.setPair p x).sel = s.sel := rfl
@[simp] theorem State.setPair_degAcc (s : State) (p : Nat) (x : Pair) : (s.setPair p x).degAcc = s.degAcc := rfl
@[simp] theorem State.setPair_img (s : State) (p : Nat) (x : Pair) : (s.setPair p x).img = s.img := rfl
@[simp] theorem State.setPair_fuse (s : State) (p : Nat) (x : Pair) : (s.setPair p x).fuse = s.fuse := rfl
@[simp] theorem State.setPair_wire (s : State) (p : Nat) (x : Pair) : (s.setPair p x).wire = s.wire := rfl
@[simp] theorem State.setPair_lnk (s : State) (p : Nat) (x : Pair) : (s.setPair p x).lnk = s.lnk := rfl
@[simp] theorem State.setPair_sup (s : State) (p : Nat) (x : Pair) : (s.setPair p x).sup = s.sup := rfl
@[simp] theorem State.setPair_thm (s : State) (p : Nat) (x : Pair) : (s.setPair p x).thm = s.thm := rfl
@[simp] theorem State.setPair_lpe (s : State) (p : Nat) (x : Pair) : (s.setPair p x).lpe = s.lpe := rfl
@[simp] theorem State.setPair_ind (s : State) (p : Nat) (x : Pair) : (s.setPair p x).ind = s.ind := rfl
@[simp] theorem State.setPair_get (s : State) (p : Nat) (x : Pair) (g : Fld) : (s.setPair p x).get g = s.get g := rfl
@[simp] theorem State.setPair_flag (s : State) (p : Nat) (x : Pair) (g : Fld) : (s.setPair p x).flag g = s.flag g := rfl
@[simp] theorem State.setPair_word (s : State) (p : Nat) (x : Pair) (a' : Nat) : (s.setPair p x).word a' = s.word a' := rfl

/-! ### setSender -/

@[simp] theorem State.setSender_pending (s : State) (m : Nat) (x : Sender) : (s.setSender m x).pending = s.pending := rfl
@[simp] theorem State.setSender_now (s : State) (m : Nat) (x : Sender) : (s.setSender m x).now = s.now := rfl
@[simp] theorem State.setSender_releasedAt (s : State) (m : Nat) (x : Sender) : (s.setSender m x).releasedAt = s.releasedAt := rfl
@[simp] theorem State.setSender_regs (s : State) (m : Nat) (x : Sender) : (s.setSender m x).regs = s.regs := rfl
@[simp] theorem State.setSender_out (s : State) (m : Nat) (x : Sender) : (s.setSender m x).out = s.out := rfl
@[simp] theorem State.setSender_freeCount (s : State) (m : Nat) (x : Sender) : (s.setSender m x).freeCount = s.freeCount := rfl
@[simp] theorem State.setSender_stage (s : State) (m : Nat) (x : Sender) : (s.setSender m x).stage = s.stage := rfl
@[simp] theorem State.setSender_acqOpen (s : State) (m : Nat) (x : Sender) : (s.setSender m x).acqOpen = s.acqOpen := rfl
@[simp] theorem State.setSender_decided (s : State) (m : Nat) (x : Sender) : (s.setSender m x).decided = s.decided := rfl
@[simp] theorem State.setSender_incRaised (s : State) (m : Nat) (x : Sender) : (s.setSender m x).incRaised = s.incRaised := rfl
@[simp] theorem State.setSender_dataOvrRaised (s : State) (m : Nat) (x : Sender) : (s.setSender m x).dataOvrRaised = s.dataOvrRaised := rfl
@[simp] theorem State.setSender_closing (s : State) (m : Nat) (x : Sender) : (s.setSender m x).closing = s.closing := rfl
@[simp] theorem State.setSender_view (s : State) (m : Nat) (x : Sender) : (s.setSender m x).view = s.view := rfl
@[simp] theorem State.setSender_viewDue (s : State) (m : Nat) (x : Sender) : (s.setSender m x).viewDue = s.viewDue := rfl
@[simp] theorem State.setSender_held (s : State) (m : Nat) (x : Sender) : (s.setSender m x).held = s.held := rfl
@[simp] theorem State.setSender_cyc (s : State) (m : Nat) (x : Sender) : (s.setSender m x).cyc = s.cyc := rfl
@[simp] theorem State.setSender_snapNow (s : State) (m : Nat) (x : Sender) : (s.setSender m x).snapNow = s.snapNow := rfl
@[simp] theorem State.setSender_cmds (s : State) (m : Nat) (x : Sender) : (s.setSender m x).cmds = s.cmds := rfl
@[simp] theorem State.setSender_heldCpl (s : State) (m : Nat) (x : Sender) : (s.setSender m x).heldCpl = s.heldCpl := rfl
@[simp] theorem State.setSender_evt (s : State) (m : Nat) (x : Sender) : (s.setSender m x).evt = s.evt := rfl
@[simp] theorem State.setSender_pci (s : State) (m : Nat) (x : Sender) : (s.setSender m x).pci = s.pci := rfl
@[simp] theorem State.setSender_hiLatch (s : State) (m : Nat) (x : Sender) : (s.setSender m x).hiLatch = s.hiLatch := rfl
@[simp] theorem State.setSender_dev (s : State) (m : Nat) (x : Sender) : (s.setSender m x).dev = s.dev := rfl
@[simp] theorem State.setSender_pwr (s : State) (m : Nat) (x : Sender) : (s.setSender m x).pwr = s.pwr := rfl
@[simp] theorem State.setSender_clk (s : State) (m : Nat) (x : Sender) : (s.setSender m x).clk = s.clk := rfl
@[simp] theorem State.setSender_spdPort (s : State) (m : Nat) (x : Sender) : (s.setSender m x).spdPort = s.spdPort := rfl
@[simp] theorem State.setSender_dram (s : State) (m : Nat) (x : Sender) : (s.setSender m x).dram = s.dram := rfl
@[simp] theorem State.setSender_spd (s : State) (m : Nat) (x : Sender) : (s.setSender m x).spd = s.spd := rfl
@[simp] theorem State.setSender_mem (s : State) (m : Nat) (x : Sender) : (s.setSender m x).mem = s.mem := rfl
@[simp] theorem State.setSender_shu (s : State) (m : Nat) (x : Sender) : (s.setSender m x).shu = s.shu := rfl
@[simp] theorem State.setSender_toStage (s : State) (m : Nat) (x : Sender) : (s.setSender m x).toStage = s.toStage := rfl
@[simp] theorem State.setSender_tiles (s : State) (m : Nat) (x : Sender) : (s.setSender m x).tiles = s.tiles := rfl
@[simp] theorem State.setSender_frm (s : State) (m : Nat) (x : Sender) : (s.setSender m x).frm = s.frm := rfl
@[simp] theorem State.setSender_hed (s : State) (m : Nat) (x : Sender) : (s.setSender m x).hed = s.hed := rfl
@[simp] theorem State.setSender_emd (s : State) (m : Nat) (x : Sender) : (s.setSender m x).emd = s.emd := rfl
@[simp] theorem State.setSender_encIn (s : State) (m : Nat) (x : Sender) : (s.setSender m x).encIn = s.encIn := rfl
@[simp] theorem State.setSender_trd (s : State) (m : Nat) (x : Sender) : (s.setSender m x).trd = s.trd := rfl
@[simp] theorem State.setSender_sel (s : State) (m : Nat) (x : Sender) : (s.setSender m x).sel = s.sel := rfl
@[simp] theorem State.setSender_degAcc (s : State) (m : Nat) (x : Sender) : (s.setSender m x).degAcc = s.degAcc := rfl
@[simp] theorem State.setSender_img (s : State) (m : Nat) (x : Sender) : (s.setSender m x).img = s.img := rfl
@[simp] theorem State.setSender_fuse (s : State) (m : Nat) (x : Sender) : (s.setSender m x).fuse = s.fuse := rfl
@[simp] theorem State.setSender_wire (s : State) (m : Nat) (x : Sender) : (s.setSender m x).wire = s.wire := rfl
@[simp] theorem State.setSender_lnk (s : State) (m : Nat) (x : Sender) : (s.setSender m x).lnk = s.lnk := rfl
@[simp] theorem State.setSender_sup (s : State) (m : Nat) (x : Sender) : (s.setSender m x).sup = s.sup := rfl
@[simp] theorem State.setSender_thm (s : State) (m : Nat) (x : Sender) : (s.setSender m x).thm = s.thm := rfl
@[simp] theorem State.setSender_lpe (s : State) (m : Nat) (x : Sender) : (s.setSender m x).lpe = s.lpe := rfl
@[simp] theorem State.setSender_ind (s : State) (m : Nat) (x : Sender) : (s.setSender m x).ind = s.ind := rfl
@[simp] theorem State.setSender_get (s : State) (m : Nat) (x : Sender) (g : Fld) : (s.setSender m x).get g = s.get g := rfl
@[simp] theorem State.setSender_flag (s : State) (m : Nat) (x : Sender) (g : Fld) : (s.setSender m x).flag g = s.flag g := rfl
@[simp] theorem State.setSender_word (s : State) (m : Nat) (x : Sender) (a' : Nat) : (s.setSender m x).word a' = s.word a' := rfl

/-! ### setLane -/

@[simp] theorem State.setLane_pending (s : State) (n : Nat) (x : Lane) : (s.setLane n x).pending = s.pending := rfl
@[simp] theorem State.setLane_now (s : State) (n : Nat) (x : Lane) : (s.setLane n x).now = s.now := rfl
@[simp] theorem State.setLane_releasedAt (s : State) (n : Nat) (x : Lane) : (s.setLane n x).releasedAt = s.releasedAt := rfl
@[simp] theorem State.setLane_regs (s : State) (n : Nat) (x : Lane) : (s.setLane n x).regs = s.regs := rfl
@[simp] theorem State.setLane_out (s : State) (n : Nat) (x : Lane) : (s.setLane n x).out = s.out := rfl
@[simp] theorem State.setLane_freeCount (s : State) (n : Nat) (x : Lane) : (s.setLane n x).freeCount = s.freeCount := rfl
@[simp] theorem State.setLane_stage (s : State) (n : Nat) (x : Lane) : (s.setLane n x).stage = s.stage := rfl
@[simp] theorem State.setLane_acqOpen (s : State) (n : Nat) (x : Lane) : (s.setLane n x).acqOpen = s.acqOpen := rfl
@[simp] theorem State.setLane_decided (s : State) (n : Nat) (x : Lane) : (s.setLane n x).decided = s.decided := rfl
@[simp] theorem State.setLane_incRaised (s : State) (n : Nat) (x : Lane) : (s.setLane n x).incRaised = s.incRaised := rfl
@[simp] theorem State.setLane_dataOvrRaised (s : State) (n : Nat) (x : Lane) : (s.setLane n x).dataOvrRaised = s.dataOvrRaised := rfl
@[simp] theorem State.setLane_closing (s : State) (n : Nat) (x : Lane) : (s.setLane n x).closing = s.closing := rfl
@[simp] theorem State.setLane_view (s : State) (n : Nat) (x : Lane) : (s.setLane n x).view = s.view := rfl
@[simp] theorem State.setLane_viewDue (s : State) (n : Nat) (x : Lane) : (s.setLane n x).viewDue = s.viewDue := rfl
@[simp] theorem State.setLane_held (s : State) (n : Nat) (x : Lane) : (s.setLane n x).held = s.held := rfl
@[simp] theorem State.setLane_cyc (s : State) (n : Nat) (x : Lane) : (s.setLane n x).cyc = s.cyc := rfl
@[simp] theorem State.setLane_snapNow (s : State) (n : Nat) (x : Lane) : (s.setLane n x).snapNow = s.snapNow := rfl
@[simp] theorem State.setLane_cmds (s : State) (n : Nat) (x : Lane) : (s.setLane n x).cmds = s.cmds := rfl
@[simp] theorem State.setLane_heldCpl (s : State) (n : Nat) (x : Lane) : (s.setLane n x).heldCpl = s.heldCpl := rfl
@[simp] theorem State.setLane_evt (s : State) (n : Nat) (x : Lane) : (s.setLane n x).evt = s.evt := rfl
@[simp] theorem State.setLane_pci (s : State) (n : Nat) (x : Lane) : (s.setLane n x).pci = s.pci := rfl
@[simp] theorem State.setLane_hiLatch (s : State) (n : Nat) (x : Lane) : (s.setLane n x).hiLatch = s.hiLatch := rfl
@[simp] theorem State.setLane_dev (s : State) (n : Nat) (x : Lane) : (s.setLane n x).dev = s.dev := rfl
@[simp] theorem State.setLane_pwr (s : State) (n : Nat) (x : Lane) : (s.setLane n x).pwr = s.pwr := rfl
@[simp] theorem State.setLane_clk (s : State) (n : Nat) (x : Lane) : (s.setLane n x).clk = s.clk := rfl
@[simp] theorem State.setLane_spdPort (s : State) (n : Nat) (x : Lane) : (s.setLane n x).spdPort = s.spdPort := rfl
@[simp] theorem State.setLane_dram (s : State) (n : Nat) (x : Lane) : (s.setLane n x).dram = s.dram := rfl
@[simp] theorem State.setLane_spd (s : State) (n : Nat) (x : Lane) : (s.setLane n x).spd = s.spd := rfl
@[simp] theorem State.setLane_mem (s : State) (n : Nat) (x : Lane) : (s.setLane n x).mem = s.mem := rfl
@[simp] theorem State.setLane_shu (s : State) (n : Nat) (x : Lane) : (s.setLane n x).shu = s.shu := rfl
@[simp] theorem State.setLane_toStage (s : State) (n : Nat) (x : Lane) : (s.setLane n x).toStage = s.toStage := rfl
@[simp] theorem State.setLane_tiles (s : State) (n : Nat) (x : Lane) : (s.setLane n x).tiles = s.tiles := rfl
@[simp] theorem State.setLane_frm (s : State) (n : Nat) (x : Lane) : (s.setLane n x).frm = s.frm := rfl
@[simp] theorem State.setLane_hed (s : State) (n : Nat) (x : Lane) : (s.setLane n x).hed = s.hed := rfl
@[simp] theorem State.setLane_emd (s : State) (n : Nat) (x : Lane) : (s.setLane n x).emd = s.emd := rfl
@[simp] theorem State.setLane_encIn (s : State) (n : Nat) (x : Lane) : (s.setLane n x).encIn = s.encIn := rfl
@[simp] theorem State.setLane_trd (s : State) (n : Nat) (x : Lane) : (s.setLane n x).trd = s.trd := rfl
@[simp] theorem State.setLane_sel (s : State) (n : Nat) (x : Lane) : (s.setLane n x).sel = s.sel := rfl
@[simp] theorem State.setLane_saf (s : State) (n : Nat) (x : Lane) : (s.setLane n x).saf = s.saf := rfl
@[simp] theorem State.setLane_degAcc (s : State) (n : Nat) (x : Lane) : (s.setLane n x).degAcc = s.degAcc := rfl
@[simp] theorem State.setLane_img (s : State) (n : Nat) (x : Lane) : (s.setLane n x).img = s.img := rfl
@[simp] theorem State.setLane_fuse (s : State) (n : Nat) (x : Lane) : (s.setLane n x).fuse = s.fuse := rfl
@[simp] theorem State.setLane_wire (s : State) (n : Nat) (x : Lane) : (s.setLane n x).wire = s.wire := rfl
@[simp] theorem State.setLane_sup (s : State) (n : Nat) (x : Lane) : (s.setLane n x).sup = s.sup := rfl
@[simp] theorem State.setLane_thm (s : State) (n : Nat) (x : Lane) : (s.setLane n x).thm = s.thm := rfl
@[simp] theorem State.setLane_lpe (s : State) (n : Nat) (x : Lane) : (s.setLane n x).lpe = s.lpe := rfl
@[simp] theorem State.setLane_ind (s : State) (n : Nat) (x : Lane) : (s.setLane n x).ind = s.ind := rfl
@[simp] theorem State.setLane_get (s : State) (n : Nat) (x : Lane) (g : Fld) : (s.setLane n x).get g = s.get g := rfl
@[simp] theorem State.setLane_flag (s : State) (n : Nat) (x : Lane) (g : Fld) : (s.setLane n x).flag g = s.flag g := rfl
@[simp] theorem State.setLane_word (s : State) (n : Nat) (x : Lane) (a' : Nat) : (s.setLane n x).word a' = s.word a' := rfl

/-! ### setPort -/

@[simp] theorem State.setPort_pending (s : State) (p : Nat) (x : LnkPort) : (s.setPort p x).pending = s.pending := rfl
@[simp] theorem State.setPort_now (s : State) (p : Nat) (x : LnkPort) : (s.setPort p x).now = s.now := rfl
@[simp] theorem State.setPort_releasedAt (s : State) (p : Nat) (x : LnkPort) : (s.setPort p x).releasedAt = s.releasedAt := rfl
@[simp] theorem State.setPort_regs (s : State) (p : Nat) (x : LnkPort) : (s.setPort p x).regs = s.regs := rfl
@[simp] theorem State.setPort_out (s : State) (p : Nat) (x : LnkPort) : (s.setPort p x).out = s.out := rfl
@[simp] theorem State.setPort_freeCount (s : State) (p : Nat) (x : LnkPort) : (s.setPort p x).freeCount = s.freeCount := rfl
@[simp] theorem State.setPort_stage (s : State) (p : Nat) (x : LnkPort) : (s.setPort p x).stage = s.stage := rfl
@[simp] theorem State.setPort_acqOpen (s : State) (p : Nat) (x : LnkPort) : (s.setPort p x).acqOpen = s.acqOpen := rfl
@[simp] theorem State.setPort_decided (s : State) (p : Nat) (x : LnkPort) : (s.setPort p x).decided = s.decided := rfl
@[simp] theorem State.setPort_incRaised (s : State) (p : Nat) (x : LnkPort) : (s.setPort p x).incRaised = s.incRaised := rfl
@[simp] theorem State.setPort_dataOvrRaised (s : State) (p : Nat) (x : LnkPort) : (s.setPort p x).dataOvrRaised = s.dataOvrRaised := rfl
@[simp] theorem State.setPort_closing (s : State) (p : Nat) (x : LnkPort) : (s.setPort p x).closing = s.closing := rfl
@[simp] theorem State.setPort_view (s : State) (p : Nat) (x : LnkPort) : (s.setPort p x).view = s.view := rfl
@[simp] theorem State.setPort_viewDue (s : State) (p : Nat) (x : LnkPort) : (s.setPort p x).viewDue = s.viewDue := rfl
@[simp] theorem State.setPort_held (s : State) (p : Nat) (x : LnkPort) : (s.setPort p x).held = s.held := rfl
@[simp] theorem State.setPort_cyc (s : State) (p : Nat) (x : LnkPort) : (s.setPort p x).cyc = s.cyc := rfl
@[simp] theorem State.setPort_snapNow (s : State) (p : Nat) (x : LnkPort) : (s.setPort p x).snapNow = s.snapNow := rfl
@[simp] theorem State.setPort_cmds (s : State) (p : Nat) (x : LnkPort) : (s.setPort p x).cmds = s.cmds := rfl
@[simp] theorem State.setPort_heldCpl (s : State) (p : Nat) (x : LnkPort) : (s.setPort p x).heldCpl = s.heldCpl := rfl
@[simp] theorem State.setPort_evt (s : State) (p : Nat) (x : LnkPort) : (s.setPort p x).evt = s.evt := rfl
@[simp] theorem State.setPort_pci (s : State) (p : Nat) (x : LnkPort) : (s.setPort p x).pci = s.pci := rfl
@[simp] theorem State.setPort_hiLatch (s : State) (p : Nat) (x : LnkPort) : (s.setPort p x).hiLatch = s.hiLatch := rfl
@[simp] theorem State.setPort_dev (s : State) (p : Nat) (x : LnkPort) : (s.setPort p x).dev = s.dev := rfl
@[simp] theorem State.setPort_pwr (s : State) (p : Nat) (x : LnkPort) : (s.setPort p x).pwr = s.pwr := rfl
@[simp] theorem State.setPort_clk (s : State) (p : Nat) (x : LnkPort) : (s.setPort p x).clk = s.clk := rfl
@[simp] theorem State.setPort_spdPort (s : State) (p : Nat) (x : LnkPort) : (s.setPort p x).spdPort = s.spdPort := rfl
@[simp] theorem State.setPort_dram (s : State) (p : Nat) (x : LnkPort) : (s.setPort p x).dram = s.dram := rfl
@[simp] theorem State.setPort_spd (s : State) (p : Nat) (x : LnkPort) : (s.setPort p x).spd = s.spd := rfl
@[simp] theorem State.setPort_mem (s : State) (p : Nat) (x : LnkPort) : (s.setPort p x).mem = s.mem := rfl
@[simp] theorem State.setPort_shu (s : State) (p : Nat) (x : LnkPort) : (s.setPort p x).shu = s.shu := rfl
@[simp] theorem State.setPort_toStage (s : State) (p : Nat) (x : LnkPort) : (s.setPort p x).toStage = s.toStage := rfl
@[simp] theorem State.setPort_tiles (s : State) (p : Nat) (x : LnkPort) : (s.setPort p x).tiles = s.tiles := rfl
@[simp] theorem State.setPort_frm (s : State) (p : Nat) (x : LnkPort) : (s.setPort p x).frm = s.frm := rfl
@[simp] theorem State.setPort_hed (s : State) (p : Nat) (x : LnkPort) : (s.setPort p x).hed = s.hed := rfl
@[simp] theorem State.setPort_emd (s : State) (p : Nat) (x : LnkPort) : (s.setPort p x).emd = s.emd := rfl
@[simp] theorem State.setPort_encIn (s : State) (p : Nat) (x : LnkPort) : (s.setPort p x).encIn = s.encIn := rfl
@[simp] theorem State.setPort_trd (s : State) (p : Nat) (x : LnkPort) : (s.setPort p x).trd = s.trd := rfl
@[simp] theorem State.setPort_sel (s : State) (p : Nat) (x : LnkPort) : (s.setPort p x).sel = s.sel := rfl
@[simp] theorem State.setPort_saf (s : State) (p : Nat) (x : LnkPort) : (s.setPort p x).saf = s.saf := rfl
@[simp] theorem State.setPort_degAcc (s : State) (p : Nat) (x : LnkPort) : (s.setPort p x).degAcc = s.degAcc := rfl
@[simp] theorem State.setPort_img (s : State) (p : Nat) (x : LnkPort) : (s.setPort p x).img = s.img := rfl
@[simp] theorem State.setPort_fuse (s : State) (p : Nat) (x : LnkPort) : (s.setPort p x).fuse = s.fuse := rfl
@[simp] theorem State.setPort_wire (s : State) (p : Nat) (x : LnkPort) : (s.setPort p x).wire = s.wire := rfl
@[simp] theorem State.setPort_sup (s : State) (p : Nat) (x : LnkPort) : (s.setPort p x).sup = s.sup := rfl
@[simp] theorem State.setPort_thm (s : State) (p : Nat) (x : LnkPort) : (s.setPort p x).thm = s.thm := rfl
@[simp] theorem State.setPort_lpe (s : State) (p : Nat) (x : LnkPort) : (s.setPort p x).lpe = s.lpe := rfl
@[simp] theorem State.setPort_ind (s : State) (p : Nat) (x : LnkPort) : (s.setPort p x).ind = s.ind := rfl
@[simp] theorem State.setPort_get (s : State) (p : Nat) (x : LnkPort) (g : Fld) : (s.setPort p x).get g = s.get g := rfl
@[simp] theorem State.setPort_flag (s : State) (p : Nat) (x : LnkPort) (g : Fld) : (s.setPort p x).flag g = s.flag g := rfl
@[simp] theorem State.setPort_word (s : State) (p : Nat) (x : LnkPort) (a' : Nat) : (s.setPort p x).word a' = s.word a' := rfl

/-! ### setChan -/

@[simp] theorem State.setChan_pending (s : State) (c : Nat) (x : ShuChan) : (s.setChan c x).pending = s.pending := rfl
@[simp] theorem State.setChan_now (s : State) (c : Nat) (x : ShuChan) : (s.setChan c x).now = s.now := rfl
@[simp] theorem State.setChan_releasedAt (s : State) (c : Nat) (x : ShuChan) : (s.setChan c x).releasedAt = s.releasedAt := rfl
@[simp] theorem State.setChan_regs (s : State) (c : Nat) (x : ShuChan) : (s.setChan c x).regs = s.regs := rfl
@[simp] theorem State.setChan_out (s : State) (c : Nat) (x : ShuChan) : (s.setChan c x).out = s.out := rfl
@[simp] theorem State.setChan_freeCount (s : State) (c : Nat) (x : ShuChan) : (s.setChan c x).freeCount = s.freeCount := rfl
@[simp] theorem State.setChan_stage (s : State) (c : Nat) (x : ShuChan) : (s.setChan c x).stage = s.stage := rfl
@[simp] theorem State.setChan_acqOpen (s : State) (c : Nat) (x : ShuChan) : (s.setChan c x).acqOpen = s.acqOpen := rfl
@[simp] theorem State.setChan_decided (s : State) (c : Nat) (x : ShuChan) : (s.setChan c x).decided = s.decided := rfl
@[simp] theorem State.setChan_incRaised (s : State) (c : Nat) (x : ShuChan) : (s.setChan c x).incRaised = s.incRaised := rfl
@[simp] theorem State.setChan_dataOvrRaised (s : State) (c : Nat) (x : ShuChan) : (s.setChan c x).dataOvrRaised = s.dataOvrRaised := rfl
@[simp] theorem State.setChan_closing (s : State) (c : Nat) (x : ShuChan) : (s.setChan c x).closing = s.closing := rfl
@[simp] theorem State.setChan_view (s : State) (c : Nat) (x : ShuChan) : (s.setChan c x).view = s.view := rfl
@[simp] theorem State.setChan_viewDue (s : State) (c : Nat) (x : ShuChan) : (s.setChan c x).viewDue = s.viewDue := rfl
@[simp] theorem State.setChan_held (s : State) (c : Nat) (x : ShuChan) : (s.setChan c x).held = s.held := rfl
@[simp] theorem State.setChan_cyc (s : State) (c : Nat) (x : ShuChan) : (s.setChan c x).cyc = s.cyc := rfl
@[simp] theorem State.setChan_snapNow (s : State) (c : Nat) (x : ShuChan) : (s.setChan c x).snapNow = s.snapNow := rfl
@[simp] theorem State.setChan_cmds (s : State) (c : Nat) (x : ShuChan) : (s.setChan c x).cmds = s.cmds := rfl
@[simp] theorem State.setChan_heldCpl (s : State) (c : Nat) (x : ShuChan) : (s.setChan c x).heldCpl = s.heldCpl := rfl
@[simp] theorem State.setChan_evt (s : State) (c : Nat) (x : ShuChan) : (s.setChan c x).evt = s.evt := rfl
@[simp] theorem State.setChan_pci (s : State) (c : Nat) (x : ShuChan) : (s.setChan c x).pci = s.pci := rfl
@[simp] theorem State.setChan_hiLatch (s : State) (c : Nat) (x : ShuChan) : (s.setChan c x).hiLatch = s.hiLatch := rfl
@[simp] theorem State.setChan_dev (s : State) (c : Nat) (x : ShuChan) : (s.setChan c x).dev = s.dev := rfl
@[simp] theorem State.setChan_pwr (s : State) (c : Nat) (x : ShuChan) : (s.setChan c x).pwr = s.pwr := rfl
@[simp] theorem State.setChan_clk (s : State) (c : Nat) (x : ShuChan) : (s.setChan c x).clk = s.clk := rfl
@[simp] theorem State.setChan_spdPort (s : State) (c : Nat) (x : ShuChan) : (s.setChan c x).spdPort = s.spdPort := rfl
@[simp] theorem State.setChan_dram (s : State) (c : Nat) (x : ShuChan) : (s.setChan c x).dram = s.dram := rfl
@[simp] theorem State.setChan_spd (s : State) (c : Nat) (x : ShuChan) : (s.setChan c x).spd = s.spd := rfl
@[simp] theorem State.setChan_mem (s : State) (c : Nat) (x : ShuChan) : (s.setChan c x).mem = s.mem := rfl
@[simp] theorem State.setChan_toStage (s : State) (c : Nat) (x : ShuChan) : (s.setChan c x).toStage = s.toStage := rfl
@[simp] theorem State.setChan_tiles (s : State) (c : Nat) (x : ShuChan) : (s.setChan c x).tiles = s.tiles := rfl
@[simp] theorem State.setChan_frm (s : State) (c : Nat) (x : ShuChan) : (s.setChan c x).frm = s.frm := rfl
@[simp] theorem State.setChan_hed (s : State) (c : Nat) (x : ShuChan) : (s.setChan c x).hed = s.hed := rfl
@[simp] theorem State.setChan_emd (s : State) (c : Nat) (x : ShuChan) : (s.setChan c x).emd = s.emd := rfl
@[simp] theorem State.setChan_encIn (s : State) (c : Nat) (x : ShuChan) : (s.setChan c x).encIn = s.encIn := rfl
@[simp] theorem State.setChan_trd (s : State) (c : Nat) (x : ShuChan) : (s.setChan c x).trd = s.trd := rfl
@[simp] theorem State.setChan_sel (s : State) (c : Nat) (x : ShuChan) : (s.setChan c x).sel = s.sel := rfl
@[simp] theorem State.setChan_saf (s : State) (c : Nat) (x : ShuChan) : (s.setChan c x).saf = s.saf := rfl
@[simp] theorem State.setChan_degAcc (s : State) (c : Nat) (x : ShuChan) : (s.setChan c x).degAcc = s.degAcc := rfl
@[simp] theorem State.setChan_img (s : State) (c : Nat) (x : ShuChan) : (s.setChan c x).img = s.img := rfl
@[simp] theorem State.setChan_fuse (s : State) (c : Nat) (x : ShuChan) : (s.setChan c x).fuse = s.fuse := rfl
@[simp] theorem State.setChan_wire (s : State) (c : Nat) (x : ShuChan) : (s.setChan c x).wire = s.wire := rfl
@[simp] theorem State.setChan_lnk (s : State) (c : Nat) (x : ShuChan) : (s.setChan c x).lnk = s.lnk := rfl
@[simp] theorem State.setChan_sup (s : State) (c : Nat) (x : ShuChan) : (s.setChan c x).sup = s.sup := rfl
@[simp] theorem State.setChan_thm (s : State) (c : Nat) (x : ShuChan) : (s.setChan c x).thm = s.thm := rfl
@[simp] theorem State.setChan_lpe (s : State) (c : Nat) (x : ShuChan) : (s.setChan c x).lpe = s.lpe := rfl
@[simp] theorem State.setChan_ind (s : State) (c : Nat) (x : ShuChan) : (s.setChan c x).ind = s.ind := rfl
@[simp] theorem State.setChan_get (s : State) (c : Nat) (x : ShuChan) (g : Fld) : (s.setChan c x).get g = s.get g := rfl
@[simp] theorem State.setChan_flag (s : State) (c : Nat) (x : ShuChan) (g : Fld) : (s.setChan c x).flag g = s.flag g := rfl
@[simp] theorem State.setChan_word (s : State) (c : Nat) (x : ShuChan) (a' : Nat) : (s.setChan c x).word a' = s.word a' := rfl

/-! ### setTile -/

@[simp] theorem State.setTile_pending (s : State) (t : Nat) (x : Tile) : (s.setTile t x).pending = s.pending := rfl
@[simp] theorem State.setTile_now (s : State) (t : Nat) (x : Tile) : (s.setTile t x).now = s.now := rfl
@[simp] theorem State.setTile_releasedAt (s : State) (t : Nat) (x : Tile) : (s.setTile t x).releasedAt = s.releasedAt := rfl
@[simp] theorem State.setTile_regs (s : State) (t : Nat) (x : Tile) : (s.setTile t x).regs = s.regs := rfl
@[simp] theorem State.setTile_out (s : State) (t : Nat) (x : Tile) : (s.setTile t x).out = s.out := rfl
@[simp] theorem State.setTile_freeCount (s : State) (t : Nat) (x : Tile) : (s.setTile t x).freeCount = s.freeCount := rfl
@[simp] theorem State.setTile_stage (s : State) (t : Nat) (x : Tile) : (s.setTile t x).stage = s.stage := rfl
@[simp] theorem State.setTile_acqOpen (s : State) (t : Nat) (x : Tile) : (s.setTile t x).acqOpen = s.acqOpen := rfl
@[simp] theorem State.setTile_decided (s : State) (t : Nat) (x : Tile) : (s.setTile t x).decided = s.decided := rfl
@[simp] theorem State.setTile_incRaised (s : State) (t : Nat) (x : Tile) : (s.setTile t x).incRaised = s.incRaised := rfl
@[simp] theorem State.setTile_dataOvrRaised (s : State) (t : Nat) (x : Tile) : (s.setTile t x).dataOvrRaised = s.dataOvrRaised := rfl
@[simp] theorem State.setTile_closing (s : State) (t : Nat) (x : Tile) : (s.setTile t x).closing = s.closing := rfl
@[simp] theorem State.setTile_view (s : State) (t : Nat) (x : Tile) : (s.setTile t x).view = s.view := rfl
@[simp] theorem State.setTile_viewDue (s : State) (t : Nat) (x : Tile) : (s.setTile t x).viewDue = s.viewDue := rfl
@[simp] theorem State.setTile_held (s : State) (t : Nat) (x : Tile) : (s.setTile t x).held = s.held := rfl
@[simp] theorem State.setTile_cyc (s : State) (t : Nat) (x : Tile) : (s.setTile t x).cyc = s.cyc := rfl
@[simp] theorem State.setTile_snapNow (s : State) (t : Nat) (x : Tile) : (s.setTile t x).snapNow = s.snapNow := rfl
@[simp] theorem State.setTile_cmds (s : State) (t : Nat) (x : Tile) : (s.setTile t x).cmds = s.cmds := rfl
@[simp] theorem State.setTile_heldCpl (s : State) (t : Nat) (x : Tile) : (s.setTile t x).heldCpl = s.heldCpl := rfl
@[simp] theorem State.setTile_evt (s : State) (t : Nat) (x : Tile) : (s.setTile t x).evt = s.evt := rfl
@[simp] theorem State.setTile_pci (s : State) (t : Nat) (x : Tile) : (s.setTile t x).pci = s.pci := rfl
@[simp] theorem State.setTile_hiLatch (s : State) (t : Nat) (x : Tile) : (s.setTile t x).hiLatch = s.hiLatch := rfl
@[simp] theorem State.setTile_dev (s : State) (t : Nat) (x : Tile) : (s.setTile t x).dev = s.dev := rfl
@[simp] theorem State.setTile_pwr (s : State) (t : Nat) (x : Tile) : (s.setTile t x).pwr = s.pwr := rfl
@[simp] theorem State.setTile_clk (s : State) (t : Nat) (x : Tile) : (s.setTile t x).clk = s.clk := rfl
@[simp] theorem State.setTile_spdPort (s : State) (t : Nat) (x : Tile) : (s.setTile t x).spdPort = s.spdPort := rfl
@[simp] theorem State.setTile_dram (s : State) (t : Nat) (x : Tile) : (s.setTile t x).dram = s.dram := rfl
@[simp] theorem State.setTile_spd (s : State) (t : Nat) (x : Tile) : (s.setTile t x).spd = s.spd := rfl
@[simp] theorem State.setTile_mem (s : State) (t : Nat) (x : Tile) : (s.setTile t x).mem = s.mem := rfl
@[simp] theorem State.setTile_shu (s : State) (t : Nat) (x : Tile) : (s.setTile t x).shu = s.shu := rfl
@[simp] theorem State.setTile_toStage (s : State) (t : Nat) (x : Tile) : (s.setTile t x).toStage = s.toStage := rfl
@[simp] theorem State.setTile_frm (s : State) (t : Nat) (x : Tile) : (s.setTile t x).frm = s.frm := rfl
@[simp] theorem State.setTile_hed (s : State) (t : Nat) (x : Tile) : (s.setTile t x).hed = s.hed := rfl
@[simp] theorem State.setTile_emd (s : State) (t : Nat) (x : Tile) : (s.setTile t x).emd = s.emd := rfl
@[simp] theorem State.setTile_encIn (s : State) (t : Nat) (x : Tile) : (s.setTile t x).encIn = s.encIn := rfl
@[simp] theorem State.setTile_trd (s : State) (t : Nat) (x : Tile) : (s.setTile t x).trd = s.trd := rfl
@[simp] theorem State.setTile_sel (s : State) (t : Nat) (x : Tile) : (s.setTile t x).sel = s.sel := rfl
@[simp] theorem State.setTile_saf (s : State) (t : Nat) (x : Tile) : (s.setTile t x).saf = s.saf := rfl
@[simp] theorem State.setTile_degAcc (s : State) (t : Nat) (x : Tile) : (s.setTile t x).degAcc = s.degAcc := rfl
@[simp] theorem State.setTile_img (s : State) (t : Nat) (x : Tile) : (s.setTile t x).img = s.img := rfl
@[simp] theorem State.setTile_fuse (s : State) (t : Nat) (x : Tile) : (s.setTile t x).fuse = s.fuse := rfl
@[simp] theorem State.setTile_wire (s : State) (t : Nat) (x : Tile) : (s.setTile t x).wire = s.wire := rfl
@[simp] theorem State.setTile_lnk (s : State) (t : Nat) (x : Tile) : (s.setTile t x).lnk = s.lnk := rfl
@[simp] theorem State.setTile_sup (s : State) (t : Nat) (x : Tile) : (s.setTile t x).sup = s.sup := rfl
@[simp] theorem State.setTile_thm (s : State) (t : Nat) (x : Tile) : (s.setTile t x).thm = s.thm := rfl
@[simp] theorem State.setTile_lpe (s : State) (t : Nat) (x : Tile) : (s.setTile t x).lpe = s.lpe := rfl
@[simp] theorem State.setTile_ind (s : State) (t : Nat) (x : Tile) : (s.setTile t x).ind = s.ind := rfl
@[simp] theorem State.setTile_get (s : State) (t : Nat) (x : Tile) (g : Fld) : (s.setTile t x).get g = s.get g := rfl
@[simp] theorem State.setTile_flag (s : State) (t : Nat) (x : Tile) (g : Fld) : (s.setTile t x).flag g = s.flag g := rfl
@[simp] theorem State.setTile_word (s : State) (t : Nat) (x : Tile) (a' : Nat) : (s.setTile t x).word a' = s.word a' := rfl

/-! ### modTile -/

@[simp] theorem State.modTile_pending (s : State) (t : Nat) (f : Tile → Tile) : (s.modTile t f).pending = s.pending := rfl
@[simp] theorem State.modTile_now (s : State) (t : Nat) (f : Tile → Tile) : (s.modTile t f).now = s.now := rfl
@[simp] theorem State.modTile_releasedAt (s : State) (t : Nat) (f : Tile → Tile) : (s.modTile t f).releasedAt = s.releasedAt := rfl
@[simp] theorem State.modTile_regs (s : State) (t : Nat) (f : Tile → Tile) : (s.modTile t f).regs = s.regs := rfl
@[simp] theorem State.modTile_out (s : State) (t : Nat) (f : Tile → Tile) : (s.modTile t f).out = s.out := rfl
@[simp] theorem State.modTile_freeCount (s : State) (t : Nat) (f : Tile → Tile) : (s.modTile t f).freeCount = s.freeCount := rfl
@[simp] theorem State.modTile_stage (s : State) (t : Nat) (f : Tile → Tile) : (s.modTile t f).stage = s.stage := rfl
@[simp] theorem State.modTile_acqOpen (s : State) (t : Nat) (f : Tile → Tile) : (s.modTile t f).acqOpen = s.acqOpen := rfl
@[simp] theorem State.modTile_decided (s : State) (t : Nat) (f : Tile → Tile) : (s.modTile t f).decided = s.decided := rfl
@[simp] theorem State.modTile_incRaised (s : State) (t : Nat) (f : Tile → Tile) : (s.modTile t f).incRaised = s.incRaised := rfl
@[simp] theorem State.modTile_dataOvrRaised (s : State) (t : Nat) (f : Tile → Tile) : (s.modTile t f).dataOvrRaised = s.dataOvrRaised := rfl
@[simp] theorem State.modTile_closing (s : State) (t : Nat) (f : Tile → Tile) : (s.modTile t f).closing = s.closing := rfl
@[simp] theorem State.modTile_view (s : State) (t : Nat) (f : Tile → Tile) : (s.modTile t f).view = s.view := rfl
@[simp] theorem State.modTile_viewDue (s : State) (t : Nat) (f : Tile → Tile) : (s.modTile t f).viewDue = s.viewDue := rfl
@[simp] theorem State.modTile_held (s : State) (t : Nat) (f : Tile → Tile) : (s.modTile t f).held = s.held := rfl
@[simp] theorem State.modTile_cyc (s : State) (t : Nat) (f : Tile → Tile) : (s.modTile t f).cyc = s.cyc := rfl
@[simp] theorem State.modTile_snapNow (s : State) (t : Nat) (f : Tile → Tile) : (s.modTile t f).snapNow = s.snapNow := rfl
@[simp] theorem State.modTile_cmds (s : State) (t : Nat) (f : Tile → Tile) : (s.modTile t f).cmds = s.cmds := rfl
@[simp] theorem State.modTile_heldCpl (s : State) (t : Nat) (f : Tile → Tile) : (s.modTile t f).heldCpl = s.heldCpl := rfl
@[simp] theorem State.modTile_evt (s : State) (t : Nat) (f : Tile → Tile) : (s.modTile t f).evt = s.evt := rfl
@[simp] theorem State.modTile_pci (s : State) (t : Nat) (f : Tile → Tile) : (s.modTile t f).pci = s.pci := rfl
@[simp] theorem State.modTile_hiLatch (s : State) (t : Nat) (f : Tile → Tile) : (s.modTile t f).hiLatch = s.hiLatch := rfl
@[simp] theorem State.modTile_dev (s : State) (t : Nat) (f : Tile → Tile) : (s.modTile t f).dev = s.dev := rfl
@[simp] theorem State.modTile_pwr (s : State) (t : Nat) (f : Tile → Tile) : (s.modTile t f).pwr = s.pwr := rfl
@[simp] theorem State.modTile_clk (s : State) (t : Nat) (f : Tile → Tile) : (s.modTile t f).clk = s.clk := rfl
@[simp] theorem State.modTile_spdPort (s : State) (t : Nat) (f : Tile → Tile) : (s.modTile t f).spdPort = s.spdPort := rfl
@[simp] theorem State.modTile_dram (s : State) (t : Nat) (f : Tile → Tile) : (s.modTile t f).dram = s.dram := rfl
@[simp] theorem State.modTile_spd (s : State) (t : Nat) (f : Tile → Tile) : (s.modTile t f).spd = s.spd := rfl
@[simp] theorem State.modTile_mem (s : State) (t : Nat) (f : Tile → Tile) : (s.modTile t f).mem = s.mem := rfl
@[simp] theorem State.modTile_shu (s : State) (t : Nat) (f : Tile → Tile) : (s.modTile t f).shu = s.shu := rfl
@[simp] theorem State.modTile_toStage (s : State) (t : Nat) (f : Tile → Tile) : (s.modTile t f).toStage = s.toStage := rfl
@[simp] theorem State.modTile_frm (s : State) (t : Nat) (f : Tile → Tile) : (s.modTile t f).frm = s.frm := rfl
@[simp] theorem State.modTile_hed (s : State) (t : Nat) (f : Tile → Tile) : (s.modTile t f).hed = s.hed := rfl
@[simp] theorem State.modTile_emd (s : State) (t : Nat) (f : Tile → Tile) : (s.modTile t f).emd = s.emd := rfl
@[simp] theorem State.modTile_encIn (s : State) (t : Nat) (f : Tile → Tile) : (s.modTile t f).encIn = s.encIn := rfl
@[simp] theorem State.modTile_trd (s : State) (t : Nat) (f : Tile → Tile) : (s.modTile t f).trd = s.trd := rfl
@[simp] theorem State.modTile_sel (s : State) (t : Nat) (f : Tile → Tile) : (s.modTile t f).sel = s.sel := rfl
@[simp] theorem State.modTile_saf (s : State) (t : Nat) (f : Tile → Tile) : (s.modTile t f).saf = s.saf := rfl
@[simp] theorem State.modTile_degAcc (s : State) (t : Nat) (f : Tile → Tile) : (s.modTile t f).degAcc = s.degAcc := rfl
@[simp] theorem State.modTile_img (s : State) (t : Nat) (f : Tile → Tile) : (s.modTile t f).img = s.img := rfl
@[simp] theorem State.modTile_fuse (s : State) (t : Nat) (f : Tile → Tile) : (s.modTile t f).fuse = s.fuse := rfl
@[simp] theorem State.modTile_wire (s : State) (t : Nat) (f : Tile → Tile) : (s.modTile t f).wire = s.wire := rfl
@[simp] theorem State.modTile_lnk (s : State) (t : Nat) (f : Tile → Tile) : (s.modTile t f).lnk = s.lnk := rfl
@[simp] theorem State.modTile_sup (s : State) (t : Nat) (f : Tile → Tile) : (s.modTile t f).sup = s.sup := rfl
@[simp] theorem State.modTile_thm (s : State) (t : Nat) (f : Tile → Tile) : (s.modTile t f).thm = s.thm := rfl
@[simp] theorem State.modTile_lpe (s : State) (t : Nat) (f : Tile → Tile) : (s.modTile t f).lpe = s.lpe := rfl
@[simp] theorem State.modTile_ind (s : State) (t : Nat) (f : Tile → Tile) : (s.modTile t f).ind = s.ind := rfl
@[simp] theorem State.modTile_get (s : State) (t : Nat) (f : Tile → Tile) (g : Fld) : (s.modTile t f).get g = s.get g := rfl
@[simp] theorem State.modTile_flag (s : State) (t : Nat) (f : Tile → Tile) (g : Fld) : (s.modTile t f).flag g = s.flag g := rfl
@[simp] theorem State.modTile_word (s : State) (t : Nat) (f : Tile → Tile) (a' : Nat) : (s.modTile t f).word a' = s.word a' := rfl

/-! ### setRx -/

@[simp] theorem State.setRx_pending (s : State) (t c : Nat) (y : RxCh) : (s.setRx t c y).pending = s.pending := rfl
@[simp] theorem State.setRx_now (s : State) (t c : Nat) (y : RxCh) : (s.setRx t c y).now = s.now := rfl
@[simp] theorem State.setRx_releasedAt (s : State) (t c : Nat) (y : RxCh) : (s.setRx t c y).releasedAt = s.releasedAt := rfl
@[simp] theorem State.setRx_regs (s : State) (t c : Nat) (y : RxCh) : (s.setRx t c y).regs = s.regs := rfl
@[simp] theorem State.setRx_out (s : State) (t c : Nat) (y : RxCh) : (s.setRx t c y).out = s.out := rfl
@[simp] theorem State.setRx_freeCount (s : State) (t c : Nat) (y : RxCh) : (s.setRx t c y).freeCount = s.freeCount := rfl
@[simp] theorem State.setRx_stage (s : State) (t c : Nat) (y : RxCh) : (s.setRx t c y).stage = s.stage := rfl
@[simp] theorem State.setRx_acqOpen (s : State) (t c : Nat) (y : RxCh) : (s.setRx t c y).acqOpen = s.acqOpen := rfl
@[simp] theorem State.setRx_decided (s : State) (t c : Nat) (y : RxCh) : (s.setRx t c y).decided = s.decided := rfl
@[simp] theorem State.setRx_incRaised (s : State) (t c : Nat) (y : RxCh) : (s.setRx t c y).incRaised = s.incRaised := rfl
@[simp] theorem State.setRx_dataOvrRaised (s : State) (t c : Nat) (y : RxCh) : (s.setRx t c y).dataOvrRaised = s.dataOvrRaised := rfl
@[simp] theorem State.setRx_closing (s : State) (t c : Nat) (y : RxCh) : (s.setRx t c y).closing = s.closing := rfl
@[simp] theorem State.setRx_view (s : State) (t c : Nat) (y : RxCh) : (s.setRx t c y).view = s.view := rfl
@[simp] theorem State.setRx_viewDue (s : State) (t c : Nat) (y : RxCh) : (s.setRx t c y).viewDue = s.viewDue := rfl
@[simp] theorem State.setRx_held (s : State) (t c : Nat) (y : RxCh) : (s.setRx t c y).held = s.held := rfl
@[simp] theorem State.setRx_cyc (s : State) (t c : Nat) (y : RxCh) : (s.setRx t c y).cyc = s.cyc := rfl
@[simp] theorem State.setRx_snapNow (s : State) (t c : Nat) (y : RxCh) : (s.setRx t c y).snapNow = s.snapNow := rfl
@[simp] theorem State.setRx_cmds (s : State) (t c : Nat) (y : RxCh) : (s.setRx t c y).cmds = s.cmds := rfl
@[simp] theorem State.setRx_heldCpl (s : State) (t c : Nat) (y : RxCh) : (s.setRx t c y).heldCpl = s.heldCpl := rfl
@[simp] theorem State.setRx_evt (s : State) (t c : Nat) (y : RxCh) : (s.setRx t c y).evt = s.evt := rfl
@[simp] theorem State.setRx_pci (s : State) (t c : Nat) (y : RxCh) : (s.setRx t c y).pci = s.pci := rfl
@[simp] theorem State.setRx_hiLatch (s : State) (t c : Nat) (y : RxCh) : (s.setRx t c y).hiLatch = s.hiLatch := rfl
@[simp] theorem State.setRx_dev (s : State) (t c : Nat) (y : RxCh) : (s.setRx t c y).dev = s.dev := rfl
@[simp] theorem State.setRx_pwr (s : State) (t c : Nat) (y : RxCh) : (s.setRx t c y).pwr = s.pwr := rfl
@[simp] theorem State.setRx_clk (s : State) (t c : Nat) (y : RxCh) : (s.setRx t c y).clk = s.clk := rfl
@[simp] theorem State.setRx_spdPort (s : State) (t c : Nat) (y : RxCh) : (s.setRx t c y).spdPort = s.spdPort := rfl
@[simp] theorem State.setRx_dram (s : State) (t c : Nat) (y : RxCh) : (s.setRx t c y).dram = s.dram := rfl
@[simp] theorem State.setRx_spd (s : State) (t c : Nat) (y : RxCh) : (s.setRx t c y).spd = s.spd := rfl
@[simp] theorem State.setRx_mem (s : State) (t c : Nat) (y : RxCh) : (s.setRx t c y).mem = s.mem := rfl
@[simp] theorem State.setRx_shu (s : State) (t c : Nat) (y : RxCh) : (s.setRx t c y).shu = s.shu := rfl
@[simp] theorem State.setRx_toStage (s : State) (t c : Nat) (y : RxCh) : (s.setRx t c y).toStage = s.toStage := rfl
@[simp] theorem State.setRx_frm (s : State) (t c : Nat) (y : RxCh) : (s.setRx t c y).frm = s.frm := rfl
@[simp] theorem State.setRx_hed (s : State) (t c : Nat) (y : RxCh) : (s.setRx t c y).hed = s.hed := rfl
@[simp] theorem State.setRx_emd (s : State) (t c : Nat) (y : RxCh) : (s.setRx t c y).emd = s.emd := rfl
@[simp] theorem State.setRx_encIn (s : State) (t c : Nat) (y : RxCh) : (s.setRx t c y).encIn = s.encIn := rfl
@[simp] theorem State.setRx_trd (s : State) (t c : Nat) (y : RxCh) : (s.setRx t c y).trd = s.trd := rfl
@[simp] theorem State.setRx_sel (s : State) (t c : Nat) (y : RxCh) : (s.setRx t c y).sel = s.sel := rfl
@[simp] theorem State.setRx_saf (s : State) (t c : Nat) (y : RxCh) : (s.setRx t c y).saf = s.saf := rfl
@[simp] theorem State.setRx_degAcc (s : State) (t c : Nat) (y : RxCh) : (s.setRx t c y).degAcc = s.degAcc := rfl
@[simp] theorem State.setRx_img (s : State) (t c : Nat) (y : RxCh) : (s.setRx t c y).img = s.img := rfl
@[simp] theorem State.setRx_fuse (s : State) (t c : Nat) (y : RxCh) : (s.setRx t c y).fuse = s.fuse := rfl
@[simp] theorem State.setRx_wire (s : State) (t c : Nat) (y : RxCh) : (s.setRx t c y).wire = s.wire := rfl
@[simp] theorem State.setRx_lnk (s : State) (t c : Nat) (y : RxCh) : (s.setRx t c y).lnk = s.lnk := rfl
@[simp] theorem State.setRx_sup (s : State) (t c : Nat) (y : RxCh) : (s.setRx t c y).sup = s.sup := rfl
@[simp] theorem State.setRx_thm (s : State) (t c : Nat) (y : RxCh) : (s.setRx t c y).thm = s.thm := rfl
@[simp] theorem State.setRx_lpe (s : State) (t c : Nat) (y : RxCh) : (s.setRx t c y).lpe = s.lpe := rfl
@[simp] theorem State.setRx_ind (s : State) (t c : Nat) (y : RxCh) : (s.setRx t c y).ind = s.ind := rfl
@[simp] theorem State.setRx_get (s : State) (t c : Nat) (y : RxCh) (g : Fld) : (s.setRx t c y).get g = s.get g := rfl
@[simp] theorem State.setRx_flag (s : State) (t c : Nat) (y : RxCh) (g : Fld) : (s.setRx t c y).flag g = s.flag g := rfl
@[simp] theorem State.setRx_word (s : State) (t c : Nat) (y : RxCh) (a' : Nat) : (s.setRx t c y).word a' = s.word a' := rfl

/-! ### setSlot -/

@[simp] theorem State.setSlot_pending (s : State) (k : Nat) (x : TrdSlot) : (s.setSlot k x).pending = s.pending := rfl
@[simp] theorem State.setSlot_now (s : State) (k : Nat) (x : TrdSlot) : (s.setSlot k x).now = s.now := rfl
@[simp] theorem State.setSlot_releasedAt (s : State) (k : Nat) (x : TrdSlot) : (s.setSlot k x).releasedAt = s.releasedAt := rfl
@[simp] theorem State.setSlot_regs (s : State) (k : Nat) (x : TrdSlot) : (s.setSlot k x).regs = s.regs := rfl
@[simp] theorem State.setSlot_out (s : State) (k : Nat) (x : TrdSlot) : (s.setSlot k x).out = s.out := rfl
@[simp] theorem State.setSlot_freeCount (s : State) (k : Nat) (x : TrdSlot) : (s.setSlot k x).freeCount = s.freeCount := rfl
@[simp] theorem State.setSlot_stage (s : State) (k : Nat) (x : TrdSlot) : (s.setSlot k x).stage = s.stage := rfl
@[simp] theorem State.setSlot_acqOpen (s : State) (k : Nat) (x : TrdSlot) : (s.setSlot k x).acqOpen = s.acqOpen := rfl
@[simp] theorem State.setSlot_decided (s : State) (k : Nat) (x : TrdSlot) : (s.setSlot k x).decided = s.decided := rfl
@[simp] theorem State.setSlot_incRaised (s : State) (k : Nat) (x : TrdSlot) : (s.setSlot k x).incRaised = s.incRaised := rfl
@[simp] theorem State.setSlot_dataOvrRaised (s : State) (k : Nat) (x : TrdSlot) : (s.setSlot k x).dataOvrRaised = s.dataOvrRaised := rfl
@[simp] theorem State.setSlot_closing (s : State) (k : Nat) (x : TrdSlot) : (s.setSlot k x).closing = s.closing := rfl
@[simp] theorem State.setSlot_view (s : State) (k : Nat) (x : TrdSlot) : (s.setSlot k x).view = s.view := rfl
@[simp] theorem State.setSlot_viewDue (s : State) (k : Nat) (x : TrdSlot) : (s.setSlot k x).viewDue = s.viewDue := rfl
@[simp] theorem State.setSlot_held (s : State) (k : Nat) (x : TrdSlot) : (s.setSlot k x).held = s.held := rfl
@[simp] theorem State.setSlot_cyc (s : State) (k : Nat) (x : TrdSlot) : (s.setSlot k x).cyc = s.cyc := rfl
@[simp] theorem State.setSlot_snapNow (s : State) (k : Nat) (x : TrdSlot) : (s.setSlot k x).snapNow = s.snapNow := rfl
@[simp] theorem State.setSlot_cmds (s : State) (k : Nat) (x : TrdSlot) : (s.setSlot k x).cmds = s.cmds := rfl
@[simp] theorem State.setSlot_heldCpl (s : State) (k : Nat) (x : TrdSlot) : (s.setSlot k x).heldCpl = s.heldCpl := rfl
@[simp] theorem State.setSlot_evt (s : State) (k : Nat) (x : TrdSlot) : (s.setSlot k x).evt = s.evt := rfl
@[simp] theorem State.setSlot_pci (s : State) (k : Nat) (x : TrdSlot) : (s.setSlot k x).pci = s.pci := rfl
@[simp] theorem State.setSlot_hiLatch (s : State) (k : Nat) (x : TrdSlot) : (s.setSlot k x).hiLatch = s.hiLatch := rfl
@[simp] theorem State.setSlot_dev (s : State) (k : Nat) (x : TrdSlot) : (s.setSlot k x).dev = s.dev := rfl
@[simp] theorem State.setSlot_pwr (s : State) (k : Nat) (x : TrdSlot) : (s.setSlot k x).pwr = s.pwr := rfl
@[simp] theorem State.setSlot_clk (s : State) (k : Nat) (x : TrdSlot) : (s.setSlot k x).clk = s.clk := rfl
@[simp] theorem State.setSlot_spdPort (s : State) (k : Nat) (x : TrdSlot) : (s.setSlot k x).spdPort = s.spdPort := rfl
@[simp] theorem State.setSlot_dram (s : State) (k : Nat) (x : TrdSlot) : (s.setSlot k x).dram = s.dram := rfl
@[simp] theorem State.setSlot_spd (s : State) (k : Nat) (x : TrdSlot) : (s.setSlot k x).spd = s.spd := rfl
@[simp] theorem State.setSlot_mem (s : State) (k : Nat) (x : TrdSlot) : (s.setSlot k x).mem = s.mem := rfl
@[simp] theorem State.setSlot_shu (s : State) (k : Nat) (x : TrdSlot) : (s.setSlot k x).shu = s.shu := rfl
@[simp] theorem State.setSlot_toStage (s : State) (k : Nat) (x : TrdSlot) : (s.setSlot k x).toStage = s.toStage := rfl
@[simp] theorem State.setSlot_tiles (s : State) (k : Nat) (x : TrdSlot) : (s.setSlot k x).tiles = s.tiles := rfl
@[simp] theorem State.setSlot_frm (s : State) (k : Nat) (x : TrdSlot) : (s.setSlot k x).frm = s.frm := rfl
@[simp] theorem State.setSlot_hed (s : State) (k : Nat) (x : TrdSlot) : (s.setSlot k x).hed = s.hed := rfl
@[simp] theorem State.setSlot_emd (s : State) (k : Nat) (x : TrdSlot) : (s.setSlot k x).emd = s.emd := rfl
@[simp] theorem State.setSlot_encIn (s : State) (k : Nat) (x : TrdSlot) : (s.setSlot k x).encIn = s.encIn := rfl
@[simp] theorem State.setSlot_sel (s : State) (k : Nat) (x : TrdSlot) : (s.setSlot k x).sel = s.sel := rfl
@[simp] theorem State.setSlot_saf (s : State) (k : Nat) (x : TrdSlot) : (s.setSlot k x).saf = s.saf := rfl
@[simp] theorem State.setSlot_degAcc (s : State) (k : Nat) (x : TrdSlot) : (s.setSlot k x).degAcc = s.degAcc := rfl
@[simp] theorem State.setSlot_img (s : State) (k : Nat) (x : TrdSlot) : (s.setSlot k x).img = s.img := rfl
@[simp] theorem State.setSlot_fuse (s : State) (k : Nat) (x : TrdSlot) : (s.setSlot k x).fuse = s.fuse := rfl
@[simp] theorem State.setSlot_wire (s : State) (k : Nat) (x : TrdSlot) : (s.setSlot k x).wire = s.wire := rfl
@[simp] theorem State.setSlot_lnk (s : State) (k : Nat) (x : TrdSlot) : (s.setSlot k x).lnk = s.lnk := rfl
@[simp] theorem State.setSlot_sup (s : State) (k : Nat) (x : TrdSlot) : (s.setSlot k x).sup = s.sup := rfl
@[simp] theorem State.setSlot_thm (s : State) (k : Nat) (x : TrdSlot) : (s.setSlot k x).thm = s.thm := rfl
@[simp] theorem State.setSlot_lpe (s : State) (k : Nat) (x : TrdSlot) : (s.setSlot k x).lpe = s.lpe := rfl
@[simp] theorem State.setSlot_ind (s : State) (k : Nat) (x : TrdSlot) : (s.setSlot k x).ind = s.ind := rfl
@[simp] theorem State.setSlot_get (s : State) (k : Nat) (x : TrdSlot) (g : Fld) : (s.setSlot k x).get g = s.get g := rfl
@[simp] theorem State.setSlot_flag (s : State) (k : Nat) (x : TrdSlot) (g : Fld) : (s.setSlot k x).flag g = s.flag g := rfl
@[simp] theorem State.setSlot_word (s : State) (k : Nat) (x : TrdSlot) (a' : Nat) : (s.setSlot k x).word a' = s.word a' := rfl

@[simp] theorem State.advance_now (s : State) (dt : Nat) : (s.advance dt).now = s.now + dt := rfl
@[simp] theorem State.advance_out (s : State) (dt : Nat) : (s.advance dt).out = [] := rfl
@[simp] theorem State.emit_out (s : State) (o : Output) : (s.emit o).out = s.out ++ [o] := rfl
@[simp] theorem State.setStage_stage (s : State) (g : Staging) : (s.setStage g).stage = g := rfl
@[simp] theorem State.startCmd_cmds (s : State) (c : RunCmd) : (s.startCmd c).cmds = s.cmds ++ [c] := rfl
@[simp] theorem State.handOver_toStage (s : State) (r : StreamRec) : (s.handOver r).toStage = s.toStage ++ [r] := rfl

/-! ### Units in tables -/

@[simp] theorem State.axis_setAxis_self (s : State) (a : Nat) (x : Axis) : (s.setAxis a x).axis a = x :=
  tabGet_tabSet_self _ _ _ _

theorem State.axis_setAxis_other (s : State) (a i : Nat) (x : Axis) (h : i ≠ a) :
    (s.setAxis a x).axis i = s.axis i := tabGet_tabSet_other _ _ _ _ _ h

@[simp] theorem State.axis_advance (s : State) (dt : Nat) (i' : Nat) : (s.advance dt).axis i' = s.axis i' := rfl
@[simp] theorem State.axis_put (s : State) (f : Fld) (v : Nat) (i' : Nat) : (s.put f v).axis i' = s.axis i' := rfl
@[simp] theorem State.axis_putB (s : State) (f : Fld) (b : Bool) (i' : Nat) : (s.putB f b).axis i' = s.axis i' := rfl
@[simp] theorem State.axis_setWord (s : State) (a : Nat) (w : Word) (i' : Nat) : (s.setWord a w).axis i' = s.axis i' := rfl
@[simp] theorem State.axis_addSat (s : State) (f : Fld) (n : Nat) (i' : Nat) : (s.addSat f n).axis i' = s.axis i' := rfl
@[simp] theorem State.axis_bump (s : State) (f : Fld) (i' : Nat) : (s.bump f).axis i' = s.axis i' := rfl
@[simp] theorem State.axis_setStage (s : State) (g : Staging) (i' : Nat) : (s.setStage g).axis i' = s.axis i' := rfl
@[simp] theorem State.axis_emit (s : State) (o : Output) (i' : Nat) : (s.emit o).axis i' = s.axis i' := rfl
@[simp] theorem State.axis_touch (s : State) (a : Nat) (i' : Nat) : (s.touch a).axis i' = s.axis i' := rfl
@[simp] theorem State.axis_startCmd (s : State) (c : RunCmd) (i' : Nat) : (s.startCmd c).axis i' = s.axis i' := rfl
@[simp] theorem State.axis_handOver (s : State) (r : StreamRec) (i' : Nat) : (s.handOver r).axis i' = s.axis i' := rfl
@[simp] theorem State.axis_setPair (s : State) (p : Nat) (x : Pair) (i' : Nat) : (s.setPair p x).axis i' = s.axis i' := rfl
@[simp] theorem State.axis_setSender (s : State) (m : Nat) (x : Sender) (i' : Nat) : (s.setSender m x).axis i' = s.axis i' := rfl
@[simp] theorem State.axis_setLane (s : State) (n : Nat) (x : Lane) (i' : Nat) : (s.setLane n x).axis i' = s.axis i' := rfl
@[simp] theorem State.axis_setPort (s : State) (p : Nat) (x : LnkPort) (i' : Nat) : (s.setPort p x).axis i' = s.axis i' := rfl
@[simp] theorem State.axis_setChan (s : State) (c : Nat) (x : ShuChan) (i' : Nat) : (s.setChan c x).axis i' = s.axis i' := rfl
@[simp] theorem State.axis_setTile (s : State) (t : Nat) (x : Tile) (i' : Nat) : (s.setTile t x).axis i' = s.axis i' := rfl
@[simp] theorem State.axis_modTile (s : State) (t : Nat) (f : Tile → Tile) (i' : Nat) : (s.modTile t f).axis i' = s.axis i' := rfl
@[simp] theorem State.axis_setRx (s : State) (t c : Nat) (y : RxCh) (i' : Nat) : (s.setRx t c y).axis i' = s.axis i' := rfl
@[simp] theorem State.axis_setSlot (s : State) (k : Nat) (x : TrdSlot) (i' : Nat) : (s.setSlot k x).axis i' = s.axis i' := rfl

@[simp] theorem State.pair_setPair_self (s : State) (p : Nat) (x : Pair) : (s.setPair p x).pair p = x :=
  tabGet_tabSet_self _ _ _ _

theorem State.pair_setPair_other (s : State) (p i : Nat) (x : Pair) (h : i ≠ p) :
    (s.setPair p x).pair i = s.pair i := tabGet_tabSet_other _ _ _ _ _ h

@[simp] theorem State.pair_advance (s : State) (dt : Nat) (i' : Nat) : (s.advance dt).pair i' = s.pair i' := rfl
@[simp] theorem State.pair_put (s : State) (f : Fld) (v : Nat) (i' : Nat) : (s.put f v).pair i' = s.pair i' := rfl
@[simp] theorem State.pair_putB (s : State) (f : Fld) (b : Bool) (i' : Nat) : (s.putB f b).pair i' = s.pair i' := rfl
@[simp] theorem State.pair_setWord (s : State) (a : Nat) (w : Word) (i' : Nat) : (s.setWord a w).pair i' = s.pair i' := rfl
@[simp] theorem State.pair_addSat (s : State) (f : Fld) (n : Nat) (i' : Nat) : (s.addSat f n).pair i' = s.pair i' := rfl
@[simp] theorem State.pair_bump (s : State) (f : Fld) (i' : Nat) : (s.bump f).pair i' = s.pair i' := rfl
@[simp] theorem State.pair_setStage (s : State) (g : Staging) (i' : Nat) : (s.setStage g).pair i' = s.pair i' := rfl
@[simp] theorem State.pair_emit (s : State) (o : Output) (i' : Nat) : (s.emit o).pair i' = s.pair i' := rfl
@[simp] theorem State.pair_touch (s : State) (a : Nat) (i' : Nat) : (s.touch a).pair i' = s.pair i' := rfl
@[simp] theorem State.pair_startCmd (s : State) (c : RunCmd) (i' : Nat) : (s.startCmd c).pair i' = s.pair i' := rfl
@[simp] theorem State.pair_handOver (s : State) (r : StreamRec) (i' : Nat) : (s.handOver r).pair i' = s.pair i' := rfl
@[simp] theorem State.pair_setAxis (s : State) (a : Nat) (x : Axis) (i' : Nat) : (s.setAxis a x).pair i' = s.pair i' := rfl
@[simp] theorem State.pair_setSender (s : State) (m : Nat) (x : Sender) (i' : Nat) : (s.setSender m x).pair i' = s.pair i' := rfl
@[simp] theorem State.pair_setLane (s : State) (n : Nat) (x : Lane) (i' : Nat) : (s.setLane n x).pair i' = s.pair i' := rfl
@[simp] theorem State.pair_setPort (s : State) (p : Nat) (x : LnkPort) (i' : Nat) : (s.setPort p x).pair i' = s.pair i' := rfl
@[simp] theorem State.pair_setChan (s : State) (c : Nat) (x : ShuChan) (i' : Nat) : (s.setChan c x).pair i' = s.pair i' := rfl
@[simp] theorem State.pair_setTile (s : State) (t : Nat) (x : Tile) (i' : Nat) : (s.setTile t x).pair i' = s.pair i' := rfl
@[simp] theorem State.pair_modTile (s : State) (t : Nat) (f : Tile → Tile) (i' : Nat) : (s.modTile t f).pair i' = s.pair i' := rfl
@[simp] theorem State.pair_setRx (s : State) (t c : Nat) (y : RxCh) (i' : Nat) : (s.setRx t c y).pair i' = s.pair i' := rfl
@[simp] theorem State.pair_setSlot (s : State) (k : Nat) (x : TrdSlot) (i' : Nat) : (s.setSlot k x).pair i' = s.pair i' := rfl

@[simp] theorem State.sender_setSender_self (s : State) (m : Nat) (x : Sender) : (s.setSender m x).sender m = x :=
  tabGet_tabSet_self _ _ _ _

theorem State.sender_setSender_other (s : State) (m i : Nat) (x : Sender) (h : i ≠ m) :
    (s.setSender m x).sender i = s.sender i := tabGet_tabSet_other _ _ _ _ _ h

@[simp] theorem State.sender_advance (s : State) (dt : Nat) (i' : Nat) : (s.advance dt).sender i' = s.sender i' := rfl
@[simp] theorem State.sender_put (s : State) (f : Fld) (v : Nat) (i' : Nat) : (s.put f v).sender i' = s.sender i' := rfl
@[simp] theorem State.sender_putB (s : State) (f : Fld) (b : Bool) (i' : Nat) : (s.putB f b).sender i' = s.sender i' := rfl
@[simp] theorem State.sender_setWord (s : State) (a : Nat) (w : Word) (i' : Nat) : (s.setWord a w).sender i' = s.sender i' := rfl
@[simp] theorem State.sender_addSat (s : State) (f : Fld) (n : Nat) (i' : Nat) : (s.addSat f n).sender i' = s.sender i' := rfl
@[simp] theorem State.sender_bump (s : State) (f : Fld) (i' : Nat) : (s.bump f).sender i' = s.sender i' := rfl
@[simp] theorem State.sender_setStage (s : State) (g : Staging) (i' : Nat) : (s.setStage g).sender i' = s.sender i' := rfl
@[simp] theorem State.sender_emit (s : State) (o : Output) (i' : Nat) : (s.emit o).sender i' = s.sender i' := rfl
@[simp] theorem State.sender_touch (s : State) (a : Nat) (i' : Nat) : (s.touch a).sender i' = s.sender i' := rfl
@[simp] theorem State.sender_startCmd (s : State) (c : RunCmd) (i' : Nat) : (s.startCmd c).sender i' = s.sender i' := rfl
@[simp] theorem State.sender_handOver (s : State) (r : StreamRec) (i' : Nat) : (s.handOver r).sender i' = s.sender i' := rfl
@[simp] theorem State.sender_setAxis (s : State) (a : Nat) (x : Axis) (i' : Nat) : (s.setAxis a x).sender i' = s.sender i' := rfl
@[simp] theorem State.sender_setPair (s : State) (p : Nat) (x : Pair) (i' : Nat) : (s.setPair p x).sender i' = s.sender i' := rfl
@[simp] theorem State.sender_setLane (s : State) (n : Nat) (x : Lane) (i' : Nat) : (s.setLane n x).sender i' = s.sender i' := rfl
@[simp] theorem State.sender_setPort (s : State) (p : Nat) (x : LnkPort) (i' : Nat) : (s.setPort p x).sender i' = s.sender i' := rfl
@[simp] theorem State.sender_setChan (s : State) (c : Nat) (x : ShuChan) (i' : Nat) : (s.setChan c x).sender i' = s.sender i' := rfl
@[simp] theorem State.sender_setTile (s : State) (t : Nat) (x : Tile) (i' : Nat) : (s.setTile t x).sender i' = s.sender i' := rfl
@[simp] theorem State.sender_modTile (s : State) (t : Nat) (f : Tile → Tile) (i' : Nat) : (s.modTile t f).sender i' = s.sender i' := rfl
@[simp] theorem State.sender_setRx (s : State) (t c : Nat) (y : RxCh) (i' : Nat) : (s.setRx t c y).sender i' = s.sender i' := rfl
@[simp] theorem State.sender_setSlot (s : State) (k : Nat) (x : TrdSlot) (i' : Nat) : (s.setSlot k x).sender i' = s.sender i' := rfl

@[simp] theorem State.lane_setLane_self (s : State) (n : Nat) (x : Lane) : (s.setLane n x).lane n = x :=
  tabGet_tabSet_self _ _ _ _

theorem State.lane_setLane_other (s : State) (n i : Nat) (x : Lane) (h : i ≠ n) :
    (s.setLane n x).lane i = s.lane i := tabGet_tabSet_other _ _ _ _ _ h

@[simp] theorem State.lane_advance (s : State) (dt : Nat) (i' : Nat) : (s.advance dt).lane i' = s.lane i' := rfl
@[simp] theorem State.lane_put (s : State) (f : Fld) (v : Nat) (i' : Nat) : (s.put f v).lane i' = s.lane i' := rfl
@[simp] theorem State.lane_putB (s : State) (f : Fld) (b : Bool) (i' : Nat) : (s.putB f b).lane i' = s.lane i' := rfl
@[simp] theorem State.lane_setWord (s : State) (a : Nat) (w : Word) (i' : Nat) : (s.setWord a w).lane i' = s.lane i' := rfl
@[simp] theorem State.lane_addSat (s : State) (f : Fld) (n : Nat) (i' : Nat) : (s.addSat f n).lane i' = s.lane i' := rfl
@[simp] theorem State.lane_bump (s : State) (f : Fld) (i' : Nat) : (s.bump f).lane i' = s.lane i' := rfl
@[simp] theorem State.lane_setStage (s : State) (g : Staging) (i' : Nat) : (s.setStage g).lane i' = s.lane i' := rfl
@[simp] theorem State.lane_emit (s : State) (o : Output) (i' : Nat) : (s.emit o).lane i' = s.lane i' := rfl
@[simp] theorem State.lane_touch (s : State) (a : Nat) (i' : Nat) : (s.touch a).lane i' = s.lane i' := rfl
@[simp] theorem State.lane_startCmd (s : State) (c : RunCmd) (i' : Nat) : (s.startCmd c).lane i' = s.lane i' := rfl
@[simp] theorem State.lane_handOver (s : State) (r : StreamRec) (i' : Nat) : (s.handOver r).lane i' = s.lane i' := rfl
@[simp] theorem State.lane_setAxis (s : State) (a : Nat) (x : Axis) (i' : Nat) : (s.setAxis a x).lane i' = s.lane i' := rfl
@[simp] theorem State.lane_setPair (s : State) (p : Nat) (x : Pair) (i' : Nat) : (s.setPair p x).lane i' = s.lane i' := rfl
@[simp] theorem State.lane_setSender (s : State) (m : Nat) (x : Sender) (i' : Nat) : (s.setSender m x).lane i' = s.lane i' := rfl
@[simp] theorem State.lane_setPort (s : State) (p : Nat) (x : LnkPort) (i' : Nat) : (s.setPort p x).lane i' = s.lane i' := rfl
@[simp] theorem State.lane_setChan (s : State) (c : Nat) (x : ShuChan) (i' : Nat) : (s.setChan c x).lane i' = s.lane i' := rfl
@[simp] theorem State.lane_setTile (s : State) (t : Nat) (x : Tile) (i' : Nat) : (s.setTile t x).lane i' = s.lane i' := rfl
@[simp] theorem State.lane_modTile (s : State) (t : Nat) (f : Tile → Tile) (i' : Nat) : (s.modTile t f).lane i' = s.lane i' := rfl
@[simp] theorem State.lane_setRx (s : State) (t c : Nat) (y : RxCh) (i' : Nat) : (s.setRx t c y).lane i' = s.lane i' := rfl
@[simp] theorem State.lane_setSlot (s : State) (k : Nat) (x : TrdSlot) (i' : Nat) : (s.setSlot k x).lane i' = s.lane i' := rfl

@[simp] theorem State.port_setPort_self (s : State) (p : Nat) (x : LnkPort) : (s.setPort p x).port p = x :=
  tabGet_tabSet_self _ _ _ _

theorem State.port_setPort_other (s : State) (p i : Nat) (x : LnkPort) (h : i ≠ p) :
    (s.setPort p x).port i = s.port i := tabGet_tabSet_other _ _ _ _ _ h

@[simp] theorem State.port_advance (s : State) (dt : Nat) (i' : Nat) : (s.advance dt).port i' = s.port i' := rfl
@[simp] theorem State.port_put (s : State) (f : Fld) (v : Nat) (i' : Nat) : (s.put f v).port i' = s.port i' := rfl
@[simp] theorem State.port_putB (s : State) (f : Fld) (b : Bool) (i' : Nat) : (s.putB f b).port i' = s.port i' := rfl
@[simp] theorem State.port_setWord (s : State) (a : Nat) (w : Word) (i' : Nat) : (s.setWord a w).port i' = s.port i' := rfl
@[simp] theorem State.port_addSat (s : State) (f : Fld) (n : Nat) (i' : Nat) : (s.addSat f n).port i' = s.port i' := rfl
@[simp] theorem State.port_bump (s : State) (f : Fld) (i' : Nat) : (s.bump f).port i' = s.port i' := rfl
@[simp] theorem State.port_setStage (s : State) (g : Staging) (i' : Nat) : (s.setStage g).port i' = s.port i' := rfl
@[simp] theorem State.port_emit (s : State) (o : Output) (i' : Nat) : (s.emit o).port i' = s.port i' := rfl
@[simp] theorem State.port_touch (s : State) (a : Nat) (i' : Nat) : (s.touch a).port i' = s.port i' := rfl
@[simp] theorem State.port_startCmd (s : State) (c : RunCmd) (i' : Nat) : (s.startCmd c).port i' = s.port i' := rfl
@[simp] theorem State.port_handOver (s : State) (r : StreamRec) (i' : Nat) : (s.handOver r).port i' = s.port i' := rfl
@[simp] theorem State.port_setAxis (s : State) (a : Nat) (x : Axis) (i' : Nat) : (s.setAxis a x).port i' = s.port i' := rfl
@[simp] theorem State.port_setPair (s : State) (p : Nat) (x : Pair) (i' : Nat) : (s.setPair p x).port i' = s.port i' := rfl
@[simp] theorem State.port_setSender (s : State) (m : Nat) (x : Sender) (i' : Nat) : (s.setSender m x).port i' = s.port i' := rfl
@[simp] theorem State.port_setLane (s : State) (n : Nat) (x : Lane) (i' : Nat) : (s.setLane n x).port i' = s.port i' := rfl
@[simp] theorem State.port_setChan (s : State) (c : Nat) (x : ShuChan) (i' : Nat) : (s.setChan c x).port i' = s.port i' := rfl
@[simp] theorem State.port_setTile (s : State) (t : Nat) (x : Tile) (i' : Nat) : (s.setTile t x).port i' = s.port i' := rfl
@[simp] theorem State.port_modTile (s : State) (t : Nat) (f : Tile → Tile) (i' : Nat) : (s.modTile t f).port i' = s.port i' := rfl
@[simp] theorem State.port_setRx (s : State) (t c : Nat) (y : RxCh) (i' : Nat) : (s.setRx t c y).port i' = s.port i' := rfl
@[simp] theorem State.port_setSlot (s : State) (k : Nat) (x : TrdSlot) (i' : Nat) : (s.setSlot k x).port i' = s.port i' := rfl

@[simp] theorem State.chan_setChan_self (s : State) (c : Nat) (x : ShuChan) : (s.setChan c x).chan c = x :=
  tabGet_tabSet_self _ _ _ _

theorem State.chan_setChan_other (s : State) (c i : Nat) (x : ShuChan) (h : i ≠ c) :
    (s.setChan c x).chan i = s.chan i := tabGet_tabSet_other _ _ _ _ _ h

@[simp] theorem State.chan_advance (s : State) (dt : Nat) (i' : Nat) : (s.advance dt).chan i' = s.chan i' := rfl
@[simp] theorem State.chan_put (s : State) (f : Fld) (v : Nat) (i' : Nat) : (s.put f v).chan i' = s.chan i' := rfl
@[simp] theorem State.chan_putB (s : State) (f : Fld) (b : Bool) (i' : Nat) : (s.putB f b).chan i' = s.chan i' := rfl
@[simp] theorem State.chan_setWord (s : State) (a : Nat) (w : Word) (i' : Nat) : (s.setWord a w).chan i' = s.chan i' := rfl
@[simp] theorem State.chan_addSat (s : State) (f : Fld) (n : Nat) (i' : Nat) : (s.addSat f n).chan i' = s.chan i' := rfl
@[simp] theorem State.chan_bump (s : State) (f : Fld) (i' : Nat) : (s.bump f).chan i' = s.chan i' := rfl
@[simp] theorem State.chan_setStage (s : State) (g : Staging) (i' : Nat) : (s.setStage g).chan i' = s.chan i' := rfl
@[simp] theorem State.chan_emit (s : State) (o : Output) (i' : Nat) : (s.emit o).chan i' = s.chan i' := rfl
@[simp] theorem State.chan_touch (s : State) (a : Nat) (i' : Nat) : (s.touch a).chan i' = s.chan i' := rfl
@[simp] theorem State.chan_startCmd (s : State) (c : RunCmd) (i' : Nat) : (s.startCmd c).chan i' = s.chan i' := rfl
@[simp] theorem State.chan_handOver (s : State) (r : StreamRec) (i' : Nat) : (s.handOver r).chan i' = s.chan i' := rfl
@[simp] theorem State.chan_setAxis (s : State) (a : Nat) (x : Axis) (i' : Nat) : (s.setAxis a x).chan i' = s.chan i' := rfl
@[simp] theorem State.chan_setPair (s : State) (p : Nat) (x : Pair) (i' : Nat) : (s.setPair p x).chan i' = s.chan i' := rfl
@[simp] theorem State.chan_setSender (s : State) (m : Nat) (x : Sender) (i' : Nat) : (s.setSender m x).chan i' = s.chan i' := rfl
@[simp] theorem State.chan_setLane (s : State) (n : Nat) (x : Lane) (i' : Nat) : (s.setLane n x).chan i' = s.chan i' := rfl
@[simp] theorem State.chan_setPort (s : State) (p : Nat) (x : LnkPort) (i' : Nat) : (s.setPort p x).chan i' = s.chan i' := rfl
@[simp] theorem State.chan_setTile (s : State) (t : Nat) (x : Tile) (i' : Nat) : (s.setTile t x).chan i' = s.chan i' := rfl
@[simp] theorem State.chan_modTile (s : State) (t : Nat) (f : Tile → Tile) (i' : Nat) : (s.modTile t f).chan i' = s.chan i' := rfl
@[simp] theorem State.chan_setRx (s : State) (t c : Nat) (y : RxCh) (i' : Nat) : (s.setRx t c y).chan i' = s.chan i' := rfl
@[simp] theorem State.chan_setSlot (s : State) (k : Nat) (x : TrdSlot) (i' : Nat) : (s.setSlot k x).chan i' = s.chan i' := rfl

@[simp] theorem State.tileSt_setTile_self (s : State) (t : Nat) (x : Tile) : (s.setTile t x).tileSt t = x :=
  tabGet_tabSet_self _ _ _ _

theorem State.tileSt_setTile_other (s : State) (t i : Nat) (x : Tile) (h : i ≠ t) :
    (s.setTile t x).tileSt i = s.tileSt i := tabGet_tabSet_other _ _ _ _ _ h

@[simp] theorem State.tileSt_advance (s : State) (dt : Nat) (i' : Nat) : (s.advance dt).tileSt i' = s.tileSt i' := rfl
@[simp] theorem State.tileSt_put (s : State) (f : Fld) (v : Nat) (i' : Nat) : (s.put f v).tileSt i' = s.tileSt i' := rfl
@[simp] theorem State.tileSt_putB (s : State) (f : Fld) (b : Bool) (i' : Nat) : (s.putB f b).tileSt i' = s.tileSt i' := rfl
@[simp] theorem State.tileSt_setWord (s : State) (a : Nat) (w : Word) (i' : Nat) : (s.setWord a w).tileSt i' = s.tileSt i' := rfl
@[simp] theorem State.tileSt_addSat (s : State) (f : Fld) (n : Nat) (i' : Nat) : (s.addSat f n).tileSt i' = s.tileSt i' := rfl
@[simp] theorem State.tileSt_bump (s : State) (f : Fld) (i' : Nat) : (s.bump f).tileSt i' = s.tileSt i' := rfl
@[simp] theorem State.tileSt_setStage (s : State) (g : Staging) (i' : Nat) : (s.setStage g).tileSt i' = s.tileSt i' := rfl
@[simp] theorem State.tileSt_emit (s : State) (o : Output) (i' : Nat) : (s.emit o).tileSt i' = s.tileSt i' := rfl
@[simp] theorem State.tileSt_touch (s : State) (a : Nat) (i' : Nat) : (s.touch a).tileSt i' = s.tileSt i' := rfl
@[simp] theorem State.tileSt_startCmd (s : State) (c : RunCmd) (i' : Nat) : (s.startCmd c).tileSt i' = s.tileSt i' := rfl
@[simp] theorem State.tileSt_handOver (s : State) (r : StreamRec) (i' : Nat) : (s.handOver r).tileSt i' = s.tileSt i' := rfl
@[simp] theorem State.tileSt_setAxis (s : State) (a : Nat) (x : Axis) (i' : Nat) : (s.setAxis a x).tileSt i' = s.tileSt i' := rfl
@[simp] theorem State.tileSt_setPair (s : State) (p : Nat) (x : Pair) (i' : Nat) : (s.setPair p x).tileSt i' = s.tileSt i' := rfl
@[simp] theorem State.tileSt_setSender (s : State) (m : Nat) (x : Sender) (i' : Nat) : (s.setSender m x).tileSt i' = s.tileSt i' := rfl
@[simp] theorem State.tileSt_setLane (s : State) (n : Nat) (x : Lane) (i' : Nat) : (s.setLane n x).tileSt i' = s.tileSt i' := rfl
@[simp] theorem State.tileSt_setPort (s : State) (p : Nat) (x : LnkPort) (i' : Nat) : (s.setPort p x).tileSt i' = s.tileSt i' := rfl
@[simp] theorem State.tileSt_setChan (s : State) (c : Nat) (x : ShuChan) (i' : Nat) : (s.setChan c x).tileSt i' = s.tileSt i' := rfl
@[simp] theorem State.tileSt_setSlot (s : State) (k : Nat) (x : TrdSlot) (i' : Nat) : (s.setSlot k x).tileSt i' = s.tileSt i' := rfl

@[simp] theorem State.slot_setSlot_self (s : State) (k : Nat) (x : TrdSlot) : (s.setSlot k x).slot k = x :=
  tabGet_tabSet_self _ _ _ _

theorem State.slot_setSlot_other (s : State) (k i : Nat) (x : TrdSlot) (h : i ≠ k) :
    (s.setSlot k x).slot i = s.slot i := tabGet_tabSet_other _ _ _ _ _ h

@[simp] theorem State.slot_advance (s : State) (dt : Nat) (i' : Nat) : (s.advance dt).slot i' = s.slot i' := rfl
@[simp] theorem State.slot_put (s : State) (f : Fld) (v : Nat) (i' : Nat) : (s.put f v).slot i' = s.slot i' := rfl
@[simp] theorem State.slot_putB (s : State) (f : Fld) (b : Bool) (i' : Nat) : (s.putB f b).slot i' = s.slot i' := rfl
@[simp] theorem State.slot_setWord (s : State) (a : Nat) (w : Word) (i' : Nat) : (s.setWord a w).slot i' = s.slot i' := rfl
@[simp] theorem State.slot_addSat (s : State) (f : Fld) (n : Nat) (i' : Nat) : (s.addSat f n).slot i' = s.slot i' := rfl
@[simp] theorem State.slot_bump (s : State) (f : Fld) (i' : Nat) : (s.bump f).slot i' = s.slot i' := rfl
@[simp] theorem State.slot_setStage (s : State) (g : Staging) (i' : Nat) : (s.setStage g).slot i' = s.slot i' := rfl
@[simp] theorem State.slot_emit (s : State) (o : Output) (i' : Nat) : (s.emit o).slot i' = s.slot i' := rfl
@[simp] theorem State.slot_touch (s : State) (a : Nat) (i' : Nat) : (s.touch a).slot i' = s.slot i' := rfl
@[simp] theorem State.slot_startCmd (s : State) (c : RunCmd) (i' : Nat) : (s.startCmd c).slot i' = s.slot i' := rfl
@[simp] theorem State.slot_handOver (s : State) (r : StreamRec) (i' : Nat) : (s.handOver r).slot i' = s.slot i' := rfl
@[simp] theorem State.slot_setAxis (s : State) (a : Nat) (x : Axis) (i' : Nat) : (s.setAxis a x).slot i' = s.slot i' := rfl
@[simp] theorem State.slot_setPair (s : State) (p : Nat) (x : Pair) (i' : Nat) : (s.setPair p x).slot i' = s.slot i' := rfl
@[simp] theorem State.slot_setSender (s : State) (m : Nat) (x : Sender) (i' : Nat) : (s.setSender m x).slot i' = s.slot i' := rfl
@[simp] theorem State.slot_setLane (s : State) (n : Nat) (x : Lane) (i' : Nat) : (s.setLane n x).slot i' = s.slot i' := rfl
@[simp] theorem State.slot_setPort (s : State) (p : Nat) (x : LnkPort) (i' : Nat) : (s.setPort p x).slot i' = s.slot i' := rfl
@[simp] theorem State.slot_setChan (s : State) (c : Nat) (x : ShuChan) (i' : Nat) : (s.setChan c x).slot i' = s.slot i' := rfl
@[simp] theorem State.slot_setTile (s : State) (t : Nat) (x : Tile) (i' : Nat) : (s.setTile t x).slot i' = s.slot i' := rfl
@[simp] theorem State.slot_modTile (s : State) (t : Nat) (f : Tile → Tile) (i' : Nat) : (s.modTile t f).slot i' = s.slot i' := rfl
@[simp] theorem State.slot_setRx (s : State) (t c : Nat) (y : RxCh) (i' : Nat) : (s.setRx t c y).slot i' = s.slot i' := rfl

end Sys2Proof.Machine
end

