-- ==== Sys2Proof/Machine/Pins.lean ====
section
/-! DEFINITION. The levels of the output balls as the state gives them (R57, R59, R60, R70, R74, R316, R325, R375, R378, R396, R480, R492).
Pulses and streams leave as outputs of the commands that give them; between them a ball is at the level stated here. -/

namespace Sys2Proof.Machine

/-- The level of a digital ball; an open-drain ball that is released, and a ball whose rail is off, is at high impedance. -/
inductive Level where
  | low | high | hiZ
  deriving DecidableEq, Repr

/-- A ball driven both ways, and an open-drain ball driven low or released. -/
def pushPull (high : Bool) : Level := if high then .high else .low
def openDrain (low : Bool) : Level := if low then .low else .hiZ

/-- A rail is good, by its bit of PWR_RST_CAUSE.BROWNOUT, 9 for VDD_AON (R68). -/
def State.railOk (s : State) (rail : Nat) : Bool := bit s.pwr.rails rail

/-- An OSSD control ball: released while VDDIO_33 is off (R60), high in ON and STOPPING but for test pulses (R314, R316). -/
def State.ossdLevel (s : State) (b : Nat) : Level := if s.railOk 7 then pushPull (s.ballHigh b) else .hiZ

/-- FAULT_N, INT_N, THERM_N, WAKE_N and CLKREQ_N (R57, R324, R378, R396, R492). -/
def State.faultN (s : State) : Level := openDrain s.faultLow
def State.intN (s : State) : Level := openDrain (s.dev != .off && s.intLow)
def State.thermN (s : State) : Level := openDrain s.thm.shut
def State.wakeN (s : State) : Level := openDrain s.pci.wakeLow
def State.clkreqN (s : State) : Level := openDrain (s.domOn 132)

/-- ROT_PWM[b], and CLKOUT[n] as a clock output. SYNC_OUT, a frame strobe and BEAD_OUT are low between their pulses and frames. -/
def State.rotPwm (s : State) (b : Nat) : Level := pushPull (s.rotHigh b)
def State.clkOutLevel (s : State) (n : Nat) : Level := pushPull (s.clkOutHigh n)
def restLevel : Level := .low

/-- The current of EXC[n] in units of 10 µA (R480). -/
def State.excDrive (s : State) (n : Nat) : Nat := if s.supRuns && s.supFlag (SUP_EXC.EN n) then s.supGet (SUP_EXC.ISET n) else 0

/-- The current of an LED sink in units of 0.5 mA while it conducts, for so many µs of a PWM period (R516). -/
def State.ledDrive (s : State) (n : Nat) : Nat × Nat := (tabGet (fun _ => 0) s.ind.iset n, s.ledDrives n)

/-- The transmitter of a lane is in electrical idle: its domain or the engine is Off, or its state says so (R57, R440, R460, R461). -/
def State.laneIdle (s : State) (n : Nat) : Bool :=
  !s.domOn (96 + n) || !s.domOn 133 || [laneDisabled, laneDetect, laneDoze, laneDeep, laneBackoff].contains (s.laneState n)

/-- DDR_RESET_N: low until MEMCFG has been applied (R57, R426). -/
def State.ddrResetN (s : State) : Level := pushPull (s.dramCap != 0)

/-- QSPI_CS_N: low while the flash is read (R57, R363). -/
def State.qspiCsN (s : State) : Level := pushPull (!s.img.load.any (fun l => l.src == 0 && loadPhase l.bytes != 3))

/-- QSPI_CLK is low and QSPI_IO an input while no flash read runs (R57); during one they carry it. -/
def qspiClkRest : Level := .low
def qspiIoRest : Level := .hiZ

/-- PLUG_SCL and PLUG_SDA are released between the transactions of the plug bus (R57). -/
def plugSclRest : Level := openDrain false
def plugSdaRest : Level := openDrain false

/-- TDO between scans (R57). -/
def tdoRest : Level := .hiZ

end Sys2Proof.Machine
end

