-- ==== Sys2Proof/Tests/Slice0.lean ====
section
/-! SUPPORT. Tests: well-formedness, single steps on small states, and for every statement of Obligations.lean a witness for the
hypotheses of each of its cases. -/

namespace Sys2Proof.Tests

open Sys2Proof Sys2Proof.Machine

set_option Elab.async false
set_option linter.unusedVariables false

/-! ### States for the tests and witnesses -/

/-- Every domain awake, in a device state. -/
def up (d : Dev) : State := { State.reset with dev := d, pwr := { State.reset.pwr with waking := 0, released := true } }
/-- In OFF, with the rails in `m` good. -/
def offWith (m : Nat) (lock : Bool) : State := { State.reset with dev := .off, pwr := { State.reset.pwr with rails := m, fromLockout := lock } }

/-- A state with its power fields replaced. -/
def withPwr (s : State) (f : Power → Power) : State := { s with pwr := f s.pwr }

/-- Channel 0 of Shuttle with a request in flight. -/
def busyChan (s : State) : State := { s with shu := [(0, { desc := some [], inflight := 1 })] }

/-- The command ring holds one command, with tag `tag`, at its HEAD. -/
def withCmd (s : State) (op arg tag : Nat) : State :=
  let ws := [op * 2 ^ 24 + tag, arg, 0, 0, 0, 0, 0]
  let s := s.each ((ws ++ [crcWords ws]).zipIdx) (fun s p => s.put (GLB_CMD_ENT.WORD p.2) p.1)
  s.put GLB_CMD_PTR.TAIL 1

/-- A safety message of member `m` with a sequence number, an epoch and a time. -/
def msgOf (m seq ep time : Nat) : List Nat :=
  let ws := [0x3100_0000 + m * 2 ^ 20 + seq, ep, time, 0, 0, 0, 0, 0, 0, 0, 0, 0, 0, 0, 0]
  ws ++ [crcWords ws]
/-- Member 1 of a cell of members 1 and 2, whose timing source it is. -/
def inCell12 (s : State) : State := ((s.put SAF_CELL.MEMBER 1).put SAF_CELL.SOURCE 1).put SAF_CELL.PRESENT 6

/-- DRAM of one enabled channel, initialised. -/
def withDram (s : State) : State :=
  (((s.putB MEM_CFG.INIT_OK true).put MEM_CFG.CH_EN 1).put MEM_CFG.RAW_GB 4).put MEM_CAP.PAGES 0xE_0000
/-- A posted mailbox message. -/
def withMail (s : State) (m : List Nat) : State := s.each m.zipIdx (fun s p => s.put (GLB_MBX_RX.WORD p.2) p.1)

/-- Over DRAM of zeros, the idle slot is marked VALID with the loaded structure, and key slot 0 holds a key. -/
def validIdle (s : State) : State :=
  let s := (s.putB IMG_STAT.A_VALID true).putB IMG_STAT.B_VALID true
  { s.putB IMG_STAT.SAME_STRUCT true with dram := {}, fuse := { s.fuse with keys := [(0, ⟨1, 1⟩)] } }
/-- A load from `src` into a slot, with nothing read. -/
def loadOf (src slot : Nat) (boot : Bool) : Load :=
  { src := src, copy := 0, slot := slot, boot := boot, bytes := [], feed := [], memDone := false }

/-- An interval of one slot, which has been committed. -/
def oneIvl : Ivl :=
  { entry := 0, train := 0, point := 3, n := 1, f1 := 0, listen := false, proof := false, angle := 7, slots := 1 }
/-- Tile 95 enabled with all its channels and SPADs, its slices locked, ticks begun at instant 0. -/
def tile95 : State :=
  let s := (((up .run).putB (T_RX_CTL.TILE_EN 95) true).put (T_RX_CTL.CH_EN 95) 0xFF).put (T_TDC_STAT.DLL_LOCK 95) 0x1FF
  let s := s.each (List.range 8) (fun s c => s.put (T_SPAD_MASK.EN 95 c) 0xFFFFFF)
  { ((s.put (T_GATE_CTL.LEN_M1 95) 99).put (T_GATE_CTL.START 95) 0).put (T_COINC_CTL.K_FIX 95) 1 with saf := { s.saf with tick0 := some 0 } }
/-- Tile 95 with its gate open. -/
def gateOpen95 : State := { tile95 with tiles := [(95, { gates := [⟨0, 1, true⟩], ivl := some oneIvl })] }

/-- A filled half of channel `c`, with `n` counts in bin 3 of the window 0 to 7 and no gate where there are none. -/
def halfOf (c n : Nat) (proof : Bool) : Half :=
  { ch := c, half := 0, train := 0, point := 3, listen := false, proof := proof, angle := 7, supp := 0, wl := 0, we := 7, f1 := 0
    gatesC := min n 16, gatesF := 0, fs := [], sat := false, rchg := false, tac := false, k := 1, w := 1, band := 0
    rate := 0, blind := false, epoch := 0, bins := if n = 0 then [] else [(3, n)], fac := [] }

/-- Channel 63 takes the lists of tile 95, of which the last holds an entry. -/
def listOut : State :=
  let route := (List.range 98).map (fun t => if t = 95 then 2 ^ 26 + 63 * 2 ^ 16 else 0)
  { tile95.put (SHU_CFG.STAGE 63) 1 with
    tiles := [(95, { lists := [(7, { on := true, q := [(9, 0)] })] })]
    img := { cfg := { route := route } } }

/-- In an acquisition window of RUN, with a shot table of one entry. -/
def shooting (entry : List Nat) : State :=
  let s := (((up .run).putB HED_STAT.TABLE_VALID true).putB HED_CTL.FIRE_EN true).putB EMD_STAT.CEIL_UNSET false
  { s.put CLK_STAT.PLLT_BYP 0 with clk := { s.clk with dueAt := 10 ^ 9 }, hed := { tab := entry ++ [0, 0, 0, 0] }, acqOpen := true }

/-- Treadle slot `k` enabled on a sensed voltage. -/
def slotRuns (k : Nat) : State := ((up .run).putB (TRD_CTL.EN k) true).put (TRD_CTL.TYPE k) 3

/-- Encoder 7 is given to Treadle. -/
def encGiven : State := { up .run with img := { res := [(resId 0 7 * 2 ^ 18 + 2 ^ 17, 0)] } }
/-- Axis `a` monitored. -/
def axisOn (a : Nat) : State := { up .run with saf := { axes := [(a, { on := true })] } }

/-- The converters run, with these registers in the active bank beside SUP_CTL. -/
def supOn (l : Tab Word) : State :=
  { up .run with sup := { bank := (SUP_CTL.addr, 0x80000001#32) :: l } }

/-- Every ball that Loupe samples is low. -/
def quietPins : LoupePins := ⟨0, 0, 0, false, false, 0⟩
/-- Loupe records, with pattern 0 on the low byte, which the next sample will match. -/
def loupeArmed : State :=
  { up .run with lpe := { gridAt := 6, vec := some 0, cfg := [
      (LPE_CTL.addr, 0x80000000#32), (LPE_SGRP_LO.addr, 0#32), (LPE_PAT_CTL.EN 0 |>.addr, 0x80000000#32),
      (LPE_PAT_MASK_LO.BITS 0 |>.addr, 0xFF#32), (LPE_PAT_VAL_LO.BITS 0 |>.addr, 4#32)] } }

/-- A copy of 8 scratchpad bytes from 0 to 0x100, owned by the device, with its CRC. -/
def descWords : List Nat :=
  let ws := [0x8110_0000, 0, 0, 0x100, 0, 8, 0, 0, 0, 0, 0]
  ws ++ [crcWords (0x0110_0000 :: ws.drop 1), 0, 0, 0, 0]
/-- A channel whose ring in host memory holds one descriptor. -/
def shuReady (c : Nat) : State :=
  ((((up .run).putB (SHU_CFG.EN c) true).put (SHU_CFG.RING_KIND c) 2).put (SHU_CFG.SIZE_LOG2 c) 2).put (SHU_PTR.TAIL c) 1

/-- Lane `n` in state `st`, with work `x`. -/
def laneAt (n st : Nat) (x : Lane) : State := ((up .run).setLane n x).put (LNK_LANE_STAT.STATE n) st
/-- Port 0 runs on lane 8, with `x` beyond its registers. -/
def portOn (x : LnkPort) : State :=
  let s := ((laneAt 8 6 {}).putB (LNK_PORT_STAT.UP 0) true).put (LNK_PORT_STAT.ACTIVE 0) 0x100
  (s.put (LNK_PORT_STAT.WIDTH 0) 1).setPort 0 x

/-- The picks of a class 0 message of member 2, as header, data and trailer. -/
def msgPicks (seq hops : Nat) : List Nat :=
  let ws := msgOf 2 9 0 0
  flitPicks 0 seq 0 hops false ((List.range 8).map (fun i => nth ws (2 * i) 0 + nth ws (2 * i + 1) 0 * 2 ^ 32))
/-- The receive buffers of a port, all free. -/
def freshPort : LnkPort := { granted := [(0, 128), (1, 4096), (2, 1024), (3, 512)] }
/-- Port 0 runs as a cell port of member 1. -/
def cellPort (s : State) : State :=
  { s with img := { s.img with cfg := { s.img.cfg with link := [0x06060101, 0xC1820000, 0xC2C20000] } } }

/-- Port 0 runs with DOZE_EN and DEEP_EN. -/
def dozePort (x : LnkPort) (pwr st : Nat) : State :=
  let s := ((portOn x).put (LNK_PORT_STAT.PWR 0) pwr).put (LNK_LANE_STAT.STATE 8) st
  { s with img := { s.img with cfg := { s.img.cfg with link := [0x06060101, 0xB0820000] } } }

/-! ### Well-formedness: for each check a command that it refuses -/

theorem test_wf_register_address : (Instr.registerWrite 0 0x1_0002 0 15 false false).wf = false ∧
    (Instr.rwsWrite 0 (2 ^ 26) 0 false).wf = false ∧ (Instr.registerRead 0 1).wf = false ∧
    (Instr.registerRead 0 0x1_0000).wf = true := by decide

theorem test_wf_aperture : (Instr.bar4Access 0 2 none 0).wf = false ∧ (Instr.bar4Access 0 (2 ^ 36) none 0).wf = false ∧
    (Instr.bar2Access 0 (2 ^ 22) none 15 false).wf = false ∧ (Instr.bar2Access 0 0x3F_FFFC none 15 false).wf = true := by decide

theorem test_wf_codes : (Instr.biasMeasurement 0 0 0 1024).wf = false ∧ (Instr.avalanche 0 0 0 0 1024 0).wf = false ∧
    (Instr.avalanche 0 0 0 0 0 1024).wf = false ∧ (Instr.auditVerdict 0 0 [1]).wf = false := by decide

theorem test_wf_lengths : (Instr.thermalMeasurement 0 [] []).wf = false ∧ (Instr.plugReadAttempt 0 .data [1]).wf = false ∧
    (Instr.safetyMessageReceive 0 (List.replicate 16 (2 ^ 32))).wf = false ∧ (Instr.ledPwmPeriod 0 []).wf = false ∧
    (Instr.descriptorTake 0 0 [1] 0).wf = false ∧ (Instr.burnDone 0 (2 ^ 384) 0).wf = false ∧
    (Instr.burnDone 0 0 (2 ^ 384)).wf = false := by decide +kernel

theorem test_wf_link : (Instr.plugWrite 0 ⟨[true], List.replicate 16 0⟩).wf = false ∧ (Instr.flit 0 0 (2 ^ 64) [] 0 true).wf = false ∧
    (Instr.flit 0 0 0 [2 ^ 64] 0 true).wf = false ∧ (Instr.flit 0 0 0 [] (2 ^ 64) true).wf = false ∧
    (Instr.shuttleRequestDone 0 0 0 0 [] false false 0).wf = false ∧
    (Instr.shuttleRequestDone 0 0 2 0 [1#8] false false 0).wf = false := by decide +kernel

theorem test_no_word_is_a_command : decodeTableWord 32 0x1234 = none := rfl

/-! ### Worked examples of the spec -/

/-- R43: the CRC-32 of "123456789". -/
theorem test_crc32 : crc32 [0x31#8, 0x32#8, 0x33#8, 0x34#8, 0x35#8, 0x36#8, 0x37#8, 0x38#8, 0x39#8] = 0xCBF4_3926 := by
  decide +kernel

/-- 20_register_summary.md, the example of R530. -/
theorem test_addresses : T_AMB_STAT.addr 37 5 = 0x0125_00F4 ∧ TRD_KP_B.addr 3 = 0x000C_02C0 ∧ EVT_CNT.addr 517 = 0x0002_1814 := by
  decide

/-- 10_steering_control.md, the first sample of the example of R273. -/
theorem test_control_law : controlLaw 2048 64 (-1024) 0 12 32768 4096 61440 30000 22000 21600 40000000 =
    { u := 46558, i := 40512000, sat := false, hold := false } := by decide +kernel

/-- 10_steering_control.md, its second sample: at UMAX the integrator holds. -/
theorem test_control_law_limit : controlLaw 2048 64 (-1024) 0 12 32768 4096 61440 60000 22600 22000 40512000 =
    { u := 61440, i := 40512000, sat := true, hold := true } := by decide +kernel

/-- 10_steering_control.md, the example of R284. -/
theorem test_azimuth : azimuth 9000 0x0004_0000 0x4000_0000 = 0xCCA0 := by decide +kernel

/-- 11_fields_and_speed_monitoring.md, the example of R311: 27,200 counts/s at 20 ms of a ramp of 50 ms. -/
theorem test_allowed_speed :
    let v := ({ ramp := some ⟨40000, 1, 0, 8000, 50⟩ } : Axis).allow 20 8000
    v.1 = 27200 * v.2 := by decide +kernel

/-- 05_receiver_array.md, the example of R122: 0.70 V is 28 steps, and 2.10 V is clamped. -/
theorem test_trim : trimOf 700 = (28, false) ∧ trimOf 2100 = (63, true) := by decide +kernel

/-- 09_returns_and_point_records.md, the example's range. -/
theorem test_range : rangeOf 81353 = (47634, false) := by decide +kernel

/-- 07_firing_and_emitter_safety.md, the dither of output 21 in the example. -/
theorem test_dither : (((up .run).putB (HED_DITH.EN 21) true).put (HED_DITH.DMAX 21) 180).ditherNs 21 60000 = 165 := by
  decide +kernel

/-- 07_firing_and_emitter_safety.md, the sub-pulses of output 21 in the example, in LSB of 15.625 ps. -/
theorem test_pulses :
    let s := ((((up .run).put (HED_CODE_A.NSUB_M1 21) 2).put (HED_CODE_A.WIDTH 21) 32).put (HED_CODE_A.OFS1 21) 80).put
      (HED_CODE_B.OFS2 21) 208
    (s.pulses 21 11644).map (fun p => p.1) = [11644, 11964, 12476] ∧
      (s.pulses 21 11644).map (fun p => p.2) = [11772, 12092, 12604] := by decide +kernel

/-- The half of the example of 08_histogram_engine.md: tile 12, channel 3, point 5 of train 2. -/
def exampleHalf : Half :=
  { ch := 3, half := 0, train := 2, point := 5, listen := false, proof := false, angle := 7, supp := 0, wl := 20, we := 1019, f1 := 6
    gatesC := 6, gatesF := 10, fs := [some 5132, none, none], sat := false, rchg := false, tac := false, k := 2, w := 8
    band := 0, rate := 37, blind := false, epoch := 0x4A10, bins := [(80, 10), (81, 3), (82, 1), (143, 1)]
    fac := [(9, 1), (18, 1), (26, 1), (31, 1), (38, 1), (47, 1), (53, 1)] }

/-- Tile 12 with CAL and CHOFS of the example, its point records routed to channel 5. -/
def exampleTile : State :=
  let s := (((up .run).put (T_RET_CAL.CAL 12) 1280).put (T_RET_CHOFS.CH3 12 0) (unsigned 8 (-6))).put (SHU_CFG.STAGE 5) 1
  { s with img := { cfg := { route := (List.range 98).map (fun t => if t = 12 then 2 ^ 24 + 5 else 0) } } }

/-- 09_returns_and_point_records.md, the point record of the example. -/
theorem test_point_record : (exampleTile.extractPoint 12 exampleHalf).toStage.map (fun r => r.words) =
    [[0x1118_C800, 0x4A10, 0x0050_1110, 7, 0x0025_0000, 0x0BA1_200A, 0x1794_0000]] := by decide +kernel

/-- 15_shuttle_and_memory.md, the capacity of eight channels of 24 GiB. -/
theorem test_capacity : (memWrites [0x0018_00FF]).any (fun w => w.fld == MEM_CAP.PAGES && w.val == 0x02DC_ACA8) = true := by
  decide +kernel

/-! ### Single steps -/

/-- The state after a command. -/
def after (c : Instr) (s : State) : State :=
  match exec c s with
  | .next t => t
  | _ => s

/-- R379: a read of an offset that no register occupies answers 0 and changes no register. -/
theorem test_unassigned : ∀ t, exec (.registerRead 5 0x3_FFFC) (up .run) = .next t → t.dev = .run := by
  intro t h; injection h with h; rw [← h]; rfl

/-- R386: NOP completes with OK. -/
theorem test_nop :
    let t := after (.nop 5) (withCmd (up .boot) opNop 0 3)
    t.get GLB_CPL_PTR.TAIL = 1 ∧ t.get (GLB_CPL_ENT.WORD 0) = opNop * 2 ^ 24 + 3 := by decide +kernel

/-- R422: an atomic add wraps. -/
theorem test_atomic_wraps :
    let s : State := { up .run with spd := (up .run).spd.write 3 0xFF#8 }
    let t := after (.atomicAdd 5) (s.put SPD_ATOM_OPND.VALUE 0xFF00_0001)
    t.get SPD_ATOM_RES.OLD = 0xFF00_0000 ∧ t.spd.readList 0 4 = bytesLE 4 0xFE00_0001 := by decide +kernel

/-- R443: the failure count of a lane saturates in FAILS, and the lane backs off. -/
theorem test_train_timeout :
    let t := after (.trainTo 5 15) (((laneAt 15 2 {}).put (LNK_LANE_STAT.FAILS 15) 7))
    t.laneState 15 = 9 ∧ t.get (LNK_LANE_STAT.FAILS 15) = 7 := by decide +kernel

/-! ### Witnesses -/

/-- A witness for the hypotheses of each clause of Obligations.StepTakesTheFront. -/
theorem witness_StepTakesTheFront :
    (∃ (c : Instr) (rest : List Instr) (s : State), s.pending = c :: rest) ∧
    (∃ s : State, s.pending = []) :=
  ⟨⟨.nop 5, [.stop 7], { State.reset with pending := [.nop 5, .stop 7] }, by decide +kernel⟩,
   ⟨up .run, by decide +kernel⟩⟩

/-- A witness for the hypotheses of each clause of Obligations.MemoryStaysCanonical. -/
theorem witness_MemoryStaysCanonical :
    (∃ s t : State, MemoryWf s ∧ step s = .next t) :=
  ⟨{ up .run with pending := [.nop 5] }, (up .run).advance 5, by decide +kernel, rfl⟩

/-- A witness for the hypotheses of each clause of Obligations.FusesNeverUnburn. -/
theorem witness_FusesNeverUnburn :
    (∃ s t : State, Steps s t) :=
  ⟨{ up .run with pending := [.nop 5] }, (up .run).advance 5, .step rfl (.refl _)⟩

/-- A witness for the hypotheses of each clause of Obligations.EveryQueueDrains. -/
theorem witness_EveryQueueDrains :
    (∃ (c : Instr) (rest : List Instr) (s t : State), s.pending = c :: rest ∧ step s = .next t) :=
  ⟨.nop 5, [.stop 7], { up .run with pending := [.nop 5, .stop 7] }, { (up .run).advance 5 with pending := [.stop 7] }, rfl, rfl⟩

/-- A witness for the hypotheses of each clause of Obligations.RaiseEvent. -/
theorem witness_RaiseEvent :
    (∃ (src cause detail : Nat) (s : State), src < 640 ∧ s.domOn (evtDomain src) = true ∧ s.coalDue = false) ∧
    (∃ (src cause detail : Nat) (s : State), src < 640 ∧ s.domOn (evtDomain src) = true ∧ s.coalDue = false ∧ s.flag (EVT_FIRST_SRC.VALID (evtClass src)) = false) ∧
    (∃ (src cause detail : Nat) (s : State), src < 640 ∧ s.domOn (evtDomain src) = true ∧ s.coalDue = false ∧ s.flag (EVT_FIRST_SRC.VALID (evtClass src)) = true ∧ (bit s.evt.firsts (evtClass src) = false ∨ s.get (EVT_FIRST_SRC.SOURCE (evtClass src)) ≤ src)) ∧
    (∃ (src cause detail : Nat) (s : State), src < 640 ∧ s.domOn (evtDomain src) = true ∧ s.logEvents < 224 ∧ s.evt.used = [] ∧ s.evt.recs = 0) ∧
    (∃ (src cause detail : Nat) (s : State), src < 640 ∧ s.domOn (evtDomain src) = true ∧ s.coalDue = false ∧ (s.flag (evtPend src) = true ∨ s.flag (EVT_SRC.MASK src) = true)) ∧
    (∃ (src cause detail : Nat) (s : State), RaisesAnew s src ∧ s.pci.msixEn = true ∧ s.hostLink = true ∧ s.vecMasked (s.get (EVT_SRC.VEC src)) = true) ∧
    (∃ (src cause detail : Nat) (s : State), RaisesAnew s src ∧ s.pci.msixEn = true ∧ s.hostLink = true ∧ s.vecMasked (s.get (EVT_SRC.VEC src)) = false ∧ s.evt.holdoff.contains (s.get (EVT_SRC.VEC src)) = true) ∧
    (∃ (src cause detail : Nat) (s : State), RaisesAnew s src ∧ s.pci.msixEn = true ∧ s.hostLink = true ∧ s.vecMasked (s.get (EVT_SRC.VEC src)) = false ∧ s.evt.holdoff.contains (s.get (EVT_SRC.VEC src)) = false) ∧
    (∃ (src cause detail : Nat) (s : State), RaisesAnew s src ∧ (s.pci.msixEn = false ∨ s.hostLink = false)) ∧
    (∃ (src cause detail : Nat) (s : State), RaisesAnew s src ∧ s.pci.d3hot = true ∧ s.pci.pmeEn = true) ∧
    (∃ (src cause detail : Nat) (s : State), s.domOn (evtDomain src) = false) :=
  ⟨⟨639, 0x7B, 5, (up .run).put (EVT_CNT.COUNT 639) 0xFFFFFFFF, by decide +kernel⟩,
   ⟨639, 0x7B, 5, up .run, by decide +kernel⟩,
   ⟨639, 0x7B, 5, (((up .run).putB (EVT_FIRST_SRC.VALID 4) true).put (EVT_FIRST_SRC.SOURCE 4) 520), by decide +kernel⟩,
   ⟨0, 0xFF, 5, up .run, by decide +kernel⟩,
   ⟨639, 0x7B, 5, (up .run).putB (evtPend 639) true, by decide +kernel⟩,
   ⟨639, 0x7B, 5, { (((up .run).put EVT_INT_CTL.HOLDOFF 7).put (EVT_SRC.VEC 639) 31).putB (EVT_SRC.MASK 639) false with pci := { (up .run).pci with msixEn := true, funcMask := true } }, by decide +kernel⟩,
   ⟨639, 0x7B, 5, { (((up .run).put EVT_INT_CTL.HOLDOFF 7).put (EVT_SRC.VEC 639) 31).putB (EVT_SRC.MASK 639) false |>.put (EVT_MSIX_TABLE.ENTRY 127) 0 with pci := { (up .run).pci with msixEn := true }, evt := { (up .run).evt with holdoff := [31] } }, by decide +kernel⟩,
   ⟨639, 0x7B, 5, { (((up .run).put EVT_INT_CTL.HOLDOFF 7).put (EVT_SRC.VEC 639) 31).putB (EVT_SRC.MASK 639) false |>.put (EVT_MSIX_TABLE.ENTRY 127) 0 with pci := { (up .run).pci with msixEn := true } }, by decide +kernel⟩,
   ⟨639, 0x7B, 5, (((up .run).put EVT_INT_CTL.HOLDOFF 7).put (EVT_SRC.VEC 639) 31).putB (EVT_SRC.MASK 639) false, by decide +kernel⟩,
   ⟨639, 0x7B, 5, { (((up .run).put EVT_INT_CTL.HOLDOFF 7).put (EVT_SRC.VEC 639) 31).putB (EVT_SRC.MASK 639) false with pci := { (up .run).pci with d3hot := true, pmeEn := true } }, by decide +kernel⟩,
   ⟨0, 1, 2, State.reset, by decide +kernel⟩⟩

/-- A witness for the hypotheses of each clause of Obligations.ShadowNesting. -/
theorem witness_ShadowNesting :
    (∃ (dt : Nat) (tag : Fin 256) (s : State), HostOpen s GLB_SHADOW_OPEN.addr ∧ s.stage.openGrp ≠ none) ∧
    (∃ (dt : Nat) (late : Bool) (s : State), HostOpen s GLB_SHADOW_CLOSE.addr ∧ s.stage.openGrp = none) ∧
    (∃ (dt : Nat) (s : State), HostOpen s GLB_SHADOW_ABORT.addr) :=
  ⟨⟨5, 0, { up .configured with stage := { openGrp := some ⟨7, [], false⟩ } }, by decide +kernel⟩,
   ⟨5, false, up .configured, by decide +kernel⟩,
   ⟨5, { up .configured with stage := { openGrp := some ⟨7, [], false⟩, groups := [⟨.host 3, 4, false, []⟩] } }, by decide +kernel⟩⟩

/-- A witness for the hypotheses of each clause of Obligations.AtomicWhileOff. -/
theorem witness_AtomicWhileOff :
    (∃ (dt : Nat) (s : State), HostOpen s SPD_ATOM_CMD.addr ∧ s.domOn 130 = false ∧ 8 * 2 ^ 18 ≤ s.get SPD_ATOM_ADDR.ADDR * 4 ∧ s.get SPD_ATOM_ADDR.ADDR * 4 < 16 * 2 ^ 18) :=
  ⟨5, { ((up .run).put SPD_ATOM_ADDR.ADDR 0xFFFFF).putB (domBit 130) false with pwr := (up .run).pwr }, by decide +kernel⟩

/-- A witness for the hypotheses of each clause of Obligations.TicksByState. -/
theorem witness_TicksByState :
    (∃ (dt : Nat) (fsel : Fin 256) (s : State), (s.dev = .configured ∨ s.dev = .run ∨ s.dev = .degraded ∨ s.dev = .safeStop ∨ s.dev = .maintenance ∨ s.dev = .lockout)) ∧
    (∃ (dt : Nat) (fsel : Fin 256) (s : State), (s.dev = .off ∨ s.dev = .reset ∨ s.dev = .boot)) :=
  ⟨⟨5, 0, up .lockout, by decide +kernel⟩,
   ⟨5, 0, up .boot, by decide +kernel⟩⟩

/-- A witness for the hypotheses of each clause of Obligations.RailsEndOff. -/
theorem witness_RailsEndOff :
    (∃ (dt : Nat) (rail : Fin 10) (porst : Bool) (src : Fin 4) (s : State), bit s.pwr.rails rail.val = false ∧ rail.val ≠ 9 ∧ (s.dev ≠ .off ∨ setBit s.pwr.rails rail.val true ≠ railsAll)) ∧
    (∃ (dt : Nat) (rail : Fin 10) (src : Fin 4) (s : State), bit s.pwr.rails rail.val = false ∧ rail.val ≠ 9 ∧ s.dev = .off ∧ setBit s.pwr.rails rail.val true = railsAll ∧ s.pwr.fromLockout = false) ∧
    (∃ (dt : Nat) (rail : Fin 10) (src : Fin 4) (s : State), bit s.pwr.rails rail.val = false ∧ rail.val ≠ 9 ∧ s.dev = .off ∧ setBit s.pwr.rails rail.val true = railsAll ∧ s.pwr.fromLockout = true) ∧
    (∃ (dt : Nat) (porst : Bool) (src : Fin 4) (s : State), bit s.pwr.rails 9 = false ∧ (s.dev ≠ .off ∨ setBit s.pwr.rails 9 true ≠ railsAll)) ∧
    (∃ (dt : Nat) (src : Fin 4) (s : State), bit s.pwr.rails 9 = false ∧ s.dev = .off ∧ setBit s.pwr.rails 9 true = railsAll ∧ s.pwr.fromLockout = false) :=
  ⟨⟨5, 3, true, 1, offWith 0x1F0 false, by decide +kernel⟩,
   ⟨5, 8, 3, offWith 0x2FF false, by decide +kernel⟩,
   ⟨0, 0, 2, offWith 0x3FE true, by decide +kernel⟩,
   ⟨7, true, 0, offWith 0x0FF false, by decide +kernel⟩,
   ⟨7, 1, offWith 0x1FF false, by decide +kernel⟩⟩

/-- A witness for the hypotheses of each clause of Obligations.ReleaseEndsReset. -/
theorem witness_ReleaseEndsReset :
    (∃ (dt : Nat) (s : State), s.dev = .reset ∧ s.pwr.timer = true ∧ s.pwr.porstHigh = true ∧ s.pwr.resetHigh = true) ∧
    (∃ (dt : Nat) (s : State), s.dev = .reset ∧ s.pwr.timer = true ∧ s.pwr.porstHigh = true ∧ s.pwr.resetHigh = false) ∧
    (∃ (dt : Nat) (src : Fin 4) (s : State), s.dev = .reset ∧ s.pwr.resetHigh = false ∧ s.pwr.porstHigh = true ∧ s.pwr.timer = false) ∧
    (∃ (dt : Nat) (src : Fin 4) (s : State), s.dev = .reset ∧ s.pwr.resetHigh = false ∧ s.pwr.porstHigh = true ∧ s.pwr.timer = true) ∧
    (∃ (dt : Nat) (sw : Fin 16) (s : State), s.dev = .reset ∧ s.pwr.released = true ∧ s.pwr.bootSrc = 3 ∧ s.fuse.factOk = true ∧ s.flag (domBit 122) = true ∧ s.cmds = []) ∧
    (∃ (dt : Nat) (sw : Fin 16) (s : State), s.dev = .reset ∧ s.pwr.released = true ∧ s.pwr.bootSrc = 1 ∧ s.fuse.factOk = true ∧ s.srcDenied 1 = false ∧ s.cmds = []) :=
  ⟨⟨9, State.reset, by decide +kernel⟩,
   ⟨9, withPwr State.reset (fun p => { p with resetHigh := false }), by decide +kernel⟩,
   ⟨9, 2, withPwr State.reset (fun p => { p with resetHigh := false, timer := false }), by decide +kernel⟩,
   ⟨9, 1, withPwr State.reset (fun p => { p with resetHigh := false }), by decide +kernel⟩,
   ⟨9, 5, withPwr State.reset (fun p => { p with released := true, timer := false, bootSrc := 3 }), by decide +kernel⟩,
   ⟨9, 15, withPwr State.reset (fun p => { p with released := true, timer := false, bootSrc := 1 }), by decide +kernel⟩⟩

/-- A witness for the hypotheses of each clause of Obligations.ResetBallsAndBrownout. -/
theorem witness_ResetBallsAndBrownout :
    (∃ (dt lowNs : Nat) (src : Fin 4) (s : State), s.dev ≠ .off ∧ s.dev ≠ .lockout ∧ s.pwr.porstHigh = true ∧ 10000 ≤ lowNs) ∧
    (∃ (dt lowNs : Nat) (s : State), s.dev ≠ .off ∧ s.dev ≠ .lockout ∧ s.pwr.porstHigh = true ∧ 10000 ≤ lowNs) ∧
    (∃ (dt ns : Nat) (rail : Fin 10) (s : State), 1000 ≤ ns ∧ bit s.pwr.rails rail.val = true ∧ s.dev ≠ .off) ∧
    (∃ (dt ns : Nat) (rail : Fin 10) (s : State), ns < 1000) ∧
    (∃ (dt lowNs : Nat) (src : Fin 4) (s : State), s.dev = .lockout) :=
  ⟨⟨5, 10000, 2, up .run, by decide +kernel⟩,
   ⟨5, 10000, up .run, by decide +kernel⟩,
   ⟨5, 1000, 0, up .lockout, by decide +kernel⟩,
   ⟨5, 999, 3, up .run, by decide +kernel⟩,
   ⟨5, 20000, 1, up .lockout, by decide +kernel⟩⟩

/-- A witness for the hypotheses of each clause of Obligations.DomainRequests. -/
theorem witness_DomainRequests :
    (∃ (dt : Nat) (id : Fin 256) (force : Bool) (s : State), s.barOpen = true ∧ s.dev ≠ .off ∧ s.pwr.req = none ∧ s.domRefused id.val false = none) ∧
    (∃ (dt : Nat) (id : Fin 256) (force : Bool) (s : State), s.barOpen = true ∧ s.dev ≠ .off ∧ s.pwr.req = none ∧ s.domRefused id.val true = none) ∧
    (∃ (dt : Nat) (id : Fin 256) (on force : Bool) (s : State), s.barOpen = true ∧ s.dev ≠ .off ∧ s.pwr.req ≠ none) ∧
    (∃ (dt : Nat) (id : Fin 136) (force : Bool) (s : State), s.inFlightOn id.val = [] ∧ s.pwr.req = some (.drain id.val force)) ∧
    (∃ (dt : Nat) (id : Fin 136) (s : State), s.inFlightOn id.val ≠ [] ∧ s.pwr.req = some (.drain id.val false) ∧ s.dev ≠ .off) ∧
    (∃ (dt : Nat) (id : Fin 136) (s : State), s.inFlightOn id.val ≠ [] ∧ s.pwr.req = some (.drain id.val true)) ∧
    (∃ (dt : Nat) (id : Fin 136) (late : Bool) (s : State), s.dev ≠ .off ∧ s.dev ≠ .reset ∧ s.flag (domBit id.val) = true ∧ bit s.pwr.waking id.val = true) :=
  ⟨⟨5, 95, true, up .configured, by decide +kernel⟩,
   ⟨5, 126, true, (up .configured).putB (domBit 126) false, by decide +kernel⟩,
   ⟨5, 255, true, false, withPwr (up .configured) (fun p => { p with req := some (.wake 3) }), by decide +kernel⟩,
   ⟨5, 3, true, withPwr (up .configured) (fun p => { p with req := some (.drain 3 true) }), by decide +kernel⟩,
   ⟨5, 128, withPwr (busyChan (up .configured)) (fun p => { p with req := some (.drain 128 false), barred := 2 ^ 128 }), by decide +kernel⟩,
   ⟨5, 128, withPwr (busyChan (up .configured)) (fun p => { p with req := some (.drain 128 true), barred := 2 ^ 128 }), by decide +kernel⟩,
   ⟨5, 135, false, withPwr (up .configured) (fun p => { p with req := some (.wake 135), waking := 2 ^ 135 }), by decide +kernel⟩⟩

/-- A witness for the hypotheses of each clause of Obligations.PowerModes. -/
theorem witness_PowerModes :
    (∃ (dt : Nat) (s : State), Taken s opStandby) ∧
    (∃ (dt tag : Nat) (s : State), s.get PWR_MODE.MODE = 1 ∧ s.pwr.stbyFail = false ∧ s.pwr.stbyLeft = 0 ∧ CplFree s ∧ s.dev ≠ .off ∧ s.cmds = [⟨opStandby, tag, s.dev, .standby, true⟩] ∧ tag < 2 ^ 16) ∧
    (∃ (dt tag : Nat) (s : State), s.get PWR_MODE.MODE = 1 ∧ s.pwr.stbyFail = true ∧ s.pwr.stbyOff = 0 ∧ CplFree s ∧ s.dev ≠ .off ∧ s.cmds = [⟨opStandby, tag, s.dev, .standby, true⟩] ∧ tag < 2 ^ 16) ∧
    (∃ (dt : Nat) (s : State), Taken s opWake ∧ (∀ d, d < 136 → bit s.pwr.stbyOff d = true → d ≠ 122 ∧ d ≠ 135)) ∧
    (∃ (dt tag : Nat) (s : State), s.get PWR_MODE.MODE = 3 ∧ (∀ d, d < 136 → bit s.pwr.stbyOff d = true → bit s.pwr.waking d = false ∧ s.awaitsGroup d = false) ∧ CplFree s ∧ s.dev ≠ .off ∧ s.cmds = [⟨opWake, tag, s.dev, .wake, true⟩] ∧ tag < 2 ^ 16) :=
  ⟨⟨5, withCmd (up .configured) opStandby 0 77, by decide +kernel⟩,
   ⟨5, 65535, { (up .configured).put PWR_MODE.MODE 1 with cmds := [⟨opStandby, 65535, .configured, .standby, true⟩] }, by decide +kernel⟩,
   ⟨5, 0, withPwr { (up .configured).put PWR_MODE.MODE 1 with cmds := [⟨opStandby, 0, .configured, .standby, true⟩] } (fun p => { p with stbyFail := true, stbyLeft := 2, barred := 2 }), by decide +kernel⟩,
   ⟨5, withCmd ((up .configured).put PWR_MODE.MODE 2) opWake 0 9 |> (fun s => withPwr (s.putB (domBit 95) false) (fun p => { p with stbyOff := 2 ^ 95 })), by decide +kernel⟩,
   ⟨5, 12, withPwr { (up .configured).put PWR_MODE.MODE 3 with cmds := [⟨opWake, 12, .configured, .wake, true⟩] } (fun p => { p with stbyOff := 1 }), by decide +kernel⟩⟩

/-- A witness for the hypotheses of each clause of Obligations.PllT. -/
theorem witness_PllT :
    (∃ (dt : Nat) (s : State), s.dev = .boot ∧ s.clk.tDead = false ∧ s.flag CLK_STAT.PLLT_BYP = false) ∧
    (∃ (dt : Nat) (s : State), s.dev = .boot ∧ s.flag CLK_STAT.PLLT_LOCK = false) ∧
    (∃ (dt : Nat) (s : State), s.dev.running = true ∧ s.flag CLK_STAT.PLLT_BYP = false ∧ KeptOn s 122) :=
  ⟨⟨5, up .boot, by decide +kernel⟩,
   ⟨5, (up .boot).putB CLK_STAT.PLLT_LOCK false, by decide +kernel⟩,
   ⟨5, up .degraded, by decide +kernel⟩⟩

/-- A witness for the hypotheses of each clause of Obligations.PllF. -/
theorem witness_PllF :
    (∃ (dt b : Nat) (search : Bool) (band : Fin 64) (s : State), s.flag CLK_PLLF_CFG.BAND_SRC = false ∧ s.tableBand = some b) ∧
    (∃ (dt : Nat) (tableOk : Bool) (band : Fin 64) (s : State), (s.flag CLK_PLLF_CFG.BAND_SRC = true ∨ tableOk = false ∨ s.tableBand = none)) ∧
    (∃ (dt : Nat) (tableOk : Bool) (band : Fin 64) (s : State), (s.flag CLK_PLLF_CFG.BAND_SRC = true ∨ tableOk = false ∨ s.tableBand = none)) ∧
    (∃ (dt : Nat) (s : State), s.flag CLK_STAT.PLLF_BYP = false ∧ s.dev ≠ .off) ∧
    (∃ (dt : Nat) (s : State), s.flag CLK_STAT.PLLF_BYP = false ∧ s.dev ≠ .off) ∧
    (∃ (dt : Nat) (clk : Fin 4) (s : State), clk.val ≠ 3 ∧ s.dev.running = true ∧ s.flag CLK_STAT.PLLT_BYP = false ∧ KeptOn s 122) ∧
    (∃ (dt : Nat) (s : State), s.flag CLK_STAT.PLLF_BYP = true) :=
  ⟨⟨5, 33, true, 9, (((((up .boot).putB (CLK_PLLF_BTAB.VALID 7) true).put (CLK_PLLF_BTAB.VCO_LO 7) 1000).put (CLK_PLLF_BTAB.VCO_HI 7) 1000).put (CLK_PLLF_BTAB.BAND 7) 33).putB CLK_PLLF_CFG.BAND_SRC false, by decide +kernel⟩,
   ⟨5, true, 63, (up .boot).putB CLK_PLLF_CFG.BAND_SRC true, by decide +kernel⟩,
   ⟨5, false, 63, up .run, by decide +kernel⟩,
   ⟨5, up .run, by decide +kernel⟩,
   ⟨5, up .safeStop, by decide +kernel⟩,
   ⟨5, 2, up .run, by decide +kernel⟩,
   ⟨5, (up .run).putB CLK_STAT.PLLF_BYP true, by decide +kernel⟩⟩

/-- A witness for the hypotheses of each clause of Obligations.FrameAlignment. -/
theorem witness_FrameAlignment :
    (∃ (dt heldNs : Nat) (falling : Bool) (s : State), (heldNs < 40 ∨ falling ≠ s.flag CLK_SYNC_CTL.EDGE)) ∧
    (∃ (dt heldNs : Nat) (s : State), 40 ≤ heldNs ∧ s.get CLK_SYNC_OUT.MODE ≠ 2 ∧ s.get CLK_SYNC_CTL.MODE ≠ 0 ∧ s.dev.ticks = true ∧ s.flag CLK_STAT.PLLF_BYP = false ∧ s.get CLK_SYNC_STAT.STATE = 0) ∧
    (∃ (dt heldNs : Nat) (s : State), 40 ≤ heldNs ∧ s.get CLK_SYNC_OUT.MODE ≠ 2 ∧ s.get CLK_SYNC_CTL.MODE ≠ 0 ∧ s.dev.ticks = true ∧ s.flag CLK_STAT.PLLF_BYP = false ∧ s.get CLK_SYNC_STAT.STATE ≠ 0 ∧ s.clk.edges < s.get CLK_SYNC_CTL.DIV_M1) ∧
    (∃ (dt heldNs : Nat) (s : State), 40 ≤ heldNs ∧ s.get CLK_SYNC_OUT.MODE = 2 ∧ s.domOn 134 = true ∧ s.get CLK_SYNC_CTL.MODE = 0) ∧
    (∃ (dt heldNs : Nat) (s : State), (let p := s.refPeriod;
      (let d := s.now + dt - s.clk.refAt;
      40 ≤ heldNs ∧ s.get CLK_SYNC_OUT.MODE ≠ 2 ∧ s.get CLK_SYNC_CTL.MODE ≠ 0 ∧ s.dev.ticks = true ∧ s.flag CLK_STAT.PLLF_BYP = false ∧ s.get CLK_SYNC_STAT.STATE ≠ 0 ∧ s.get CLK_SYNC_CTL.DIV_M1 ≤ s.clk.edges ∧ s.clk.refAt ≤ s.now ∧ p < 4 * ((d : Int) - (max 1 (roundDivN d p) * p : Nat)).natAbs))) ∧
    (∃ (dt : Nat) (s : State), s.get CLK_SYNC_STAT.STATE ≠ 0 ∧ s.dev ≠ .off) :=
  ⟨⟨5, 39, false, up .run, by decide +kernel⟩,
   ⟨5, 40, ((up .run).put CLK_SYNC_CTL.MODE 1), by decide +kernel⟩,
   ⟨5, 41, (((up .run).put CLK_SYNC_CTL.MODE 1).put CLK_SYNC_STAT.STATE 2).put CLK_SYNC_CTL.DIV_M1 1, by decide +kernel⟩,
   ⟨5, 40, (up .run).put CLK_SYNC_OUT.MODE 2, by decide +kernel⟩,
   ⟨5, 40, ((up .run).put CLK_SYNC_CTL.MODE 1).put CLK_SYNC_STAT.STATE 2, by decide +kernel⟩,
   ⟨5, (up .run).put CLK_SYNC_STAT.STATE 1, by decide +kernel⟩⟩

/-- A witness for the hypotheses of each clause of Obligations.FrameTick. -/
theorem witness_FrameTick :
    (∃ (dt : Nat) (fsel : Fin 256) (s : State), s.dev.ticks = true ∧ s.get SAF_CELL.PRESENT = 0 ∧ s.swapLands = false ∧ (∀ w ∈ s.stage.due false, w.fld.addr ≠ GLB_EPOCH.addr)) ∧
    (∃ (dt : Nat) (fsel : Fin 256) (s : State), s.dev.ticks = false) ∧
    (∃ (dt : Nat) (s : State), s.viewDue = true ∧ s.held = none) ∧
    (∃ (dt : Nat) (s : State), s.viewDue = true ∧ s.held ≠ none ∧ (s.advance dt).snapNow = false) ∧
    (∃ (dt : Nat) (s : State), s.dev.ticks = true ∧ s.acqOpen = true) ∧
    (∃ (dt : Nat) (s : State), (s.dev.ticks = false ∨ s.acqOpen = false)) ∧
    (∃ (dt : Nat) (fsel : Fin 256) (a b : List Nat) (s : State), (s.dev = .configured ∨ s.dev = .safeStop ∨ s.dev = .maintenance) ∧ s.get SAF_CELL.PRESENT ≠ 0 ∧ s.ownMember ≠ s.timeSource ∧ s.get CLK_SYNC_STAT.STATE = 2 ∧ s.saf.joined = false ∧ s.cmds = [] ∧ (s.sender s.timeSource).rawLast = some a ∧ (s.sender s.timeSource).rawNow = some b ∧ msgSrc a = s.timeSource ∧ msgSrc b = s.timeSource ∧ msgSeq b = (msgSeq a + 1) % 2 ^ 16 ∧ msgEpoch b = (msgEpoch a + 1) % 2 ^ 32 ∧ s.swapLands = false ∧ (∀ w ∈ s.stage.due false, w.fld.addr ≠ GLB_EPOCH.addr)) ∧
    (∃ (dt : Nat) (fsel : Fin 256) (w : Swap) (s : State), s.dev.ticks = true ∧ (s.advance dt).tickOff = false ∧ s.img.swap = some w ∧ w.staged = true ∧ w.late = false ∧ s.sel.ready = none ∧ s.img.apply = none) :=
  ⟨⟨5, 7, (up .maintenance).put GLB_EPOCH.EPOCH 0xFFFFFFFF, by decide +kernel⟩,
   ⟨5, 7, up .boot, by decide +kernel⟩,
   ⟨5, { up .run with viewDue := true, closing := { epoch := 7 } }, by decide +kernel⟩,
   ⟨5, { up .run with viewDue := true, closing := { epoch := 7 }, held := some {} }, by decide +kernel⟩,
   ⟨5, { up .run with acqOpen := true }, by decide +kernel⟩,
   ⟨5, up .run, by decide +kernel⟩,
   ⟨5, 7, msgOf 2 5 8 0, msgOf 2 6 9 0, let s := (((up .safeStop).put SAF_CELL.PRESENT 6).put SAF_CELL.SOURCE 2).put SAF_CELL.MEMBER 1 |>.put CLK_SYNC_STAT.STATE 2; { s with saf := { s.saf with senders := [(2, { rawLast := some (msgOf 2 5 8 0), rawNow := some (msgOf 2 6 9 0) })] } }, by decide +kernel⟩,
   ⟨5, 7, { staged := true, tab := [1, 2, 3, 4] }, { up .configured with img := { swap := some { staged := true, tab := [1, 2, 3, 4] } } }, by decide +kernel⟩⟩

/-- A witness for the hypotheses of each clause of Obligations.FrameDecision. -/
theorem witness_FrameDecision :
    (∃ (dt : Nat) (safeIn : Fin 16) (edm : Fin 4) (crcDone : Bool) (s : State), s.dev.ticks = true ∧ s.acqOpen = false ∧ s.decided = false ∧ KeptOn s 121 ∧ KeptOn s 122) ∧
    (∃ (dt : Nat) (s : State), s.dev.ticks = true ∧ s.acqOpen = false ∧ s.decided = false ∧ KeptOn s 121 ∧ KeptOn s 122) ∧
    (∃ (dt : Nat) (safeIn : Fin 16) (edm : Fin 4) (crcDone : Bool) (s : State), (s.acqOpen = true ∨ s.decided = true)) :=
  ⟨⟨5, 9, 3, true, up .configured, by decide +kernel⟩,
   ⟨5, up .configured, by decide +kernel⟩,
   ⟨5, 9, 3, true, { up .configured with decided := true }, by decide +kernel⟩⟩

/-- A witness for the hypotheses of each clause of Obligations.RecordAndMessages. -/
theorem witness_RecordAndMessages :
    (∃ (dt ch : Nat) (s : State), s.decided = true ∧ s.frm.closed = false ∧ s.recordsWait = false ∧ s.closeChan = some ch) ∧
    (∃ (dt : Nat) (s : State), s.decided = true ∧ s.frm.closed = false ∧ s.recordsWait = false ∧ s.closeChan = none) ∧
    (∃ (dt : Nat) (s : State), (s.decided = false ∨ s.frm.closed = true ∨ s.recordsWait = true)) ∧
    (∃ (dt : Nat) (s : State), s.saf.toSend = true) ∧
    (∃ (dt : Nat) (m : List Nat) (s : State), msgSrc m = s.ownMember) ∧
    (∃ (dt : Nat) (m : List Nat) (s : State), s.dev.ticks = true ∧ s.msgFate m = .pass) ∧
    (∃ (dt : Nat) (m : List Nat) (s : State), s.dev.ticks = true ∧ s.msgFate m = .baseline) ∧
    (∃ (dt : Nat) (m : List Nat) (s : State), s.dev.ticks = true ∧ s.msgFate m = .fail ∧ s.domOn 122 = true) :=
  ⟨⟨5, 3, { up .run with decided := true, img := { (up .run).img with cfg := { (up .run).img.cfg with route := List.replicate 96 0 ++ [0x103] } } }, by decide +kernel⟩,
   ⟨5, { up .run with decided := true }, by decide +kernel⟩,
   ⟨5, { up .run with decided := false }, by decide +kernel⟩,
   ⟨5, { up .run with saf := { (up .run).saf with toSend := true, seq := 65535 }, img := { (up .run).img with cfg := { (up .run).img.cfg with route := List.replicate 97 0 ++ [0x1_0000] } } }, by decide +kernel⟩,
   ⟨5, msgOf 0 0 0 0, up .run, by decide +kernel⟩,
   ⟨5, msgOf 2 8 0 20000, let s := inCell12 (up .run); s.setSender 2 { s.sender 2 with base := true, seq := 7, time := 20000 - s.get CLK_FRAME_PER.PERIOD * 10 }, by decide +kernel⟩,
   ⟨5, msgOf 2 0 0 0, inCell12 (up .run), by decide +kernel⟩,
   ⟨5, msgOf 3 0 0 0, inCell12 (up .run), by decide +kernel⟩⟩

/-- A witness for the hypotheses of each clause of Obligations.SafetyReactions. -/
theorem witness_SafetyReactions :
    (∃ (dt : Nat) (s : State), s.dev = .degraded ∧ s.tDeg ≤ (s.advance dt).degAcc ∧ KeptOn s 122 ∧ NoneUndone s) ∧
    (∃ (dt : Nat) (s : State), (s.dev ≠ .degraded ∨ (s.advance dt).degAcc < s.tDeg)) ∧
    (∃ (dt : Nat) (s : State), s.dev.canLock = true ∧ KeptOn s 122) ∧
    (∃ (dt : Nat) (s : State), s.dev.canLock = true ∧ KeptOn s 122) ∧
    (∃ (dt : Nat) (selvedge : Bool) (s : State), s.dev ≠ .off ∧ s.dev ≠ .reset ∧ s.domOn 122 = true) ∧
    (∃ (dt : Nat) (s : State), s.dev ≠ .off ∧ s.dev ≠ .reset) :=
  ⟨⟨5, { (up .degraded).put SAF_DEG_CFG.T_DEG 0 with degAcc := 0 }, by decide +kernel⟩,
   ⟨5, up .run, by decide +kernel⟩,
   ⟨5, up .safeStop, by decide +kernel⟩,
   ⟨5, up .maintenance, by decide +kernel⟩,
   ⟨5, true, (up .boot).put SAF_DIAG_CNT.ECC_CORR 0xFFFF, by decide +kernel⟩,
   ⟨5, up .run, by decide +kernel⟩⟩

/-- A witness for the hypotheses of each clause of Obligations.HostStaging. -/
theorem witness_HostStaging :
    (∃ (dt : Nat) (tag : Fin 256) (s : State), HostOpen s GLB_SHADOW_OPEN.addr ∧ s.stage.openGrp = none ∧ tag.val ≠ 0) ∧
    (∃ (dt : Nat) (tag : Fin 256) (s : State), HostOpen s GLB_SHADOW_OPEN.addr ∧ (s.stage.openGrp ≠ none ∨ tag.val = 0)) ∧
    (∃ (dt addr : Nat) (data : Word) (o : OpenGroup) (late : Bool) (s : State), HostOpen s addr ∧ addr ≠ LPE_CTL.addr ∧ rwsFields addr ≠ [] ∧ s.stage.openGrp = some o ∧ s.stageFull o.writes (fieldWrites addr data) = false) ∧
    (∃ (dt addr : Nat) (data : Word) (o : OpenGroup) (late : Bool) (s : State), HostOpen s addr ∧ addr ≠ LPE_CTL.addr ∧ rwsFields addr ≠ [] ∧ s.stage.openGrp = some o ∧ s.stageFull o.writes (fieldWrites addr data) = true) ∧
    (∃ (dt : Nat) (o : OpenGroup) (late : Bool) (s : State), HostOpen s GLB_SHADOW_CLOSE.addr ∧ s.stage.openGrp = some o ∧ o.ovf = false ∧ (let u := (s.advance dt).touch GLB_SHADOW_CLOSE.addr; u.hostCode (u.candOf { s.stage with openGrp := none, groups := s.stage.groups ++ [⟨.host o.tag, (s.now + dt) / fclkLsb, (s.advance dt).handingOver, o.writes⟩] } true o.writes)) = none) ∧
    (∃ (dt code : Nat) (o : OpenGroup) (late : Bool) (s : State), HostOpen s GLB_SHADOW_CLOSE.addr ∧ s.stage.openGrp = some o ∧ o.ovf = false ∧ code < 256 ∧ (let u := (s.advance dt).touch GLB_SHADOW_CLOSE.addr; u.hostCode (u.candOf { s.stage with openGrp := none, groups := s.stage.groups ++ [⟨.host o.tag, (s.now + dt) / fclkLsb, (s.advance dt).handingOver, o.writes⟩] } true o.writes)) = some code) ∧
    (∃ (dt : Nat) (s : State), HostOpen s GLB_SHADOW_ABORT.addr) ∧
    (∃ (dt addr : Nat) (data : Word) (late : Bool) (s : State), HostOpen s addr ∧ addr ≠ LPE_CTL.addr ∧ rwsFields addr ≠ [] ∧ s.stage.openGrp = none ∧ (let u := (s.advance dt).touch addr;
      (let ws := fieldWrites addr data;
      (let g := s.stage.setSingles u.handingOver (putWrites (s.stage.singles u.handingOver) ws);
      s.stageFull (s.stage.singles u.handingOver) ws = false ∧ u.hostCode (u.candOf g true ws) = none)))) ∧
    (∃ (dt addr code : Nat) (data : Word) (late : Bool) (s : State), HostOpen s addr ∧ addr ≠ LPE_CTL.addr ∧ rwsFields addr ≠ [] ∧ s.stage.openGrp = none ∧ code < 256 ∧ (let u := (s.advance dt).touch addr;
      (let ws := fieldWrites addr data;
      (let g := s.stage.setSingles u.handingOver (putWrites (s.stage.singles u.handingOver) ws);
      s.stageFull (s.stage.singles u.handingOver) ws = false ∧ u.hostCode (u.candOf g true ws) = some code)))) :=
  ⟨⟨5, 255, up .run, by decide +kernel⟩,
   ⟨5, 0, up .run, by decide +kernel⟩,
   ⟨5, SEL_CTL.M_M1.addr, 0xFFFFFFFF, ⟨7, [], false⟩, false, { up .configured with stage := { openGrp := some ⟨7, [], false⟩ } }, by decide +kernel⟩,
   ⟨5, SEL_CTL.M_M1.addr, 0xFFFFFFFF, ⟨7, [], false⟩, false, { up .configured with stage := { openGrp := some ⟨7, [], false⟩, groups := List.replicate 16 ⟨.ring, 0, false, List.replicate 256 ⟨SEL_CTL.M_M1, 0⟩⟩ } }, by decide +kernel⟩,
   ⟨5, ⟨7, [], false⟩, false, { up .configured with stage := { openGrp := some ⟨7, [], false⟩ } }, by decide +kernel⟩,
   ⟨5, 90, ⟨7, [⟨SAF_OSSD_TP.TP_W, 63⟩], false⟩, false, { up .configured with stage := { openGrp := some ⟨7, [⟨SAF_OSSD_TP.TP_W, 63⟩], false⟩ } }, by decide +kernel⟩,
   ⟨5, { up .run with stage := { openGrp := some ⟨7, [], false⟩ } }, by decide +kernel⟩,
   ⟨5, SEL_CTL.M_M1.addr, 0xFFFFFFFF, false, up .configured, by decide +kernel⟩,
   ⟨5, SAF_OSSD_TP.TP_W.addr, 90, 0x0FFFFFFF, false, up .configured, by decide +kernel⟩⟩

/-- A witness for the hypotheses of each clause of Obligations.HostRegisters. -/
theorem witness_HostRegisters :
    (∃ (dt addr : Nat) (data : Word) (be : Fin 16) (ext : Bool) (late : Bool) (s : State), s.barOpen = false) ∧
    (∃ (dt addr : Nat) (data : Word) (be : Fin 16) (ext : Bool) (late : Bool) (s : State), s.barOpen = true ∧ s.dev ≠ .off ∧ regAt addr = none) ∧
    (∃ (dt addr : Nat) (data : Word) (be : Fin 16) (ext : Bool) (late : Bool) (s : State), HostOpen s addr ∧ s.dev ≠ .off ∧ regAt addr ≠ none ∧ be.val ≠ 15) ∧
    (∃ (dt addr : Nat) (data : Word) (be : Fin 16) (ext : Bool) (late : Bool) (s : State), s.barOpen = true ∧ s.domOn (blockDomain addr) = false ∧ regAt addr ≠ none) ∧
    (∃ (dt i : Nat) (data : Word) (ext : Bool) (late : Bool) (s : State), i < 16 ∧ HostOpen s (GLB_MBX_RX.addr i)) ∧
    (∃ (dt : Nat) (data : Word) (ext : Bool) (late : Bool) (s : State), HostOpen s CLP_STAT.addr ∧ s.sameCycle dt = false) ∧
    (∃ (dt : Nat) (data : Word) (ext : Bool) (late : Bool) (s : State), HostOpen s CLP_STAT.addr ∧ s.sameCycle dt = true ∧ getIn s.cyc CLP_STAT.NEST = 0) ∧
    (∃ (dt i : Nat) (s : State), i < 16 ∧ HostOpen s (GLB_MBX_RX.addr i) ∧ (∀ q ∈ s.hiLatch, q.1 ≠ GLB_MBX_RX.addr i)) ∧
    (∃ (dt : Nat) (s : State), HostOpen s SUP_STAT.addr ∧ (∀ q ∈ s.hiLatch, q.1 ≠ SUP_STAT.addr)) ∧
    (∃ (dt i : Nat) (s : State), i < 640 ∧ HostOpen s (EVT_CNT.addr i) ∧ (∀ q ∈ s.hiLatch, q.1 ≠ EVT_CNT.addr i) ∧ s.sameCycle dt = false) ∧
    (∃ (dt i : Nat) (s : State), i < 640 ∧ HostOpen s (EVT_CNT.addr i) ∧ (∀ q ∈ s.hiLatch, q.1 ≠ EVT_CNT.addr i) ∧ s.sameCycle dt = true) ∧
    (∃ (dt : Nat) (data : Word) (ext : Bool) (late : Bool) (s : State), HostOpen s SUP_ACC_CLR.addr) ∧
    (∃ (dt addr : Nat) (data : Word) (late : Bool) (s : State), rwsFields addr ≠ []) ∧
    (∃ (dt addr : Nat) (s : State), s.barOpen = true ∧ s.dev ≠ .off ∧ regAt addr = none) :=
  ⟨⟨5, 0x100, 1, 15, false, false, { up .run with pci := { (up .run).pci with d3hot := true } }, by decide +kernel⟩,
   ⟨5, 0x7_0000, 1, 15, false, false, up .run, by decide +kernel⟩,
   ⟨5, CLP_CMD.addr, 1, 14, false, false, up .run, by decide +kernel⟩,
   ⟨5, HED_CTL.FIRE_EN.addr, 1, 15, false, false, (up .run).putB (domBit 120) false, by decide +kernel⟩,
   ⟨5, 15, 0xFFFFFFFF, false, false, up .run, by decide +kernel⟩,
   ⟨80, 0x4000_0000, false, false, (((up .run).putB CLP_STAT.NEST true).putB CLP_STAT.TIMED_OUT true).put CLP_STAT.SKIPPED 9, by decide +kernel⟩,
   ⟨5, 0x40000000, false, false, (up .run).putB CLP_STAT.NEST true, by decide +kernel⟩,
   ⟨5, 15, (up .run).put (GLB_MBX_RX.WORD 15) 0xDEADBEEF, by decide +kernel⟩,
   ⟨5, let s := (up .run).putB SUP_STAT.REF_OK true; { s with view := { s.view with regs := [(SUP_STAT.addr, 0x80000001#32)] } }, by decide +kernel⟩,
   ⟨80, 639, (up .run).put (EVT_CNT.COUNT 639) 0xFFFF, by decide +kernel⟩,
   ⟨5, 639, (up .run).put (EVT_CNT.COUNT 639) 3, by decide +kernel⟩,
   ⟨5, 0x80000001, true, false, (up .run).put SUP_ACC_CLR.CLR 6, by decide +kernel⟩,
   ⟨5, SEL_CTL.M_M1.addr, 0xFFFFFFFF, false, up .configured, by decide +kernel⟩,
   ⟨5, 0x7_0000, up .run, by decide +kernel⟩⟩

/-- A witness for the hypotheses of each clause of Obligations.ClaspHold. -/
theorem witness_ClaspHold :
    (∃ (dt : Nat) (s : State), HostOpen s CLP_CMD.addr ∧ s.held = none) ∧
    (∃ (dt : Nat) (s : State), HostOpen s CLP_CMD.addr ∧ s.held ≠ none) ∧
    (∃ (dt : Nat) (s : State), HostOpen s CLP_CMD.addr ∧ s.held = none) ∧
    (∃ (dt : Nat) (s : State), s.held ≠ none ∧ s.get CLP_CFG.TIMEOUT ≠ 0 ∧ s.dev ≠ .off) ∧
    (∃ (dt : Nat) (s : State), (s.held = none ∨ s.get CLP_CFG.TIMEOUT = 0)) ∧
    (∃ (dt : Nat) (s : State), s.sameCycle dt = true ∧ s.snapNow = true ∧ s.held ≠ none ∧ s.viewDue = true) :=
  ⟨⟨5, (up .run).put CLP_STAT.SKIPPED 3, by decide +kernel⟩,
   ⟨5, { up .run with held := some {} }, by decide +kernel⟩,
   ⟨5, up .run, by decide +kernel⟩,
   ⟨5, ({ up .run with held := some {} } : State).put CLP_CFG.TIMEOUT 1, by decide +kernel⟩,
   ⟨5, up .run, by decide +kernel⟩,
   ⟨0, { up .run with held := some {}, snapNow := true, viewDue := true, closing := { epoch := 4 } }, by decide +kernel⟩⟩

/-- A witness for the hypotheses of each clause of Obligations.RingCommands. -/
theorem witness_RingCommands :
    (∃ (dt : Nat) (s : State), Taken s opNop ∧ CplFree s) ∧
    (∃ (dt : Nat) (s : State), Taken s opStop ∧ CplFree s ∧ KeptOn s 122) ∧
    (∃ (dt : Nat) (s : State), Taken s opRun) ∧
    (∃ (dt : Nat) (s : State), Taken s opMaint) ∧
    (∃ (dt : Nat) (s : State), Taken s opLeaveMaint) ∧
    (∃ (dt : Nat) (s : State), s.ringReady = true ∧ (s.entCrcOk = false ∨ s.entFormOk = false) ∧ CplFree s) ∧
    (∃ (dt op : Nat) (c : Instr) (s : State), (op, c) ∈ [(opRun, .runCmd dt), (opStop, .stop dt), (opMaint, .maint dt), (opLeaveMaint, .leaveMaint dt)] ∧ s.ringReady = true ∧ s.entCrcOk = true ∧ s.entFormOk = true ∧ s.entOp = op ∧ CplFree s ∧ (s.get PWR_MODE.MODE = 2 ∨ s.get PWR_MODE.MODE = 0 ∧ (op, s.dev) ∉ [(opRun, .configured), (opRun, .safeStop), (opStop, .run), (opStop, .degraded), (opMaint, .configured), (opMaint, .safeStop), (opLeaveMaint, .maintenance)])) ∧
    (∃ (dt op : Nat) (c : Instr) (s : State), (op, c) ∈ [(opRun, .runCmd dt), (opStop, .stop dt), (opMaint, .maint dt), (opLeaveMaint, .leaveMaint dt)] ∧ s.ringReady = true ∧ s.entCrcOk = true ∧ s.entFormOk = true ∧ s.entOp = op ∧ CplFree s ∧ (s.get PWR_MODE.MODE = 1 ∨ s.get PWR_MODE.MODE = 3 ∨ s.get PWR_MODE.MODE = 0 ∧ (op, s.dev) ∈ [(opRun, .configured), (opRun, .safeStop), (opStop, .run), (opStop, .degraded), (opMaint, .configured), (opMaint, .safeStop), (opLeaveMaint, .maintenance)] ∧ ∃ w ∈ s.cmds, w.op ∈ [opRun, opStop, opMaint, opLeaveMaint, opStandby, opWake, opImgApply])) :=
  ⟨⟨5, withCmd (up .boot) opNop 0 3, by decide +kernel⟩,
   ⟨5, withCmd (up .degraded) opStop 0 3, by decide +kernel⟩,
   ⟨5, withCmd ((up .safeStop).putB SAF_PLUG.PRESENT true) opRun 0 3, by decide +kernel⟩,
   ⟨5, withCmd (up .configured) opMaint 0 65535, by decide +kernel⟩,
   ⟨5, withCmd (up .maintenance) opLeaveMaint 0 3, by decide +kernel⟩,
   ⟨5, withCmd ((up .run).put GLB_CMD_CNT.BAD 0xFFF) 0x7F 0 3, by decide +kernel⟩,
   ⟨5, opLeaveMaint, .leaveMaint 5, withCmd ((up .safeStop).put GLB_CMD_CNT.CONFLICT 0xFFF) opLeaveMaint 0 3, by decide +kernel⟩,
   ⟨5, opMaint, .maint 5, { withCmd (up .configured) opMaint 0 3 with cmds := [⟨opRun, 2, .configured, .runJudge, true⟩] }, by decide +kernel⟩⟩

/-- A witness for the hypotheses of each clause of Obligations.CompletionsAndMailbox. -/
theorem witness_CompletionsAndMailbox :
    (∃ (dt : Nat) (h : Fin 64) (s : State), HostOpen s GLB_CPL_PTR.addr ∧ s.heldCpl = []) ∧
    (∃ (dt : Nat) (h : Fin 64) (c : Completion) (s : State), HostOpen s GLB_CPL_PTR.addr ∧ s.heldCpl = [c] ∧ (s.get GLB_CPL_PTR.TAIL + 1) % 64 ≠ h.val ∧ c.epoch < 2 ^ 32 ∧ c.detail < 2 ^ 32 ∧ c.op < 256 ∧ c.status < 256 ∧ c.tag < 2 ^ 16) ∧
    (∃ (dt : Nat) (s : State), HostOpen s GLB_MBX_RX_CTL.addr ∧ (s.msgFate ((List.range 16).map (fun k => s.get (GLB_MBX_RX.WORD k))) = .pass ∨ s.msgFate ((List.range 16).map (fun k => s.get (GLB_MBX_RX.WORD k))) = .baseline)) ∧
    (∃ (dt : Nat) (s : State), HostOpen s GLB_MBX_RX_CTL.addr ∧ s.domOn 122 = true ∧ s.msgFate ((List.range 16).map (fun k => s.get (GLB_MBX_RX.WORD k))) = .fail) :=
  ⟨⟨5, 0, (up .run).put GLB_CPL_PTR.TAIL 63, by decide +kernel⟩,
   ⟨5, 63, ⟨1, 0, 9, 0, 7⟩, { up .run with heldCpl := [⟨1, 0, 9, 0, 7⟩] }, by decide +kernel⟩,
   ⟨5, withMail (inCell12 (up .run)) (msgOf 2 1 0 9), by decide +kernel⟩,
   ⟨5, withMail (inCell12 (up .run)) (msgOf 3 1 0 9), by decide +kernel⟩⟩

/-- A witness for the hypotheses of each clause of Obligations.VectorsAndLog. -/
theorem witness_VectorsAndLog :
    (∃ (dt : Nat) (v : Fin 512) (s : State), s.evt.holdoff.contains v.val = true ∧ s.evt.heldTrig.contains v.val = false) ∧
    (∃ (dt : Nat) (v : Fin 512) (s : State), s.evt.holdoff.contains v.val = true ∧ s.evt.heldTrig.contains v.val = true ∧ s.pci.msixEn = true ∧ s.vecMasked v.val = false ∧ s.get EVT_INT_CTL.HOLDOFF ≠ 0) ∧
    (∃ (dt : Nat) (v : Fin 512) (s : State), HostOpen s (EVT_MSIX_TABLE.addr 0) ∧ s.pci.msixEn = true ∧ s.pci.funcMask = false ∧ s.flag (pbaBit v.val) = true ∧ s.evt.holdoff.contains v.val = false) ∧
    (∃ (dt : Nat) (v : Fin 512) (s : State), HostOpen s (EVT_MSIX_TABLE.addr 0) ∧ s.flag (pbaBit v.val) = false) ∧
    (∃ (dt : Nat) (z : Fin 32) (s : State), HostOpen s EVT_LOG_CTL.addr ∧ s.flag EVT_LOG_CTL.EN = false ∧ 8 ≤ z.val ∧ z.val ≤ 20 ∧ s.flag MEM_CFG.INIT_OK = true ∧ s.overSlots (s.get64 EVT_LOG_BASE_LO.BASE EVT_LOG_BASE_HI.BASE) (32 * 2 ^ z.val) = false) ∧
    (∃ (dt : Nat) (s : State), HostOpen s EVT_LOG_CTL.addr ∧ s.flag EVT_LOG_CTL.EN = false ∧ s.flag MEM_CFG.INIT_OK = false) ∧
    (∃ (dt : Nat) (r : LogRec) (rest : List LogRec) (s : State), s.flag EVT_LOG_CTL.EN = true ∧ s.logFull = false ∧ s.evt.fifo = r :: rest ∧ s.mem.poison = []) ∧
    (∃ (dt : Nat) (s : State), s.coalDue = true ∧ s.dev ≠ .off) :=
  ⟨⟨5, 511, { up .run with evt := { holdoff := [3, 511] } }, by decide +kernel⟩,
   ⟨5, 511, ({ up .run with evt := { holdoff := [3, 511], heldTrig := [511] }, pci := { msixEn := true } } : State).put EVT_INT_CTL.HOLDOFF 1 |>.put ⟨EVT_MSIX_TABLE.addr (4 * 511 + 3), 0, 0⟩ 0, by decide +kernel⟩,
   ⟨5, 0, ({ up .run with pci := { msixEn := true } } : State).putB (pbaBit 0) true, by decide +kernel⟩,
   ⟨5, 511, up .run, by decide +kernel⟩,
   ⟨5, 20, withDram (up .run), by decide +kernel⟩,
   ⟨5, up .run, by decide +kernel⟩,
   ⟨5, .event 1 2 3 4 5, [], { ((withDram (up .run)).putB EVT_LOG_CTL.EN true).put EVT_LOG_CTL.SIZE_LOG2 8 with evt := { fifo := [.event 1 2 3 4 5] } }, by decide +kernel⟩,
   ⟨5, { up .run with evt := { coal := [⟨3, 0, 0, 1, 0, 0⟩] } }, by decide +kernel⟩⟩

/-- A witness for the hypotheses of each clause of Obligations.Apertures. -/
theorem witness_Apertures :
    (∃ (dt off : Nat) (s : State), (let a := s.get GLB_BAR4_BASE.BASE * 2 ^ 30 + off / 4 * 4;
      s.barOpen = true ∧ a < s.dramCap ∧ s.domOn (112 + (s.dramPlace a).1) = true ∧ s.domOn 131 = true ∧ bit s.mem.selfRef (s.dramPlace a).1 = false ∧ s.poisoned a = false)) ∧
    (∃ (dt off : Nat) (w : Word) (s : State), (let a := s.get GLB_BAR4_BASE.BASE * 2 ^ 30 + off / 4 * 4;
      s.barOpen = true ∧ a < s.dramCap ∧ s.domOn (112 + (s.dramPlace a).1) = true ∧ s.domOn 131 = true ∧ bit s.mem.selfRef (s.dramPlace a).1 = false ∧ s.poisoned a = false ∧ s.inSlots a = false)) ∧
    (∃ (dt off bad : Nat) (w : Word) (s : State), (let a := s.get GLB_BAR4_BASE.BASE * 2 ^ 30 + off / 4 * 4;
      s.barOpen = true ∧ a < s.dramCap ∧ s.domOn (112 + (s.dramPlace a).1) = true ∧ s.domOn 131 = true ∧ bit s.mem.selfRef (s.dramPlace a).1 = false ∧ s.inSlots a = true)) ∧
    (∃ (dt off bad : Nat) (wr : Option Word) (s : State), s.barOpen = true ∧ s.dev ≠ .off ∧ s.dramCap ≤ s.get GLB_BAR4_BASE.BASE * 2 ^ 30 + off / 4 * 4) ∧
    (∃ (dt off : Nat) (be : Fin 16) (lost : Bool) (s : State), s.barOpen = true ∧ off < 0x40_0000 ∧ s.domOn (spdDomain (off / 4 * 4)) = true) ∧
    (∃ (dt off : Nat) (w : Word) (be : Fin 16) (lost : Bool) (s : State), s.barOpen = true ∧ off < 0x40_0000 ∧ s.domOn (spdDomain (off / 4 * 4)) = true ∧ s.spdOwned (off / 4 * 4) = false ∧ s.sameCycle dt = false) ∧
    (∃ (dt off : Nat) (w : Word) (be : Fin 16) (e : PortWord) (o : PortOp) (lost : Bool) (s : State), s.barOpen = true ∧ off < 0x40_0000 ∧ s.domOn (spdDomain (off / 4 * 4)) = true ∧ s.domOn 129 = true ∧ s.spdOwned (off / 4 * 4) = false ∧ s.sameCycle dt = true ∧ s.portWord (off / 4) = some e ∧ e.winner = some o ∧ o.rank = hostRank) ∧
    (∃ (dt off : Nat) (w : Word) (be : Fin 16) (lost : Bool) (s : State), s.barOpen = true ∧ off < 0x40_0000 ∧ s.domOn (spdDomain (off / 4 * 4)) = true ∧ s.domOn 129 = true ∧ s.spdOwned (off / 4 * 4) = true) ∧
    (∃ (dt : Nat) (s : State), (let n := s.get SPD_ATOM_ADDR.ADDR;
      HostOpen s SPD_ATOM_CMD.addr ∧ s.domOn (spdDomain (4 * n)) = true ∧ s.spdOwned (4 * n) = false ∧ (s.advance dt).portWord n = none)) ∧
    (∃ (dt : Nat) (s : State), (let n := s.get SPD_ATOM_ADDR.ADDR;
      HostOpen s SPD_ATOM_CMD.addr ∧ s.domOn (spdDomain (4 * n)) = true ∧ s.spdOwned (4 * n) = false ∧ (s.advance dt).portWord n = none)) ∧
    (∃ (dt : Nat) (cas : Bool) (e : PortWord) (s : State), (let n := s.get SPD_ATOM_ADDR.ADDR;
      (let act := if cas then PortAct.cas (s.get SPD_ATOM_EXP.VALUE) (s.get SPD_ATOM_OPND.VALUE) else .add (s.get SPD_ATOM_OPND.VALUE);
      (let old := (e.replay (e.ops.filter (fun o => o.rank ≤ atomRank)) s.spd).word n;
      HostOpen s SPD_ATOM_CMD.addr ∧ s.domOn (spdDomain (4 * n)) = true ∧ s.spdOwned (4 * n) = false ∧ (s.advance dt).portWord n = some e ∧ e.ops.Pairwise (fun o p => o.rank ≤ p.rank))))) ∧
    (∃ (dt off c : Nat) (w : Word) (be : Fin 16) (e : PortWord) (o : PortOp) (lost : Bool) (s : State), s.barOpen = true ∧ off < 0x40_0000 ∧ s.domOn (spdDomain (off / 4 * 4)) = true ∧ s.spdOwned (off / 4 * 4) = false ∧ s.sameCycle dt = true ∧ s.portWord (off / 4) = some e ∧ e.winner = some o ∧ hostRank < o.rank ∧ o.chan = some c) :=
  ⟨⟨5, 7, withDram (up .run), by decide +kernel⟩,
   ⟨5, 7, 0xA1B2C3D4, withDram (up .run), by decide +kernel⟩,
   ⟨5, 0, 3, 0xA1B2C3D4, ((withDram (up .run)).put MEM_CAP.PAGES 0x6_0000).put GLB_BAR4_BASE.BASE 1, by decide +kernel⟩,
   ⟨5, 0, 2, some 0, up .run, by decide +kernel⟩,
   ⟨80, 0x3F_FFFF, 3, false, up .run, by decide +kernel⟩,
   ⟨80, 0x3F_FFFE, 0xA1B2C3D4, 5, false, up .run, by decide +kernel⟩,
   ⟨5, 0x3F_FFFE, 0xA1B2C3D4, 5, ⟨0xF_FFFF, [0, 0, 0, 0], [⟨0, none, .put []⟩]⟩, ⟨0, none, .put []⟩, false, { up .run with spdPort := [⟨0xF_FFFF, [0, 0, 0, 0], [⟨0, none, .put []⟩]⟩] }, by decide +kernel⟩,
   ⟨5, 0x3F_FFFE, 0xA1B2C3D4, 5, false, { up .run with img := { (up .run).img with res := [(resId 7 15 * 2 ^ 18, 2)] } }, by decide +kernel⟩,
   ⟨5, ({ up .run with spd := (up .run).spd.write 0x3F_FFFF 0xFF#8 } : State).put SPD_ATOM_ADDR.ADDR 0xFFFFF |>.put SPD_ATOM_OPND.VALUE 0x1234_5678, by decide +kernel⟩,
   ⟨5, ((up .run).put SPD_ATOM_ADDR.ADDR 0xFFFFF).put SPD_ATOM_OPND.VALUE 0x1234_5678, by decide +kernel⟩,
   ⟨5, true, ⟨0xF_FFFF, [5, 0, 0, 0], [⟨0, none, .put []⟩, ⟨200, some 3, .put [(0x3F_FFFC, 9)]⟩]⟩, (({ up .run with spd := (up .run).spd.write 0x3F_FFFC 9#8, spdPort := [⟨0xF_FFFF, [5, 0, 0, 0], [⟨0, none, .put []⟩, ⟨200, some 3, .put [(0x3F_FFFC, 9)]⟩]⟩] } : State).put SPD_ATOM_ADDR.ADDR 0xFFFFF |>.put SPD_ATOM_OPND.VALUE 7).put SPD_ATOM_EXP.VALUE 5, by decide +kernel⟩,
   ⟨5, 0x3F_FFFE, 3, 0xA1B2C3D4, 5, ⟨0xF_FFFF, [5, 0, 0, 0], [⟨200, some 3, .put [(0x3F_FFFC, 9)]⟩]⟩, ⟨200, some 3, .put [(0x3F_FFFC, 9)]⟩, false, { up .run with spd := (up .run).spd.write 0x3F_FFFC 9#8, spdPort := [⟨0xF_FFFF, [5, 0, 0, 0], [⟨200, some 3, .put [(0x3F_FFFC, 9)]⟩]⟩] }, by decide +kernel⟩⟩

/-- A witness for the hypotheses of each clause of Obligations.ImageCommands. -/
theorem witness_ImageCommands :
    (∃ (dt : Nat) (s : State), Taken s opImgLoad ∧ s.srcDenied (s.entArg % 4) = false ∧ (s.dev = .boot ∨ bit s.fuse.accessBits 4 = false)) ∧
    (∃ (dt : Nat) (s : State), Taken s opImgLoad ∧ s.srcDenied (s.entArg % 4) = true ∧ CplFree s) ∧
    (∃ (dt : Nat) (f : FieldSet) (s : State), Taken s opImgSwap ∧ s.imgValid s.idleSlot = true ∧ s.flag IMG_STAT.SAME_STRUCT = true ∧ s.imgTrust (s.slotBytes s.idleSlot) = none ∧ (s.sel.active = none ∨ s.sel.active = some f ∧ f.num ∈ (imgCfgOf (imgScan (s.slotBytes s.idleSlot)).recs).sets) ∧ (s.dev.running = true → bit s.fuse.accessBits 3 = false)) ∧
    (∃ (dt : Nat) (s : State), Taken s opImgApply ∧ s.flag SAF_SEAL.UNLOCK = true ∧ s.imgValid s.idleSlot = true ∧ (imgCfgOf (s.slotRecs s.idleSlot)).memcfg = s.img.cfg.memcfg ∧ (imgCfgOf (s.slotRecs s.idleSlot)).link = s.img.cfg.link) ∧
    (∃ (dt : Nat) (ld : Load) (s : State), Taken s opImgAbort ∧ s.img.load = some ld ∧ ld.slot < 2) ∧
    (∃ (dt : Nat) (s : State), Taken s opImgAbort ∧ s.img.load = none ∧ s.swapPreparing = false ∧ CplFree s) :=
  ⟨⟨5, withCmd (up .configured) opImgLoad 0x11 3, by decide +kernel⟩,
   ⟨5, withCmd { up .configured with fuse := { (up .configured).fuse with access := ⟨2, 2⟩ } } opImgLoad 1 3, by decide +kernel⟩,
   ⟨5, { num := 0, words := [] }, withCmd (validIdle (up .configured)) opImgSwap 0 3, by decide +kernel⟩,
   ⟨5, withCmd ((validIdle (up .maintenance)).putB SAF_SEAL.UNLOCK true) opImgApply 0 3, by decide +kernel⟩,
   ⟨5, loadOf 1 1 false, withCmd { up .run with img := { load := some (loadOf 1 1 false) } } opImgAbort 0 3, by decide +kernel⟩,
   ⟨5, withCmd (up .safeStop) opImgAbort 0 3, by decide +kernel⟩⟩

/-- A witness for the hypotheses of each clause of Obligations.ImageStreams. -/
theorem witness_ImageStreams :
    (∃ (dt drained : Nat) (word : Word) (memOk : Bool) (ld : Load) (s : State), HostOpen s (IMG_FEED.addr 0) ∧ s.img.load = some ld ∧ ld.src = 1 ∧ s.flag IMG_FEED_STAT.OPEN = true ∧ ld.bytes.length + 4 * ld.feed.length < 252 ∧ drained = 0) ∧
    (∃ (dt : Nat) (word : Word) (memOk : Bool) (ld : Load) (s : State), HostOpen s (IMG_FEED.addr 0) ∧ s.img.load = some ld ∧ ld.src = 1 ∧ s.flag IMG_FEED_STAT.OPEN = true ∧ ld.boot = false ∧ ld.bytes = [] ∧ ld.memDone = false ∧ 8192 ≤ ld.feed.length) ∧
    (∃ (dt : Nat) (ld : Load) (s : State), s.img.load = some ld ∧ (ld.src ≠ 2 ∨ ld.bytes ≠ []) ∧ loadPhase ld.bytes ≠ 3 ∧ (ld.boot = false ∨ ld.src ≠ 0 ∨ ld.copy ≠ 0)) ∧
    (∃ (dt : Nat) (stream : List Byte) (memOk : Bool) (ld : Load) (s : State), s.img.load = some ld ∧ ld.boot = false ∧ (let b := ld.bytes ++ (if ld.src = 0 then stream else if ld.src = 1 then bytesOfWords ld.feed else []);
      (let u := ({ s.advance dt with img := { s.img with load := some { ld with feed := [] } } } : State).loadTake (if ld.src = 0 then stream else if ld.src = 1 then bytesOfWords ld.feed else []) memOk;
      loadPhase b = 3 ∧ (ld.src = 2 → b.length = imgLen b)))) ∧
    (∃ (dt : Nat) (stream : List Byte) (memOk : Bool) (ld : Load) (s : State), s.img.load = some ld ∧ ld.boot = true ∧ s.dev = .boot) ∧
    (∃ (dt : Nat) (late : Bool) (s : State), s.img.swap = some {} ∧ s.sel.active = none ∧ s.sel.loading = none ∧ s.sel.ready = none) ∧
    (∃ (dt : Nat) (a : Apply) (s : State), s.img.apply = some a ∧ a.started = true ∧ a.left = 0 ∧ (∀ d, d < 136 → bit a.doms d = true → d ∈ applyDoms) ∧ s.img.active < 2) :=
  ⟨⟨5, 0, 0x4D4F4F4C, true, loadOf 1 1 false, { (up .run).putB IMG_FEED_STAT.OPEN true with img := { load := some (loadOf 1 1 false) } }, by decide +kernel⟩,
   ⟨5, 0, true, { loadOf 1 1 false with feed := List.replicate 8192 0 }, { (up .run).putB IMG_FEED_STAT.OPEN true with img := { load := some { loadOf 1 1 false with feed := List.replicate 8192 0 } } }, by decide +kernel, rfl, rfl, by decide +kernel, rfl, rfl, rfl, Nat.le_of_eq List.length_replicate.symm⟩,
   ⟨5, loadOf 0 1 false, { up .run with img := { load := some (loadOf 0 1 false) } }, by decide +kernel⟩,
   ⟨5, List.replicate 8 0#8 ++ [0#8, 2#8] ++ List.replicate 502 0#8, true, loadOf 0 1 false, { up .run with img := { load := some (loadOf 0 1 false) } }, by decide +kernel⟩,
   ⟨5, List.replicate 8 0#8 ++ [0#8, 2#8] ++ List.replicate 502 0#8, true, loadOf 0 0 true, { up .boot with img := { load := some (loadOf 0 0 true) } }, by decide +kernel⟩,
   ⟨5, false, { up .run with img := { swap := some {} } }, by decide +kernel⟩,
   ⟨5, ⟨true, 0, 2 ^ 120⟩, { (up .maintenance).putB (domBit 121) false with img := { apply := some ⟨true, 0, 2 ^ 120⟩ } }, by decide +kernel⟩⟩

/-- A witness for the hypotheses of each clause of Obligations.Fuses. -/
theorem witness_Fuses :
    (∃ (dt n mask : Nat) (s : State), HostOpen s BEZ_PROG_CMD.addr ∧ s.flag BEZ_PROG_STAT.BUSY = false ∧ burnBits (s.get BEZ_PROG_SEL.FIELD) = some (n, mask) ∧ (s.virgin = true ∨ s.unlocked = true ∧ bit s.fuse.accessBits 5 = false) ∧ s.fuse.blank (s.get BEZ_PROG_SEL.FIELD) = true) ∧
    (∃ (dt : Nat) (s : State), HostOpen s BEZ_PROG_CMD.addr ∧ s.flag BEZ_PROG_STAT.BUSY = false ∧ s.unlocked = true ∧ s.usedKey ≠ some (s.fuse.stageWord 0 % 4)) ∧
    (∃ (dt : Nat) (s : State), HostOpen s BEZ_PROG_CMD.addr ∧ s.flag BEZ_PROG_STAT.BUSY = false ∧ s.unlocked = true ∧ s.fuse.stageWord 0 % 128 ≤ 64) ∧
    (∃ (dt : Nat) (key : Fin 65536) (s : State), HostOpen s BEZ_PROG_CMD.addr ∧ key.val ≠ 0xF05E) ∧
    (∃ (dt a b action id val : Nat) (s : State), s.fuse.burn = some (action, id, val)) ∧
    (∃ (dt : Nat) (i : TapInstr) (s : State), s.tapAccepts i = true) ∧
    (∃ (dt : Nat) (i : TapInstr) (s : State), s.tapAccepts i = false) :=
  ⟨⟨5, 3, 2 ^ 96 - 1 - (2 ^ 32 - 2 ^ 21), (up .boot).put BEZ_PROG_SEL.FIELD 1, by decide +kernel⟩,
   ⟨5, (up .maintenance).putB SAF_SEAL.UNLOCK true, by decide +kernel⟩,
   ⟨5, let s := (up .maintenance).putB SAF_SEAL.UNLOCK true; { s with fuse := { s.fuse with stage := [(0, 64)] } }, by decide +kernel⟩,
   ⟨5, 0xF05F, up .run, by decide +kernel⟩,
   ⟨5, 1, 3, 3, 0x31, 3, { up .run with fuse := { (up .run).fuse with burn := some (3, 0x31, 3) } }, by decide +kernel⟩,
   ⟨5, .extest, up .boot, by decide +kernel⟩,
   ⟨5, .extest, up .run, by decide +kernel⟩⟩

/-- A witness for the hypotheses of each clause of Obligations.SealsAndPlug. -/
theorem witness_SealsAndPlug :
    (∃ (dt : Nat) (site : Fin 8) (s : State), s.dev ≠ .off ∧ s.dev ≠ .reset) ∧
    (∃ (dt : Nat) (unlock : Bool) (s : State), s.dev ≠ .off ∧ s.dev ≠ .reset) ∧
    (∃ (dt : Nat) (present : Bool) (s : State), s.domOn 122 = true) ∧
    (∃ (dt : Nat) (words : List Nat) (s : State), s.domOn 122 = true ∧ s.saf.plugLeft ≠ 0) ∧
    (∃ (dt : Nat) (words : List Nat) (ending : PlugEnd) (s : State), s.domOn 122 = true ∧ s.saf.plugLeft ≠ 0 ∧ ending ≠ .data) ∧
    (∃ (dt : Nat) (part : PlugReply) (s : State), Taken s opPlugWrite ∧ CplFree s ∧ s.flag SAF_SEAL.UNLOCK = true ∧ s.flag SAF_PLUG.PRESENT = true ∧ (∀ p, p < 4 → nth part.acks p false = true) ∧ (List.range 16).map (pw part.back) = s.plugRecord) ∧
    (∃ (dt : Nat) (part : PlugReply) (s : State), Taken s opPlugWrite ∧ CplFree s ∧ s.flag SAF_SEAL.UNLOCK = true ∧ s.flag SAF_PLUG.PRESENT = true ∧ ((∃ p, p < 4 ∧ nth part.acks p false = false) ∨ (List.range 16).map (pw part.back) ≠ s.plugRecord)) :=
  ⟨⟨5, 5, (up .run).put SAF_SEAL.NOW 0xF, by decide +kernel⟩,
   ⟨5, true, (up .run).put SAF_SEAL.NOW 0xE, by decide +kernel⟩,
   ⟨5, true, up .run, by decide +kernel⟩,
   ⟨5, (List.replicate 16 0), { up .run with saf := { plugLeft := 3 } }, by decide +kernel⟩,
   ⟨5, [], .sdaLow 9, ({ up .run with saf := { plugLeft := 1 } } : State).put SAF_PLUG.READ_ERR 255, by decide +kernel⟩,
   ⟨5, ⟨[true, true, true, true], State.plugRecord (withCmd (((up .maintenance).putB SAF_SEAL.UNLOCK true).putB SAF_PLUG.PRESENT true) opPlugWrite 0 3)⟩, (withCmd (((up .maintenance).putB SAF_SEAL.UNLOCK true).putB SAF_PLUG.PRESENT true) opPlugWrite 0 3), by decide +kernel⟩,
   ⟨5, ⟨[true, false, true, true], State.plugRecord (withCmd (((up .maintenance).putB SAF_SEAL.UNLOCK true).putB SAF_PLUG.PRESENT true) opPlugWrite 0 3)⟩, (withCmd (((up .maintenance).putB SAF_SEAL.UNLOCK true).putB SAF_PLUG.PRESENT true) opPlugWrite 0 3), by decide +kernel⟩⟩

/-- A witness for the hypotheses of each clause of Obligations.Indicators. -/
theorem witness_Indicators :
    (∃ (dt : Nat) (ret : List Bool) (s : State), s.domOn 127 = true ∧ s.flag IND_BEAD_CTL.EN = true ∧ s.get IND_BEAD_CTL.NODES ≠ 0) ∧
    (∃ (dt : Nat) (vpin : List Nat) (s : State), s.domOn 127 = true) ∧
    (∃ (dt : Nat) (sink : Fin 12) (s : State), s.domOn 127 = true) ∧
    (∃ (dt : Nat) (index : Fin 16) (quiet : Bool) (s : State), HostOpen s IND_LED_CMD.addr ∧ index.val < 12 ∧ (s.flag (ledMark 4 index.val) = true → quiet = true)) ∧
    (∃ (dt : Nat) (index : Fin 16) (quiet : Bool) (s : State), HostOpen s IND_LED_CMD.addr ∧ (12 ≤ index.val ∨ s.flag (ledMark 4 index.val) = true ∧ quiet = false)) :=
  ⟨⟨5, [true], ({ (up .run).putB IND_BEAD_CTL.EN true with ind := { failed := 2 } } : State).put IND_BEAD_CTL.NODES 64, by decide +kernel⟩,
   ⟨5, [300], ({ (up .run).putB (IND_LED_CTL.EN 0) true with ind := { period := 12, lit := 1 } } : State).put (IND_LED_CTL.LEVEL 0) 1, by decide +kernel⟩,
   ⟨5, 11, up .run, by decide +kernel⟩,
   ⟨5, 11, true, (up .run).putB (ledMark 4 11) true, by decide +kernel⟩,
   ⟨5, 11, false, (up .run).putB (ledMark 4 11) true, by decide +kernel⟩⟩

/-- A witness for the hypotheses of each clause of Obligations.Buttons. -/
theorem witness_Buttons :
    (∃ (dt : Nat) (teach : Bool) (s : State), s.domOn 122 = true ∧ s.press teach = none) ∧
    (∃ (dt : Nat) (teach : Bool) (p : Press) (s : State), s.press teach = some p ∧ p.stuck = false) ∧
    (∃ (dt : Nat) (teach : Bool) (p : Press) (s : State), s.press teach = some p ∧ (p.overlap = true ∨ p.stuck = true ∨ s.now + dt - p.at' < s.get IND_BTN_CFG.MIN_PRESS * 10000 * usLsb ∨ s.get IND_BTN_CFG.MAX_PRESS * 1000000 * usLsb < s.now + dt - p.at')) ∧
    (∃ (dt : Nat) (p : Press) (s : State), s.press false = some p ∧ p.overlap = false ∧ p.stuck = false ∧ s.get IND_BTN_CFG.MIN_PRESS * 10000 * usLsb ≤ s.now + dt - p.at' ∧ s.now + dt - p.at' ≤ s.get IND_BTN_CFG.MAX_PRESS * 1000000 * usLsb ∧ s.flag (SAF_OSSD_CFG.EN 0) = false ∧ s.flag (SAF_OSSD_CFG.EN 1) = false ∧ s.dev = .safeStop ∧ s.flag SAF_CTL.OP_RESUME = true ∧ s.cmdRefused opRun = none) ∧
    (∃ (dt : Nat) (p : Press) (s : State), s.press true = some p ∧ p.overlap = false ∧ p.stuck = false ∧ s.get IND_BTN_CFG.MIN_PRESS * 10000 * usLsb ≤ s.now + dt - p.at' ∧ s.now + dt - p.at' ≤ s.get IND_BTN_CFG.MAX_PRESS * 1000000 * usLsb ∧ s.dev = .maintenance ∧ s.flag SAF_SEAL.UNLOCK = true ∧ s.domOn 121 = true ∧ s.get SEL_TEACH_CTL.FRAMES ≠ 0) :=
  ⟨⟨5, true, { up .run with ind := { restart := some { at' := 0 } } }, by decide +kernel⟩,
   ⟨5, false, { at' := 0 }, { up .run with ind := { restart := some { at' := 0 } } }, by decide +kernel⟩,
   ⟨5, false, { at' := 0 }, { up .run with ind := { restart := some { at' := 0 } } }, by decide +kernel⟩,
   ⟨10 ^ 11, { at' := 0 }, { (up .safeStop).putB SAF_CTL.OP_RESUME true with ind := { restart := some { at' := 0 } } }, by decide +kernel⟩,
   ⟨10 ^ 11, { at' := 0 }, { ((up .maintenance).putB SAF_SEAL.UNLOCK true).put SEL_TEACH_CTL.FRAMES 3 with ind := { teach := some { at' := 0 } } }, by decide +kernel⟩⟩

/-- A witness for the hypotheses of each clause of Obligations.FieldSets. -/
theorem witness_FieldSets :
    (∃ (dt bad i : Nat) (late : Bool) (s : State), s.sel.loading = some i ∧ KeptOn s 121 ∧ KeptOn s 122 ∧ (s.dev.running = true → NoneUndone s)) ∧
    (∃ (dt : Nat) (frames : Fin 256) (s : State), HostOpen s SEL_TEACH_CTL.addr ∧ s.dev = .maintenance ∧ s.flag SAF_SEAL.UNLOCK = true ∧ frames.val ≠ 0) ∧
    (∃ (dt : Nat) (frames : Fin 256) (s : State), HostOpen s SEL_TEACH_CTL.addr ∧ (s.dev ≠ .maintenance ∨ s.flag SAF_SEAL.UNLOCK = false ∨ frames.val = 0)) ∧
    (∃ (dt : Nat) (x : Teach) (s : State), HostOpen s SEL_TEACH_CTL.addr ∧ s.sel.teach = some x) ∧
    (∃ (dt : Nat) (x : Teach) (s : State), s.sel.teach = some x ∧ x.frames ≤ x.done ∧ s.mem.poison = []) :=
  ⟨⟨5, 2, 63, false, { up .run with sel := { loading := some 63 } }, by decide +kernel⟩,
   ⟨5, 255, (up .maintenance).putB SAF_SEAL.UNLOCK true, by decide +kernel⟩,
   ⟨5, 0, (up .maintenance).putB SAF_SEAL.UNLOCK true, by decide +kernel⟩,
   ⟨5, ⟨3, 1, []⟩, { up .maintenance with sel := { teach := some ⟨3, 1, []⟩ } }, by decide +kernel⟩,
   ⟨5, ⟨3, 3, []⟩, { up .maintenance with sel := { teach := some ⟨3, 3, []⟩ } }, by decide +kernel⟩⟩

/-- A witness for the hypotheses of each clause of Obligations.Receiver. -/
theorem witness_Receiver :
    (∃ (dt vex : Nat) (tile : Fin 96) (hits : Fin 17) (s : State), s.tileEn tile.val = true ∧ (s.tileSt tile.val).gates = [] ∧ 12 ≤ hits.val ∧ ((10 * vex : Nat) - (s.vexTgt : Int)).natAbs ≤ 100 ∧ s.flag (T_BIAS_STAT.BIAS_FAULT tile.val) = false) ∧
    (∃ (dt vex : Nat) (tile : Fin 96) (s : State), s.tileEn tile.val = true ∧ (s.tileSt tile.val).gates = [] ∧ 2 ≤ (s.tileSt tile.val).refRun) ∧
    (∃ (dt : Nat) (s : State), s.domOn 123 = true ∧ s.flag TRD_BIAS_STAT.HV_OV = false) ∧
    (∃ (dt code code8 : Nat) (tile : Fin 96) (ch : Fin 8) (spad : Fin 24) (g : Gate) (iv : Ivl) (s : State), s.domOn tile.val = true ∧ s.clk.tclkOff = none ∧ s.chEn tile.val ch.val = true ∧ bit (s.spads tile.val ch.val) spad.val = true ∧ s.chFail tile.val ch.val = false ∧ tabGet (fun _ => 0) (s.rx tile.val ch.val).spad spad.val = 0 ∧ (s.tileSt tile.val).gates = [g] ∧ g.opened = true ∧ (s.advance dt).ct < s.gateClose tile.val g ∧ (s.tileSt tile.val).ivl = some iv ∧ (s.coincOf tile.val ch.val).1 ≤ 1 ∧ (s.rx tile.val ch.val).evtAt = 0 ∧ s.hed.edges = [] ∧ s.mirrors tile.val ch.val = false ∧ s.dllLocked tile.val (s.sliceOf tile.val ch.val) = true ∧ s.flag (T_TDC_STAT.SETTLING tile.val) = false ∧ s.tacMode tile.val = false ∧ (let b := deltaOf (nativeStamp (s.advance dt).ct code) g.tS / 64;
      (s.window tile.val).1 ≤ b ∧ b ≤ (s.window tile.val).2)) ∧
    (∃ (dt code code8 : Nat) (tile : Fin 96) (ch : Fin 8) (spad : Fin 24) (s : State), (s.tileSt tile.val).gates = []) :=
  ⟨⟨5, 300, 95, 16, ((up .run).putB (T_RX_CTL.TILE_EN 95) true).put TRD_BIAS_CTL.VEX_TGT 300, by decide +kernel⟩,
   ⟨5, 0, 95, { (up .run).putB (T_RX_CTL.TILE_EN 95) true with tiles := [(95, { refRun := 2 })] }, by decide +kernel⟩,
   ⟨5, { up .run with trd := { ovCleared := some 0 } }, by decide +kernel⟩,
   ⟨5, 63, 0, 95, 7, 23, ⟨0, 1, true⟩, oneIvl, gateOpen95, by decide +kernel⟩,
   ⟨5, 0, 0, 95, 7, 23, up .run, by decide +kernel⟩⟩

/-- A witness for the hypotheses of each clause of Obligations.Intervals. -/
theorem witness_Intervals :
    (∃ (dt : Nat) (tile : Fin 96) (iv : Ivl) (s : State), (s.tileSt tile.val).ivl = some iv ∧ (s.tileSt tile.val).gates = [] ∧ iv.n ≤ iv.slots) ∧
    (∃ (dt a : Nat) (tile : Fin 96) (iv : Ivl) (s : State), (s.tileSt tile.val).ivl = some iv ∧ iv.seedAt = some a ∧ a ≤ (s.advance dt).ct) ∧
    (∃ (dt : Nat) (tile : Fin 96) (ch : Fin 8) (h : Half) (rest : List Half) (s : State), (s.tileSt tile.val).pend = h :: rest ∧ h.ch = ch.val ∧ h.proof = false ∧ h.listen = false ∧ h.rchg = false ∧ (let q : Search := { h := h, p := s.template tile.val, beta := baseline h.bins h.wl h.we };
      s.halfCands tile.val q = [])) ∧
    (∃ (dt b : Nat) (tile : Fin 96) (ch : Fin 8) (h : Half) (rest : List Half) (s : State), (s.tileSt tile.val).pend = h :: rest ∧ h.ch = ch.val ∧ h.proof = false ∧ h.listen = false ∧ h.rchg = false ∧ (let q : Search := { h := h, p := s.template tile.val, beta := baseline h.bins h.wl h.we };
      (let r := s.returnAt tile.val q b;
      s.halfCands tile.val q = [b] ∧ r.range ≤ 1000000 ∧ (s.rx tile.val ch.val).hold = 0))) ∧
    (∃ (dt : Nat) (tile : Fin 96) (ch : Fin 8) (h : Half) (rest : List Half) (s : State), (s.tileSt tile.val).pend = h :: rest ∧ h.ch = ch.val ∧ h.proof = true) ∧
    (∃ (dt : Nat) (tile : Fin 96) (ws : List Nat) (rest : List (List Nat)) (s : State), (s.tileSt tile.val).exp = ws :: rest) :=
  ⟨⟨5, 95, oneIvl, { tile95 with tiles := [(95, { ivl := some oneIvl })] }, by decide +kernel⟩,
   ⟨5, 0, 95, { oneIvl with seedAt := some 0 }, { tile95 with tiles := [(95, { ivl := some { oneIvl with seedAt := some 0 } })] }, by decide +kernel⟩,
   ⟨5, 95, 7, halfOf 7 0 false, [halfOf 0 0 false], { tile95 with tiles := [(95, { pend := [halfOf 7 0 false, halfOf 0 0 false] })] }, by decide +kernel⟩,
   ⟨5, 3, 95, 7, halfOf 7 60 false, [], { tile95 with tiles := [(95, { pend := [halfOf 7 60 false] })] }, by decide +kernel⟩,
   ⟨5, 95, 7, halfOf 7 0 true, [halfOf 0 0 true], { tile95 with tiles := [(95, { pend := [halfOf 7 0 true, halfOf 0 0 true] })] }, by decide +kernel⟩,
   ⟨5, 95, [1], [], { tile95 with tiles := [(95, { exp := [[1]] })] }, by decide +kernel⟩⟩

/-- A witness for the hypotheses of each clause of Obligations.Slices. -/
theorem witness_Slices :
    (∃ (dt : Nat) (tile : Fin 96) (slice : Fin 9) (s : State), s.domOn tile.val = true ∧ s.dllLocked tile.val slice.val = true) ∧
    (∃ (dt : Nat) (tile : Fin 96) (slice : Fin 9) (s : State), s.domOn tile.val = true ∧ s.dllLocked tile.val slice.val = false) ∧
    (∃ (dt : Nat) (tile : Fin 96) (slice : Fin 9) (s : State), s.domOn tile.val = true ∧ (usLsb < tabGet (fun _ => 0) (s.tileSt tile.val).unlockSpan slice.val ∨ ((s.tileSt tile.val).lockLate slice.val (s.now + dt) = true ∧ bit (s.tileSt tile.val).lateSeen slice.val = false))) ∧
    (∃ (dt : Nat) (tile : Fin 96) (s : State), s.domOn tile.val = true) ∧
    (∃ (dt : Nat) (tile : Fin 96) (slice : Fin 16) (late : Bool) (s : State), HostOpen s (T_TDC_CMD.addr tile.val) ∧ slice.val ≤ 8) ∧
    (∃ (dt : Nat) (tile : Fin 96) (slice : Fin 16) (s : State), HostOpen s (T_TDC_CMD.addr tile.val) ∧ slice.val ≤ 8 ∧ s.dev.running = false ∧ bit (s.tileSt tile.val).markedNow slice.val = false) ∧
    (∃ (dt : Nat) (tile : Fin 96) (slice : Fin 16) (late : Bool) (s : State), HostOpen s (T_TDC_CMD.addr tile.val)) :=
  ⟨⟨5, 95, 8, tile95, by decide +kernel⟩,
   ⟨5, 95, 8, up .run, by decide +kernel⟩,
   ⟨5, 95, 8, { tile95 with tiles := [(95, { unlockSpan := [(8, 64001)] })] }, by decide +kernel⟩,
   ⟨5, 95, tile95.putB (T_TDC_STAT.SETTLING 95) true, by decide +kernel⟩,
   ⟨5, 95, 8, false, tile95, by decide +kernel⟩,
   ⟨5, 95, 8, ((up .configured).put (T_TDC_STAT.SLICE_FAIL 95) 0x1FF).putB (T_RX_STAT.SPARE_FAIL 95) true, by decide +kernel⟩,
   ⟨5, 95, 9, false, up .run, by decide +kernel⟩⟩

/-- A witness for the hypotheses of each clause of Obligations.ListsAndAudit. -/
theorem witness_ListsAndAudit :
    (∃ (dt : Nat) (s : State), bit (s.advance dt).coarse 23 = true ∧ (∀ k, k < 96 → (s.tileSt k).gates = [])) ∧
    (∃ (dt c ch : Nat) (tile : Fin 96) (e : Nat × Nat) (rest : List (Nat × Nat)) (s : State), s.domOn tile.val = true ∧ s.domOn 128 = true ∧ (s.tileSt tile.val).gates = [] ∧ c < 8 ∧ s.listOn tile.val c = true ∧ (s.listQ tile.val c).q = e :: rest ∧ (∀ d, d < 8 → d ≠ c → s.listOn tile.val d = false) ∧ s.listRoute tile.val = some ch ∧ ((s.chan ch).staged.map StreamRec.bytes).foldl (· + ·) 0 + 4 ≤ s.quota ch) ∧
    (∃ (dt : Nat) (tile : Fin 96) (hist : List Nat) (s : State), s.domOn tile.val = true ∧ (s.tileSt tile.val).aud.run = true ∧ (s.tileSt tile.val).aud.made = false ∧ s.acqOpen = false ∧ s.dev.ticks = true ∧ (s.tileSt tile.val).aud.dens = true) ∧
    (∃ (dt : Nat) (tile : Fin 96) (hist : List Nat) (s : State), s.domOn tile.val = true ∧ (s.tileSt tile.val).aud.run = true ∧ (s.tileSt tile.val).aud.made = false ∧ s.acqOpen = false ∧ s.dev.ticks = true ∧ (s.tileSt tile.val).aud.dens = false ∧ (s.tileSt tile.val).aud.pass = true ∧ (s.tileSt tile.val).aud.ch < 8 ∧ s.get (T_TDC_AUDIT_CTL.CMP_MAX tile.val) < (s.tileSt tile.val).aud.mism) ∧
    (∃ (dt : Nat) (tile : Fin 96) (hist : List Nat) (s : State), (s.tileSt tile.val).aud.made = true) :=
  ⟨⟨64 * 2 ^ 23, { tile95 with tiles := [(95, { lists := [(7, { on := true, wraps := 5 })] })] }, by decide +kernel⟩,
   ⟨5, 7, 63, 95, (9, 0), [], listOut, by decide +kernel⟩,
   ⟨5, 95, List.replicate 64 1024, { tile95 with tiles := [(95, { aud := { run := true } })] }, by decide +kernel⟩,
   ⟨5, 95, [], { tile95 with tiles := [(95, { aud := { run := true, dens := false, pass := true, ch := 7, mism := 16 } })] }, by decide +kernel⟩,
   ⟨5, 95, [], { tile95 with tiles := [(95, { aud := { run := true, made := true } })] }, by decide +kernel⟩⟩

/-- A witness for the hypotheses of each clause of Obligations.Heddle. -/
theorem witness_Heddle :
    (∃ (dt : Nat) (entry : Fin 512) (s : State), s.shotMay = true ∧ entry.val < tabEntries s.hed.tab ∧ entType s.hed.tab entry.val = 1 ∧ s.entPos entry.val < entSlots s.hed.tab entry.val ∧ (let i := s.entPos entry.val;
      (let o := trainOut s.hed.tab entry.val (i % trainSet s.hed.tab entry.val);
      (let tS := (s.advance dt).shotTs o (s.ditherNs o (tabGet (fun _ => 0) s.hed.dith o));
      isListen (trainLo s.hed.tab entry.val) (i / trainN s.hed.tab entry.val) = false ∧ (s.fireDecide o = .emitted → ∀ p ∈ s.pulses o tS, s.now + dt + (p.2 - (s.advance dt).ct) + 60 * usLsb ≤ s.clk.dueAt))))) ∧
    (∃ (dt : Nat) (entry : Fin 512) (p : Nat × Nat) (s : State), (let i := s.entPos entry.val;
      (let o := trainOut s.hed.tab entry.val (i % trainSet s.hed.tab entry.val);
      isListen (trainLo s.hed.tab entry.val) (i / trainN s.hed.tab entry.val) = false ∧ s.fireDecide o = .emitted ∧ p ∈ s.pulses o ((s.advance dt).shotTs o (s.ditherNs o (tabGet (fun _ => 0) s.hed.dith o))) ∧ s.clk.dueAt < s.now + dt + (p.2 - (s.advance dt).ct) + 60 * usLsb))) ∧
    (∃ (dt : Nat) (entry : Fin 512) (s : State), s.shotMay = true ∧ entry.val < tabEntries s.hed.tab ∧ entType s.hed.tab entry.val = 1 ∧ s.entPos entry.val < entSlots s.hed.tab entry.val ∧ isListen (trainLo s.hed.tab entry.val) (s.entPos entry.val / trainN s.hed.tab entry.val) = true) ∧
    (∃ (dt : Nat) (entry : Fin 512) (s : State), (s.shotMay = false ∨ entSlots s.hed.tab entry.val ≤ s.entPos entry.val)) ∧
    (∃ (dt : Nat) (entry : Fin 512) (s : State), s.shotMay = true ∧ entry.val < tabEntries s.hed.tab ∧ entType s.hed.tab entry.val = 2 ∧ s.entPos entry.val = 0) ∧
    (∃ (dt : Nat) (walk : List WalkSample) (s : State), s.shotMay = true ∧ s.diagIn = true ∧ s.emd.diagRan = false ∧ s.emd.diagAt = none) ∧
    (∃ (dt tD : Nat) (walk : List WalkSample) (s : State), s.shotMay = true ∧ s.diagIn = true ∧ s.emd.diagRan = false ∧ s.emd.diagAt = some tD ∧ tD + diagCommit ≤ (s.advance dt).ct) ∧
    (∃ (dt tD : Nat) (walk : List WalkSample) (s : State), s.emd.diagAt = some tD ∧ (s.advance dt).ct < tD + diagCommit) :=
  ⟨⟨5, 0, shooting [0x10000000, 0, 0x00010000, 1], by decide +kernel⟩,
   ⟨5, 0, (1024, 1280), { shooting [0x10000000, 0, 0x00010000, 1] with clk := {} }, by decide +kernel⟩,
   ⟨5, 0, shooting [0x10000000, 0, 0x00010400, 1], by decide +kernel⟩,
   ⟨5, 511, shooting [0x10000000, 0, 0x00010000, 1], by decide +kernel⟩,
   ⟨5, 0, shooting [0x20000000, 0x5F00, 0, 0], by decide +kernel⟩,
   ⟨5, [], shooting [0x30000000, 0, 0, 0], by decide +kernel⟩,
   ⟨64 * 3200, 0, [⟨0, false, 191, false⟩], let s := shooting [0x30000000, 0, 0, 0]; { s with emd := { diagAt := some 0 }, saf := { s.saf with tick0 := some 0 } }, by decide +kernel⟩,
   ⟨5, 0, [], let s := shooting [0x30000000, 0, 0, 0]; { s with emd := { diagAt := some 0 } }, by decide +kernel⟩⟩

/-- A witness for the hypotheses of each clause of Obligations.Emitter. -/
theorem witness_Emitter :
    (∃ (dt : Nat) (isense : List IsensePart) (out : Fin 96) (q : Fin 65536) (x : Shot) (s : State), s.emd.shots.find? (fun x => x.out == out.val) = some x) ∧
    (∃ (dt : Nat) (win : Fin 4) (s : State), s.domOn 120 = true ∧ s.winOn win.val = true) ∧
    (∃ (dt : Nat) (out : Fin 96) (s : State), s.domOn 120 = true) ∧
    (∃ (dt : Nat) (s : State), s.domOn 120 = true ∧ s.flag EMD_STAT.STUCK_ON = false ∧ NoneUndone s) ∧
    (∃ (dt : Nat) (index : Fin 128) (quiet : Bool) (s : State), HostOpen s EMD_CMD.addr ∧ index.val < 96 ∧ (s.mark EMD_SHUT.SHUT index.val = true → quiet = true)) ∧
    (∃ (dt : Nat) (index : Fin 128) (s : State), HostOpen s EMD_CMD.addr ∧ index.val < 24) ∧
    (∃ (dt : Nat) (s : State), HostOpen s EMD_CMD.addr ∧ s.dev.running = false) ∧
    (∃ (dt : Nat) (index : Fin 128) (s : State), HostOpen s EMD_CMD.addr ∧ 96 ≤ index.val ∧ s.dev.running = true) :=
  ⟨⟨5, [], 95, 65535, ⟨95, 1, false, 16, 0⟩, { up .run with emd := { shots := [⟨95, 1, false, 16, 0⟩] } }, by decide +kernel⟩,
   ⟨5, 3, { up .run with emd := { buckets := [(96, ⟨List.replicate 64 1, 9⟩)] } }, by decide +kernel⟩,
   ⟨5, 95, up .run, by decide +kernel⟩,
   ⟨5, up .run, by decide +kernel⟩,
   ⟨5, 95, true, (up .run).put (EMD_SHUT.SHUT 2) 0xFFFFFFFF, by decide +kernel⟩,
   ⟨5, 23, (up .run).put EMD_STAT.MPD_FAULT 0xFFFFFF, by decide +kernel⟩,
   ⟨5, (up .safeStop).putB EMD_STAT.STUCK_ON true, by decide +kernel⟩,
   ⟨5, 96, up .degraded, by decide +kernel⟩⟩

/-- A witness for the hypotheses of each clause of Obligations.PausesAndHeat. -/
theorem witness_PausesAndHeat :
    (∃ (dt : Nat) (s : State), s.hed.pauseReq ≠ 0 ∧ s.shotMay = true ∧ s.moreSlots = true ∧ s.inDiag = false) ∧
    (∃ (dt a : Nat) (s : State), s.hed.pauseAt = some a) ∧
    (∃ (dt : Nat) (tiles others : List Nat) (s : State), s.dev ≠ .off ∧ s.dev ≠ .reset ∧ s.domOn 125 = true ∧ NoneUndone s) :=
  ⟨⟨5, let s := shooting [0x10000000, 0, 0x00010000, 1]; { s with hed := { s.hed with pauseReq := 64000 } }, by decide +kernel⟩,
   ⟨5, 0, let s := shooting []; { s with hed := { s.hed with pauseAt := some 0, paused := 64 } }, by decide +kernel⟩,
   ⟨5, List.replicate 96 0, List.replicate 8 0, let s := up .run; { s with thm := { s.thm with hot := 1 }, fuse := { s.fuse with thmBandLo := 1, thmBandHi := 60000 } }, by decide +kernel⟩⟩

/-- A witness for the hypotheses of each clause of Obligations.Treadle. -/
theorem witness_Treadle :
    (∃ (dt : Nat) (slot : Fin 8) (uv : Int) (s : State), slot.val < 7 ∧ s.slotMay slot.val = true ∧ (s.slot slot.val).run = true ∧ (s.slot slot.val).halted = false ∧ (s.slot slot.val).clrFe = false ∧ (s.slot slot.val).rstI = false ∧ s.get (TRD_FE.FE_LIM slot.val) = 0) ∧
    (∃ (dt : Nat) (slot : Fin 8) (uv : Int) (s : State), s.slotMay slot.val = true ∧ (s.slot slot.val).run = false ∧ (s.slot slot.val).halted = false ∧ s.get (TRD_FE.FE_LIM slot.val) = 0) ∧
    (∃ (dt : Nat) (slot : Fin 8) (s : State), (s.slot slot.val).run = true ∧ s.get (TRD_CTL.START_TO slot.val) ≠ 0 ∧ s.get (TRD_FE.FE_LIM slot.val) ≠ 0 ∧ s.flag (TRD_STAT.ARMED slot.val) = false ∧ s.flag (TRD_STAT.START_FAIL slot.val) = false ∧ s.get (TRD_CTL.START_TO slot.val) * 100000 * usLsb ≤ s.now + dt - (s.slot slot.val).since ∧ NoneUndone s) ∧
    (∃ (dt : Nat) (slot : Fin 8) (s : State), HostOpen s TRD_CMD.addr) ∧
    (∃ (dt : Nat) (s : State), HostOpen s TRD_CMD.addr ∧ (s.flag TRD_BIAS_STAT.HV_OV_LOCK = true → s.dev.running = false)) ∧
    (∃ (dt : Nat) (low : Bool) (s : State), HostOpen s TRD_CMD.addr ∧ (low = false ∨ s.flag TRD_BIAS_STAT.HV_OV_LOCK = true ∧ s.dev.running = true)) ∧
    (∃ (dt : Nat) (enc : Fin 8) (s : State), HostOpen s TRD_CMD.addr) ∧
    (∃ (dt k at' u : Nat) (s : State), k < 8 ∧ (s.slot k).due = some (at', u) ∧ u < 2 ^ 16 ∧ HostOpen s (TRD_U.addr k) ∧ (∀ q ∈ s.hiLatch, q.1 ≠ TRD_U.addr k)) :=
  ⟨⟨5, 6, 750000, let s := slotRuns 6; { s with trd := { s.trd with slots := [(6, { run := true })] } }, by decide +kernel⟩,
   ⟨5, 7, 750000, slotRuns 7, by decide +kernel⟩,
   ⟨10 ^ 13, 6, let s := (((slotRuns 6).put (TRD_CTL.START_TO 6) 255).put (TRD_FE.FE_LIM 6) 1).putB (TRD_CTL.GUARD 6) true; { s with trd := { s.trd with slots := [(6, { run := true })] } }, by decide +kernel⟩,
   ⟨5, 7, up .run, by decide +kernel⟩,
   ⟨5, (up .safeStop).putB TRD_BIAS_STAT.HV_OV_LOCK true, by decide +kernel⟩,
   ⟨5, true, (up .run).putB TRD_BIAS_STAT.HV_OV_LOCK true, by decide +kernel⟩,
   ⟨5, 7, (up .run).put TRD_ENC_STAT.ENC_ERR 255, by decide +kernel⟩,
   ⟨3, 7, 64002, 0xFFFF, let s := (up .run).put (TRD_U.U 7) 5; { s.setSlot 7 { s.slot 7 with due := some (64002, 0xFFFF) } with now := 63999 }, by decide +kernel⟩⟩

/-- A witness for the hypotheses of each clause of Obligations.Encoders. -/
theorem witness_Encoders :
    (∃ (dt held : Nat) (who : Fin 16) (a b z : Bool) (s : State), who.val < 8 ∧ s.domOn 123 = true ∧ s.encTreadle who.val = true ∧ s.get (TRD_ENC_CFG.FILT who.val) < held ∧ (let r := (tabGet (fun _ => {}) s.trd.encs who.val).take (s.encLevels who.val) a b z (s.flag (TRD_ENC_CFG.INV who.val));
      (r.index && s.flag (TRD_ENC_CFG.ZEN who.val)) = false)) ∧
    (∃ (dt held : Nat) (who : Fin 16) (a b z : Bool) (s : State), 8 ≤ who.val ∧ s.axisListens (who.val - 8) = true ∧ s.get (SAF_AXIS_CFG.FILT (who.val - 8)) < held ∧ (let k := who.val - 8;
      (let r := (s.axis k).enc.take (s.encLevels who.val) a b z (s.flag (SAF_AXIS_CFG.INV k));
      (r.index && s.flag (SAF_AXIS_CFG.ZEN k)) = false))) ∧
    (∃ (dt held : Nat) (who : Fin 16) (a b z : Bool) (s : State), (who.val < 8 → held ≤ s.get (TRD_ENC_CFG.FILT who.val)) ∧ (8 ≤ who.val → held ≤ s.get (SAF_AXIS_CFG.FILT (who.val - 8)))) ∧
    (∃ (dt held : Nat) (who : Fin 16) (a b z : Bool) (s : State), (who.val < 8 → s.encTreadle who.val = false ∧ s.get (TRD_ENC_CFG.FILT who.val) < held) ∧ (8 ≤ who.val → s.axisListens (who.val - 8) = false ∧ s.get (SAF_AXIS_CFG.FILT (who.val - 8)) < held)) ∧
    (∃ (dt held : Nat) (who : Fin 16) (input : Fin 3) (s : State), who.val < 8 ∧ s.domOn 123 = true ∧ s.encTreadle who.val = true ∧ 1 ≤ held ∧ held ≤ s.get (TRD_ENC_CFG.FILT who.val)) ∧
    (∃ (dt held : Nat) (who : Fin 16) (input : Fin 3) (s : State), 8 ≤ who.val ∧ s.axisListens (who.val - 8) = true ∧ 1 ≤ held ∧ held ≤ s.get (SAF_AXIS_CFG.FILT (who.val - 8))) ∧
    (∃ (dt : Nat) (axis : Fin 8) (f : FieldSet) (s : State), (s.axis axis.val).on = true ∧ s.sel.active = some f) ∧
    (∃ (dt : Nat) (axis : Fin 8) (s : State), (s.axis axis.val).on = false) :=
  ⟨⟨5, 16, 7, true, true, true, encGiven, by decide +kernel⟩,
   ⟨5, 16, 15, true, false, true, axisOn 7, by decide +kernel⟩,
   ⟨5, 0, 7, true, true, true, up .run, by decide +kernel⟩,
   ⟨5, 16, 7, true, true, true, up .run, by decide +kernel⟩,
   ⟨5, 1, 7, 2, (encGiven.put (TRD_ENC_CFG.FILT 7) 15), by decide +kernel⟩,
   ⟨5, 1, 15, 2, { (axisOn 7).put (SAF_AXIS_CFG.FILT 7) 15 with saf := { (axisOn 7).saf with axes := [(7, { on := true, enc := { sz := 3 } })] } }, by decide +kernel⟩,
   ⟨5, 7, { num := 1, words := [] }, { axisOn 7 with sel := { active := some { num := 1, words := [] } } }, by decide +kernel⟩,
   ⟨5, 7, up .run, by decide +kernel⟩⟩

/-- A witness for the hypotheses of each clause of Obligations.Ossd. -/
theorem witness_Ossd :
    (∃ (dt : Nat) (pin : Fin 4) (s : State), s.dev.running = true) ∧
    (∃ (dt : Nat) (ball : Fin 4) (s : State), s.pairHigh (ball.val / 2) = true ∧ s.flag (SAF_OSSD_CFG.TP_EN (ball.val / 2)) = true) ∧
    (∃ (dt : Nat) (ball : Fin 4) (s : State), (s.pairHigh (ball.val / 2) = false ∨ s.flag (SAF_OSSD_CFG.TP_EN (ball.val / 2)) = false)) ∧
    (∃ (dt : Nat) (fb : Fin 16) (s : State), s.dev.ticks = true ∧ (∀ b, b < 4 → bit fb.val b = (s.advance dt).ballHigh b ∨ (s.advance dt).ballSettling b = true)) ∧
    (∃ (dt b : Nat) (fb : Fin 16) (s : State), s.dev.running = true ∧ b < 4 ∧ bit fb.val b ≠ (s.advance dt).ballHigh b ∧ (s.advance dt).ballSettling b = false ∧ tabGet (fun _ => 0) s.saf.fbBad b = 1 ∧ NoneUndone s) ∧
    (∃ (dt : Nat) (pair : Fin 2) (edm second lvl : Bool) (s : State), (s.pair pair.val).edmWait = some lvl ∧ s.secondEdm = false ∧ s.get SAF_OSSD_TIM.EDM_T * ms10 ≤ s.now + dt - tabGet (fun _ => 0) s.saf.changedAt pair.val ∧ edm ≠ lvl) ∧
    (∃ (dt : Nat) (pair : Fin 2) (edm second : Bool) (s : State), (s.pair pair.val).edmWait = some edm ∧ s.secondEdm = false ∧ s.get SAF_OSSD_TIM.EDM_T * ms10 ≤ s.now + dt - tabGet (fun _ => 0) s.saf.changedAt pair.val) ∧
    (∃ (dt : Nat) (pair : Fin 2) (s : State), s.pairState pair.val = 3 ∧ (∀ a ∈ bitList 8 (s.pairMask FieldSet.pairAxes pair.val), ((s.advance dt).axisVel a).natAbs ≤ s.get (SAF_AXIS_VSS.VSS a))) :=
  ⟨⟨5, 3, (up .run).put SAF_OSSD_STAT.STATE1 2, by decide +kernel⟩,
   ⟨5, 3, ((up .run).put SAF_OSSD_STAT.STATE2 2).putB (SAF_OSSD_CFG.TP_EN 1) true, by decide +kernel⟩,
   ⟨5, 3, up .run, by decide +kernel⟩,
   ⟨5, 0, up .run, by decide +kernel⟩,
   ⟨10 ^ 9, 3, 8, { up .degraded with saf := { fbBad := [(3, 1)] } }, by decide +kernel⟩,
   ⟨10 ^ 12, 1, false, false, true, { (up .run).put SAF_OSSD_STAT.STATE2 2 with saf := { pairs := [(1, { edmWait := some true })] } }, by decide +kernel⟩,
   ⟨10 ^ 12, 1, true, false, { up .run with saf := { pairs := [(1, { edmWait := some true })] } }, by decide +kernel⟩,
   ⟨5, 1, (up .run).put SAF_OSSD_STAT.STATE2 3, by decide +kernel⟩⟩

/-- A witness for the hypotheses of each clause of Obligations.Supervision. -/
theorem witness_Supervision :
    (∃ (dt : Nat) (conv0 conv1 : SupPeriod) (refOk : Bool) (s : State), s.supRuns = false) ∧
    (∃ (dt : Nat) (conv0 conv1 : SupPeriod) (refOk : Bool) (s : State), s.supRuns = true) ∧
    (∃ (dt i : Nat) (conv0 conv1 : SupPeriod) (refOk : Bool) (s : State), s.supRuns = true ∧ i < 16 ∧ supList s.sup.bank 0 = [i] ∧ supList s.sup.bank 1 = [] ∧ s.supGet (SUP_ENT.MED i) = 0 ∧ s.supGet (SUP_ENT.ALIGN i) = 0) ∧
    (∃ (dt w : Nat) (conv0 conv1 : SupPeriod) (refOk : Bool) (s : State), s.supRuns = true ∧ w < 16 ∧ s.flag (SUP_WIN_CFG.EN w) = true ∧ s.flag (SUP_WIN_CFG.SAFE w) = false ∧ s.supHasOutput w = true ∧ (∀ v, v < 16 → v ≠ w → s.flag (SUP_WIN_CFG.EN v) = false) ∧ s.flag (supTripped w) = false) ∧
    (∃ (dt w : Nat) (conv0 conv1 : SupPeriod) (refOk : Bool) (s : State), s.supRuns = true ∧ w < 16 ∧ s.flag (SUP_WIN_CFG.EN w) = true ∧ s.flag (SUP_WIN_CFG.SAFE w) = true ∧ s.supHasOutput w = true ∧ (∀ v, v < 16 → v ≠ w → s.flag (SUP_WIN_CFG.EN v) = false) ∧ s.flag (supTripped w) = false ∧ NoneUndone s ∧ (∀ k < 2, ∀ j < 2, s.supCheckSlot k (0x40 + j) = none)) ∧
    (∃ (dt : Nat) (clr : Word) (s : State), HostOpen s SUP_ACC_CLR.addr) :=
  ⟨⟨5, ⟨[], [], []⟩, ⟨[], [], []⟩, true, up .run, by decide +kernel⟩,
   ⟨5, ⟨[], [], []⟩, ⟨[], [], []⟩, false, (supOn []).putB SUP_STAT.REF_OK true, by decide +kernel⟩,
   ⟨5, 15, ⟨List.replicate 8192 true, [], []⟩, ⟨[], [], []⟩, true, supOn [((SUP_ENT.EN 15).addr, 0x80000000#32)], by decide +kernel⟩,
   ⟨5, 15, ⟨List.replicate 8192 false, [], []⟩, ⟨[], [], []⟩, true, (((supOn [((SUP_ENT.EN 15).addr, 0x80000000#32)]).put (SUP_WIN_CFG.SRC_A 15) 15).putB (SUP_WIN_CFG.EN 15) true).putI (SUP_WIN_LO.LIMIT 15) 1, by decide +kernel⟩,
   ⟨5, 15, ⟨List.replicate 8192 false, [], []⟩, ⟨[], [], []⟩, true, ((((supOn [((SUP_ENT.EN 15).addr, 0x80000000#32)]).put (SUP_WIN_CFG.SRC_A 15) 15).putB (SUP_WIN_CFG.EN 15) true).putB (SUP_WIN_CFG.SAFE 15) true).putI (SUP_WIN_LO.LIMIT 15) 1, by decide +kernel⟩,
   ⟨5, 0x80000001, up .run, by decide +kernel⟩⟩

/-- A witness for the hypotheses of each clause of Obligations.Loupe. -/
theorem witness_Loupe :
    (∃ (dt : Nat) (pins : LoupePins) (s : State), s.domOn 126 = true ∧ s.lpe.cap = none ∧ s.lpeFlag LPE_CTL.EN = false ∧ s.now + dt < s.lpe.gridAt) ∧
    (∃ (dt : Nat) (pins : LoupePins) (f : LpeFire) (s : State), s.domOn 126 = true ∧ s.lpeFlag LPE_CTL.EN = true ∧ s.now + dt < s.lpe.gridAt ∧ (s.advance dt).lpePatterns s.lpe.vec ((s.advance dt).lpeVector pins) = [f]) ∧
    (∃ (dt k : Nat) (r : List Nat) (rest : List (List Nat)) (s : State), s.domOn 126 = true ∧ s.lpe.queue = r :: rest ∧ s.lpe.gapR.lost = 0 ∧ r.length = 4 * k ∧ s.lpeUsed + k < s.lpeSize ∧ s.get LPE_RING_HEAD.INDEX + k ≤ s.lpeSize ∧ s.mem.poison = []) ∧
    (∃ (dt : Nat) (r : List Nat) (rest : List (List Nat)) (s : State), s.domOn 126 = true ∧ s.lpe.queue = r :: rest ∧ nth r 0 0 / 2 ^ 28 ≠ 5 ∧ s.lpeSize ≤ s.lpeUsed + r.length / 4) ∧
    (∃ (dt : Nat) (s : State), HostOpen s LPE_CTL.addr ∧ s.get LPE_STAT.STATE ≠ 3) ∧
    (∃ (dt : Nat) (s : State), s.domOn 126 = true ∧ s.lpeFlag LPE_CTL.RETAIN_H = true ∧ s.get LPE_STAT.STATE ≠ 3) ∧
    (∃ (dt : Nat) (s : State), s.get LPE_STAT.STATE = 3) :=
  ⟨⟨5, quietPins, { up .run with lpe := { gridAt := 6, vec := some 0 } }, by decide +kernel⟩,
   ⟨5, quietPins, ⟨0, 0, 0, 0⟩, loupeArmed, by decide +kernel⟩,
   ⟨5, 1, [4 * 2 ^ 28, 1, 2, 3], [], { (up .run).put LPE_RING_CTL.SIZE_LOG2 4 with lpe := { queue := [[4 * 2 ^ 28, 1, 2, 3]] } }, by decide +kernel⟩,
   ⟨5, [4 * 2 ^ 28, 1, 2, 3], [], { (up .run).put LPE_RING_CTL.SIZE_LOG2 0 with lpe := { queue := [[4 * 2 ^ 28, 1, 2, 3]] } }, by decide +kernel⟩,
   ⟨5, up .run, by decide +kernel⟩,
   ⟨5, { up .run with lpe := { cfg := [(LPE_CTL.addr, 0xFF00#32)] } }, by decide +kernel⟩,
   ⟨5, ((up .run).put LPE_STAT.STATE 3).put LPE_RING_CTL.SIZE_LOG2 4, by decide +kernel⟩⟩

/-- A witness for the hypotheses of each clause of Obligations.Descriptors. -/
theorem witness_Descriptors :
    (∃ (dt issued : Nat) (ch : Fin 64) (host : List Nat) (s : State), s.canTake ch.val = true ∧ s.descPoisoned ch.val = false ∧ (let d := s.readDesc ch.val host;
      (let st := s.descCheck ch.val d;
      (let n := min (if s.chanMode ch.val = 1 then 1 else max 1 issued) (s.reqRoom ch.val d);
      (let idle := st != 0 || (s.chanMode ch.val == 1 && (s.chan ch.val).staged.isEmpty);
      (∀ m ∈ s.descDomains ch.val d, bit s.pwr.barred m = false) ∧ descOwn d = true ∧ st ≠ 4))))) ∧
    (∃ (dt issued : Nat) (ch : Fin 64) (host : List Nat) (s : State), s.canTake ch.val = true ∧ s.descPoisoned ch.val = false ∧ (∀ m ∈ s.descDomains ch.val (s.readDesc ch.val host), bit s.pwr.barred m = false) ∧ descOwn (s.readDesc ch.val host) = false) ∧
    (∃ (dt issued : Nat) (ch : Fin 64) (host : List Nat) (s : State), s.canTake ch.val = true ∧ s.descPoisoned ch.val = true ∧ (∀ m ∈ s.descDomains ch.val (s.readDesc ch.val host), bit s.pwr.barred m = false)) ∧
    (∃ (dt len left bad : Nat) (ch : Fin 64) (host : List Byte) (d : List Nat) (lost : Bool) (s : State), s.domOn 128 = true ∧ s.chanMode ch.val ≠ 1 ∧ (s.chan ch.val).desc = some d ∧ (s.chan ch.val).inflight ≠ 0 ∧ (s.chan ch.val).ended = false ∧ (s.advance dt).spdPort = [] ∧ (∀ c, c < 64 → c ≠ ch.val → (s.chan c).waits = false) ∧ descOp d = 0 ∧ descSrcKind d = 1 ∧ descDstKind d = 1) ∧
    (∃ (dt len left bad : Nat) (ch : Fin 64) (host : List Byte) (hostErr : Bool) (d : List Nat) (r : StreamRec)
    (rest : List StreamRec) (lost : Bool) (s : State), s.domOn 128 = true ∧ s.chanMode ch.val = 1 ∧ (s.chan ch.val).desc = some d ∧ (s.chan ch.val).staged = r :: rest ∧ (s.chan ch.val).ended = false ∧ (s.chan ch.val).inflight ≠ 0 ∧ (s.advance dt).spdPort = [] ∧ (∀ c, c < 64 → c ≠ ch.val → (s.chan c).waits = false) ∧ descOp d = 0 ∧ descDstKind d = 1 ∧ (s.chan ch.val).fill + r.bytes ≤ descBytes d) ∧
    (∃ (dt : Nat) (ch : Fin 64) (d : List Nat) (s : State), (s.chan ch.val).desc = some d ∧ (s.chan ch.val).ended = true ∧ (s.chan ch.val).inflight = 0 ∧ s.domOn 128 = true ∧ s.chanMode ch.val ≠ 1) :=
  ⟨⟨5, 1, 63, descWords, shuReady 63, by decide +kernel⟩,
   ⟨5, 1, 63, [], shuReady 63, by decide +kernel⟩,
   ⟨5, 1, 63, [], let s := (withDram (shuReady 63)).dramZero 0 64; { s.put (SHU_CFG.RING_KIND 63) 0 with mem := { s.mem with poison := [0] } }, by decide +kernel⟩,
   ⟨5, 8, 1, 0, 63, [], descWords, false, { shuReady 63 with shu := [(63, { desc := some descWords, inflight := 1 })] }, by decide +kernel⟩,
   ⟨5, 0, 0, 0, 63, [], false, descWords, ⟨63, .point, 0, 0, [7]⟩, [], false, { (shuReady 63).put (SHU_CFG.MODE 63) 1 with shu := [(63, { desc := some descWords, inflight := 1, staged := [⟨63, .point, 0, 0, [7]⟩] })] }, by decide +kernel⟩,
   ⟨5, 63, descWords, { (shuReady 63).put (SHU_CFG.RING_KIND 63) 0 with shu := [(63, { desc := some descWords, ended := true, status := 3 })] }, by decide +kernel⟩⟩

/-- A witness for the hypotheses of each clause of Obligations.ChannelControl. -/
theorem witness_ChannelControl :
    (∃ (dt issued : Nat) (ch : Fin 64) (s : State), HostOpen s (SHU_CTL.addr ch.val) ∧ (s.chan ch.val).aborting = false) ∧
    (∃ (dt issued : Nat) (ch : Fin 64) (d : List Nat) (s : State), HostOpen s (SHU_CTL.addr ch.val) ∧ (s.chan ch.val).desc = some d ∧ (s.chan ch.val).ended = false ∧ (s.chan ch.val).inflight = 0 ∧ s.chanMode ch.val = 0 ∧ (s.chan ch.val).aborting = false ∧ (s.chan ch.val).cut = false ∧ (∀ m ∈ s.descDomains ch.val d, s.domOn m = true ∧ bit s.pwr.barred m = false)) ∧
    (∃ (dt : Nat) (ch : Fin 64) (d : List Nat) (s : State), HostOpen s (SHU_CTL.addr ch.val) ∧ (s.chan ch.val).desc = some d ∧ (s.chan ch.val).ended = false) ∧
    (∃ (dt : Nat) (ch : Fin 64) (s : State), HostOpen s (SHU_CTL.addr ch.val) ∧ (s.chan ch.val).desc = none) ∧
    (∃ (dt : Nat) (r : StreamRec) (rest : List StreamRec) (s : State), s.toStage = r :: rest ∧ s.domOn 128 = true) ∧
    (∃ (dt : Nat) (ch : Fin 64) (d : List Nat) (s : State), (s.chan ch.val).desc = some d ∧ s.domOn 128 = true ∧ s.get (SHU_LIM.FLUSH_US ch.val) ≠ 0 ∧ 0 < (s.chan ch.val).fill ∧ (s.chan ch.val).ended = false) :=
  ⟨⟨5, 1, 63, shuReady 63, by decide +kernel⟩,
   ⟨5, 1, 63, descWords, { (shuReady 63).putB (SHU_CTL.PAUSE 63) true with shu := [(63, { desc := some descWords })] }, by decide +kernel⟩,
   ⟨5, 63, descWords, { shuReady 63 with shu := [(63, { desc := some descWords })] }, by decide +kernel⟩,
   ⟨5, 63, up .run, by decide +kernel⟩,
   ⟨5, ⟨63, .point, 0, 0, [7]⟩, [], { up .run with toStage := [⟨63, .point, 0, 0, [7]⟩] }, by decide +kernel⟩,
   ⟨5, 63, descWords, { (shuReady 63).put (SHU_LIM.FLUSH_US 63) 1 with shu := [(63, { desc := some descWords, fill := 4 })] }, by decide +kernel⟩⟩

/-- A witness for the hypotheses of each clause of Obligations.DramErrors. -/
theorem witness_DramErrors :
    (∃ (dt bad : Nat) (ch : Fin 8) (s : State), s.get MEM_CFG.INIT_OK = 1 ∧ s.dramChans.contains ch.val = true ∧ s.domOn (112 + ch.val) = true ∧ s.domOn 131 = true ∧ tabGet (fun _ => 0) s.mem.scrub ch.val < s.memStripes * 64) ∧
    (∃ (dt stripe : Nat) (ch : Fin 8) (s : State), s.stripeWeak ch.val stripe = true ∧ 0 < s.get (MEM_SPARE.FREE ch.val) ∧ s.dramChans.contains ch.val = true ∧ s.domOn 131 = true) :=
  ⟨⟨5, 2, 0, withDram (up .run), by decide +kernel⟩,
   ⟨5, 9, 0, (withDram (up .run)).put (MEM_SPARE.FREE 0) 768 |>.put MEM_SCRUB.SPARE_THR 0, by decide +kernel⟩⟩

/-- A witness for the hypotheses of each clause of Obligations.LaneTraining. -/
theorem witness_LaneTraining :
    (∃ (dt : Nat) (lane : Fin 16) (s : State), s.laneState lane.val = 1) ∧
    (∃ (dt : Nat) (lane : Fin 16) (found : Bool) (s : State), (s.laneState lane.val ≠ 1 ∨ found = false)) ∧
    (∃ (dt bad : Nat) (lane : Fin 16) (inverted : Bool) (s : State), s.laneState lane.val = 2 ∧ (s.lane lane.val).pdone = false) ∧
    (∃ (dt bad : Nat) (lane : Fin 16) (inverted : Bool) (s : State), s.laneState lane.val = 2 ∧ (s.lane lane.val).pdone = true) ∧
    (∃ (dt bad : Nat) (lane : Fin 16) (inverted : Bool) (s : State), s.laneTrains lane.val = false ∧ s.laneState lane.val ≠ 6) ∧
    (∃ (dt : Nat) (lane : Fin 16) (fom : Fin 256) (s : State), s.laneState lane.val = 3 ∧ (s.lane lane.val).preset < 10) ∧
    (∃ (dt f p : Nat) (lane : Fin 16) (fom : Fin 256) (s : State), s.laneState lane.val = 3 ∧ (s.lane lane.val).preset = 10 ∧ (s.lane lane.val).best = some (f, p) ∧ (s.lane lane.val).pdone = false) ∧
    (∃ (dt : Nat) (lane plane step : Fin 16) (r : TrainRest) (s : State), s.laneState lane.val = 3 ∧ (s.lane lane.val).done = true ∧ step.val = 3) ∧
    (∃ (dt : Nat) (lane plane step : Fin 16) (done : Bool) (r : TrainRest) (s : State), s.laneTrains lane.val = true ∧ s.laneState lane.val ≠ 4 ∧ (done = false ∨ step.val ≠ s.laneState lane.val) ∧ (s.lane lane.val).pdone = false) ∧
    (∃ (dt p : Nat) (lane plane step : Fin 16) (r : TrainRest) (s : State), s.laneState lane.val = 4 ∧ step.val = 4 ∧ s.portOf lane.val = some p ∧ (∀ n ∈ s.portLanes p, n < 16) ∧ s.bondedLanes p = [] ∧ (s.lane lane.val).held = false) ∧
    (∃ (dt p : Nat) (lane plane step : Fin 16) (r : TrainRest) (s : State), s.laneState lane.val = 4 ∧ step.val = 4 ∧ s.portOf lane.val = some p ∧ s.bondedLanes p ≠ [] ∧ r.uid.toNat ≠ s.get (LNK_PORT_UNIT.UNIT p)) ∧
    (∃ (dt : Nat) (lane plane step : Fin 16) (r : TrainRest) (s : State), s.laneState lane.val = 5 ∧ step.val = 5 ∧ (s.lane lane.val).done = true ∧ (s.lane lane.val).held = false) :=
  ⟨⟨5, 15, laneAt 15 1 { kept := true, lock := true }, by decide +kernel⟩,
   ⟨5, 15, false, laneAt 15 1 {}, by decide +kernel⟩,
   ⟨5, 70000, 15, true, laneAt 15 2 {}, by decide +kernel⟩,
   ⟨5, 3, 8, true, laneAt 8 2 { pdone := true, kept := true, preset := 4 }, by decide +kernel⟩,
   ⟨5, 3, 8, true, laneAt 8 1 {}, by decide +kernel⟩,
   ⟨5, 8, 255, laneAt 8 3 { best := some (255, 0), preset := 9 }, by decide +kernel⟩,
   ⟨5, 64, 2, 8, 64, laneAt 8 3 { best := some (64, 2), preset := 10 }, by decide +kernel⟩,
   ⟨5, 8, 15, 3, ⟨9, 80, 7⟩, laneAt 8 3 { done := true, best := some (99, 2), preset := 11 }, by decide +kernel⟩,
   ⟨5, 8, 15, 4, true, ⟨9, 80, 7⟩, laneAt 8 3 { done := true, best := some (99, 2), preset := 11 }, by decide +kernel⟩,
   ⟨5, 0, 11, 15, 4, ⟨15, 255, 0xFFFFFFFF⟩, laneAt 11 4 {}, by decide +kernel⟩,
   ⟨5, 0, 11, 15, 4, ⟨0, 0, 9⟩, ((laneAt 11 4 {}).put (LNK_LANE_STAT.STATE 8) 5).put (LNK_PORT_UNIT.UNIT 0) 7, by decide +kernel⟩,
   ⟨5, 11, 15, 5, ⟨3, 70, 9⟩, (laneAt 11 5 { done := true, lock := true }).put (LNK_LANE_STAT.FAILS 11) 7, by decide +kernel⟩⟩

/-- A witness for the hypotheses of each clause of Obligations.LaneRecovery. -/
theorem witness_LaneRecovery :
    (∃ (dt : Nat) (lane : Fin 16) (s : State), s.laneTrains lane.val = true) ∧
    (∃ (dt : Nat) (lane : Fin 16) (s : State), s.laneTrains lane.val = false) ∧
    (∃ (dt : Nat) (lane : Fin 16) (s : State), s.laneTrains lane.val = true) ∧
    (∃ (dt : Nat) (lane : Fin 16) (s : State), s.laneState lane.val = 9) ∧
    (∃ (dt bad : Nat) (lane : Fin 16) (inverted : Bool) (s : State), s.laneState lane.val = 6 ∧ (s.lane lane.val).lock = true) ∧
    (∃ (dt : Nat) (lane plane step : Fin 16) (done : Bool) (r : TrainRest) (s : State), s.laneState lane.val = 6) ∧
    (∃ (dt : Nat) (lane : Fin 16) (s : State), s.laneState lane.val ≠ 6) ∧
    (∃ (dt : Nat) (lane : Fin 16) (s : State), HostOpen s (LNK_LANE_CTL.addr lane.val) ∧ s.laneState lane.val = 6) ∧
    (∃ (dt : Nat) (lane : Fin 16) (s : State), HostOpen s (LNK_LANE_CTL.addr lane.val) ∧ s.laneState lane.val ≠ 6) ∧
    (∃ (dt : Nat) (quad : Fin 4) (s : State), s.domOn 133 = true ∧ quadModeIn s.img.cfg.link quad.val = 2 ∧ s.quadRefOk quad.val = true ∧ bit s.lnk.refHeld quad.val = false) ∧
    (∃ (dt n : Nat) (quad : Fin 4) (s : State), s.domOn 133 = true ∧ quadModeIn s.img.cfg.link quad.val = 2 ∧ s.flag CLK_STAT.PLLT_LOCK = true ∧ n < 16 ∧ n / 4 = quad.val ∧ s.domOn (96 + n) = true ∧ s.awaitsGroup (96 + n) = false ∧ s.awaitsGroup 133 = false ∧ s.laneState n = 0 ∧ s.flag (LNK_LANE_CTL.DISABLE n) = false) ∧
    (∃ (dt : Nat) (quad : Fin 4) (ok : Bool) (s : State), s.domOn 133 = false) :=
  ⟨⟨5, 15, laneAt 15 5 { held := true, kept := true }, by decide +kernel⟩,
   ⟨5, 15, laneAt 15 6 {}, by decide +kernel⟩,
   ⟨5, 15, (laneAt 15 2 { lock := true }).put (LNK_LANE_STAT.FAILS 15) 7, by decide +kernel⟩,
   ⟨5, 15, (laneAt 15 9 {}).putB (LNK_LANE_CTL.RETRAIN 15) true, by decide +kernel⟩,
   ⟨5, 16, 8, false, laneAt 8 6 { lock := true }, by decide +kernel⟩,
   ⟨5, 8, 3, 2, false, ⟨1, 2, 9⟩, laneAt 8 6 { lock := true }, by decide +kernel⟩,
   ⟨5, 8, laneAt 8 2 { lock := true }, by decide +kernel⟩,
   ⟨5, 15, (laneAt 15 6 {}).put (LNK_LANE_STAT.FAILS 15) 3, by decide +kernel⟩,
   ⟨5, 15, (laneAt 15 9 {}).put (LNK_LANE_STAT.FAILS 15) 3, by decide +kernel⟩,
   ⟨5, 3, (laneAt 15 6 {}).putB CLK_STAT.PLLT_LOCK true, by decide +kernel⟩,
   ⟨5, 15, 3, { (up .run).putB CLK_STAT.PLLT_LOCK true with lnk := { sref := 7 } }, by decide +kernel⟩,
   ⟨5, 3, true, { State.reset with lnk := { sref := 7 } }, by decide +kernel⟩⟩

/-- A witness for the hypotheses of each clause of Obligations.Ports. -/
theorem witness_Ports :
    (∃ (dt : Nat) (port : Fin 16) (s : State), s.domOn 133 = true ∧ s.portUp port.val = false ∧ s.activeLanes port.val ≠ []) ∧
    (∃ (dt : Nat) (port : Fin 16) (s : State), (s.domOn 133 = false ∨ s.portUp port.val = true ∨ s.activeLanes port.val = [])) ∧
    (∃ (dt : Nat) (port : Fin 16) (s : State), s.domOn 133 = true ∧ s.portUp port.val = true ∧ (s.portLanes port.val).any s.laneHolds = false) ∧
    (∃ (dt : Nat) (port : Fin 16) (s : State), (s.portUp port.val = false ∨ (s.portLanes port.val).any s.laneHolds = true)) ∧
    (∃ (dt : Nat) (port member : Fin 16) (active : Fin 65536) (cell : Bool) (s : State), s.portRuns port.val = true ∧ (s.port port.val).rxMask = 0 ∧ portCellIn s.img.cfg.link port.val = true ∧ (cell = false ∨ member.val ≠ portPeer s.img.cfg.link port.val)) ∧
    (∃ (dt : Nat) (port member : Fin 16) (active : Fin 65536) (cell : Bool) (s : State), s.portRuns port.val = true ∧ ((s.port port.val).rxMask ≠ 0 ∨ portCellIn s.img.cfg.link port.val = false ∨ (cell = true ∧ member.val = portPeer s.img.cfg.link port.val))) ∧
    (∃ (dt n : Nat) (port member : Fin 16) (active late : Fin 65536) (cell : Bool) (s : State), s.portRuns port.val = true ∧ n ∈ s.portLanes port.val ∧ n < 16 ∧ bit late.val n = true ∧ s.laneState n = 6) ∧
    (∃ (dt : Nat) (port : Fin 16) (s : State), s.portRuns port.val = true) ∧
    (∃ (dt : Nat) (port : Fin 16) (s : State), s.portRuns port.val = true) ∧
    (∃ (dt : Nat) (port member : Fin 16) (active late : Fin 65536) (cell align : Bool) (s : State), s.portRuns port.val = false) :=
  ⟨⟨5, 0, (laneAt 9 6 {}).setPort 0 { seqTx := 7, replay := [⟨6, [1], 1⟩] }, by decide +kernel⟩,
   ⟨5, 0, laneAt 9 5 {}, by decide +kernel⟩,
   ⟨5, 0, (portOn { seqTx := 7, replay := [⟨6, [1], 1⟩], raised := 2 }).put (LNK_LANE_STAT.STATE 8) 2, by decide +kernel⟩,
   ⟨5, 0, portOn {}, by decide +kernel⟩,
   ⟨5, 0, 3, 1, true, { portOn { seqTx := 7 } with img := { cfg := { link := [0x06060101, 0xC4820000] } } }, by decide +kernel⟩,
   ⟨5, 0, 4, 1, true, { portOn { seqTx := 7 } with img := { cfg := { link := [0x06060101, 0xC4820000] } } }, by decide +kernel⟩,
   ⟨5, 8, 0, 4, 1, 0x8100, true, (portOn { seqTx := 7 }).put (LNK_LANE_STAT.STATE 9) 6, by decide +kernel⟩,
   ⟨5, 0, (portOn { seqTx := 7 }).put (LNK_LANE_STAT.STATE 9) 6, by decide +kernel⟩,
   ⟨5, 0, portOn {}, by decide +kernel⟩,
   ⟨5, 1, 3, 1, 5, true, true, portOn {}, by decide +kernel⟩⟩

/-- A witness for the hypotheses of each clause of Obligations.Flits. -/
theorem witness_Flits :
    (∃ (dt header trailer : Nat) (data : List Nat) (port : Fin 16) (memOk : Bool) (s : State), s.portRuns port.val = true ∧ (s.port port.val).accepts header data trailer = false) ∧
    (∃ (dt header trailer : Nat) (data : List Nat) (port : Fin 16) (memOk : Bool) (s : State), s.portRuns port.val = true ∧ (s.port port.val).accepts header data trailer = true ∧ tabGet (fun _ => 0) (s.port port.val).granted (flitClass header) < flitLen header ∧ (∀ n ∈ s.portLanes port.val, n < 16)) ∧
    (∃ (dt header trailer : Nat) (data : List Nat) (port : Fin 16) (memOk : Bool) (s : State), s.portRuns port.val = true ∧ (s.port port.val).accepts header data trailer = true ∧ (let cls := flitClass header;
      (let room := tabGet (fun _ => 0) (s.port port.val).granted cls;
      flitLen header ≤ room ∧ (cls = 1 ∨ cls = 3 ∨ (cls = 0 ∧ portCellIn s.img.cfg.link port.val = false))))) ∧
    (∃ (dt header trailer : Nat) (data : List Nat) (port : Fin 16) (memOk : Bool) (s : State), s.portRuns port.val = true ∧ (s.port port.val).accepts header data trailer = true ∧ flitClass header = 2 ∧ s.img.load = none ∧ flitLen header ≤ tabGet (fun _ => 0) (s.port port.val).granted 2) ∧
    (∃ (dt header trailer : Nat) (data : List Nat) (port : Fin 16) (memOk : Bool) (s : State), s.portRuns port.val = true ∧ (s.port port.val).accepts header data trailer = true ∧ flitClass header = 0 ∧ portCellIn s.img.cfg.link port.val = true ∧ flitLen header ≤ tabGet (fun _ => 0) (s.port port.val).granted 0 ∧ s.flag (LNK_PORT_STAT.PEER_ERR port.val) = false ∧ msgSrc (pickWords data) ≠ s.ownMember ∧ s.seqNewer (msgSrc (pickWords data)) (msgSeq (pickWords data)) = false) ∧
    (∃ (dt header trailer : Nat) (data : List Nat) (port : Fin 16) (memOk : Bool) (s : State), s.portRuns port.val = true ∧ (s.port port.val).accepts header data trailer = true ∧ flitClass header = 0 ∧ portCellIn s.img.cfg.link port.val = true ∧ flitLen header ≤ tabGet (fun _ => 0) (s.port port.val).granted 0 ∧ s.flag (LNK_PORT_STAT.PEER_ERR port.val) = false ∧ flitHops header < 15 ∧ msgSrc (pickWords data) ≠ s.ownMember ∧ s.seqNewer (msgSrc (pickWords data)) (msgSeq (pickWords data)) = true) ∧
    (∃ (dt : Nat) (port : Fin 16) (cls : Fin 4) (init ackV : Bool) (count : Fin 65536) (ackSeq : Fin 4096) (s : State), s.portRuns port.val = true) ∧
    (∃ (dt : Nat) (port : Fin 16) (ackV : Bool) (ackSeq : Fin 4096) (s : State), s.portRuns port.val = true ∧ (let l := replayAfter (s.port port.val).replay ackSeq.val;
      l.all (fun f => decide (f.sends < 8)) = true)) ∧
    (∃ (dt : Nat) (port : Fin 16) (ackV : Bool) (ackSeq : Fin 4096) (s : State), s.portRuns port.val = true ∧ (replayAfter (s.port port.val).replay ackSeq.val).any (fun f => decide (8 ≤ f.sends)) = true ∧ (∀ n ∈ s.portLanes port.val, n < 16)) ∧
    (∃ (dt : Nat) (port : Fin 16) (cls : Fin 4) (s : State), s.portRuns port.val = true) ∧
    (∃ (dt : Nat) (port : Fin 16) (chan : Fin 64) (f : TxFlit) (s : State), s.portRuns port.val = true ∧ 0 < (s.port port.val).resend ∧ (s.port port.val).replay[(s.port port.val).replay.length - (s.port port.val).resend]? = some f) ∧
    (∃ (dt hops : Nat) (ws : List Nat) (rest : List (List Nat × Nat)) (port : Fin 16) (chan : Fin 64) (s : State), s.portRuns port.val = true ∧ (s.port port.val).resend = 0 ∧ (s.port port.val).q0 = (ws, hops) :: rest ∧ s.flag (LNK_PORT_STAT.PEER_ERR port.val) = false ∧ 8 ≤ s.get (LNK_PORT_BOB0.C0 port.val) ∧ s.readyStreams port.val 3 = [] ∧ (s.port port.val).room 8 = true) ∧
    (∃ (dt : Nat) (port : Fin 16) (chan : Fin 64) (s : State), s.portRuns port.val = true ∧ (s.port port.val).resend = 0 ∧ (s.port port.val).q0 = [] ∧ s.readyStreams port.val 1 = [] ∧ s.readyStreams port.val 3 = []) ∧
    (∃ (dt header trailer : Nat) (data : List Nat) (port : Fin 16) (cls : Fin 4) (chan : Fin 64) (init ackV nak memOk : Bool)
    (count : Fin 65536) (ackSeq : Fin 4096) (s : State), s.portRuns port.val = false) :=
  ⟨⟨5, 0x66, 0x33, [7], 0, true, portOn freshPort, by decide +kernel⟩,
   ⟨5, flitPicks 3 0 5 0 false [7] |>.headD 0, (flitPicks 3 0 5 0 false [7]).getLastD 0, [7], 0, true, portOn {}, by decide +kernel⟩,
   ⟨5, flitPicks 3 4095 5 0 false [7] |>.headD 0, (flitPicks 3 4095 5 0 false [7]).getLastD 0, [7], 0, true, portOn { freshPort with seqRx := 4095, granted := [(3, 1)] }, by decide +kernel⟩,
   ⟨5, flitPicks 2 0 63 0 false [7] |>.headD 0, (flitPicks 2 0 63 0 false [7]).getLastD 0, [7], 0, true, portOn freshPort, by decide +kernel⟩,
   ⟨5, (msgPicks 0 0).headD 0, (msgPicks 0 0).getLastD 0, ((msgPicks 0 0).drop 1).take 8, 0, true, let s := cellPort (portOn freshPort); { s with lnk := { s.lnk with lastSeq := [(2, some 9)] } }, by decide +kernel⟩,
   ⟨5, (msgPicks 0 14).headD 0, (msgPicks 0 14).getLastD 0, ((msgPicks 0 14).drop 1).take 8, 0, true, { cellPort ((portOn freshPort).putB (LNK_PORT_STAT.UP 1) true) with dev := .safeStop }, by decide +kernel⟩,
   ⟨5, 0, 3, false, true, 65535, 6, (portOn { replay := [⟨5, [1], 1⟩, ⟨6, [2], 1⟩], resend := 2 }).put (LNK_PORT_BOB1.C3 0) 65535, by decide +kernel⟩,
   ⟨5, 0, true, 5, portOn { replay := [⟨5, [1], 1⟩, ⟨6, [2], 7⟩] }, by decide +kernel⟩,
   ⟨5, 0, true, 5, portOn { replay := [⟨5, [1], 1⟩, ⟨6, [2], 8⟩] }, by decide +kernel⟩,
   ⟨5, 0, 3, portOn { freed := [(3, 7)], ackDue := true }, by decide +kernel⟩,
   ⟨5, 0, 63, ⟨6, [2], 1⟩, portOn { replay := [⟨5, [1], 1⟩, ⟨6, [2], 1⟩], resend := 1 }, by decide +kernel⟩,
   ⟨5, 3, msgOf 2 9 0 0, [], 0, 63, (portOn { q0 := [(msgOf 2 9 0 0, 3)], seqTx := 4095 }).put (LNK_PORT_BOB0.C0 0) 8, by decide +kernel⟩,
   ⟨5, 0, 63, portOn {}, by decide +kernel⟩,
   ⟨5, 0x66, 0x33, [7], 1, 3, 63, true, true, true, false, 5, 5, portOn {}, by decide +kernel⟩⟩

/-- A witness for the hypotheses of each clause of Obligations.DozeAndDeep. -/
theorem witness_DozeAndDeep :
    (∃ (dt : Nat) (port : Fin 16) (s : State), s.portRuns port.val = true ∧ portDozeEn s.img.cfg.link port.val = true ∧ s.portIdle port.val = true) ∧
    (∃ (dt : Nat) (port : Fin 16) (s : State), (s.portRuns port.val = false ∨ portDozeEn s.img.cfg.link port.val = false ∨ s.portIdle port.val = false)) ∧
    (∃ (dt : Nat) (port : Fin 16) (ack : Bool) (s : State), s.portRuns port.val = true ∧ portDozeEn s.img.cfg.link port.val = true ∧ (ack = true → (s.port port.val).dozeSent = true) ∧ (ack = false → s.portIdle port.val = true) ∧ (∀ n ∈ s.portLanes port.val, n < 16)) ∧
    (∃ (dt : Nat) (port : Fin 16) (ack : Bool) (s : State), (s.portRuns port.val = false ∨ portDozeEn s.img.cfg.link port.val = false ∨ (ack = true ∧ (s.port port.val).dozeSent = false) ∨ (ack = false ∧ s.portIdle port.val = false))) ∧
    (∃ (dt : Nat) (port : Fin 16) (s : State), s.get (LNK_PORT_STAT.PWR port.val) = 1 ∧ portDeepEn s.img.cfg.link port.val = true ∧ (∀ n ∈ s.portLanes port.val, n < 16)) ∧
    (∃ (dt : Nat) (port : Fin 16) (s : State), (s.get (LNK_PORT_STAT.PWR port.val) ≠ 1 ∨ portDeepEn s.img.cfg.link port.val = false)) ∧
    (∃ (dt : Nat) (port : Fin 16) (s : State), s.get (LNK_PORT_STAT.PWR port.val) = 1 ∧ (∀ n ∈ s.portLanes port.val, n < 16)) ∧
    (∃ (dt : Nat) (port : Fin 16) (s : State), s.get (LNK_PORT_STAT.PWR port.val) = 2 ∧ (∀ n ∈ s.portLanes port.val, n < 16)) ∧
    (∃ (dt : Nat) (port : Fin 16) (s : State), s.get (LNK_PORT_STAT.PWR port.val) = 0) ∧
    (∃ (dt p : Nat) (lane plane step : Fin 16) (done : Bool) (r : TrainRest) (s : State), s.laneState lane.val = 7 ∧ s.portOf lane.val = some p) ∧
    (∃ (dt p : Nat) (lane plane step : Fin 16) (done : Bool) (r : TrainRest) (s : State), s.laneState lane.val = 8 ∧ s.portOf lane.val = some p) :=
  ⟨⟨5, 0, dozePort {} 0 6, by decide +kernel⟩,
   ⟨5, 0, dozePort { ackDue := true } 0 6, by decide +kernel⟩,
   ⟨5, 0, false, dozePort { seqTx := 7 } 0 6, by decide +kernel⟩,
   ⟨5, 0, true, dozePort {} 0 6, by decide +kernel⟩,
   ⟨5, 0, dozePort { seqTx := 7 } 1 7, by decide +kernel⟩,
   ⟨5, 0, dozePort {} 0 6, by decide +kernel⟩,
   ⟨5, 0, dozePort { seqTx := 7, dozeSent := true } 1 7, by decide +kernel⟩,
   ⟨5, 0, dozePort { seqTx := 7, dozeSent := true } 2 8, by decide +kernel⟩,
   ⟨5, 0, dozePort { seqTx := 7 } 0 6, by decide +kernel⟩,
   ⟨5, 0, 8, 1, 7, false, ⟨1, 2, 9⟩, (dozePort { seqTx := 7, dozeSent := true } 1 7).setLane 9 { lock := true }, by decide +kernel⟩,
   ⟨5, 0, 8, 1, 7, false, ⟨1, 2, 9⟩, (dozePort { seqTx := 7, dozeSent := true } 2 8).setLane 8 { lock := true }, by decide +kernel⟩⟩

/-- A witness for the hypotheses of each clause of Obligations.WirePicks. -/
theorem witness_WirePicks :
    (∃ h payload : Nat, h < 2 ^ 58) ∧
    (∃ (p n payload : Nat) (ctl : Bool) (s : State), (s.txLanes p)[s.streamIndex p % (s.txLanes p).length]? = some n ∧ s.laneState n = 6) ∧
    (∃ (p n payload : Nat) (ctl : Bool) (s : State), (s.txLanes p)[s.streamIndex p % (s.txLanes p).length]? = some n ∧ s.laneState n ≠ 6) ∧
    (∃ (p : Nat) (pick : Nat → Nat) (lanes : List Nat) (s : State), s.txLanes p ≠ []) ∧
    (∃ (p n : Nat) (s : State), n ∈ s.columnLanes p) :=
  ⟨⟨2 ^ 57 + 3, 0x0123_4567_89AB_CDEF, by decide +kernel⟩,
   ⟨0, 9, 0x33, true, (({ portOn {} with wire := { index := [(0, 3)] } } : State).put (LNK_PORT_STAT.ACTIVE 0) 0x300).put (LNK_LANE_STAT.STATE 9) 6 |>.put (LNK_LANE_STAT.LLANE 9) 1, by decide +kernel⟩,
   ⟨0, 9, 0x33, true, (({ portOn {} with wire := { index := [(0, 3)] } } : State).put (LNK_PORT_STAT.ACTIVE 0) 0x300).put (LNK_LANE_STAT.STATE 9) 2 |>.put (LNK_LANE_STAT.LLANE 9) 1, by decide +kernel⟩,
   ⟨0, fun _ => 0x1E, [8], { portOn {} with wire := { index := [(0, 3)] } }, by decide +kernel⟩,
   ⟨0, 8, portOn {}, by decide +kernel⟩⟩

end Sys2Proof.Tests
end

section
/-! PROOFS. Host accesses of BAR0: which of its cases a write and a read fall into (R81, R378, R379), what they do to the fields of
each access type (R8, R10, R528), and the registers of the examples of O24. -/

namespace Sys2Proof.Machine

/-! ### What raising an event leaves of the outputs -/

theorem State.msixSend_out_prefix (s : State) (v : Nat) : s.out <+: (s.msixSend v).out := by
  rw [State.msixSend]
  split <;> exact List.prefix_append _ _

theorem State.vecTrigger_out_prefix (s : State) (v : Nat) : s.out <+: (s.vecTrigger v).out := by
  rw [State.vecTrigger]
  split
  · exact List.prefix_rfl
  · split
    · exact List.prefix_rfl
    · split
      · split <;> exact List.prefix_rfl
      · exact s.msixSend_out_prefix v

theorem State.logLose_out (s : State) (src ep t : Nat) : (s.logLose src ep t).out = s.out := by
  rw [State.logLose]
  split
  · rfl
  · split
    · rfl
    · split <;> rfl

theorem State.logYield_out {s t : State} {src : Nat} (h : s.logYield src = some t) : t.out = s.out := by
  rw [State.logYield] at h
  split at h
  · split at h
    · exact Option.some.inj h ▸ State.logLose_out _ _ _ _
    · nomatch h
  · nomatch h

theorem State.logOffer_out (s : State) (src cause detail : Nat) : (s.logOffer src cause detail).out = s.out := by
  rw [State.logOffer]
  split
  · rfl
  · split
    · next h =>
      have e := State.logYield_out h
      exact e
    · exact State.logLose_out _ _ _ _

theorem State.takeFirst_out (s : State) (src cause : Nat) : (s.takeFirst src cause).out = s.out := by
  rw [State.takeFirst]
  split
  · rfl
  · split <;> rfl

theorem State.raiseAlways_out_prefix (s : State) (src cause detail : Nat) : s.out <+: (s.raiseAlways src cause detail).out := by
  have hl : ∀ u : State, (((u.takeFirst src cause).noteRaise src cause).logOffer src cause detail).out = u.out := fun u =>
    (State.logOffer_out _ _ _ _).trans (State.takeFirst_out u src cause)
  have hu : ∀ u : State, u.out = s.out → s.out <+: (u.vecTrigger (u.get (EVT_SRC.VEC src))).out := fun u h =>
    h ▸ u.vecTrigger_out_prefix _
  simp only [State.raiseAlways]
  split
  · rw [hl]; exact List.prefix_rfl
  · split <;> exact hu _ (hl _)

theorem State.coalesce_out_prefix (s : State) : s.out <+: s.coalesce.out := by
  rw [State.coalesce]
  split
  · exact s.coalFlush.raiseAlways_out_prefix 515 0 0
  · exact List.prefix_rfl

theorem State.raise_out_prefix (s : State) (src cause detail : Nat) : s.out <+: (s.raise src cause detail).out := by
  rw [State.raise]
  split
  · exact s.coalesce_out_prefix.trans (s.coalesce.raiseAlways_out_prefix src cause detail)
  · exact List.prefix_rfl

/-! ### An access that ACC_ERR counts -/

theorem fieldsApart_of_whole {f g : Fld} (hf : f.hi < 32) (h : FieldsApart ⟨f.addr, 31, 0⟩ g) : FieldsApart f g := by
  rcases h with h | h | h
  · exact Or.inl h
  · exact Or.inr (Or.inl (Nat.lt_of_lt_of_le hf h))
  · exact absurd h (Nat.not_lt_zero _)

/-- The write of a field of a register, in terms of the whole register. -/
theorem onlyFieldsEv_put_whole (s : State) (f : Fld) (v : Nat) (hf : f.hi < 32) :
    OnlyFieldsEv [⟨f.addr, 31, 0⟩] s (s.put f v) :=
  ⟨rfl, fun g hg _ h => ⟨State.get_put_apart s f g v hg (fieldsApart_of_whole hf (h _ (by simp))), rfl⟩⟩

theorem State.accError_only (s : State) (cause : Nat) : OnlyFieldsEv [⟨GLB_ACC_ERR.addr, 31, 0⟩] s (s.accError cause) := by
  have hc : OnlyFieldsEv [⟨GLB_ACC_ERR.addr, 31, 0⟩] s (s.bump GLB_ACC_ERR.COUNT) :=
    onlyFieldsEv_put_whole s GLB_ACC_ERR.COUNT _ (by decide)
  have hl := onlyFieldsEv_put_whole (s.bump GLB_ACC_ERR.COUNT) GLB_ACC_ERR.LAST_CAUSE cause (by decide)
  exact ((hc.trans hl).trans (raise_only _ 516 0 0 (by decide))).mono (by simp [GLB_ACC_ERR.LAST_CAUSE])

theorem State.accError_pend (s : State) (cause : Nat) (h : s.dev ≠ .off) : (s.accError cause).flag (evtPend 516) = true := by
  refine raise_pend _ 516 0 0 (by decide) ?_
  rw [show evtDomain 516 = 255 by decide]
  simpa [State.domOn] using h

theorem State.accError_out_prefix (s : State) (cause : Nat) : s.out <+: (s.accError cause).out :=
  State.raise_out_prefix ((s.bump GLB_ACC_ERR.COUNT).put GLB_ACC_ERR.LAST_CAUSE cause) 516 0 0

/-! ### What a host access asks of the state -/

@[simp] theorem State.touch_domOn (s : State) (a d : Nat) : (s.touch a).domOn d = s.domOn d := rfl

/-- In a new FCLK cycle nothing has raised. -/
theorem State.advance_raised {s : State} {dt : Nat} (h : s.sameCycle dt = false) : (s.advance dt).evt.raised = [] := by
  simp [State.advance, h]

/-- In a new FCLK cycle the registers are those with which it begins. -/
theorem State.advance_cyc_new {s : State} {dt : Nat} (h : s.sameCycle dt = false) : (s.advance dt).cyc = s.regs := by
  simp [State.advance, h]

theorem State.advance_cyc_same {s : State} {dt : Nat} (h : s.sameCycle dt = true) : (s.advance dt).cyc = s.cyc := by
  simp [State.advance, h]

/-! ### The cases of a write -/

section Write

variable {s : State} {addr : Nat} {data : Word} {be : Nat} {ext : Bool}

theorem State.hostWrite_closed (h : s.barOpen = false) : s.hostWrite addr data be ext = s := by
  simp [State.hostWrite, h]

theorem State.hostWrite_noReg (h : s.barOpen = true) (hr : regAt addr = none) :
    s.hostWrite addr data be ext = (s.touch addr).accError 1 := by
  simp [State.hostWrite, h, hr]

theorem State.hostWrite_domOff (h : s.barOpen = true) (hd : s.domOn (blockDomain addr) = false) (hr : regAt addr ≠ none) :
    s.hostWrite addr data be ext = (s.touch addr).bump PWR_OFF_ACC.COUNT := by
  simp [State.hostWrite, State.hostReg, h, hd, hr]

theorem State.hostWrite_partial (h : HostOpen s addr) (hr : regAt addr ≠ none) (hb : be ≠ 15) :
    s.hostWrite addr data be ext = (s.touch addr).accError 2 := by
  simp [State.hostWrite, State.hostReg, h.1, h.2, hr, hb]

theorem State.hostWrite_whole (h : HostOpen s addr) (hr : regAt addr ≠ none) :
    s.hostWrite addr data 15 ext = (s.touch addr).regWrite addr data ext := by
  simp [State.hostWrite, State.hostReg, h.1, h.2, hr]

/-- A register without RWS fields and without an effect of its own takes the write by the access types of its fields. -/
theorem State.regWrite_plain (ha : s.writeAon addr data = none) (hd : s.writeDom addr data ext = none)
    (hr : rwsFields addr = []) : s.regWrite addr data ext = s.writePlain addr data := by
  have hw : ∀ u : State, u.writeStaged addr data = u := fun u => by
    simp [State.writeStaged, State.lpeMayRun, State.stageWrites, fieldWrites, hr]
  simp only [State.regWrite, ha, hd, hw]

theorem State.regWrite_dom {t : State} (ha : s.writeAon addr data = none) (hd : s.writeDom addr data ext = some t) :
    s.regWrite addr data ext = t := by
  simp only [State.regWrite, ha, hd]

end Write

/-! ### The cases of a read -/

section Read

variable {s : State} {addr : Nat}

theorem State.hostRead_closed (h : s.barOpen = false) : s.hostRead addr = s := by
  simp [State.hostRead, h]

theorem State.hostRead_noReg (h : s.barOpen = true) (hr : regAt addr = none) :
    s.hostRead addr = ((s.touch addr).emit (.readData 0)).accError 1 := by
  simp [State.hostRead, h, hr]

theorem State.hostRead_domOff (h : s.barOpen = true) (hd : s.domOn (blockDomain addr) = false) (hr : regAt addr ≠ none) :
    s.hostRead addr = ((s.touch addr).emit (.readData 0)).bump PWR_OFF_ACC.COUNT := by
  obtain ⟨r, hr⟩ := Option.ne_none_iff_exists'.mp hr
  simp [State.hostRead, h, hd, hr]

/-- The read of a register that is no half of a pair (R529) and counts nothing of its own (R114): its word leaves, and its RC fields
are taken. -/
theorem State.hostRead_on {r : RegRow} (h : HostOpen s addr) (hr : regAt addr = some r) (hc : addr ≠ CLK_SYNC_CNT.addr)
    (hl : ∀ q ∈ s.hiLatch, q.1 ≠ addr) (hh : hiOf addr = none) :
    s.hostRead addr =
      ((s.touch addr).emit (.readData (s.regRead addr r))).each (fieldsOf addr .rc) State.rcTake := by
  have hn : s.hiLatch.find? (fun p => p.1 == addr) = none := List.find?_eq_none.mpr (fun q hq => by simpa using hl q hq)
  simp [State.hostRead, State.readReg, h.1, h.2, hr, hc, hn, hh]

end Read

/-! ### W1C fields of one bit (R10) -/

theorem testBit_andNotN (n a b i : Nat) :
    (andNotN n a b).testBit i = (a.testBit i && (decide (i < n) && !b.testBit i)) := by
  rw [andNotN, Nat.testBit_and, Nat.testBit_xor, Nat.testBit_two_pow_sub_one, Nat.testBit_mod_two_pow]
  by_cases h : i < n <;> simp [h]

theorem bit_eq_testBit (w i : Nat) : bit w i = w.testBit i := by
  rw [bit, Nat.testBit_eq_decide_div_mod_eq]; rfl

/-- A W1C field after a write of its register, as State.writePlain has it. -/
def State.clearW1c (s : State) (data : Word) (f : Fld) : State :=
  s.put f (andNotN (f.hi + 1 - f.lo) (s.get f) (andNotN (f.hi + 1 - f.lo) (wordBits data f.hi f.lo) (s.hwSet f)))

theorem State.writePlain_eq (s : State) (addr : Nat) (data : Word) :
    s.writePlain addr data = (s.each (fieldsOf addr .rw) (fun s f => s.put f (wordBits data f.hi f.lo))).each
      (fieldsOf addr .w1c) (fun s f => s.clearW1c data f) := rfl

theorem State.flag_eq_testBit (s : State) {f : Fld} (hw : f.hi = f.lo) : s.flag f = (s.get f).testBit 0 := by
  have h := State.get_lt s f
  rw [hw, show f.lo + 1 - f.lo = 1 by omega] at h
  rw [State.flag]
  generalize s.get f = n at h ⊢
  obtain rfl | rfl : n = 0 ∨ n = 1 := by omega
  · rfl
  · rfl

/-- A flag that is written as 1 clears, unless hardware sets it in the same cycle. -/
theorem State.flag_clearW1c (s : State) (data : Word) {f : Fld} (hw : f.hi = f.lo) (hf : f.lo < 32) :
    (s.clearW1c data f).flag f = (s.flag f && !(bit data.toNat f.lo && !(s.hwSet f).testBit 0)) := by
  rw [State.flag_eq_testBit _ hw, State.flag_eq_testBit s hw, State.clearW1c, State.get_put_self _ _ _ (by omega), hw,
    show f.lo + 1 - f.lo = 1 by omega, Nat.testBit_mod_two_pow, testBit_andNotN, testBit_andNotN, wordBits, testBit_bitsOf,
    bit_eq_testBit]
  simp

/-- Hardware has set no flag in the running cycle where the cycle began with the registers as they are and nothing has raised. -/
theorem State.hwSet_of_quiet {s : State} {f : Fld} (hc : getIn s.cyc f = s.get f) (hr : s.evt.raised = []) : s.hwSet f = 0 := by
  refine Nat.eq_of_testBit_eq (fun i => ?_)
  have hm : maskOf 32 (fun b => s.evt.raised.any (fun r => evtPend r.1 == ⟨f.addr, b, b⟩)) = 0 := by rw [hr]; rfl
  rw [State.hwSet, hm, hc, orN, Nat.testBit_or, testBit_andNotN, testBit_bitsOf]
  cases (s.get f).testBit i <;> simp

/-- A flag that the cycle's record holds at 0 counts as set by hardware where it is 1. -/
theorem State.testBit_hwSet_of_cyc {s : State} {f : Fld} (hw : f.hi = f.lo) (hc : getIn s.cyc f = 0) (h1 : s.flag f = true) :
    (s.hwSet f).testBit 0 = true := by
  rw [State.flag_eq_testBit s hw] at h1
  rw [State.hwSet, orN, Nat.testBit_or, testBit_andNotN, hc, hw, h1]
  simp

theorem State.clearW1c_only (s : State) (data : Word) (f : Fld) : OnlyFields [f] s (s.clearW1c data f) := OnlyFields.put s f _

theorem State.hwSet_clearW1c_apart (s : State) (data : Word) {f g : Fld} (hg : g.hi < 32) (h : FieldsApart f g) :
    (s.clearW1c data f).hwSet g = s.hwSet g := by
  rw [State.hwSet, State.hwSet, State.clearW1c, State.get_put_apart s f g _ hg h]; rfl

/-! ### Fields of a whole word, and RC fields -/

theorem wordBits_whole (w : Word) : wordBits w 31 0 = w.toNat := by
  simp only [wordBits, bitsOf]; omega

theorem State.word_put_whole (s : State) (addr : Nat) (data : Word) :
    (s.put ⟨addr, 31, 0⟩ data.toNat).word addr = data := by
  have h := State.get_put_self s ⟨addr, 31, 0⟩ data.toNat (by simp)
  rw [State.get, getIn, wordBits_whole] at h
  exact BitVec.eq_of_toNat_eq (h.trans (Nat.mod_eq_of_lt data.isLt))

theorem getIn_putIn_apart (t : Tab Word) (f g : Fld) (v : Nat) (hg : g.hi < 32) (h : FieldsApart f g) :
    getIn (putIn t f v) g = getIn t g := State.get_put_apart { regs := t } f g v hg h

theorem State.rcTake_only (s : State) (f : Fld) : OnlyFields [f] s (s.rcTake f) :=
  ⟨rfl, fun g hg h =>
    ⟨State.get_put_apart s f g _ hg (h f (by simp)), getIn_putIn_apart s.cyc f g 0 hg (h f (by simp))⟩⟩

/-- A field that has been read keeps what hardware has added to it in the running cycle. -/
theorem State.get_rcTake (s : State) (f : Fld) (hf : f.hi < 32) : (s.rcTake f).get f = s.get f - s.rcValue f := by
  have h := State.get_put_self s f (s.get f - s.rcValue f) hf
  rw [Nat.mod_eq_of_lt (Nat.lt_of_le_of_lt (Nat.sub_le _ _) (State.get_lt s f))] at h
  exact h

/-! ### The registers of the examples -/

/-- A register is found at an address that its row covers and no row before it does. -/
theorem regAt_of_covers {addr : Nat} {r : RegRow} (l1 l2 : List RegRow) (hb : blockRegs addr = l1 ++ r :: l2)
    (h1 : ∀ x ∈ l1, x.covers (blockOff addr) = false) (hr : r.covers (blockOff addr) = true) : regAt addr = some r := by
  rw [regAt, hb, List.find?_append, List.find?_eq_none.mpr (fun x hx => by simp [h1 x hx])]
  simp [hr]

theorem regAt_mbxRx {i : Nat} (h : i < 16) :
    regAt (GLB_MBX_RX.addr i) = some ⟨0x0240, 0x4, 16, [⟨31, 0, .rw, 0x0⟩]⟩ := by
  have hd : GLB_MBX_RX.addr i / 0x1_0000 = 0 := by simp only [GLB_MBX_RX.addr]; omega
  have hl : GLB_MBX_RX.addr i < 0x0100_0000 := by simp only [GLB_MBX_RX.addr]; omega
  have ho : blockOff (GLB_MBX_RX.addr i) = 0x240 + 4 * i := by rw [blockOff, if_pos hl, GLB_MBX_RX.addr]; omega
  refine regAt_of_covers (regsGLB.take 17) (regsGLB.drop 18) ?_ ?_ ?_
  · simp only [blockRegs, if_pos hl, hd]; rfl
  · rw [ho]; simp [regsGLB, RegRow.covers]; omega
  · rw [ho]; simp [RegRow.covers]; omega

theorem regAt_evtCnt {i : Nat} (h : i < 640) :
    regAt (EVT_CNT.addr i) = some ⟨0x1000, 0x4, 640, [⟨31, 16, .rsv, 0x0⟩, ⟨15, 0, .rc, 0x0⟩]⟩ := by
  have hd : EVT_CNT.addr i / 0x1_0000 = 2 := by simp only [EVT_CNT.addr]; omega
  have hl : EVT_CNT.addr i < 0x0100_0000 := by simp only [EVT_CNT.addr]; omega
  have ho : blockOff (EVT_CNT.addr i) = 0x1000 + 4 * i := by rw [blockOff, if_pos hl, EVT_CNT.addr]; omega
  refine regAt_of_covers (regsEVT.take 2) (regsEVT.drop 3) ?_ ?_ ?_
  · simp only [blockRegs, if_pos hl, hd]; rfl
  · rw [ho]; simp [regsEVT, RegRow.covers]; omega
  · rw [ho]; simp [RegRow.covers]; omega

theorem regAt_clpStat : regAt CLP_STAT.addr = some ⟨0x0008, 0x0, 1,
    [⟨31, 31, .ro, 0x0⟩, ⟨30, 30, .w1c, 0x0⟩, ⟨29, 29, .w1c, 0x0⟩, ⟨28, 16, .rsv, 0x0⟩, ⟨15, 0, .ro, 0x0⟩]⟩ := rfl

theorem regAt_supStat : regAt SUP_STAT.addr = some ⟨0x0004, 0x0, 1,
    [⟨31, 31, .roe, 0x0⟩, ⟨30, 30, .roe, 0x0⟩, ⟨29, 16, .rsv, 0x0⟩, ⟨15, 0, .roe, 0x0⟩]⟩ := rfl

/-- A word of GLB_MBX_RX has no effect of its own. -/
theorem State.writeAon_mbxRx (s : State) {i : Nat} (h : i < 16) (data : Word) : s.writeAon (GLB_MBX_RX.addr i) data = none := by
  rw [State.writeAon]
  repeat rw [if_neg (by simp only [GLB_MBX_RX.addr]; decide +revert)]

theorem State.writeDom_mbxRx (s : State) {i : Nat} (h : i < 16) (data : Word) (ext : Bool) :
    s.writeDom (GLB_MBX_RX.addr i) data ext = none := by
  rw [State.writeDom]
  repeat rw [if_neg (by simp only [GLB_MBX_RX.addr]; decide +revert)]
  rw [trdBankOf, if_pos (Or.inl (by simp only [GLB_MBX_RX.addr]; omega))]

theorem hiOf_mbxRx {i : Nat} (h : i < 16) : hiOf (GLB_MBX_RX.addr i) = none := by
  rw [hiOf]
  repeat rw [if_neg (by simp only [GLB_MBX_RX.addr]; decide +revert)]

/-! ### Field lists of the examples -/

theorem fieldsOf_of_regAt {addr : Nat} {r : RegRow} (h : regAt addr = some r) (acc : Access) :
    fieldsOf addr acc = (r.fields.filter (fun f => f.acc == acc)).map (fun f => f.at' addr) := by
  rw [fieldsOf, h]

theorem rwsFields_of_regAt {addr : Nat} {r : RegRow} (h : regAt addr = some r) :
    rwsFields addr = (r.fields.filter (fun f => f.acc == .rws)).map (fun f => f.at' addr) := by
  rw [rwsFields, h]

/-! ### What a field reads as, by its access type -/

theorem State.fieldRead_rsv (s : State) (addr hi lo v : Nat) : s.fieldRead addr ⟨hi, lo, .rsv, v⟩ = 0 := rfl

theorem State.fieldRead_rw (s : State) {addr : Nat} (hi lo v : Nat) (h : addr ≠ BEZ_PROG_DATA.addr) :
    s.fieldRead addr ⟨hi, lo, .rw, v⟩ = s.get ⟨addr, hi, lo⟩ := if_neg h

theorem State.fieldRead_rc (s : State) (addr hi lo v : Nat) : s.fieldRead addr ⟨hi, lo, .rc, v⟩ = s.rcValue ⟨addr, hi, lo⟩ := rfl

/-- A field of the published status that no unit derives is read in the view (R37, R38). -/
theorem State.fieldRead_roe {s : State} {addr : Nat} (hi lo v : Nat) (h : s.derived addr = none) :
    s.fieldRead addr ⟨hi, lo, .roe, v⟩ = getIn s.readView.regs ⟨addr, hi, lo⟩ := by
  simp only [State.fieldRead, h, FieldRow.at']

/-! ### The accesses of the examples -/

theorem State.regWrite_mbxRx (s : State) {i : Nat} (h : i < 16) (data : Word) (ext : Bool) :
    s.regWrite (GLB_MBX_RX.addr i) data ext = s.put (GLB_MBX_RX.WORD i) data.toNat := by
  have hr := regAt_mbxRx h
  rw [State.regWrite_plain (s.writeAon_mbxRx h data) (s.writeDom_mbxRx h data ext) (by rw [rwsFields_of_regAt hr]; rfl),
    State.writePlain_eq, fieldsOf_of_regAt hr, fieldsOf_of_regAt hr, ← wordBits_whole data]
  rfl

theorem State.regWrite_clpStat (s : State) (data : Word) (ext : Bool) :
    s.regWrite CLP_STAT.addr data ext = (s.clearW1c data CLP_STAT.NEST).clearW1c data CLP_STAT.TIMED_OUT := by
  rw [State.regWrite_plain rfl rfl (by rw [rwsFields_of_regAt regAt_clpStat]; rfl), State.writePlain_eq,
    fieldsOf_of_regAt regAt_clpStat, fieldsOf_of_regAt regAt_clpStat]
  rfl

theorem State.regWrite_supAccClr (s : State) (data : Word) (ext : Bool) :
    s.regWrite SUP_ACC_CLR.addr data ext = s.supAccClr data := State.regWrite_dom rfl rfl

theorem State.hostRead_mbxRx {s : State} {i : Nat} (hi : i < 16) (h : HostOpen s (GLB_MBX_RX.addr i))
    (hl : ∀ q ∈ s.hiLatch, q.1 ≠ GLB_MBX_RX.addr i) :
    s.hostRead (GLB_MBX_RX.addr i) =
      (s.touch (GLB_MBX_RX.addr i)).emit (.readData (s.word (GLB_MBX_RX.addr i)).toNat) := by
  have hr := regAt_mbxRx hi
  have hc : GLB_MBX_RX.addr i ≠ CLK_SYNC_CNT.addr := by simp only [GLB_MBX_RX.addr, CLK_SYNC_CNT.addr]; omega
  have hb : GLB_MBX_RX.addr i ≠ BEZ_PROG_DATA.addr := by simp only [GLB_MBX_RX.addr, BEZ_PROG_DATA.addr]; omega
  have hv : s.get (GLB_MBX_RX.WORD i) = (s.word (GLB_MBX_RX.addr i)).toNat := wordBits_whole _
  rw [State.hostRead_on h hr hc hl (hiOf_mbxRx hi), fieldsOf_of_regAt hr]
  have hd : s.regRead (GLB_MBX_RX.addr i) ⟨0x0240, 0x4, 16, [⟨31, 0, .rw, 0x0⟩]⟩ = (s.word (GLB_MBX_RX.addr i)).toNat := by
    rw [← hv, State.regRead, List.map_cons, List.map_nil, List.foldl_cons, List.foldl_nil, State.fieldRead_rw s 31 0 0 hb,
      GLB_MBX_RX.WORD]
    dsimp only
    omega
  rw [hd]
  rfl

theorem State.derived_supStat (s : State) : s.derived SUP_STAT.addr = none := rfl

/-- SUP_STAT reads as its three fields of the view. -/
theorem State.regRead_supStat (s : State) :
    s.regRead SUP_STAT.addr ⟨0x0004, 0x0, 1,
      [⟨31, 31, .roe, 0x0⟩, ⟨30, 30, .roe, 0x0⟩, ⟨29, 16, .rsv, 0x0⟩, ⟨15, 0, .roe, 0x0⟩]⟩ =
    getIn s.readView.regs SUP_STAT.RUN * 2 ^ 31 + getIn s.readView.regs SUP_STAT.REF_OK * 2 ^ 30 +
      getIn s.readView.regs SUP_STAT.TRIPPED := by
  have hd := s.derived_supStat
  rw [State.regRead, List.map_cons, List.map_cons, List.map_cons, List.map_cons, List.map_nil, List.foldl_cons, List.foldl_cons,
    List.foldl_cons, List.foldl_cons, List.foldl_nil, State.fieldRead_roe 31 31 0 hd, State.fieldRead_roe 30 30 0 hd,
    State.fieldRead_rsv, State.fieldRead_roe 15 0 0 hd, SUP_STAT.RUN, SUP_STAT.REF_OK, SUP_STAT.TRIPPED]
  dsimp only
  omega

theorem State.hostRead_supStat {s : State} (h : HostOpen s SUP_STAT.addr) (hl : ∀ q ∈ s.hiLatch, q.1 ≠ SUP_STAT.addr) :
    s.hostRead SUP_STAT.addr = (s.touch SUP_STAT.addr).emit (.readData
      (getIn s.readView.regs SUP_STAT.RUN * 2 ^ 31 + getIn s.readView.regs SUP_STAT.REF_OK * 2 ^ 30 +
        getIn s.readView.regs SUP_STAT.TRIPPED)) := by
  rw [State.hostRead_on h regAt_supStat (by decide) hl rfl, fieldsOf_of_regAt regAt_supStat, s.regRead_supStat]
  rfl

theorem hiOf_evtCnt {i : Nat} (h : i < 640) : hiOf (EVT_CNT.addr i) = none := by
  have h1 : EVT_CNT.addr i ≠ MEM_UE_ADDR_LO.addr := by simp only [EVT_CNT.addr, MEM_UE_ADDR_LO.addr]; omega
  have h2 : EVT_CNT.addr i < SHU_LAST_LO.addr 0 := by simp only [EVT_CNT.addr, SHU_LAST_LO.addr]; omega
  rw [hiOf, if_neg h1, if_neg (fun h => absurd h.1 (Nat.not_le.mpr h2))]

theorem State.hostRead_evtCnt {s : State} {i : Nat} (hi : i < 640) (h : HostOpen s (EVT_CNT.addr i))
    (hl : ∀ q ∈ s.hiLatch, q.1 ≠ EVT_CNT.addr i) :
    s.hostRead (EVT_CNT.addr i) =
      ((s.touch (EVT_CNT.addr i)).emit (.readData (s.rcValue (EVT_CNT.COUNT i)))).rcTake (EVT_CNT.COUNT i) := by
  have hr := regAt_evtCnt hi
  have hc : EVT_CNT.addr i ≠ CLK_SYNC_CNT.addr := by simp only [EVT_CNT.addr, CLK_SYNC_CNT.addr]; omega
  rw [State.hostRead_on h hr hc hl (hiOf_evtCnt hi), fieldsOf_of_regAt hr]
  have hd : s.regRead (EVT_CNT.addr i) ⟨0x1000, 0x4, 640, [⟨31, 16, .rsv, 0x0⟩, ⟨15, 0, .rc, 0x0⟩]⟩ =
      s.rcValue (EVT_CNT.COUNT i) := by
    rw [State.regRead, List.map_cons, List.map_cons, List.map_nil, List.foldl_cons, List.foldl_cons, List.foldl_nil,
      State.fieldRead_rsv, State.fieldRead_rc, EVT_CNT.COUNT]
    dsimp only
    omega
  rw [hd]
  rfl

/-- The read of an event counter gives and takes what it held when the cycle began (R381, R528). -/
theorem registerRead_evtCnt {s : State} {i : Nat} (dt : Nat) (hi : i < 640) (h : HostOpen s (EVT_CNT.addr i))
    (hl : ∀ q ∈ s.hiLatch, q.1 ≠ EVT_CNT.addr i) :
    ∃ t, exec (.registerRead dt (EVT_CNT.addr i)) s = .next t ∧
      t.out = [.readData ((s.advance dt).rcValue (EVT_CNT.COUNT i))] ∧
      t.get (EVT_CNT.COUNT i) = s.get (EVT_CNT.COUNT i) - (s.advance dt).rcValue (EVT_CNT.COUNT i) ∧
      OnlyFields [EVT_CNT.COUNT i] { (s.advance dt).touch (EVT_CNT.addr i) with out := t.out } t :=
  ⟨_, congrArg Host.Outcome.next (State.hostRead_evtCnt (s := s.advance dt) hi h hl), rfl,
    State.get_rcTake _ (EVT_CNT.COUNT i) (by simp [EVT_CNT.COUNT]), State.rcTake_only _ _⟩

/-- A write of CLP_STAT, by its two W1C flags. -/
theorem registerWrite_clpStat {s : State} (dt : Nat) (data : Word) (late ext : Bool) (h : HostOpen s CLP_STAT.addr) :
    ∃ t, exec (.registerWrite dt CLP_STAT.addr data 15 late ext) s = .next t ∧
      (∀ f ∈ [CLP_STAT.NEST, CLP_STAT.TIMED_OUT], t.flag f =
        (s.flag f && !(bit data.toNat f.lo && !(((s.advance dt).touch CLP_STAT.addr).hwSet f).testBit 0))) ∧
      OnlyFields [CLP_STAT.NEST, CLP_STAT.TIMED_OUT] ((s.advance dt).touch CLP_STAT.addr) t := by
  have hn : FieldsApart CLP_STAT.NEST CLP_STAT.TIMED_OUT := Or.inr (Or.inr (by decide))
  have ht : FieldsApart CLP_STAT.TIMED_OUT CLP_STAT.NEST := Or.inr (Or.inl (by decide))
  refine ⟨_, congrArg Host.Outcome.next ((State.hostWrite_whole (s := s.advance dt) h (by rw [regAt_clpStat]; simp)).trans
    (State.regWrite_clpStat _ data ext)), ?_, ?_⟩
  · simp only [List.forall_mem_cons, List.not_mem_nil, false_implies, implies_true, and_true]
    constructor
    · rw [State.clearW1c, State.flag_put_apart _ _ _ _ (by decide) ht, State.flag_clearW1c _ _ rfl (by decide)]
      rfl
    · rw [State.flag_clearW1c _ _ rfl (by decide), State.hwSet_clearW1c_apart _ _ (by decide) hn, State.clearW1c,
        State.flag_put_apart _ _ _ _ (by decide) hn]
      rfl
  · exact (State.clearW1c_only _ _ _).trans (State.clearW1c_only _ _ _)

/-- Settles O24: the cases of a host access, and one register for each access type. -/
theorem hostRegisters : Obligations.HostRegisters := by
  refine ⟨?closed, ?writeNoReg, ?writePartial, ?domOff, ?writeRw, ?writeW1c, ?writeW1cSame, ?readRw, ?readRoe, ?readRc,
    ?readRcSame, ?writeW1s, ?writeRws, ?readNoReg⟩
  case closed =>
    intro dt addr data be ext late s h
    exact ⟨congrArg Host.Outcome.next (State.hostWrite_closed h), congrArg Host.Outcome.next (State.hostRead_closed h)⟩
  case writeNoReg =>
    intro dt addr data be ext late s h hd hr
    exact ⟨_, congrArg Host.Outcome.next (State.hostWrite_noReg h hr), State.accError_only _ 1, State.accError_pend _ 1 hd⟩
  case writePartial =>
    intro dt addr data be ext late s h hd hr hb
    exact ⟨_, congrArg Host.Outcome.next (State.hostWrite_partial h hr hb), State.accError_only _ 2, State.accError_pend _ 2 hd⟩
  case domOff =>
    intro dt addr data be ext late s h hd hr
    exact ⟨congrArg Host.Outcome.next (State.hostWrite_domOff h hd hr), congrArg Host.Outcome.next (State.hostRead_domOff h hd hr)⟩
  case writeRw =>
    intro dt i data ext late s hi h
    exact ⟨_, congrArg Host.Outcome.next ((State.hostWrite_whole (s := s.advance dt) h (by simp [regAt_mbxRx hi])).trans
      (State.regWrite_mbxRx _ hi data ext)), State.word_put_whole _ _ data, OnlyFields.put _ _ _⟩
  case writeW1c =>
    intro dt data ext late s h hs
    obtain ⟨t, ht, hf, ho⟩ := registerWrite_clpStat dt data late ext h
    have hq : ∀ f, ((s.advance dt).touch CLP_STAT.addr).hwSet f = 0 := fun f =>
      State.hwSet_of_quiet (congrArg (getIn · f) (State.advance_cyc_new hs)) (State.advance_raised hs)
    have hb : ∀ f ∈ [CLP_STAT.NEST, CLP_STAT.TIMED_OUT], t.flag f = (s.flag f && !bit data.toNat f.lo) := fun f hm => by
      simpa [hq] using hf f hm
    exact ⟨t, ht, hb CLP_STAT.NEST (by simp), hb CLP_STAT.TIMED_OUT (by simp), ho⟩
  case writeW1cSame =>
    intro dt data ext late s h hs hc
    obtain ⟨t, ht, hf, -⟩ := registerWrite_clpStat dt data late ext h
    refine ⟨t, ht, (hf CLP_STAT.NEST (by simp)).trans ?_⟩
    cases hn : s.flag CLP_STAT.NEST with
    | false => rfl
    | true =>
      have hc' : getIn ((s.advance dt).touch CLP_STAT.addr).cyc CLP_STAT.NEST = 0 :=
        (congrArg (getIn · CLP_STAT.NEST) (State.advance_cyc_same hs)).trans hc
      simp [State.testBit_hwSet_of_cyc rfl hc' hn]
  case readRw =>
    intro dt i s hi h hl
    exact congrArg Host.Outcome.next (State.hostRead_mbxRx (s := s.advance dt) hi h hl)
  case readRoe =>
    intro dt s h hl
    refine (congrArg Host.Outcome.next (State.hostRead_supStat (s := s.advance dt) h hl)).trans ?_
    rw [State.readView, State.advance_held, State.advance_view]
    cases s.held <;> rfl
  case readRc =>
    intro dt i s hi h hl hs
    obtain ⟨t, ht, ho, hg, hf⟩ := registerRead_evtCnt dt hi h hl
    have hv : (s.advance dt).rcValue (EVT_CNT.COUNT i) = s.get (EVT_CNT.COUNT i) := by
      rw [State.rcValue, State.advance_cyc_new hs]; exact Nat.min_self _
    exact ⟨t, ht, hv ▸ ho, by rw [hg, hv, Nat.sub_self], hf⟩
  case readRcSame =>
    intro dt i s hi h hl hs
    have hv : (s.advance dt).rcValue (EVT_CNT.COUNT i) =
        min (s.get (EVT_CNT.COUNT i)) (getIn s.cyc (EVT_CNT.COUNT i)) := by
      rw [State.rcValue, State.advance_cyc_same hs]; rfl
    exact hv ▸ registerRead_evtCnt dt hi h hl
  case writeW1s =>
    intro dt data ext late s h
    exact congrArg Host.Outcome.next ((State.hostWrite_whole (s := s.advance dt) h (by decide)).trans
      (State.regWrite_supAccClr _ data ext))
  case writeRws =>
    intro dt addr data late s hr
    have he : (rwsFields addr).isEmpty = false := by simpa using hr
    have hw : exec (.rwsWrite dt addr data late) s = .next ((s.advance dt).hostWrite addr data 15 false) := by
      simp only [exec, execRwsWrite, he, Bool.false_eq_true, if_false]
    exact hw.symm
  case readNoReg =>
    intro dt addr s h hd hr
    obtain ⟨l, hl⟩ := State.accError_out_prefix (((s.advance dt).touch addr).emit (.readData 0)) 1
    refine ⟨_, congrArg Host.Outcome.next (State.hostRead_noReg h hr), ?_, State.accError_pend _ 1 hd, ?_⟩
    · rw [← hl]; rfl
    · exact (evOnly_emit _ _).trans (State.accError_only _ 1)

end Sys2Proof.Machine
end

section
/-! PROOFS. O19 fails in its clause on a staged swap. Where the records of domain 120 land at the same tick (R87), State.wakeLanded reads the
shot table again from the image in DRAM, after State.swapLand has put the swap's own table in force (R370). A swap that is prepared
while domain 120 is not On stages no table at all (State.swapPrepared), and DOM_READY of the domain before the tick then stages its
records beside the swap: the table of the image lands, and not the empty one that the clause asks for. The state below has the same
two things staged, with DRAM that holds no image. -/

namespace Sys2Proof.Machine

/-- A swap with a shot table of one entry, staged for the coming tick. -/
def swapWithTable : Swap := { staged := true, tab := [1, 2, 3, 4] }

/-- CONFIGURED, the tiles Off and every byte of DRAM 0: the swap is staged, and so are the records of domain 120, which has woken. -/
def swapBesideWake : State :=
  { ({} : State) with
    dev := .configured, pwr := { waking := 0, released := true }, dram := {}
    regs := [(PWR_DOM_ON.addr 0, 0), (PWR_DOM_ON.addr 1, 0), (PWR_DOM_ON.addr 2, 0)]
    img := { swap := some swapWithTable }
    stage := { groups := [⟨.domain 120, 0, false, []⟩] } }

theorem swapBesideWake_domOn : swapBesideWake.domOn 120 = true := by decide

theorem swapBesideWake_tickOff : (swapBesideWake.advance 5).tickOff = false := by decide

theorem frameTick_swapBesideWake_tab : ((swapBesideWake.advance 5).frameTick 0).hed.tab = [] := by decide +kernel

/-- Refutes O19: at the tick at which the swap of `swapBesideWake` lands, with domain 120 On, the shot table of the swap is not the one in
force after it. -/
theorem not_frameTick : ¬ Obligations.FrameTick := by
  rintro ⟨-, -, -, -, -, -, -, hswap⟩
  obtain ⟨t, ht, -, -, -, -, htab, -⟩ := hswap 5 0 swapWithTable swapBesideWake rfl swapBesideWake_tickOff rfl rfl rfl rfl rfl
  obtain rfl : (swapBesideWake.advance 5).frameTick 0 = t := Host.Outcome.next.inj ht
  have h := htab swapBesideWake_domOn
  rw [frameTick_swapBesideWake_tab] at h
  nomatch h

end Sys2Proof.Machine
end

section
/-! PROOFS. The reset balls and a brownout (R73 to R75, R557): what a cold reset leaves of registers and memory, and what a warm reset
keeps while waiting commands complete and every switchable domain passes through Off. -/

namespace Sys2Proof.Machine

/-! ### Tables and memories of which a part is dropped -/

theorem tabGet_filter {α : Type} (d : Nat → α) (t : Tab α) (keep : Nat → Bool) (k : Nat) :
    tabGet d (t.filter (fun p => keep p.1)) k = if keep k then tabGet d t k else d k := by
  have hf : (t.filter (fun p => keep p.1)).find? (fun p => p.1 == k) = if keep k then t.find? (fun p => p.1 == k) else none := by
    rw [List.find?_filter]
    split
    · next h => exact congrArg (List.find? · t) (funext (fun p => by by_cases e : p.1 = k <;> simp [e, h]))
    · next h => exact List.find?_eq_none.mpr (fun p _ => by by_cases e : p.1 = k <;> simp [e, h])
  rw [tabGet, hf]
  cases keep k <;> rfl

/-- A byte of a range whose contents are undefined is a free value. -/
theorem Mem.read_forget (m : Mem) {lo hi a : Nat} (g : Nat) (h : lo ≤ a ∧ a < hi) :
    (m.forget lo hi g).read a = Config.freeByte g a := by
  have hc : (m.forget lo hi g).cells.find? (fun c => c.1 == a) = none := List.find?_eq_none.mpr (fun c hc => by
    have hr : ¬ (lo ≤ c.1 ∧ c.1 < hi) := by
      have hm := (List.mem_filter.mp hc).2
      rw [Bool.not_eq_true', Bool.and_eq_false_iff, decide_eq_false_iff_not, decide_eq_false_iff_not] at hm
      omega
    intro e
    rw [show c.1 = a by simpa using e] at hr
    exact hr h)
  have hu : (m.forget lo hi g).undefAt a = some ⟨lo, hi, g⟩ := by simp [Mem.undefAt, Mem.forget, h]
  simp only [Mem.read, hc, Mem.blank, hu]

/-! ### A value that every step of a fold keeps -/

theorem State.each_kept {α β : Type} (g : State → β) {l : List α} {f : State → α → State}
    (hf : ∀ x, ∀ a ∈ l, g (f x a) = g x) (s : State) : g (s.each l f) = g s :=
  List.foldlRecOn (motive := fun x => g x = g s) l f rfl (fun x hx a ha => (hf x a ha).trans hx)

/-! ### Pulses, causes and the cold reset -/

/-- A pulse of 10 µs or longer is always taken (R73). -/
theorem State.takesPulse_long (s : State) {ns : Nat} (h : 10000 ≤ ns) : s.takesPulse ns = (true, s) := by
  rw [State.takesPulse, if_neg (by omega), if_pos h]

/-- Whether a pulse is taken is at most a free value. -/
theorem State.takesPulse_snd (s : State) (ns : Nat) : ∃ n, (s.takesPulse ns).2 = { s with freeCount := n } := by
  rw [State.takesPulse]
  split
  · exact ⟨s.freeCount, rfl⟩
  · split
    · exact ⟨s.freeCount, rfl⟩
    · exact ⟨_, rfl⟩

theorem State.word_setCause (s : State) (n : Nat) :
    (s.setCause n).word PWR_RST_CAUSE.addr = BitVec.ofNat 32 ((s.word PWR_RST_CAUSE.addr).toNat ||| n) :=
  State.word_setWord_self _ _ _

theorem State.word_setCause_other (s : State) (n : Nat) {a : Nat} (h : a ≠ PWR_RST_CAUSE.addr) :
    (s.setCause n).word a = s.word a := State.word_setWord_other _ _ _ _ h

/-- The registers after a cold reset: PWR_RST_CAUSE stays, and THM_SHUT_INFO after a thermal shutdown (R492). -/
theorem State.word_cold (s : State) (a : Nat) :
    s.cold.word a = if a = PWR_RST_CAUSE.addr ∨ (a = THM_SHUT_INFO.addr ∧ s.thm.shut = true) then s.word a else resetWord a :=
  (tabGet_filter resetWord s.regs (fun k => k == PWR_RST_CAUSE.addr || (k == THM_SHUT_INFO.addr && s.thm.shut)) a).trans
    (by simp [State.word, wordIn])

theorem State.word_cold_cause (s : State) : s.cold.word PWR_RST_CAUSE.addr = s.word PWR_RST_CAUSE.addr :=
  (s.word_cold _).trans (if_pos (Or.inl rfl))

theorem State.cold_dram_read (s : State) {a : Nat} (h : a < 2 ^ 40) : s.cold.dram.read a = Config.freeByte s.freeCount a :=
  Mem.read_forget s.dram s.freeCount ⟨Nat.zero_le a, h⟩

theorem State.cold_spd_read (s : State) (a : Nat) : s.cold.spd.read a = 0 := rfl

/-! ### What a warm reset keeps -/

/-- The device state, the level of RESET_N and PWR_RST_CAUSE: a warm reset sets them first, and what follows (waiting commands
complete, domains pass through Off) keeps them. -/
def State.resetPart (s : State) : Dev × Bool × Word := (s.dev, s.pwr.resetHigh, s.word PWR_RST_CAUSE.addr)

theorem State.resetPart_ite {p : Prop} [Decidable p] {t u : State} {r : Dev × Bool × Word} (ht : t.resetPart = r)
    (hu : u.resetPart = r) : (if p then t else u).resetPart = r := by
  split <;> assumption

theorem State.put_resetPart (s : State) (f : Fld) (v : Nat) (h : f.addr ≠ PWR_RST_CAUSE.addr) :
    (s.put f v).resetPart = s.resetPart := by
  rw [State.resetPart, State.word_put_other s f v _ h.symm]; rfl

theorem State.resetPart_of_ev {s t : State} (h : OnlyFieldsEv [] s t) : t.resetPart = s.resetPart := by
  obtain ⟨ht, hf⟩ := h
  obtain ⟨hw, -⟩ := hf ⟨PWR_RST_CAUSE.addr, 31, 0⟩ (by decide) (by decide) (by simp)
  have hw' : t.word PWR_RST_CAUSE.addr = s.word PWR_RST_CAUSE.addr := BitVec.eq_of_toNat_eq (by
    simpa only [State.get, getIn, wordBits_whole, State.word] using hw)
  rw [State.resetPart, hw', congrArg State.dev ht, congrArg State.pwr ht]; rfl

theorem State.raise_resetPart (s : State) (src c d : Nat) (h : src < 640) : (s.raise src c d).resetPart = s.resetPart :=
  State.resetPart_of_ev (raise_only s src c d h)

/-! Completions -/

@[simp] theorem State.cplPut_resetPart (s : State) (c : Completion) : (s.cplPut c).resetPart = s.resetPart := by
  have ht : s.get GLB_CPL_PTR.TAIL < 64 := State.get_lt s GLB_CPL_PTR.TAIL
  rw [State.cplPut]
  refine (State.raise_resetPart _ 512 0 0 (by decide)).trans ((State.put_resetPart _ _ _ (by decide)).trans
    ((State.put_resetPart _ _ _ (by decide)).trans (State.each_kept State.resetPart (fun x p hp => ?_) s)))
  have hp : p.2 < 4 := by simpa using List.snd_lt_of_mem_zipIdx hp
  exact State.put_resetPart _ _ _ (by simp only [GLB_CPL_ENT.WORD, GLB_CPL_ENT.addr, PWR_RST_CAUSE.addr]; omega)

@[simp] theorem State.complete_resetPart (s : State) (c : RunCmd) (st d : Nat) : (s.complete c st d).resetPart = s.resetPart :=
  State.resetPart_ite (State.resetPart_ite rfl (State.cplPut_resetPart s _)) rfl

@[simp] theorem State.completeAll_resetPart (s : State) (which : RunCmd → Bool) (st d : Nat) :
    (s.completeAll which st d).resetPart = s.resetPart :=
  State.each_kept State.resetPart (fun x c _ => x.complete_resetPart c st d) _

@[simp] theorem State.leftState_resetPart (s : State) : s.leftState.resetPart = s.resetPart := by
  rw [State.leftState, State.completeAll_resetPart, State.completeAll_resetPart]

/-! Shuttle -/

@[simp] theorem State.chanIssue_resetPart (s : State) (c n : Nat) : (s.chanIssue c n).resetPart = s.resetPart := by
  rw [State.chanIssue]
  split
  · rfl
  · split
    · rfl
    · split
      · rfl
      · split <;> rfl

@[simp] theorem State.shuKick_resetPart (s : State) : s.shuKick.resetPart = s.resetPart := by
  rw [State.shuKick]
  split
  · exact State.each_kept State.resetPart (fun x c _ => x.chanIssue_resetPart c 1) s
  · rfl

@[simp] theorem State.forgetDest_resetPart (s : State) (d : List Nat) : (s.forgetDest d).resetPart = s.resetPart := by
  rw [State.forgetDest]
  dsimp only
  split <;> rfl

@[simp] theorem State.lostTransfer_resetPart (s : State) (d : List Nat) :
    ((s.bump PWR_DRAIN_LOST.COUNT).forgetDest d).resetPart = s.resetPart :=
  (State.forgetDest_resetPart _ d).trans (State.put_resetPart s PWR_DRAIN_LOST.COUNT _ (by decide))

@[simp] theorem State.chanDrained_resetPart (s : State) (c : Nat) : (s.chanDrained c).resetPart = s.resetPart := by
  have hp : (s.putB (SHU_CHSTAT.PAUSED c) true).resetPart = s.resetPart :=
    State.put_resetPart s _ _ (by simp only [SHU_CHSTAT.PAUSED, SHU_CHSTAT.addr, PWR_RST_CAUSE.addr]; omega)
  unfold State.chanDrained
  extract_lets x t
  have ht : t.resetPart = s.resetPart := State.resetPart_ite hp rfl
  exact State.resetPart_ite rfl (State.resetPart_ite ht ht)

@[simp] theorem State.cutTransfers_resetPart (s : State) (dom : Nat) : (s.cutTransfers dom).resetPart = s.resetPart :=
  State.each_kept State.resetPart (fun x c _ => by
    dsimp only
    split
    · exact (State.chanDrained_resetPart _ c).trans (x.lostTransfer_resetPart _)
    · rfl) s

@[simp] theorem State.shuDomOff_resetPart (s : State) (dom : Nat) : (s.shuDomOff dom).resetPart = s.resetPart := by
  unfold State.shuDomOff
  refine State.resetPart_ite rfl (State.resetPart_ite ?_ ?_)
  · exact State.each_kept State.resetPart (fun x c _ => x.lostTransfer_resetPart _) s
  · refine Eq.trans ?_ (s.cutTransfers_resetPart dom)
    exact State.each_kept State.resetPart (fun _ _ _ => by rfl) (s.cutTransfers dom)

/-! Domains -/

/-- No switchable domain holds PWR_RST_CAUSE. -/
theorem State.resetDomainRegs_resetPart (s : State) {d : Nat} (h : d < 136) : (s.resetDomainRegs d).resetPart = s.resetPart := by
  have ha : blockDomain PWR_RST_CAUSE.addr = 255 := by decide
  have hk : (blockDomain PWR_RST_CAUSE.addr != d) = true := bne_iff_ne.mpr (by omega)
  have hw := tabGet_filter resetWord s.regs (fun k => blockDomain k != d || k == THM_SHUT_INFO.addr) PWR_RST_CAUSE.addr
  rw [hk, Bool.true_or, if_pos rfl] at hw
  exact congrArg (fun w => (s.dev, s.pwr.resetHigh, w)) hw

@[simp] theorem State.resetDomainHidden_resetPart (s : State) (d : Nat) : (s.resetDomainHidden d).resetPart = s.resetPart := by
  unfold State.resetDomainHidden
  refine State.resetPart_ite rfl (State.resetPart_ite rfl ?_)
  split
  -- in domains 122 and 135 the commands that wait for the plug and for the loader complete
  case h_3 | h_16 => exact State.completeAll_resetPart _ _ _ _
  all_goals rfl

theorem State.resetDomain_resetPart (s : State) {d : Nat} (h : d < 136) : (s.resetDomain d).resetPart = s.resetPart :=
  (State.resetDomainHidden_resetPart _ d).trans (s.resetDomainRegs_resetPart h)

theorem domBit_addr_ne_cause {d : Nat} (h : d < 136) : (domBit d).addr ≠ PWR_RST_CAUSE.addr := by
  simp only [domBit, PWR_DOM_ON.addr, PWR_RST_CAUSE.addr]; omega

theorem State.switchOn_resetPart (s : State) {d : Nat} (h : d < 136) : (s.switchOn d).resetPart = s.resetPart :=
  (State.put_resetPart (s.resetDomain d) (domBit d) _ (domBit_addr_ne_cause h)).trans (s.resetDomain_resetPart h)

theorem State.keepMem_resetPart (s : State) : s.keepMem.resetPart = s.resetPart := State.resetPart_ite rfl rfl

theorem State.domainOff_resetPart (s : State) {d : Nat} (h : d < 136) : (s.domainOff d).resetPart = s.resetPart := by
  unfold State.domainOff
  extract_lets t u v w
  have ht : t.resetPart = s.resetPart := s.shuDomOff_resetPart d
  have hu : u.resetPart = s.resetPart := State.resetPart_ite (t.keepMem_resetPart.trans ht) ht
  have hv : v.resetPart = s.resetPart := (u.resetDomain_resetPart h).trans hu
  have hw : w.resetPart = s.resetPart := (v.put_resetPart (domBit d) _ (domBit_addr_ne_cause h)).trans hv
  exact (State.shuKick_resetPart _).trans hw

theorem lt_of_mem_bitList {n w d : Nat} (h : d ∈ bitList n w) : d < n := List.mem_range.mp (List.mem_filter.mp h).1

theorem State.switchOn_each_resetPart (s : State) (w : Nat) (p : Nat → Bool) :
    (s.each ((bitList 136 w).filter p) State.switchOn).resetPart = s.resetPart :=
  State.each_kept State.resetPart (fun x _ hd => x.switchOn_resetPart (lt_of_mem_bitList (List.mem_filter.mp hd).1)) s

/-! Commands that the change of state undoes (R386) -/

@[simp] theorem State.standbyUndo_resetPart (s : State) : s.standbyUndo.resetPart = s.resetPart :=
  (State.put_resetPart _ PWR_MODE.MODE 0 (by decide)).trans
    ((State.shuKick_resetPart _).trans (s.switchOn_each_resetPart s.pwr.stbyOff _))

@[simp] theorem State.wakeUndo_resetPart (s : State) : s.wakeUndo.resetPart = s.resetPart :=
  (State.put_resetPart _ PWR_MODE.MODE 2 (by decide)).trans (State.each_kept State.resetPart
    (fun x _ hd => x.domainOff_resetPart (lt_of_mem_bitList (List.mem_filter.mp hd).1)) s)

@[simp] theorem State.dropApply_resetPart (s : State) : s.dropApply.resetPart = s.resetPart := by
  rw [State.dropApply]
  split
  · rfl
  · next a _ =>
    exact (State.shuKick_resetPart _).trans ((State.switchOn_each_resetPart _ a.doms _).trans
      (State.put_resetPart _ IMG_STAT.PHASE 0 (by decide)))

@[simp] theorem State.undoWaiting_resetPart (s : State) : s.undoWaiting.resetPart = s.resetPart := by
  rw [State.undoWaiting]
  simp only [apply_ite State.resetPart, State.standbyUndo_resetPart, State.wakeUndo_resetPart, State.dropApply_resetPart, ite_self]

/-- The entry to RESET. -/
theorem State.setDev_reset_resetPart (s : State) (cause : Nat) :
    (s.setDev .reset cause).resetPart = ({ s with dev := .reset } : State).resetPart := by
  unfold State.setDev
  extract_lets old away t u v teach w detail x
  have ht : t.resetPart = ({ s with dev := .reset } : State).resetPart := State.put_resetPart _ _ _ (by decide)
  have hu : u.resetPart = ({ s with dev := .reset } : State).resetPart := (t.put_resetPart _ _ (by decide)).trans ht
  have hv : v.resetPart = ({ s with dev := .reset } : State).resetPart :=
    State.resetPart_ite ((u.put_resetPart _ _ (by decide)).trans hu) hu
  have hw : w.resetPart = ({ s with dev := .reset } : State).resetPart :=
    State.resetPart_ite ((State.put_resetPart _ _ _ (by decide)).trans hv) hv
  exact (State.leftState_resetPart _).trans ((State.undoWaiting_resetPart _).trans hw)

/-! ### The bits of PWR_DOM_ON -/

theorem domBit_apart {d e : Nat} (h : d ≠ e) : FieldsApart (domBit d) (domBit e) := by
  simp only [FieldsApart, domBit, PWR_DOM_ON.addr]; omega

theorem State.flag_domBit_of_putB (s : State) {d e : Nat} (h : d = e ∨ s.flag (domBit e) = true) :
    (s.putB (domBit d) true).flag (domBit e) = true := by
  have hb : (domBit d).hi < 32 ∧ (domBit e).hi < 32 := by simp only [domBit]; omega
  by_cases he : d = e
  · exact he ▸ State.flag_putB_self s (domBit d) true hb.1 rfl
  · exact (State.flag_putB_apart s _ _ true hb.2 (domBit_apart he)).trans (h.resolve_left he)

theorem State.flag_domBit_each_putB {e : Nat} : ∀ (l : List Nat) (s : State), e ∈ l ∨ s.flag (domBit e) = true →
    (s.each l (fun s d => s.putB (domBit d) true)).flag (domBit e) = true
  | [], _, h => h.resolve_left (by simp)
  | d :: r, s, h => by
    refine State.flag_domBit_each_putB r (s.putB (domBit d) true) ?_
    rcases h with h | h
    · rcases List.mem_cons.mp h with h | h
      · exact Or.inr (s.flag_domBit_of_putB (Or.inl h.symm))
      · exact Or.inl h
    · exact Or.inr (s.flag_domBit_of_putB (Or.inr h))

/-- A write of a field outside PWR_DOM_ON leaves every domain's bit. -/
theorem State.flag_domBit_put (s : State) (f : Fld) (v d : Nat) (h : f.addr ≠ (domBit d).addr) :
    (s.put f v).flag (domBit d) = s.flag (domBit d) :=
  State.flag_put_apart s f _ v (by simp only [domBit]; omega) (Or.inl h)

/-! ### The warm reset, in its three parts -/

/-- RESET_N goes low and the device enters RESET. -/
def State.warmEntry (s : State) : State :=
  (({ s with pwr := { s.pwr with resetHigh := false } } : State).setCause (2 ^ 12)).setDev .reset 0

/-- Every switchable domain passes through Off, and the registers of the always-on domain that R75 names are set. -/
def State.warmDomains (s : State) : State :=
  let s := s.each (List.range 136) State.resetDomain
  let s := s.each (List.range 136) (fun s d => s.putB (domBit d) true)
  let s := s.each (List.range 136) (fun s d =>
    s.putB ⟨PWR_DOM_REQD.addr (d / 32), d % 32, d % 32⟩ ([120, 121, 122, 125].contains d))
  ((s.put PWR_MODE.MODE 0).putB PWR_DOM_STAT.BUSY false).put GLB_EPOCH.EPOCH 0

/-- What the part forgets, DRAM among it, and the domains begin to wake. -/
def State.warmLoss (s : State) : State :=
  let (g, s) := s.fresh
  { s with
    acqOpen := false, decided := false, frm := {}, img := {}, mem := {}
    dram := s.dram.forget 0 (2 ^ 40) g
    pwr := { s.pwr with released := false, waking := 2 ^ 136 - 1, barred := 0, req := none, stbyOff := 0, stbyLeft := 0
                        stbyFail := false } }

/-- R75, where the pulse is long enough and the state is one in which RESET_N is heard. -/
theorem State.warmReset_long (s : State) {ns : Nat} (hoff : s.dev ≠ .off) (hlock : s.dev ≠ .lockout) (hp : s.pwr.porstHigh = true)
    (hl : 10000 ≤ ns) : s.warmReset ns = s.warmEntry.warmDomains.warmLoss := by
  have hc : (s.dev == .off || s.dev == .lockout || !s.pwr.porstHigh) = false := by simp [hoff, hlock, hp]
  unfold State.warmReset
  rw [s.takesPulse_long hl]
  refine (if_neg (by decide)).trans ((if_neg (by rw [hc]; decide)).trans ?_)
  unfold State.warmLoss State.warmDomains State.warmEntry
  with_reducible rfl

theorem State.warmEntry_resetPart (s : State) :
    s.warmEntry.resetPart = (.reset, false, BitVec.ofNat 32 ((s.word PWR_RST_CAUSE.addr).toNat ||| 2 ^ 12)) :=
  (State.setDev_reset_resetPart _ 0).trans (congrArg (fun w => (Dev.reset, false, w))
    (State.word_setCause { s with pwr := { s.pwr with resetHigh := false } } (2 ^ 12)))

theorem domReqd_addr_lt {d : Nat} (h : d < 136) : PWR_DOM_REQD.addr (d / 32) < PWR_RST_CAUSE.addr := by
  simp only [PWR_DOM_REQD.addr, PWR_RST_CAUSE.addr]; omega

theorem State.warmDomains_resetPart (s : State) : s.warmDomains.resetPart = s.resetPart := by
  unfold State.warmDomains
  extract_lets t u v
  have ht : t.resetPart = s.resetPart :=
    State.each_kept State.resetPart (fun x _ hd => x.resetDomain_resetPart (List.mem_range.mp hd)) s
  have hu : u.resetPart = t.resetPart :=
    State.each_kept State.resetPart (fun x d hd => x.put_resetPart (domBit d) _ (domBit_addr_ne_cause (List.mem_range.mp hd))) t
  have hv : v.resetPart = u.resetPart :=
    State.each_kept State.resetPart (fun x _ hd => x.put_resetPart _ _ (Nat.ne_of_lt (domReqd_addr_lt (List.mem_range.mp hd)))) u
  calc _ = ((v.put PWR_MODE.MODE 0).putB PWR_DOM_STAT.BUSY false).resetPart := State.put_resetPart _ _ _ (by decide)
    _ = (v.put PWR_MODE.MODE 0).resetPart := State.put_resetPart _ _ _ (by decide)
    _ = v.resetPart := State.put_resetPart _ _ _ (by decide)
    _ = s.resetPart := hv.trans (hu.trans ht)

theorem State.get_epoch_warmDomains (s : State) : s.warmDomains.get GLB_EPOCH.EPOCH = 0 := State.get_put_self _ _ 0 (by decide)

theorem State.flag_domBit_warmDomains (s : State) {d : Nat} (h : d < 136) : s.warmDomains.flag (domBit d) = true := by
  unfold State.warmDomains
  extract_lets t u v
  have hu : u.flag (domBit d) = true := t.flag_domBit_each_putB _ (Or.inl (List.mem_range.mpr h))
  have hv : v.flag (domBit d) = u.flag (domBit d) := State.each_kept (fun x => x.flag (domBit d)) (fun x e _ =>
    x.flag_domBit_put _ _ d (by simp only [domBit, PWR_DOM_REQD.addr, PWR_DOM_ON.addr]; omega)) u
  have hm : PWR_MODE.MODE.addr ≠ (domBit d).addr ∧ PWR_DOM_STAT.BUSY.addr ≠ (domBit d).addr ∧
      GLB_EPOCH.EPOCH.addr ≠ (domBit d).addr := by
    simp only [domBit, PWR_DOM_ON.addr, PWR_MODE.MODE, PWR_MODE.addr, PWR_DOM_STAT.BUSY, PWR_DOM_STAT.addr, GLB_EPOCH.EPOCH,
      GLB_EPOCH.addr]
    omega
  obtain ⟨hmode, hbusy, hepoch⟩ := hm
  rw [State.flag_domBit_put _ _ _ d hepoch, State.putB, State.flag_domBit_put _ _ _ d hbusy, State.flag_domBit_put _ _ _ d hmode,
    hv, hu]

theorem State.warmLoss_resetPart (s : State) : s.warmLoss.resetPart = s.resetPart := rfl

theorem State.warmLoss_get (s : State) (f : Fld) : s.warmLoss.get f = s.get f := rfl

theorem State.warmLoss_flag (s : State) (f : Fld) : s.warmLoss.flag f = s.flag f := rfl

theorem State.warmLoss_released (s : State) : s.warmLoss.pwr.released = false := rfl

theorem State.warmLoss_waking (s : State) : s.warmLoss.pwr.waking = 2 ^ 136 - 1 := rfl

theorem State.warmLoss_dram_read (s : State) {a : Nat} (h : a < 2 ^ 40) :
    s.warmLoss.dram.read a = Config.freeByte s.freeCount a := Mem.read_forget s.dram s.freeCount ⟨Nat.zero_le a, h⟩

theorem bit_of_or_two_pow (w : Nat) {i : Nat} (h : i < 32) : bit (BitVec.ofNat 32 (w ||| 2 ^ i)).toNat i = true := by
  rw [bit_eq_testBit, BitVec.toNat_ofNat, Nat.testBit_mod_two_pow, Nat.testBit_or, Nat.testBit_two_pow_self]
  simp [h]

/-! ### The cases of the balls and the brownout -/

/-- PORST_N, where it is heard (R71, R73). -/
theorem State.porstPulse_long (s : State) {ns : Nat} (src : Nat) (hoff : s.dev ≠ .off) (hlock : s.dev ≠ .lockout)
    (hp : s.pwr.porstHigh = true) (hl : 10000 ≤ ns) : s.porstPulse ns src = (s.cold.setCause (2 ^ 11)).porstRise src := by
  simp [State.porstPulse, s.takesPulse_long hl, hoff, hlock, hp]

theorem State.porstPulse_lockout (s : State) (ns src : Nat) (h : s.dev = .lockout) : s.porstPulse ns src = s := by
  simp [State.porstPulse, h]

/-- In LOCKOUT RESET_N does no more than follow its ball (R557). -/
theorem State.warmReset_lockout_eq (s : State) (ns : Nat) (h : s.dev = .lockout) :
    ∃ n b, s.warmReset ns = { s with freeCount := n, pwr := { s.pwr with resetHigh := b } } := by
  obtain ⟨n, hn⟩ := s.takesPulse_snd ns
  unfold State.warmReset
  revert hn
  generalize s.takesPulse ns = p
  obtain ⟨taken, u⟩ := p
  rintro rfl
  cases taken
  · exact ⟨n, s.pwr.resetHigh, if_pos rfl⟩
  · refine ⟨n, false, (if_neg (by decide)).trans (if_pos ?_)⟩
    simp [h]

theorem State.warmReset_lockout (s : State) (ns : Nat) (h : s.dev = .lockout) :
    (s.warmReset ns).dev = .lockout ∧ (s.warmReset ns).regs = s.regs ∧ SameMemory s (s.warmReset ns) := by
  obtain ⟨n, b, hw⟩ := s.warmReset_lockout_eq ns h
  rw [hw]
  exact ⟨h, rfl, fun _ => rfl, fun _ => rfl⟩

theorem State.brownout_short (s : State) (rail : Nat) {ns : Nat} (h : ns < 1000) : s.brownout rail ns = s := by
  simp [State.brownout, h]

/-- A rail is lost outside OFF (R74): a cold reset to OFF, in which LOCKOUT is remembered where VDD_AON stays good. -/
theorem State.brownout_long (s : State) {rail ns : Nat} (hn : 1000 ≤ ns) (hr : bit s.pwr.rails rail = true) (hoff : s.dev ≠ .off) :
    s.brownout rail ns =
      (let u := (({ s with pwr := { s.pwr with rails := setBit s.pwr.rails rail false }, thm := { s.thm with shut := false } } :
        State).cold).setCause (railCause rail)
      { u with dev := .off, pwr := { u.pwr with fromLockout := s.dev == .lockout && rail != 9, released := false } }) := by
  have hc : (decide (ns < 1000) || !bit s.pwr.rails rail) = false := by simp [hr]; omega
  have hd : (s.dev == .off) = false := by simpa using hoff
  unfold State.brownout
  rw [if_neg (by simp [hc])]
  by_cases h9 : rail = 9 <;> simp [h9, hd]

/-- Settles O13: PORST_N and a brownout are cold resets, and RESET_N is the warm reset in its three parts. -/
theorem resetBallsAndBrownout : Obligations.ResetBallsAndBrownout := by
  refine ⟨?porst, ?warm, ?brownout, ?dip, ?lockout⟩
  case porst =>
    intro dt lowNs src s hoff hlock hp hl
    refine ⟨_, congrArg Host.Outcome.next ((s.advance dt).porstPulse_long src.val hoff hlock hp hl), rfl, rfl, rfl, rfl, rfl, ?_,
      fun a hc ht => ?_, fun a ha => (s.advance dt).cold_dram_read ha, fun _ => rfl⟩
    · exact ((s.advance dt).cold.word_setCause (2 ^ 11)).trans (by rw [State.word_cold_cause]; rfl)
    · exact ((s.advance dt).cold.word_setCause_other (2 ^ 11) hc).trans (by rw [State.word_cold, if_neg (by simp [hc, ht])])
  case warm =>
    intro dt lowNs s hoff hlock hp hl
    have hr := (State.warmLoss_resetPart _).trans
      ((s.advance dt).warmEntry.warmDomains_resetPart.trans (s.advance dt).warmEntry_resetPart)
    obtain ⟨hdev, hpart⟩ := Prod.mk.inj hr
    obtain ⟨hreset, hword⟩ := Prod.mk.inj hpart
    refine ⟨_, congrArg Host.Outcome.next ((s.advance dt).warmReset_long hoff hlock hp hl), hdev, hreset,
      State.warmLoss_released _, State.warmLoss_waking _, (State.warmLoss_get _ _).trans (State.get_epoch_warmDomains _), ?_,
      fun d hd => (State.warmLoss_flag _ _).trans (State.flag_domBit_warmDomains _ hd), _,
      fun a ha => State.warmLoss_dram_read _ ha⟩
    rw [hword]
    exact bit_of_or_two_pow _ (i := 12) (by decide)
  case brownout =>
    intro dt ns rail s hn hr hoff
    refine ⟨_, congrArg Host.Outcome.next ((s.advance dt).brownout_long hn hr hoff), rfl, rfl, rfl, ?_, fun a hc => ?_,
      fun a ha => State.cold_dram_read _ ha⟩
    · exact (State.word_setCause _ _).trans (by rw [State.word_cold_cause]; rfl)
    · exact (State.word_setCause_other _ _ hc).trans (by rw [State.word_cold, if_neg (by simp [hc])])
  case dip =>
    intro dt ns rail s h
    exact congrArg Host.Outcome.next ((s.advance dt).brownout_short rail.val h)
  case lockout =>
    intro dt lowNs src s h
    exact ⟨congrArg Host.Outcome.next ((s.advance dt).porstPulse_lockout lowNs src.val h), _, rfl,
      (s.advance dt).warmReset_lockout lowNs h⟩

end Sys2Proof.Machine
end
